-- ==== Sys2Proof/Word.lean ====
section
/-! DEFINITION. The word types of the device and the bounded numbers that name its parts. -/

namespace Sys2Proof

/-- A byte of memory, of a buffer or of a message. -/
abbrev Byte := BitVec 8

/-- Host ports: 0 HPA, 1 HPB. -/
abbrev PortId := Fin 2
/-- Heads H0 to H7. -/
abbrev HeadId := Fin 8
/-- Drawers D00 to D63 (R18: D00 to D31 are VF1 to VF32 of HPA, D32 to D63 those of HPB). -/
abbrev DrawerId := Fin 64
/-- A VF of a host port, counted from 0 (VF1 is 0). -/
abbrev VfId := Fin 32
/-- Submission queues of a Drawer. -/
abbrev QueueId := Fin 16
/-- MSI-X vectors of a VF. -/
abbrev VecId := Fin 16
/-- Bench groups BG0 to BG3. -/
abbrev GroupId := Fin 4
/-- GPU contexts: 0 to 63 the Drawers, 64 CX-COMP, 65 CX-SAFE (R290). -/
abbrev CtxId := Fin 66
/-- PlynLink ports P0 to P3. -/
abbrev PlkPort := Fin 4
/-- DRAM channels. -/
abbrev ChanId := Fin 16
/-- Touch panels. -/
abbrev PanelId := Fin 8
/-- Haptic channels. -/
abbrev HapId := Fin 8
/-- Main ICU sources. -/
abbrev SrcId := Fin 512
/-- Main ICU contexts of R585: 0 to 3 Open CC0 to CC3, 4 to 7 Cabinet CC0 to CC3, 8 RTA, 9 RTB. -/
abbrev IcuCtx := Fin 10
/-- Main ICU targets: CC0 to CC3, RTA, RTB. -/
abbrev Target := Fin 6
/-- Error domains with a register in FAB_ERR_Q. -/
abbrev DomainId := Fin 64

end Sys2Proof
end

