-- ==== Sys2Proof/Machine/DisplayTypes.lean ====
section
/-! DEFINITION. The records of layers, heads, the Witness, the display links, the Shelf, the telltales and the GPU that are not
register fields (chapters 3, 7 to 12). -/

namespace Sys2Proof.Machine

/-- A layer descriptor (Table 9.2); `resv` is the sum of its reserved bytes. -/
structure Desc where
  addr : Nat := 0
  pitch : Nat := 0
  format : Nat := 0
  flags : Nat := 0
  transform : Nat := 0
  csc : Nat := 0
  srcX : Nat := 0
  srcY : Nat := 0
  srcW : Nat := 0
  srcH : Nat := 0
  dstX : Nat := 0
  dstY : Nat := 0
  dstW : Nat := 0
  dstH : Nat := 0
  ga : Nat := 0
  fenceTl : Nat := 0
  fenceVal : Nat := 0
  resv : Nat := 0
  deriving DecidableEq, Repr, Inhabited

/-- A pending flip (R341 to R346): descriptor, the address its heap starts at, commit sequence number, module timeline of its
fence or the CX-COMP command it waits on, its group, when it was committed and whether it is late, what the fence sample read,
and the decision of a cross-head group. -/
structure Flip where
  desc : Desc := {}
  base : Nat := 0
  seq : Nat := 0
  tl : Option Nat := none
  cx : Option Nat := none
  gid : Nat := 0
  since : Nat := 0
  late : Bool := false
  ready : Option Bool := none
  cross : Bool := false
  decided : Option Nat := none
  deriving DecidableEq, Repr, Inhabited

/-- A head layer beside its binding registers: active descriptor, producer timeline, pending flip, last destination
rectangle, placeholder asset shown, and what the next latch point does to it (R326, R346, R347, R198). -/
structure Layer where
  active : Option Desc := none
  base : Nat := 0
  producer : Option Nat := none
  pend : Option Flip := none
  lastDst : Option (Nat × Nat × Nat × Nat) := none
  place : Option Nat := none
  switchOff : Bool := false
  placeNext : Option Nat := none
  cancelled : Bool := false
  deriving DecidableEq, Repr, Inhabited

/-- A head entry of HEADS (Table 3.5) for what is not loaded into registers. -/
structure HeadEntry where
  enable : Bool := false
  deskD : Bool := false
  reference : Bool := false
  panelDelayMs : Nat := 0
  blDelayMs : Nat := 0
  bgColour : Nat := 0
  bgAsset : Option Nat := none
  fallbackAsset : Option Nat := none
  layout : Option Nat := none
  deriving DecidableEq, Repr, Inhabited

/-- A layer as a frame's snapshot holds it (R403). -/
structure SnapLayer where
  l : Nat := 0
  desc : Option Desc := none
  base : Nat := 0
  place : Option Nat := none
  rect : Nat × Nat × Nat × Nat := (0, 0, 0, 0)
  general : Bool := false
  deriving DecidableEq, Repr, Inhabited

/-- A rectangle with the address of the buffer shown in it: a safety-plane window. -/
structure Window where
  x : Nat := 0
  y : Nat := 0
  w : Nat := 0
  h : Nat := 0
  buf : Nat := 0
  deriving DecidableEq, Repr, Inhabited

/-- Everything a frame depends on, as taken at its latch point (R403), with the glyphs of its lit telltales (asset, X, Y). -/
structure Snap where
  witState : Nat := 0
  layers : List SnapLayer := []
  windows : List Window := []
  bank : List (Nat × Nat) := []
  mtxEn : Bool := false
  lutEn : Bool := false
  dither : Bool := true
  bpc : Nat := 8
  blank : Bool := false
  frame : Nat := 0
  bgColour : Nat := 0
  bgAsset : Option Nat := none
  fallbackAsset : Option Nat := none
  clips : List (Nat × Nat × Nat × Nat) := []
  underruns : List (Nat × Nat × Nat) := []
  noGeneral : Bool := false
  glyphs : List (Nat × Nat × Nat) := []
  deriving DecidableEq, Repr, Inhabited

/-- Outcome fields of a latch point (Table 9.6), one mask each. -/
structure Outcomes where
  flipped : Nat := 0
  held : Nat := 0
  late : Nat := 0
  off : Nat := 0
  cancelled : Nat := 0
  sflipped : Nat := 0
  pipeSwap : Bool := false
  deriving DecidableEq, Repr, Inhabited

/-- The frame that a CAPTURE of Drawer `d` takes: the first that starts 20 us after its dispatch (R363). -/
structure Capture where
  d : Nat := 0
  q : Nat := 0
  seq : Nat := 0
  snap : Snap := {}
  deriving DecidableEq, Repr, Inhabited

/-- A head beside its registers (chapters 9 and 10). Times are in ns of `now`. `cxMiss` is a CX command's miss of the cutoff ahead, `cxNow`
that of the current frame (R318, Table 10.3); `captures` are the frames that CAPTURE commands take. -/
structure HeadRt where
  entry : HeadEntry := {}
  latchAt : Nat := 0
  latched : Bool := false
  latchedAt : Nat := 0
  imageStart : Bool := false
  startAt : Nat := 0
  running : Bool := false
  first : Bool := true
  firstAt : Nat := 0
  snap : Snap := {}
  next : Snap := {}
  nextWit : Nat := 0
  out : Outcomes := {}
  outNext : Outcomes := {}
  lateMask : Nat := 0
  underrun : Nat := 0
  teMissNow : Bool := false
  slipNow : Bool := false
  slipLines : Nat := 0
  lockedAtStart : Bool := false
  cxMiss : Bool := false
  cxNow : Bool := false
  captures : List Capture := []
  linesPrev : Nat := 0
  linesNow : Nat := 0
  stopReq : Bool := false
  synthLocked : Bool := false
  lockCount : Nat := 0
  swapAt : Option Nat := none
  sflips : List (Nat × Nat) := []
  sbuf : Nat := 0
  bank : List (Nat × Nat) := []
  teEdges : List Nat := []
  fetchShares : List (Nat × Nat) := []
  dutyNow : Nat := 1000
  deriving DecidableEq, Repr, Inhabited

/-- What a sink answers when it is read: its maximum rate code, MSA_TIMING_PAR_IGNORED, and its EDID (R424, R425). -/
structure Sink where
  maxRate : Nat := 0
  msaIgnored : Bool := false
  edid : List Byte := []
  deriving DecidableEq, Repr, Inhabited

/-- A sideband request in progress (R438). -/
structure SbReq where
  target : Nat := 0
  write : Bool := false
  fast : Bool := false
  len : Nat := 0
  addr : Nat := 0
  data : List Nat := []
  at_ : Nat := 0
  deriving DecidableEq, Repr, Inhabited

/-- A display port and its panel beside their registers (chapter 12): training attempt and rate on trial, whether the
training is a retrain, the sink's maximum and DPCD bits, an unplug not yet followed by a replug, the panel and backlight
sequences, and the sideband request. -/
structure PortRt where
  linkStarted : Bool := false
  waitHpd : Bool := false
  attempts : Nat := 0
  rateTry : Nat := 0
  training : Bool := false
  retrain : Bool := false
  retryWait : Bool := false
  retryFrom : Nat := 0
  irqLater : Option Bool := none
  unplugged : Bool := false
  sinkMax : Nat := 0
  msaIgnore : Bool := false
  resume : Bool := false
  panelOffAt : Nat := 0
  panelOnAt : Nat := 0
  blOffAt : Nat := 0
  panelWant : Bool := false
  blPermitted : Bool := false
  downPending : Bool := false
  downTransmit : Bool := false
  sb : Option SbReq := none
  deriving DecidableEq, Repr, Inhabited

/-- A protected region as it is in force (R399 to R401), its failing frames in a row, and whether it has tripped since the
last latch point. -/
structure Region where
  x : Nat := 0
  y : Nat := 0
  w : Nat := 0
  h : Nat := 0
  en : Bool := false
  action : Nat := 0
  thresh : Nat := 0
  clip : Bool := false
  cls : Nat := 0
  fails : Nat := 0
  tripped : Bool := false
  stagedAt : Option Nat := none
  deriving DecidableEq, Repr, Inhabited

/-- The Witness beside its registers (chapter 11): the regions in force, state per head, PROOF_FAIL since the last latch
point, and the event queue. -/
structure Wit where
  regions : List (Nat × Region) := []
  state : List (Nat × Nat) := []
  proofFail : List Nat := []
  events : List (Nat × Nat) := []
  deriving DecidableEq, Repr, Inhabited

/-- An asset placed in the Shelf (Table 9.8). -/
structure Asset where
  kind : Nat := 0
  format : Nat := 0
  scale : Nat := 0
  w : Nat := 0
  h : Nat := 0
  addr : Nat := 0
  len : Nat := 0
  deriving DecidableEq, Repr, Inhabited

/-- The Shelf's assets and, for each head, its safety-plane windows with their two buffers (R358 to R360). -/
structure Shelf where
  assets : List Asset := []
  windows : List (Nat × List (Window × Nat)) := []
  used : Nat := 0
  deriving DecidableEq, Repr, Inhabited

/-- A telltale entry (Table 3.8) and what was received for it: the states with the times from which they stand, newest first, the
counter of the last valid frame, and whether it is in timeout state. -/
structure Telltale where
  canId : Nat := 0
  bitPos : Nat := 0
  twoBits : Bool := false
  prot : Bool := false
  dflt : Nat := 0
  timeoutState : Nat := 0
  headMask : Nat := 0
  glyph : Nat := 0
  x : Nat := 0
  y : Nat := 0
  history : List (Nat × Nat) := []
  lastCtr : Option Nat := none
  timedOut : Bool := false
  deriving DecidableEq, Repr, Inhabited

/-- TELLTALES (Table 3.7) and what RTA holds of it: the start L of the lamp test, the states latched for each head, and the states
each head shows, the status frames sent and the frames discarded per CAN port. -/
structure Telltales where
  entries : List Telltale := []
  lampOff : Bool := false
  can0En : Bool := false
  can1En : Bool := false
  rates : List Nat := []
  timeoutMs : Nat := 500
  statusId : Nat := 0
  statusPeriodMs : Nat := 0
  sentAt : Option Nat := none
  lampFrom : Option Nat := none
  shown : List (Nat × List Nat) := []
  next : List (Nat × List Nat) := []
  sent : List (Nat × Nat × List Byte) := []
  discarded : List (Nat × Nat) := []
  deriving DecidableEq, Repr, Inhabited

/-- Work that a Bench group holds: GPU context, queue and sequence number of its command, NONPREEMPT. -/
structure Hold where
  ctx : Nat := 0
  q : Nat := 0
  seq : Nat := 0
  np : Bool := false
  deriving DecidableEq, Repr, Inhabited

/-- A Bench group beside BGn_STATUS: what it holds, the context that a preemption is asked for, the Drawer work that resumes on it first
(R307 to R311), and the context that its restore is charged to (R298). -/
structure BenchGrp where
  holds : List Hold := []
  preemptFor : Option Nat := none
  resumeFirst : List Hold := []
  restoreFor : Option Nat := none
  preemptAt : Nat := 0
  deriving DecidableEq, Repr, Inhabited

/-- A released CX-COMP (context 64) or CX-SAFE (65) command with its deadline fields (Table 8.4). -/
structure CxCmd where
  id : Nat := 0
  ctx : Nat := 64
  q : Nat := 0
  seq : Nat := 0
  head : Nat := 0
  need : Nat := 1
  estUs : Nat := 0
  started : Bool := false
  cutoff : Nat := 0
  missed : Bool := false
  deriving DecidableEq, Repr, Inhabited

/-- An internal queue of CX-COMP or CX-SAFE (R228, R290): the completion ring that firmware named (address, records as a power of two),
the next sequence number, records released. -/
structure Iq where
  base : Nat := 0
  log : Nat := 0
  next : Nat := 0
  written : Nat := 0
  deriving DecidableEq, Repr, Inhabited

/-- The GPU front end beside its registers (chapters 7 and 8): Bench groups, CX commands, the ledger's credits and raw shares
of the window, when it was last charged and when the window opened, the context last served in each tier. -/
structure Gpu where
  groups : List (Nat × BenchGrp) := []
  cx : List CxCmd := []
  cxCtr : Nat := 0
  iqs : List (Nat × Iq) := []
  /-- Counts of GFE_PASS_COUNT and GFE_SIG_COUNT for CX-SAFE work, by field number (R289). -/
  cabCounts : List (Nat × Nat) := []
  credits : List (Nat × Nat) := []
  rawShare : List (Nat × Nat) := []
  chargedAt : Nat := 0
  windowAt : Nat := 0
  windowUse : Nat := 0
  capacity : Nat := 0
  lastServed : List (Nat × Nat) := []
  deriving DecidableEq, Repr, Inhabited

/-- A training operation as DMC_TRN_CTRL gives it (Table 14.16). -/
structure TrnCfg where
  ch : Nat := 0
  all : Bool := false
  pattern : Nat := 0
  lenLog2 : Nat := 10
  dir : Nat := 0
  deriving DecidableEq, Repr, Inhabited

/-- The passing window of a bit after a sweep: steps of margin below and above its delay, and the centre. -/
structure Eye where
  below : Nat := 0
  above : Nat := 0
  centre : Nat := 0
  deriving DecidableEq, Repr, Inhabited

/-- A retraining that waits for its grants or is in its pause (R507 to R509). -/
structure Retrain where
  ch : Nat := 0
  dir : Nat := 0
  since : Nat := 0
  granted : Bool := false
  paused : Bool := false
  deriving DecidableEq, Repr, Inhabited

/-- The DRAM controller beside its registers (chapter 14): flawed lines (line address and flipped bit, 0x1FF for a double-bit
error), the open row of each bank and the last direction of each channel, the next refresh pair, the retraining in hand and those
that wait, consecutive skips and next direction per channel, the pattern in each training area, the training operation that runs,
the Vref codes of the devices, the FIFO entries that the paused channel holds, when each channel was last refreshed and its retraining
last fell due, when the last scrub and the last status read were. -/
structure Dmc where
  bad : List (Nat × Nat) := []
  openRows : List (Nat × Nat) := []
  lastWrite : List (Nat × Bool) := []
  refPair : List (Nat × Nat) := []
  retrain : Option Retrain := none
  waiting : List (Nat × Nat) := []
  skips : List (Nat × Nat) := []
  nextDir : List (Nat × Nat) := []
  area : List (Nat × (Nat × Nat)) := []
  op : Option (Nat × TrnCfg) := none
  vrefDev : List (Nat × Nat) := []
  forceFull : Bool := false
  fifo : Nat := 0
  refAt : List (Nat × Nat) := []
  askedAt : List (Nat × Nat) := []
  scrubAt : Nat := 0
  pollAt : Nat := 0
  deriving DecidableEq, Repr, Inhabited

/-- Who commits: a Drawer through DRW_FLIP_GO, or module firmware through the internal interface of the composition engine,
with the descriptors of its slots and the CX-COMP command that they wait on (R343, R353). -/
inductive FlipSource where
  | drawer (d : DrawerId)
  | firmware (descs : List (Nat × List Byte)) (cx : Option Nat)
  deriving DecidableEq, Repr

end Sys2Proof.Machine
end

