-- ==== Sys2Proof/Machine/Maps.lean ====
section
/-! DEFINITION. Sparse tables: a list of (key, value) pairs, keys strictly rising, in which a key that is not listed
holds a stated default. Memory, the register store and the tables of records of the device are all of this form. -/

namespace Sys2Proof.Machine

/-- The value at key `k`, the default `d` where `k` is not listed. -/
def tget {β : Type} (d : β) : List (Nat × β) → Nat → β
  | [], _ => d
  | (j, v) :: m, k => if j = k then v else tget d m k

/-- List `k` with value `v`, in its place. -/
def tinsert {β : Type} : List (Nat × β) → Nat → β → List (Nat × β)
  | [], k, v => [(k, v)]
  | (j, w) :: m, k, v =>
    if k < j then (k, v) :: (j, w) :: m
    else if k = j then (k, v) :: m
    else (j, w) :: tinsert m k v

/-- Take `k` off the list. -/
def terase {β : Type} (m : List (Nat × β)) (k : Nat) : List (Nat × β) :=
  m.filter (fun p => p.1 != k)

/-- Set key `k` to `v`: a value equal to the default is not listed. -/
def tset {β : Type} [DecidableEq β] (d : β) (m : List (Nat × β)) (k : Nat) (v : β) : List (Nat × β) :=
  if v = d then terase m k else tinsert m k v

/-- Change the value at `k`. -/
def tmod {β : Type} [DecidableEq β] (d : β) (m : List (Nat × β)) (k : Nat) (g : β → β) : List (Nat × β) :=
  tset d m k (g (tget d m k))

/-- Keys strictly rising. -/
def tsorted {β : Type} : List (Nat × β) → Bool
  | [] => true
  | (k, _) :: m => m.all (fun p => k < p.1) && tsorted m

/-- The canonical form: keys strictly rising, no listed value equal to the default. -/
def twf {β : Type} [DecidableEq β] (d : β) (m : List (Nat × β)) : Bool :=
  tsorted m && m.all (fun p => decide (p.2 ≠ d))

/-- Bits `lo` to `lo + w - 1` of a number. -/
def bits (x lo w : Nat) : Nat := (x >>> lo) % 2 ^ w

/-- Bit `i` of a number. -/
def bit (x i : Nat) : Bool := bits x i 1 = 1

/-- A Bool as a field value. -/
def b2n (b : Bool) : Nat := if b then 1 else 0

/-- `x` with bit `i` set. -/
def setBit (x i : Nat) : Nat := if bit x i then x else x + 2 ^ i

/-- `x` with bit `i` cleared. -/
def clrBit (x i : Nat) : Nat := if bit x i then x - 2 ^ i else x

/-- `a` without the bits of `b`. -/
def andNot (a b : Nat) : Nat := a ^^^ (a &&& b)

/-- The two's complement number in the low `w` bits of `x`. -/
def sx (x w : Nat) : Int := if x % 2 ^ w < 2 ^ (w - 1) then (x % 2 ^ w : Nat) else ((x % 2 ^ w : Nat) : Int) - 2 ^ w

/-- The low `w` bits of an integer in two's complement. -/
def ux (x : Int) (w : Nat) : Nat := (x % (2 ^ w : Int)).toNat

/-- `x` limited to `lo` to `hi`. -/
def clampI (x lo hi : Int) : Int := if x < lo then lo else if hi < x then hi else x

/-- The number whose little-endian bytes are `bs`. -/
def leNat : List Byte → Nat
  | [] => 0
  | b :: bs => b.toNat + 256 * leNat bs

/-- The `n` little-endian bytes of `x`. -/
def leBytes : Nat → Nat → List Byte
  | 0, _ => []
  | n + 1, x => BitVec.ofNat 8 x :: leBytes n (x / 256)

/-- Field of `n` bytes at offset `off` of a byte record, little-endian; bytes past its end read 0. -/
def fieldLE (bs : List Byte) (off n : Nat) : Nat := leNat ((bs.drop off).take n)

/-- `x` plus one, saturating at `w` bits. -/
def satInc (x w : Nat) : Nat := if x + 1 < 2 ^ w then x + 1 else 2 ^ w - 1

/-- Serial-number order on `w` bits: `a` lies at or before `b`. -/
def serialLe (a b w : Nat) : Bool := (b + 2 ^ w - a % 2 ^ w) % 2 ^ w < 2 ^ (w - 1)

end Sys2Proof.Machine
end

