-- ==== Sys2Proof/Machine/Regs.lean ====
section
/-! DEFINITION. The register map of the device: one `Fld` for every field and one `Reg` for every register of
the register descriptions of chapters 2 to 25 (name, place, access code, reset, audit, reset domain).
Reserved bits have no field: they read 0 and ignore writes (RO 0). -/

namespace Sys2Proof.Machine

/-- Access codes of Table 4.5 (R135). -/
inductive Acc where
  | rw | ro | wo | w1c | w1s | rc | rwl | rwc
  deriving DecidableEq, Repr

/-- Reset values as the register tables write them: a number; `img` (from the configuration image, R9), `hw` (from
the hardware, fuses or MRAM), `rom`, and the resets the tables give by a formula over the register index. -/
inductive Rst where
  | zero | val (n : Nat) | img | hw | rom | lut | mtx | ownFixed | level | bq
  deriving DecidableEq, Repr

/-- Reset domains of register descriptions (R10). -/
inductive Dom where
  | por | mod | isl | drw | prt
  deriving DecidableEq, Repr

/-- One field: the register it belongs to, lowest bit, width, access code, reset, and whether a change of it is audited. -/
structure Fld where
  reg : Nat
  lo : Nat
  width : Nat
  acc : Acc
  rst : Rst
  audited : Bool
  deriving DecidableEq, Repr

/-- One register (or array of registers): its block (Table 4.2; 0 for Drawer pages), device address of element 0,
its dimensions as (count, stride), whether it is 64 bits wide, paired (R139), audited, its reset domain and fields. -/
structure Reg where
  id : Nat
  name : String
  blk : Nat
  addr : Nat
  dims : List (Nat × Nat)
  wide : Bool
  paired : Bool
  audited : Bool
  dom : Dom
  flds : List Fld
  deriving DecidableEq, Repr

namespace F

/-! Chapter 02 -/
def PWR_SUPPLY_VIN : Fld := ⟨0, 0, 12, .ro, .zero, false⟩
def PWR_SUPPLY_PLATE_T : Fld := ⟨0, 12, 8, .ro, .zero, false⟩
def PWR_SUPPLY_THROTTLE : Fld := ⟨0, 20, 3, .ro, .zero, false⟩
def PWR_SUPPLY_HAP_RES : Fld := ⟨0, 23, 1, .ro, .zero, false⟩
def PWR_SUPPLY_VIN_LOW : Fld := ⟨0, 24, 1, .w1c, .zero, false⟩
def PWR_SUPPLY_VIN_HIGH : Fld := ⟨0, 25, 1, .w1c, .zero, false⟩
def PWR_SUPPLY_HOT : Fld := ⟨0, 26, 1, .w1c, .zero, false⟩
def PWR_SUPPLY_LAST_OFF : Fld := ⟨0, 28, 4, .ro, .zero, false⟩
/-! Chapter 03 -/
def CFG_STATUS_STAGE : Fld := ⟨1, 0, 4, .ro, .zero, false⟩
def CFG_STATUS_COPY : Fld := ⟨1, 4, 2, .ro, .zero, false⟩
def CFG_STATUS_COMMITTED : Fld := ⟨1, 6, 1, .ro, .zero, false⟩
def CFG_STATUS_FALLBACK : Fld := ⟨1, 7, 1, .ro, .zero, false⟩
def CFG_STATUS_TRAIN_FULL : Fld := ⟨1, 8, 1, .ro, .zero, false⟩
def CFG_STATUS_EXT_TEST : Fld := ⟨1, 9, 1, .ro, .zero, false⟩
def CFG_STATUS_LAMP_ACTIVE : Fld := ⟨1, 10, 1, .ro, .zero, false⟩
def CFG_STATUS_DESK_D_HEADS : Fld := ⟨1, 12, 8, .ro, .zero, false⟩
def CFG_STATUS_SLOT_ID : Fld := ⟨1, 20, 4, .ro, .zero, false⟩
def CFG_FAIL_A_CAUSE : Fld := ⟨2, 0, 8, .ro, (.val 0xFF), false⟩
def CFG_FAIL_B_CAUSE : Fld := ⟨2, 8, 8, .ro, (.val 0xFF), false⟩
def CFG_FAIL_A_SECTION : Fld := ⟨2, 16, 8, .ro, (.val 0xFF), false⟩
def CFG_FAIL_B_SECTION : Fld := ⟨2, 24, 8, .ro, (.val 0xFF), false⟩
/-! Chapter 05 -/
def HPx_MBX_GO_GO : Fld := ⟨3, 0, 1, .wo, .zero, false⟩
def HPx_MBX_STATUS_BUSY : Fld := ⟨4, 0, 1, .ro, .zero, false⟩
def HPx_MBX_STATUS_DONE : Fld := ⟨4, 1, 1, .w1c, .zero, false⟩
def HPx_MBX_STATUS_COLLIDE : Fld := ⟨4, 2, 1, .w1c, .zero, false⟩
def HPx_MBX_STATUS_EVENT : Fld := ⟨4, 3, 1, .w1c, .zero, false⟩
def HPx_MBX_STATUS_EVT_COUNT : Fld := ⟨4, 16, 16, .ro, .zero, false⟩
def HPx_AP_BASE_BASE : Fld := ⟨5, 30, 18, .rw, .zero, true⟩
def DRW_INFO_DRAWER : Fld := ⟨6, 0, 6, .ro, .hw, false⟩
def DRW_INFO_CLASS : Fld := ⟨6, 6, 2, .ro, .zero, false⟩
def DRW_INFO_TEMPLATE : Fld := ⟨6, 8, 6, .ro, .zero, false⟩
def DRW_INFO_QUEUES : Fld := ⟨6, 14, 5, .ro, .zero, false⟩
def DRW_INFO_REPLAY : Fld := ⟨6, 19, 1, .ro, .zero, false⟩
def DRW_INFO_NONPREEMPT : Fld := ⟨6, 20, 1, .ro, .zero, false⟩
def DRW_INFO_HEAP_64M : Fld := ⟨6, 21, 11, .ro, .zero, false⟩
def DRW_STATUS_STATE : Fld := ⟨7, 0, 3, .ro, .zero, false⟩
def DRW_STATUS_DIRTY_ON : Fld := ⟨7, 3, 1, .ro, .zero, false⟩
def DRW_STATUS_RESET_SEEN : Fld := ⟨7, 4, 1, .w1c, .zero, false⟩
def DRW_STATUS_RESET_SEQ : Fld := ⟨7, 16, 16, .ro, .zero, false⟩
def DRW_GERR_CODE : Fld := ⟨8, 0, 8, .ro, .zero, false⟩
def DRW_GERR_QUEUE : Fld := ⟨8, 8, 4, .ro, .zero, false⟩
def DRW_GERR_COUNT : Fld := ⟨8, 12, 16, .rc, .zero, false⟩
def DRW_EVT_VECTOR : Fld := ⟨9, 0, 4, .rw, .zero, false⟩
def DRW_EVT_EN : Fld := ⟨9, 4, 1, .rw, .zero, false⟩
def DRW_Q_RING_SIZE_LOG2 : Fld := ⟨10, 0, 5, .rw, .zero, false⟩
def DRW_Q_RING_BASE : Fld := ⟨10, 6, 58, .rw, .zero, false⟩
def DRW_Q_CTRL_ENABLE : Fld := ⟨11, 0, 1, .rw, .zero, false⟩
def DRW_Q_CTRL_ENGINE : Fld := ⟨11, 1, 2, .rw, .zero, false⟩
def DRW_Q_CTRL_VECTOR : Fld := ⟨11, 3, 4, .rw, .zero, false⟩
def DRW_Q_CTRL_CLOSING : Fld := ⟨11, 7, 1, .ro, .zero, false⟩
def DRW_Q_POS_HEAD : Fld := ⟨12, 0, 32, .ro, .zero, false⟩
def DRW_Q_POS_TAIL : Fld := ⟨12, 32, 32, .ro, .zero, false⟩
def DRW_MOD_TIME_US : Fld := ⟨13, 0, 10, .rw, .zero, false⟩
def DRW_MOD_COUNT : Fld := ⟨13, 10, 8, .rw, .zero, false⟩
/-! Chapter 06 -/
def DRW_TL_VAL_VALUE : Fld := ⟨14, 0, 64, .ro, .zero, false⟩
def DRW_TL_INFO_ID : Fld := ⟨15, 0, 12, .ro, .zero, false⟩
def DRW_TL_INFO_ABANDONED : Fld := ⟨15, 12, 1, .ro, .zero, false⟩
def DRW_TL_INFO_GRANTED : Fld := ⟨15, 13, 1, .ro, .zero, false⟩
def DRW_Q_CPL_SIZE_LOG2 : Fld := ⟨16, 0, 5, .rw, .zero, false⟩
def DRW_Q_CPL_BASE : Fld := ⟨16, 6, 58, .rw, .zero, false⟩
def DRW_Q_CPOS_WRITTEN : Fld := ⟨17, 0, 32, .ro, .zero, false⟩
def DRW_Q_CPOS_CONSUMED : Fld := ⟨17, 32, 32, .ro, .zero, false⟩
def JNL_STATUS_USED : Fld := ⟨18, 0, 18, .ro, .zero, false⟩
def JNL_STATUS_USED_HWM : Fld := ⟨18, 18, 18, .rc, .zero, false⟩
def JNL_STATUS_CC_OCC : Fld := ⟨18, 36, 13, .ro, .zero, false⟩
def JNL_STATUS_CC_HWM : Fld := ⟨18, 49, 13, .rc, .zero, false⟩
def JNL_STATUS_FETCH_STALL : Fld := ⟨18, 62, 1, .ro, .zero, false⟩
def JNL_RESERVE_PER_CTX : Fld := ⟨19, 0, 16, .rwl, .img, true⟩
def JNL_COUNT_REPLAYS : Fld := ⟨20, 0, 16, .rc, .zero, false⟩
def JNL_COUNT_LIMIT : Fld := ⟨20, 16, 16, .rc, .zero, false⟩
def JNL_COUNT_WB_RETRY : Fld := ⟨20, 32, 16, .rc, .zero, false⟩
def JNL_COUNT_CC_STALL : Fld := ⟨20, 48, 16, .rc, .zero, false⟩
/-! Chapter 07 -/
def GFE_PASS_CFG_MIN_TILED_TILES : Fld := ⟨21, 0, 16, .rwl, .img, true⟩
def GFE_PASS_CFG_BIN_EST : Fld := ⟨21, 16, 8, .rwl, .img, true⟩
def GFE_PASS_CFG_FORCE : Fld := ⟨21, 24, 2, .rwl, .img, true⟩
def GFE_BG_SERVICE_IN_SERVICE : Fld := ⟨22, 0, 4, .ro, .zero, false⟩
def GFE_BG_SERVICE_TESTING : Fld := ⟨22, 4, 4, .ro, .zero, false⟩
def GFE_BG_SERVICE_RETIRED : Fld := ⟨22, 8, 4, .ro, .zero, false⟩
def GFE_PASS_COUNT_TILED : Fld := ⟨23, 0, 16, .rc, .zero, false⟩
def GFE_PASS_COUNT_IMMEDIATE : Fld := ⟨23, 16, 16, .rc, .zero, false⟩
def GFE_PASS_COUNT_FLUSHES : Fld := ⟨23, 32, 16, .rc, .zero, false⟩
def GFE_PASS_COUNT_FORCED : Fld := ⟨23, 48, 16, .rc, .zero, false⟩
def GFE_SIG_COUNT_SKIPPED : Fld := ⟨24, 0, 32, .rc, .zero, false⟩
def GFE_SIG_COUNT_WRITTEN : Fld := ⟨24, 32, 32, .rc, .zero, false⟩
def BGn_STATUS_STATE : Fld := ⟨25, 0, 2, .ro, .zero, false⟩
def BGn_STATUS_RESIDENT : Fld := ⟨25, 2, 7, .ro, .zero, false⟩
def BGn_STATUS_SB_STALL : Fld := ⟨25, 16, 16, .rc, .zero, false⟩
/-! Chapter 08 -/
def GFE_PLAN_SAFE_MIN : Fld := ⟨26, 0, 10, .rwl, .img, true⟩
def GFE_PLAN_COMP_MIN : Fld := ⟨26, 10, 10, .rwl, .img, true⟩
def GFE_PLAN_ASSURED_MIN : Fld := ⟨26, 20, 10, .rwl, .img, true⟩
def GFE_WINDOW_REF_HEAD : Fld := ⟨27, 0, 3, .ro, .img, false⟩
def GFE_WINDOW_FREE_RUN : Fld := ⟨27, 3, 1, .ro, .zero, false⟩
def GFE_WINDOW_GROUPS : Fld := ⟨27, 4, 4, .ro, .zero, false⟩
def GFE_WINDOW_NOMINAL : Fld := ⟨27, 8, 24, .ro, .img, false⟩
def GFE_WINDOW_NUMBER : Fld := ⟨27, 32, 32, .ro, .zero, false⟩
def GFE_DL_CFG_GUARD_US : Fld := ⟨28, 0, 10, .rw, .img, true⟩
def GFE_DL_CFG_NP_MASK : Fld := ⟨28, 10, 4, .rwl, .img, true⟩
def GFE_DL_CFG_NP_LIMIT_US : Fld := ⟨28, 14, 10, .rwl, .img, true⟩
def GFE_DL_STATUS_PREEMPTS : Fld := ⟨29, 0, 16, .rc, .zero, false⟩
def GFE_DL_STATUS_DISCARDED : Fld := ⟨29, 16, 16, .rc, .zero, false⟩
def GFE_DL_STATUS_MISS_HEADS : Fld := ⟨29, 32, 8, .w1c, .zero, false⟩
def GFE_DL_STATUS_ESCALATIONS : Fld := ⟨29, 40, 7, .rc, .zero, false⟩
def GFE_DL_STATUS_ASSURED_SHORT : Fld := ⟨29, 47, 1, .w1c, .zero, false⟩
def GFE_DL_STATUS_MISSES : Fld := ⟨29, 48, 16, .rc, .zero, false⟩
def GFE_CTX_SHARE_SHARE : Fld := ⟨30, 0, 10, .rw, .zero, true⟩
def GFE_CTX_SHARE_CAP : Fld := ⟨30, 10, 10, .ro, .zero, true⟩
def GFE_CTX_SHARE_ACTIVE : Fld := ⟨30, 20, 10, .ro, .zero, true⟩
def GFE_CTX_SHARE_PENDING : Fld := ⟨30, 30, 1, .ro, .zero, true⟩
def GFE_CTX_LEDGER_USED : Fld := ⟨31, 0, 32, .ro, .zero, false⟩
def GFE_CTX_LEDGER_LAST : Fld := ⟨31, 32, 32, .ro, .zero, false⟩
def GFE_CTX_STATUS_STATE : Fld := ⟨32, 0, 3, .ro, .zero, false⟩
def GFE_CTX_STATUS_NP : Fld := ⟨32, 3, 1, .ro, .zero, false⟩
def GFE_CTX_STATUS_GROUPS : Fld := ⟨32, 4, 4, .ro, .zero, false⟩
def GFE_CTX_STATUS_TIMEOUTS : Fld := ⟨32, 8, 8, .rc, .zero, false⟩
def GFE_CTX_STATUS_PREEMPTED : Fld := ⟨32, 16, 16, .rc, .zero, false⟩
def GFE_CTX_LIMIT_RUN_LIMIT_MS : Fld := ⟨33, 0, 16, .rw, .img, true⟩
/-! Chapter 09 -/
def HDn_LOWN_OWNER : Fld := ⟨34, 0, 7, .rw, (.val 0x7F), true⟩
def HDn_LOWN_SLOT : Fld := ⟨34, 7, 6, .rw, .zero, true⟩
def CMP_SCL_COEF_COEF : Fld := ⟨35, 0, 10, .ro, .rom, false⟩
def HDn_PIPE_MTX_EN : Fld := ⟨36, 0, 1, .rw, .zero, true⟩
def HDn_PIPE_LUT_EN : Fld := ⟨36, 1, 1, .rw, .zero, true⟩
def HDn_PIPE_DITHER_EN : Fld := ⟨36, 2, 1, .rw, (.val 0x1), true⟩
def HDn_PIPE_BANK : Fld := ⟨36, 3, 1, .ro, .zero, true⟩
def HDn_PIPE_SWAP : Fld := ⟨36, 4, 1, .w1s, .zero, true⟩
def HDn_MTX_COEF : Fld := ⟨37, 0, 16, .rw, .mtx, true⟩
def HDn_LUT_VALUE : Fld := ⟨38, 0, 12, .rw, .lut, false⟩
def HDn_SFLIP_WINDOWS : Fld := ⟨39, 0, 16, .rwc, .zero, true⟩
def DRW_LS_DESC_WORD : Fld := ⟨40, 0, 32, .rw, .zero, false⟩
def DRW_LS_CTRL_EVT : Fld := ⟨41, 0, 1, .rw, .zero, false⟩
def DRW_LS_STATUS_APPLIED_SEQ : Fld := ⟨42, 0, 16, .ro, .zero, false⟩
def DRW_LS_STATUS_PENDING_SEQ : Fld := ⟨42, 16, 16, .ro, .zero, false⟩
def DRW_LS_STATUS_PENDING : Fld := ⟨42, 32, 1, .ro, .zero, false⟩
def DRW_LS_STATUS_ON : Fld := ⟨42, 33, 1, .ro, .zero, false⟩
def DRW_LS_STATUS_OWNED : Fld := ⟨42, 34, 1, .ro, .zero, false⟩
def DRW_LS_STATUS_HEAD : Fld := ⟨42, 35, 3, .ro, .zero, false⟩
def DRW_LS_STATUS_LAYER : Fld := ⟨42, 38, 3, .ro, .zero, false⟩
def DRW_LS_STATUS_LAST_OUTCOME : Fld := ⟨42, 41, 3, .ro, .zero, false⟩
def DRW_LS_STATUS_HELD : Fld := ⟨42, 48, 16, .ro, .zero, false⟩
def DRW_FLIP_SEL_SLOTS : Fld := ⟨43, 0, 64, .rw, .zero, false⟩
def DRW_FLIP_GO_GO : Fld := ⟨44, 0, 1, .wo, .zero, false⟩
def DRW_FLIP_GO_GROUP : Fld := ⟨44, 1, 1, .wo, .zero, false⟩
def DRW_FLIP_STATUS_SEQ : Fld := ⟨45, 0, 16, .ro, .zero, false⟩
def DRW_FLIP_STATUS_RESULT : Fld := ⟨45, 16, 3, .ro, .zero, false⟩
def DRW_FLIP_STATUS_SLOT : Fld := ⟨45, 19, 6, .ro, .zero, false⟩
/-! Chapter 10 -/
def HDn_CTRL_RUN : Fld := ⟨46, 0, 1, .rw, .img, true⟩
def HDn_CTRL_MODE : Fld := ⟨46, 1, 3, .rw, .img, true⟩
def HDn_CTRL_DIV : Fld := ⟨46, 4, 2, .rw, .img, true⟩
def HDn_CTRL_BLANK : Fld := ⟨46, 6, 1, .rwc, .zero, true⟩
def HDn_CTRL_PREFETCH_LINES : Fld := ⟨46, 8, 6, .rw, (.val 8), true⟩
def HDn_STATUS_STATE : Fld := ⟨47, 0, 3, .ro, .zero, false⟩
def HDn_STATUS_LOCKED : Fld := ⟨47, 3, 1, .ro, .zero, false⟩
def HDn_STATUS_HOLDOVER : Fld := ⟨47, 4, 1, .ro, .zero, false⟩
def HDn_STATUS_FALLBACK : Fld := ⟨47, 5, 1, .ro, .zero, false⟩
def HDn_STATUS_SLIP : Fld := ⟨47, 6, 1, .w1c, .zero, false⟩
def HDn_STATUS_TE_MISS : Fld := ⟨47, 7, 1, .w1c, .zero, false⟩
def HDn_STATUS_UNDERRUN : Fld := ⟨47, 8, 1, .w1c, .zero, false⟩
def HDn_STATUS_WRITE_REJ : Fld := ⟨47, 9, 1, .w1c, .zero, false⟩
def HDn_STATUS_LOCK_RANGE : Fld := ⟨47, 10, 1, .ro, .zero, false⟩
def HDn_STATUS_START_ERR : Fld := ⟨47, 12, 4, .ro, .zero, false⟩
def HDn_STATUS_LINE : Fld := ⟨47, 16, 13, .ro, .zero, false⟩
def HDn_H_HACTIVE : Fld := ⟨48, 0, 16, .rw, .img, true⟩
def HDn_H_HTOTAL : Fld := ⟨48, 16, 16, .rw, .img, true⟩
def HDn_H_HFP : Fld := ⟨48, 32, 16, .rw, .img, true⟩
def HDn_H_HSYNC : Fld := ⟨48, 48, 16, .rw, .img, true⟩
def HDn_V_VACTIVE : Fld := ⟨49, 0, 16, .rw, .img, true⟩
def HDn_V_VTOTAL : Fld := ⟨49, 16, 16, .rw, .img, true⟩
def HDn_V_VFP : Fld := ⟨49, 32, 16, .rw, .img, true⟩
def HDn_V_VSYNC : Fld := ⟨49, 48, 16, .rw, .img, true⟩
def HDn_PCLK_KHZ : Fld := ⟨50, 0, 22, .rw, .img, true⟩
def HDn_PCLK_HSYNC_POS : Fld := ⟨50, 22, 1, .rw, .img, true⟩
def HDn_PCLK_VSYNC_POS : Fld := ⟨50, 23, 1, .rw, .img, true⟩
def HDn_PCLK_BPC : Fld := ⟨50, 24, 2, .rw, .img, true⟩
def HDn_TRIM_TRIM : Fld := ⟨51, 0, 18, .ro, .zero, false⟩
def HDn_TRIM_PHASE_ERR : Fld := ⟨51, 18, 14, .ro, .zero, false⟩
def HDn_AS_VTOTAL_MIN : Fld := ⟨52, 0, 16, .ro, .img, true⟩
def HDn_AS_VTOTAL_MAX : Fld := ⟨52, 16, 16, .rw, .zero, true⟩
def HDn_TE_EDGE : Fld := ⟨53, 0, 1, .rw, .zero, true⟩
def HDn_TE_MISSES : Fld := ⟨53, 8, 8, .rc, .zero, true⟩
def HDn_TE_PERIOD_US : Fld := ⟨53, 16, 16, .ro, .zero, true⟩
def HDn_FETCH_DEMAND : Fld := ⟨54, 0, 16, .ro, .zero, false⟩
def HDn_FETCH_MIN_LEAD_US : Fld := ⟨54, 16, 16, .ro, .zero, false⟩
def HDn_URCNT_COUNT : Fld := ⟨55, 0, 64, .rc, .zero, false⟩
def HDn_FRAME_NUMBER : Fld := ⟨56, 0, 64, .ro, .zero, false⟩
def HDn_FSTART_ST : Fld := ⟨57, 0, 62, .ro, .zero, false⟩
def HDn_FSTART_ST_STATE : Fld := ⟨57, 62, 2, .ro, .zero, false⟩
def HDn_IRQ_EN : Fld := ⟨58, 0, 4, .rw, .zero, false⟩
def HDn_IRQ_PEND : Fld := ⟨58, 16, 4, .w1c, .zero, false⟩
def HDn_FRPT_WORD : Fld := ⟨59, 0, 64, .ro, .zero, false⟩
def CMP_FETCH_CFG_GEN_CAP : Fld := ⟨60, 0, 8, .rwl, .img, true⟩
def CMP_FETCH_CFG_GEN_EFF : Fld := ⟨60, 8, 8, .ro, .img, true⟩
def CMP_FETCH_STATUS_AGG_DEMAND : Fld := ⟨61, 0, 16, .ro, .zero, false⟩
def CMP_FETCH_STATUS_PAUSES : Fld := ⟨61, 16, 16, .rc, .zero, false⟩
def CMP_FETCH_STATUS_PAUSE_WAIT_US : Fld := ⟨61, 32, 16, .rc, .zero, false⟩
/-! Chapter 11 -/
def WIT_HCTRL_FORCE : Fld := ⟨62, 0, 2, .rwc, .zero, true⟩
def WIT_HCTRL_RESTORE : Fld := ⟨62, 2, 1, .rwc, .zero, true⟩
def WIT_HSTATUS_STATE : Fld := ⟨63, 0, 2, .ro, .zero, false⟩
def WIT_HSTATUS_FAIL : Fld := ⟨63, 2, 16, .ro, .zero, false⟩
def WIT_HSTATUS_PROOF_CNT : Fld := ⟨63, 18, 8, .ro, .zero, false⟩
def WIT_HSTATUS_PROOF_FAIL : Fld := ⟨63, 26, 1, .w1c, .zero, false⟩
def WIT_HSTATUS_NO_REF : Fld := ⟨63, 27, 1, .w1c, .zero, false⟩
def WIT_HSTATUS_DECODE : Fld := ⟨63, 28, 1, .w1c, .zero, false⟩
def WIT_RGN_X : Fld := ⟨64, 0, 16, .rwc, .img, true⟩
def WIT_RGN_Y : Fld := ⟨64, 16, 16, .rwc, .img, true⟩
def WIT_RGN_W : Fld := ⟨64, 32, 16, .rwc, .img, true⟩
def WIT_RGN_H : Fld := ⟨64, 48, 16, .rwc, .img, true⟩
def WIT_RCFG_EN : Fld := ⟨65, 0, 1, .rwc, .img, true⟩
def WIT_RCFG_ACTION : Fld := ⟨65, 1, 2, .rwc, .img, true⟩
def WIT_RCFG_THRESH : Fld := ⟨65, 3, 2, .rwc, .img, true⟩
def WIT_RCFG_CLIP : Fld := ⟨65, 5, 1, .rwc, .img, true⟩
def WIT_RCFG_CLASS : Fld := ⟨65, 6, 2, .rwc, .img, true⟩
def WIT_RCFG_PENDING : Fld := ⟨65, 8, 1, .ro, .zero, true⟩
def WIT_RCFG_REJ : Fld := ⟨65, 9, 1, .ro, .zero, true⟩
def WIT_SIG_ACTUAL : Fld := ⟨66, 0, 64, .ro, .zero, false⟩
def WIT_EXP_EXPECTED : Fld := ⟨67, 0, 64, .ro, .zero, false⟩
def WIT_EVT_WORD : Fld := ⟨68, 0, 64, .ro, .zero, false⟩
def WIT_EVT_POP_POP : Fld := ⟨69, 0, 1, .wo, .zero, false⟩
def WIT_EVT_STATUS_COUNT : Fld := ⟨70, 0, 7, .ro, .zero, false⟩
def WIT_EVT_STATUS_OVERFLOW : Fld := ⟨70, 7, 1, .w1c, .zero, false⟩
def WIT_EVT_STATUS_LOST : Fld := ⟨70, 8, 16, .rc, .zero, false⟩
def WIT_LOAD_RATE : Fld := ⟨71, 0, 12, .ro, .zero, false⟩
def WIT_LOAD_NO_REF_CNT : Fld := ⟨71, 12, 16, .rc, .zero, false⟩
/-! Chapter 12 -/
def HDn_PORT_CFG_MODE : Fld := ⟨72, 0, 2, .rwl, .img, true⟩
def HDn_PORT_CFG_LANES : Fld := ⟨72, 2, 2, .rw, .img, true⟩
def HDn_PORT_CFG_RATE : Fld := ⟨72, 16, 8, .rw, .img, true⟩
def HDn_PORT_CFG_LANE_REV : Fld := ⟨72, 24, 1, .rwl, .zero, true⟩
def HDn_PORT_CFG_SSC : Fld := ⟨72, 25, 1, .rw, (.val 0x1), true⟩
def HDn_PORT_CFG_DSI_HPD : Fld := ⟨72, 26, 1, .rwl, .zero, true⟩
def HDn_PORT_CFG_EVT_EN : Fld := ⟨72, 27, 1, .rw, .zero, true⟩
def HDn_PORT_STATUS_LINK : Fld := ⟨73, 0, 2, .ro, .zero, false⟩
def HDn_PORT_STATUS_HPD : Fld := ⟨73, 2, 1, .ro, .zero, false⟩
def HDn_PORT_STATUS_CODING : Fld := ⟨73, 3, 1, .ro, .zero, false⟩
def HDn_PORT_STATUS_LANES_ACT : Fld := ⟨73, 4, 3, .ro, .zero, false⟩
def HDn_PORT_STATUS_RATE_ACT : Fld := ⟨73, 8, 8, .ro, .zero, false⟩
def HDn_PORT_STATUS_UNPLUG : Fld := ⟨73, 16, 1, .w1c, .zero, false⟩
def HDn_PORT_STATUS_IRQ_HPD : Fld := ⟨73, 17, 1, .w1c, .zero, false⟩
def HDn_PORT_STATUS_RETRAIN : Fld := ⟨73, 18, 1, .w1c, .zero, false⟩
def HDn_PORT_STATUS_TRAIN_FAIL : Fld := ⟨73, 19, 1, .w1c, .zero, false⟩
def HDn_PORT_STATUS_EDID_BLOCKS : Fld := ⟨73, 20, 3, .ro, .zero, false⟩
def HDn_PORT_STATUS_RETRAINS : Fld := ⟨73, 24, 8, .rc, .zero, false⟩
def HDn_PANEL_PWR : Fld := ⟨74, 0, 1, .rw, .img, true⟩
def HDn_PANEL_BL : Fld := ⟨74, 1, 1, .rw, .img, true⟩
def HDn_PANEL_BL_MODE : Fld := ⟨74, 2, 1, .rwl, .zero, true⟩
def HDn_PANEL_DUTY : Fld := ⟨74, 4, 10, .rw, (.val 0x3E8), true⟩
def HDn_PANEL_PWM_HZ : Fld := ⟨74, 16, 16, .rw, (.val 0x4E20), true⟩
def HDn_PANEL_T_BL_OFF_MS : Fld := ⟨75, 0, 10, .rwl, (.val 0xA), true⟩
def HDn_PANEL_T_OFF_MIN_MS : Fld := ⟨75, 10, 10, .rwl, (.val 0x1F4), true⟩
def HDn_SB_CMD_TARGET : Fld := ⟨76, 0, 2, .wo, .zero, true⟩
def HDn_SB_CMD_WRITE : Fld := ⟨76, 2, 1, .wo, .zero, true⟩
def HDn_SB_CMD_FAST : Fld := ⟨76, 3, 1, .wo, .zero, true⟩
def HDn_SB_CMD_LEN : Fld := ⟨76, 4, 4, .wo, .zero, true⟩
def HDn_SB_CMD_ADDR : Fld := ⟨76, 8, 20, .wo, .zero, true⟩
def HDn_SB_DATA_DATA : Fld := ⟨77, 0, 32, .rw, .zero, false⟩
def HDn_SB_STATUS_BUSY : Fld := ⟨78, 0, 1, .ro, .zero, false⟩
def HDn_SB_STATUS_DONE : Fld := ⟨78, 1, 1, .w1c, .zero, false⟩
def HDn_SB_STATUS_RESULT : Fld := ⟨78, 2, 3, .ro, .zero, false⟩
def HDn_EDID_BYTES : Fld := ⟨79, 0, 32, .ro, .zero, false⟩
/-! Chapter 13 -/
def PLK_ID_MODULE_ID : Fld := ⟨80, 0, 14, .rwl, .img, true⟩
def PLK_ID_TIME_PRIO : Fld := ⟨80, 14, 8, .rwl, .img, true⟩
def PLK_CFG_ORIG_US : Fld := ⟨81, 0, 10, .rwl, .img, true⟩
def PLK_CFG_REQ_TIMEOUT : Fld := ⟨81, 10, 8, .rwl, .img, true⟩
def PLK_CFG_COMMIT_LEAD_US : Fld := ⟨81, 18, 11, .rwl, .img, true⟩
def PLK_CFG_AUDIO_LAT_US : Fld := ⟨81, 32, 12, .rwl, .img, true⟩
def PLK_STATUS_MASTER_ID : Fld := ⟨82, 0, 14, .ro, .zero, false⟩
def PLK_STATUS_MASTER_HOPS : Fld := ⟨82, 14, 6, .ro, (.val 0x3F), false⟩
def PLK_STATUS_TICK_OK : Fld := ⟨82, 20, 1, .ro, .zero, false⟩
def PLK_STATUS_TICK_MISMATCH : Fld := ⟨82, 21, 1, .w1c, .zero, false⟩
def PLK_STATUS_DUP_ID : Fld := ⟨82, 22, 1, .w1c, .zero, false⟩
def PLK_STATUS_REACHABLE : Fld := ⟨82, 24, 15, .ro, .zero, false⟩
def PLK_STATUS_DROPS : Fld := ⟨82, 40, 24, .rc, .zero, false⟩
def PLK_TICK_PERIOD_Q : Fld := ⟨83, 0, 48, .ro, .img, false⟩
def PLK_TICK_NUM_K : Fld := ⟨84, 0, 64, .ro, .zero, false⟩
def PLK_PORT_CTRL_EN : Fld := ⟨85, 0, 1, .rw, .img, true⟩
def PLK_PORT_CTRL_NRZ_ONLY : Fld := ⟨85, 1, 1, .rw, .img, true⟩
def PLK_PORT_CTRL_RETRAIN : Fld := ⟨85, 2, 1, .wo, .zero, true⟩
def PLK_PORT_STATUS_STATE : Fld := ⟨86, 0, 3, .ro, .zero, false⟩
def PLK_PORT_STATUS_PAM4 : Fld := ⟨86, 3, 1, .ro, .zero, false⟩
def PLK_PORT_STATUS_PEER_ID : Fld := ⟨86, 4, 14, .ro, .zero, false⟩
def PLK_PORT_STATUS_PEER_PORT : Fld := ⟨86, 18, 2, .ro, .zero, false⟩
def PLK_PORT_STATUS_DELAY_NS : Fld := ⟨86, 32, 16, .ro, .zero, false⟩
def PLK_PORT_CNT_CW_CORR : Fld := ⟨87, 0, 16, .rc, .zero, false⟩
def PLK_PORT_CNT_CW_UNCORR : Fld := ⟨87, 16, 16, .rc, .zero, false⟩
def PLK_PORT_CNT_REPLAYS : Fld := ⟨87, 32, 16, .rc, .zero, false⟩
def PLK_PORT_CNT_LINK_DOWNS : Fld := ⟨87, 48, 8, .rc, .zero, false⟩
def PLK_PORT_CNT_FALLBACKS : Fld := ⟨87, 56, 8, .rc, .zero, false⟩
def PLK_ROUTE_SEL_ID : Fld := ⟨88, 0, 14, .rw, .zero, false⟩
def PLK_ROUTE_PORT : Fld := ⟨89, 0, 2, .ro, .zero, false⟩
def PLK_ROUTE_VALID : Fld := ⟨89, 2, 1, .ro, .zero, false⟩
def PLK_ROUTE_HOPS : Fld := ⟨89, 3, 6, .ro, (.val 0x3F), false⟩
def PLK_ROUTE_SEQ : Fld := ⟨89, 9, 16, .ro, .zero, false⟩
def PLK_WIN_BASE_BASE : Fld := ⟨90, 16, 32, .rwc, .img, true⟩
def PLK_WIN_CTRL_SIZE_M1 : Fld := ⟨91, 0, 20, .rwc, .img, true⟩
def PLK_WIN_CTRL_PEER : Fld := ⟨91, 20, 14, .rwc, .img, true⟩
def PLK_WIN_CTRL_ANY_PEER : Fld := ⟨91, 34, 1, .rwc, .img, true⟩
def PLK_WIN_CTRL_READ : Fld := ⟨91, 35, 1, .rwc, .img, true⟩
def PLK_WIN_CTRL_WRITE : Fld := ⟨91, 36, 1, .rwc, .img, true⟩
def PLK_WIN_CTRL_EN : Fld := ⟨91, 37, 1, .rwc, .img, true⟩
def PLK_WIN_CTRL_SESSIONS : Fld := ⟨91, 38, 8, .ro, .zero, true⟩
def PLK_AP_CTRL_PEER : Fld := ⟨92, 0, 14, .rwc, .img, true⟩
def PLK_AP_CTRL_WIN : Fld := ⟨92, 14, 5, .rwc, .img, true⟩
def PLK_AP_CTRL_READ : Fld := ⟨92, 19, 1, .rwc, .img, true⟩
def PLK_AP_CTRL_WRITE : Fld := ⟨92, 20, 1, .rwc, .img, true⟩
def PLK_AP_CTRL_EN : Fld := ⟨92, 21, 1, .rwc, .img, true⟩
def PLK_AP_CTRL_FW : Fld := ⟨92, 22, 1, .rwc, .img, true⟩
def PLK_AP_CTRL_STATE : Fld := ⟨92, 23, 3, .ro, .zero, true⟩
def PLK_AP_CTRL_SIZE_M1 : Fld := ⟨92, 26, 20, .ro, .zero, true⟩
def PLK_AP_DRW_DRAWERS : Fld := ⟨93, 0, 64, .rwc, .img, true⟩
def PLK_EXP_WORD : Fld := ⟨94, 0, 64, .rwc, .img, true⟩
def PLK_EXP_STATUS_SUBS : Fld := ⟨95, 0, 4, .ro, .zero, false⟩
def PLK_EXP_STATUS_REFUSED : Fld := ⟨95, 4, 12, .rc, .zero, false⟩
def PLK_EXP_STATUS_COALESCED : Fld := ⟨95, 16, 16, .rc, .zero, false⟩
def PLK_EXP_STATUS_TILES : Fld := ⟨95, 32, 32, .rc, .zero, false⟩
def PLK_IMP_WORD : Fld := ⟨96, 0, 64, .rwc, .img, true⟩
def PLK_IMP_STATUS_STATE : Fld := ⟨97, 0, 2, .ro, .zero, false⟩
def PLK_IMP_STATUS_FRONT : Fld := ⟨97, 2, 1, .ro, .zero, false⟩
def PLK_IMP_STATUS_BUSY : Fld := ⟨97, 3, 13, .rc, .zero, false⟩
def PLK_IMP_STATUS_LATE : Fld := ⟨97, 16, 16, .rc, .zero, false⟩
def PLK_IMP_STATUS_GENS : Fld := ⟨97, 32, 32, .rc, .zero, false⟩
/-! Chapter 14 -/
def DMC_INFO_CAP : Fld := ⟨98, 0, 1, .ro, .hw, false⟩
def DMC_INFO_RETIRED : Fld := ⟨98, 16, 16, .ro, .img, false⟩
def DMC_RGN_A_BASE_64M : Fld := ⟨99, 0, 10, .rwl, .img, true⟩
def DMC_RGN_A_SIZE_64M : Fld := ⟨99, 16, 11, .rwl, .img, true⟩
def DMC_RGN_A_CH_OFFSET_MIB : Fld := ⟨99, 32, 12, .rwl, .img, true⟩
def DMC_RGN_A_CHMASK : Fld := ⟨99, 48, 16, .rwl, .img, true⟩
def DMC_RGN_B_GRAIN_LOG2 : Fld := ⟨100, 0, 5, .rwl, .img, true⟩
def DMC_RGN_B_ECC : Fld := ⟨100, 5, 1, .rwl, .img, true⟩
def DMC_RGN_B_CLASS : Fld := ⟨100, 6, 2, .rwl, .img, true⟩
def DMC_RGN_B_EN : Fld := ⟨100, 8, 1, .rwl, .img, true⟩
def DMC_REF_RATE : Fld := ⟨101, 0, 2, .ro, .zero, false⟩
def DMC_REF_HOT_CH : Fld := ⟨101, 2, 4, .ro, .zero, false⟩
def DMC_REF_HOT : Fld := ⟨101, 6, 1, .w1c, .zero, false⟩
def DMC_RT_CTRL_PERIOD_MS : Fld := ⟨102, 0, 12, .rw, .img, true⟩
def DMC_RT_CTRL_EN : Fld := ⟨102, 12, 1, .rw, (.val 0x1), true⟩
def DMC_RT_CTRL_NOW : Fld := ⟨102, 13, 1, .wo, .zero, true⟩
def DMC_RT_CTRL_SWEEP : Fld := ⟨102, 14, 8, .rw, (.val 0x10), true⟩
def DMC_RT_CTRL_MIN_EYE : Fld := ⟨102, 22, 6, .rw, (.val 0x8), true⟩
def DMC_RT_STATUS_LAST_CH : Fld := ⟨103, 0, 4, .ro, .zero, false⟩
def DMC_RT_STATUS_ACTIVE : Fld := ⟨103, 4, 1, .ro, .zero, false⟩
def DMC_RT_STATUS_PAUSES : Fld := ⟨103, 16, 16, .rc, .zero, false⟩
def DMC_RT_STATUS_SKIPS : Fld := ⟨103, 32, 16, .rc, .zero, false⟩
def DMC_RT_STATUS_MAX_PAUSE : Fld := ⟨103, 48, 16, .rc, .zero, false⟩
def DMC_ECC_STATUS_CE : Fld := ⟨104, 0, 32, .rc, .zero, false⟩
def DMC_ECC_STATUS_UE : Fld := ⟨104, 32, 16, .rc, .zero, false⟩
def DMC_ECC_STATUS_UE_CH : Fld := ⟨104, 48, 4, .ro, .zero, false⟩
def DMC_ECC_ADDR_ADDR : Fld := ⟨105, 0, 48, .ro, .zero, false⟩
def DMC_ECC_ADDR_BIT : Fld := ⟨105, 48, 9, .ro, .zero, false⟩
def DMC_SCRUB_EN : Fld := ⟨106, 0, 1, .rw, .img, true⟩
def DMC_SCRUB_SCRUB_US : Fld := ⟨106, 16, 16, .rw, (.val 0x1), true⟩
def DMC_TRN_CTRL_CH : Fld := ⟨107, 0, 4, .rw, .zero, false⟩
def DMC_TRN_CTRL_ALL : Fld := ⟨107, 4, 1, .rw, .zero, false⟩
def DMC_TRN_CTRL_OP : Fld := ⟨107, 5, 3, .rw, .zero, false⟩
def DMC_TRN_CTRL_PATTERN : Fld := ⟨107, 8, 3, .rw, .zero, false⟩
def DMC_TRN_CTRL_LEN_LOG2 : Fld := ⟨107, 11, 5, .rw, (.val 0xA), false⟩
def DMC_TRN_CTRL_DIR : Fld := ⟨107, 16, 1, .rw, .zero, false⟩
def DMC_TRN_CTRL_START : Fld := ⟨107, 30, 1, .wo, .zero, false⟩
def DMC_TRN_CTRL_BUSY : Fld := ⟨107, 31, 1, .ro, .zero, false⟩
def DMC_TRN_PAT_DQ : Fld := ⟨108, 0, 16, .rw, .zero, false⟩
def DMC_TRN_PAT_DMI : Fld := ⟨108, 16, 2, .rw, .zero, false⟩
def DMC_TRN_ERR_COUNT : Fld := ⟨109, 0, 32, .ro, .zero, false⟩
def DMC_DLY_RD : Fld := ⟨110, 0, 10, .rw, .zero, false⟩
def DMC_DLY_WR : Fld := ⟨110, 16, 10, .rw, .zero, false⟩
def DMC_VREF_CTRL : Fld := ⟨111, 0, 7, .rw, (.val 0x40), false⟩
def DMC_VREF_DRAM : Fld := ⟨111, 8, 7, .rw, (.val 0x40), false⟩
def DMC_CH_ACC_ACCESSES : Fld := ⟨112, 0, 48, .rc, .zero, false⟩
def DMC_CH_EVT_MISSES : Fld := ⟨113, 0, 32, .rc, .zero, false⟩
def DMC_CH_EVT_TURNS : Fld := ⟨113, 32, 32, .rc, .zero, false⟩
/-! Chapter 15 -/
def TCH_PNL_CFG_MODE : Fld := ⟨114, 0, 2, .rw, .img, true⟩
def TCH_PNL_CFG_DRIVES : Fld := ⟨114, 2, 6, .rwl, .img, true⟩
def TCH_PNL_CFG_SENSES : Fld := ⟨114, 8, 7, .rwl, .img, true⟩
def TCH_PNL_CFG_RATE_HZ : Fld := ⟨114, 16, 8, .rwl, .img, true⟩
def TCH_PNL_CFG_GATE_US : Fld := ⟨114, 24, 8, .rwl, .img, true⟩
def TCH_PNL_CFG_SELF_GATE_US : Fld := ⟨114, 32, 8, .rwl, .img, true⟩
def TCH_PNL_CFG_WAKE_EN : Fld := ⟨114, 40, 1, .rw, .img, true⟩
def TCH_PNL_CFG_ABSORB : Fld := ⟨114, 41, 1, .rwl, .img, true⟩
def TCH_PNL_CFG_PERSIST_S : Fld := ⟨114, 42, 16, .rwl, .img, true⟩
def TCH_PNL_THR_TOUCH_THR : Fld := ⟨115, 0, 16, .rwl, .img, true⟩
def TCH_PNL_THR_RELEASE_THR : Fld := ⟨115, 16, 16, .rwl, .img, true⟩
def TCH_PNL_THR_HOVER_THR : Fld := ⟨115, 32, 16, .rwl, .img, true⟩
def TCH_PNL_THR_GLOVE_THR : Fld := ⟨115, 48, 16, .rwl, .img, true⟩
def TCH_PNL_MAP_XSCALE : Fld := ⟨116, 0, 16, .rwl, .img, true⟩
def TCH_PNL_MAP_YSCALE : Fld := ⟨116, 16, 16, .rwl, .img, true⟩
def TCH_PNL_MAP_XOFF : Fld := ⟨116, 32, 13, .rwl, .img, true⟩
def TCH_PNL_MAP_YOFF : Fld := ⟨116, 45, 13, .rwl, .img, true⟩
def TCH_PNL_MAP_SWAP : Fld := ⟨116, 58, 1, .rwl, .img, true⟩
def TCH_PNL_MAP_XFLIP : Fld := ⟨116, 59, 1, .rwl, .img, true⟩
def TCH_PNL_MAP_YFLIP : Fld := ⟨116, 60, 1, .rwl, .img, true⟩
def TCH_PNL_TEMP_TEMPCO : Fld := ⟨117, 0, 16, .rwl, .img, true⟩
def TCH_PNL_STATUS_STATE : Fld := ⟨118, 0, 3, .ro, .zero, false⟩
def TCH_PNL_STATUS_TOUCHES : Fld := ⟨118, 3, 5, .ro, .zero, false⟩
def TCH_PNL_STATUS_BASE_FRESH : Fld := ⟨118, 8, 1, .ro, .zero, false⟩
def TCH_PNL_STATUS_ABSENT_EVT : Fld := ⟨118, 9, 1, .w1c, .zero, false⟩
def TCH_PNL_STATUS_SUSPECT_EVT : Fld := ⟨118, 10, 1, .w1c, .zero, false⟩
def TCH_PNL_STATUS_PERSIST_EVT : Fld := ⟨118, 11, 1, .w1c, .zero, false⟩
def TCH_PNL_STATUS_OVERFLOW : Fld := ⟨118, 12, 1, .w1c, .zero, false⟩
def TCH_PNL_STATUS_ABOVE : Fld := ⟨118, 16, 16, .ro, .zero, false⟩
def TCH_PNL_STATUS_SCAN_SEQ : Fld := ⟨118, 32, 32, .ro, .zero, false⟩
def TCH_PNL_CMD_REBASE : Fld := ⟨119, 0, 1, .wo, .zero, true⟩
def TCH_PNL_CMD_EVT_EN : Fld := ⟨119, 1, 1, .rw, .zero, true⟩
def TCH_LINE_RET_RETIRED : Fld := ⟨120, 0, 64, .rw, .img, true⟩
def TCH_RGN_X : Fld := ⟨121, 0, 16, .rwl, .img, true⟩
def TCH_RGN_Y : Fld := ⟨121, 16, 16, .rwl, .img, true⟩
def TCH_RGN_W : Fld := ⟨121, 32, 16, .rwl, .img, true⟩
def TCH_RGN_H : Fld := ⟨121, 48, 16, .rwl, .img, true⟩
def TCH_RCFG_PANEL : Fld := ⟨122, 0, 3, .rwl, .img, true⟩
def TCH_RCFG_EN : Fld := ⟨122, 3, 1, .rw, .img, true⟩
def TCH_RCFG_OWNER : Fld := ⟨122, 4, 7, .rw, .img, true⟩
def TCH_RCFG_SLOT : Fld := ⟨122, 11, 5, .rw, .img, true⟩
def TCH_RCFG_EFFECT : Fld := ⟨122, 16, 6, .rwl, .img, true⟩
def TCH_RCFG_TRIGGER : Fld := ⟨122, 22, 2, .rwl, .img, true⟩
def TCH_RCFG_FWD : Fld := ⟨122, 24, 1, .rwl, .img, true⟩
def TCH_RCFG_WAKE : Fld := ⟨122, 25, 1, .rwl, .img, true⟩
def TCH_RCFG_REMOTE_OK : Fld := ⟨122, 26, 1, .rwl, .img, true⟩
def TCH_RCFG_HOVER : Fld := ⟨122, 27, 1, .rwl, .img, true⟩
def TCH_RCFG_PRIO : Fld := ⟨122, 28, 4, .rwl, .img, true⟩
def TCH_RCFG_FWD_ID : Fld := ⟨122, 32, 14, .rwl, .img, true⟩
def TCH_RCFG_FWD_RGN : Fld := ⟨122, 46, 8, .rwl, .img, true⟩
def TCH_NODE_COMP : Fld := ⟨123, 0, 6, .rwl, .img, false⟩
def TCH_NODE_BASE : Fld := ⟨123, 16, 16, .ro, .zero, false⟩
def TCH_FWQ_WORD : Fld := ⟨124, 0, 64, .ro, .zero, false⟩
def TCH_FWQ_STATUS_POP : Fld := ⟨125, 0, 1, .wo, .zero, false⟩
def TCH_FWQ_STATUS_COUNT : Fld := ⟨125, 1, 7, .ro, .zero, false⟩
def TCH_FWQ_STATUS_LOST : Fld := ⟨125, 8, 16, .rc, .zero, false⟩
def DRW_TCH_RING_SIZE_LOG2 : Fld := ⟨126, 0, 5, .rw, .zero, false⟩
def DRW_TCH_RING_BASE : Fld := ⟨126, 6, 58, .rw, .zero, false⟩
def DRW_TCH_CTRL_EN : Fld := ⟨127, 0, 1, .rw, .zero, false⟩
def DRW_TCH_CTRL_VECTOR : Fld := ⟨127, 1, 4, .rw, .zero, false⟩
def DRW_TCH_POS_WRITTEN : Fld := ⟨128, 0, 32, .ro, .zero, false⟩
def DRW_TCH_POS_CONSUMED : Fld := ⟨128, 32, 32, .ro, .zero, false⟩
def DRW_TCH_CONS_VALUE : Fld := ⟨129, 0, 32, .wo, .zero, false⟩
def DRW_TCH_STAT_LOST : Fld := ⟨130, 0, 16, .rc, .zero, false⟩
def DRW_TCH_STAT_RESYNC : Fld := ⟨130, 16, 1, .ro, .zero, false⟩
/-! Chapter 16 -/
def HAP_CH_CFG_R_COIL : Fld := ⟨131, 0, 9, .rwl, .img, true⟩
def HAP_CH_CFG_F0_HZ : Fld := ⟨131, 9, 10, .rwl, .img, true⟩
def HAP_CH_CFG_F_MIN_HZ : Fld := ⟨131, 19, 10, .rwl, .img, true⟩
def HAP_CH_CFG_F_MAX_HZ : Fld := ⟨131, 29, 10, .rwl, .img, true⟩
def HAP_CH_CFG_STOP_MV : Fld := ⟨131, 39, 8, .rwl, .img, true⟩
def HAP_CH_CFG_CLR : Fld := ⟨131, 47, 1, .wo, .zero, true⟩
def HAP_CH_THERM_I2T_LIMIT : Fld := ⟨132, 0, 16, .rwl, .img, true⟩
def HAP_CH_THERM_TAU_DS : Fld := ⟨132, 16, 12, .rwl, .img, true⟩
def HAP_CH_STATUS_PHASE : Fld := ⟨133, 0, 3, .ro, .zero, false⟩
def HAP_CH_STATUS_EFFECT : Fld := ⟨133, 3, 6, .ro, .zero, false⟩
def HAP_CH_STATUS_WAITING : Fld := ⟨133, 9, 1, .ro, .zero, false⟩
def HAP_CH_STATUS_THERM_LOCK : Fld := ⟨133, 10, 1, .ro, .zero, false⟩
def HAP_CH_STATUS_OPEN : Fld := ⟨133, 11, 1, .ro, .zero, false⟩
def HAP_CH_STATUS_SHORT : Fld := ⟨133, 12, 1, .ro, .zero, false⟩
def HAP_CH_STATUS_FREQ : Fld := ⟨133, 16, 10, .ro, .zero, false⟩
def HAP_CH_STATUS_E : Fld := ⟨133, 32, 16, .ro, .zero, false⟩
def HAP_CH_CNT_REFUSED : Fld := ⟨134, 0, 16, .rc, .zero, false⟩
def HAP_CH_CNT_REPLACED : Fld := ⟨134, 16, 16, .rc, .zero, false⟩
def HAP_CH_CNT_BRAKE_TIMEOUT : Fld := ⟨134, 32, 16, .rc, .zero, false⟩
def HAP_CH_CNT_BUDGET_LIM : Fld := ⟨134, 48, 16, .rc, .zero, false⟩
def HAP_TRIG_CHANNEL : Fld := ⟨135, 0, 3, .wo, .zero, false⟩
def HAP_TRIG_EFFECT : Fld := ⟨135, 3, 6, .wo, .zero, false⟩
def HAP_TRIG_GO : Fld := ⟨135, 9, 1, .wo, .zero, false⟩
/-! Chapter 17 -/
def AUD_CFG_RATE : Fld := ⟨136, 0, 1, .rwl, .img, true⟩
def AUD_CFG_CLK_SRC : Fld := ⟨136, 1, 3, .rwl, .img, true⟩
def AUD_CFG_MCLK_OUT : Fld := ⟨136, 4, 1, .rwl, .img, true⟩
def AUD_STATUS_FRAME_ST : Fld := ⟨137, 0, 62, .ro, .zero, false⟩
def AUD_STATUS_ST_STATE : Fld := ⟨137, 62, 2, .ro, .zero, false⟩
def AUD_PORT_EN : Fld := ⟨138, 0, 1, .rw, .img, true⟩
def AUD_PORT_I2S : Fld := ⟨138, 1, 1, .rwl, .img, true⟩
def AUD_PORT_MASTER : Fld := ⟨138, 2, 1, .rwl, .img, true⟩
def AUD_PORT_DELAY : Fld := ⟨138, 3, 1, .rwl, .img, true⟩
def AUD_PORT_SLIPS : Fld := ⟨138, 16, 16, .rc, .zero, true⟩
def AUD_MIX_SRC : Fld := ⟨139, 0, 8, .rw, .img, true⟩
def AUD_MIX_GAIN : Fld := ⟨139, 16, 16, .rw, .img, true⟩
def AUD_OUT_SRC : Fld := ⟨140, 0, 8, .rw, .img, true⟩
def AUD_OUT_VOL : Fld := ⟨140, 8, 8, .rw, .img, true⟩
def AUD_OUT_RAMP_MS : Fld := ⟨140, 16, 8, .rw, .img, true⟩
def AUD_OUT_EQ_EN : Fld := ⟨140, 24, 1, .rw, .img, true⟩
def AUD_OUT_LOCK : Fld := ⟨140, 25, 1, .rwc, .img, true⟩
def AUD_CAP_SRC : Fld := ⟨141, 0, 64, .rw, .img, true⟩
def AUD_SEND_EN : Fld := ⟨142, 0, 1, .rw, .img, true⟩
def AUD_SEND_DEST_ID : Fld := ⟨142, 1, 14, .rw, .img, true⟩
def AUD_SEND_RSTREAM : Fld := ⟨142, 15, 2, .rw, .img, true⟩
def AUD_SEND_CHANNELS : Fld := ⟨142, 17, 4, .rw, .img, true⟩
def AUD_SEND_SEL_SRC : Fld := ⟨143, 0, 64, .rw, .img, true⟩
def AUD_RECV_EN : Fld := ⟨144, 0, 1, .rw, .img, true⟩
def AUD_RECV_SRC_ID : Fld := ⟨144, 1, 14, .rw, .img, true⟩
def AUD_RECV_ANY : Fld := ⟨144, 15, 1, .rw, .img, true⟩
def AUD_RECV_LATE : Fld := ⟨144, 16, 16, .rc, .zero, false⟩
def AUD_RECV_SLIPS : Fld := ⟨144, 32, 16, .rc, .zero, false⟩
def AUD_VOICE_ASSET : Fld := ⟨145, 0, 10, .rwc, .img, true⟩
def AUD_VOICE_LOOP : Fld := ⟨145, 10, 1, .rwc, .img, true⟩
def AUD_VOICE_FORCE : Fld := ⟨145, 11, 1, .rwc, .img, true⟩
def AUD_VOICE_DUCK_DB : Fld := ⟨145, 12, 6, .rwc, .img, true⟩
def AUD_VOICE_OUT_VOL : Fld := ⟨145, 18, 8, .rwc, .img, true⟩
def AUD_VOICE_GAIN : Fld := ⟨145, 26, 16, .rwc, .img, true⟩
def AUD_VOICE_PLAY : Fld := ⟨145, 42, 1, .rwc, .zero, true⟩
def AUD_VOICE_STOP : Fld := ⟨145, 43, 1, .rwc, .zero, true⟩
def AUD_VOICE_PLAYING : Fld := ⟨145, 44, 1, .ro, .zero, true⟩
def AUD_VOICE_MASK_OUT_MASK : Fld := ⟨146, 0, 32, .rwc, .img, true⟩
def AUD_BQ_SWAP_MASK : Fld := ⟨147, 0, 32, .w1s, .zero, true⟩
def AUD_BQ_COEF : Fld := ⟨148, 0, 32, .rw, .bq, false⟩
def DRW_AUD_CFG_EN : Fld := ⟨149, 0, 1, .rw, .zero, false⟩
def DRW_AUD_CFG_QUEUE : Fld := ⟨149, 1, 4, .rw, .zero, false⟩
def DRW_AUD_CFG_CHANNELS : Fld := ⟨149, 5, 4, .rw, .zero, false⟩
def DRW_AUD_CFG_FORMAT : Fld := ⟨149, 9, 2, .rw, .zero, false⟩
def DRW_AUD_CFG_MODULE : Fld := ⟨149, 11, 4, .ro, .zero, false⟩
def DRW_AUD_STATUS_XRUN : Fld := ⟨150, 0, 16, .rc, .zero, false⟩
def DRW_AUD_STATUS_GAP : Fld := ⟨150, 16, 1, .w1c, .zero, false⟩
def DRW_AUD_STATUS_FIRST_ST : Fld := ⟨150, 18, 46, .ro, .zero, false⟩
/-! Chapter 18 -/
def CCL_CORE_SLEEP : Fld := ⟨151, 0, 1, .w1s, .zero, false⟩
def CCL_CORE_WAKE : Fld := ⟨151, 1, 1, .wo, .zero, false⟩
def CCL_CORE_STATE : Fld := ⟨151, 2, 2, .ro, .zero, false⟩
def CCL_CORE_REFUSED : Fld := ⟨151, 4, 1, .w1c, .zero, false⟩
def CCL_CORE_WORLD : Fld := ⟨151, 5, 1, .ro, .zero, false⟩
def RTx_CTRL_SLEEP : Fld := ⟨152, 0, 1, .rwc, .zero, false⟩
def RTx_CTRL_WAKE : Fld := ⟨152, 1, 1, .rwc, .zero, false⟩
def RTx_CTRL_STATE : Fld := ⟨152, 2, 2, .ro, .zero, false⟩
def RTx_CTRL_REFUSED : Fld := ⟨152, 4, 1, .w1c, .zero, false⟩
def RTx_CTRL_MISMATCHES : Fld := ⟨152, 16, 8, .rc, .zero, false⟩
def ICU_SRC_PRIO : Fld := ⟨153, 0, 4, .rw, .img, true⟩
def ICU_SRC_DIST : Fld := ⟨153, 4, 1, .rw, .img, true⟩
def ICU_SRC_LEVEL : Fld := ⟨153, 5, 1, .ro, .level, false⟩
def ICU_SRC_WORLD : Fld := ⟨153, 6, 1, .rwc, .img, true⟩
def ICU_SRC_TGT_CC : Fld := ⟨153, 7, 4, .rw, .img, true⟩
def ICU_SRC_TGT_RT : Fld := ⟨153, 11, 2, .rwc, .img, true⟩
def ICU_SRC_PENDING : Fld := ⟨153, 13, 1, .ro, .zero, false⟩
def ICU_SRC_OFFERED : Fld := ⟨153, 14, 1, .ro, .zero, false⟩
def ICU_SRC_INSERVICE : Fld := ⟨153, 15, 1, .ro, .zero, false⟩
def ICU_SRC_CTX : Fld := ⟨153, 16, 4, .ro, .zero, false⟩
def ICU_SRC_LAST : Fld := ⟨153, 20, 3, .ro, .zero, false⟩
def ICU_PEND_PENDING : Fld := ⟨154, 0, 32, .ro, .zero, false⟩
def ICU_SET_ID : Fld := ⟨155, 0, 9, .wo, .zero, false⟩
def ICU_GDIS_GDIS : Fld := ⟨156, 0, 1, .rwc, .zero, true⟩
def ICU_STATUS_AWAKE : Fld := ⟨157, 0, 6, .ro, .zero, false⟩
def ICU_STATUS_WAKING : Fld := ⟨157, 6, 6, .ro, .zero, false⟩
def ICU_STATUS_BAD_COMPLETE : Fld := ⟨157, 12, 1, .w1c, .zero, false⟩
def ICU_STATUS_WITHDRAWN : Fld := ⟨157, 16, 16, .rc, .zero, false⟩
def ICU_STATUS_WAKES : Fld := ⟨157, 32, 16, .rc, .zero, false⟩
def ICU_THRESH_THRESH : Fld := ⟨158, 0, 4, .rw, .zero, false⟩
def ICU_CLAIM_ID : Fld := ⟨159, 0, 10, .rc, (.val 0x3FF), false⟩
def ICU_COMPLETE_ID : Fld := ⟨160, 0, 10, .wo, .zero, false⟩
def HUT_ICU_EN_EN : Fld := ⟨161, 0, 64, .rw, .zero, true⟩
def HUT_ICU_PEND_PENDING : Fld := ⟨162, 0, 64, .w1c, .zero, false⟩
def HUT_ICU_CLAIM_ID : Fld := ⟨163, 0, 8, .rc, (.val 0xFF), false⟩
def HUT_DBELL_RING : Fld := ⟨164, 0, 1, .wo, .zero, false⟩
/-! Chapter 19 -/
def CAB_LC_STATE : Fld := ⟨165, 0, 3, .ro, .hw, true⟩
def CAB_LC_NEXT : Fld := ⟨165, 3, 3, .ro, .hw, true⟩
def CAB_LC_KEY_KILLED : Fld := ⟨165, 6, 1, .ro, .hw, true⟩
def CAB_LC_TARGET : Fld := ⟨165, 8, 3, .wo, .zero, true⟩
def CAB_LC_REQ_ERR : Fld := ⟨165, 11, 1, .w1c, .zero, true⟩
def CAB_FUSE_SVN_FLOOR : Fld := ⟨166, 0, 7, .ro, .hw, true⟩
def CAB_FUSE_REVOKED : Fld := ⟨166, 8, 4, .ro, .hw, true⟩
def CAB_FUSE_ROOT_SLOT : Fld := ⟨166, 12, 2, .ro, .hw, true⟩
def CAB_FUSE_RAISE_TO : Fld := ⟨166, 16, 7, .wo, .zero, true⟩
def CAB_FUSE_REVOKE : Fld := ⟨166, 23, 4, .wo, .zero, true⟩
def CAB_FUSE_FUSE_ERR : Fld := ⟨166, 27, 1, .w1c, .zero, true⟩
def CAB_FUSE_BUSY : Fld := ⟨166, 28, 1, .ro, .zero, true⟩
def CAB_EVT_PARTNER_A : Fld := ⟨167, 0, 1, .w1c, .zero, false⟩
def CAB_EVT_PARTNER_B : Fld := ⟨167, 1, 1, .w1c, .zero, false⟩
def CAB_EVT_LC_DONE : Fld := ⟨167, 2, 1, .w1c, .zero, false⟩
def CAB_EVT_DBG_OPEN : Fld := ⟨167, 3, 1, .w1c, .zero, false⟩
def CAB_EVT_DBG_CLOSE : Fld := ⟨167, 4, 1, .w1c, .zero, false⟩
def CAB_EVT_FUSE_DONE : Fld := ⟨167, 5, 1, .w1c, .zero, false⟩
def CAB_EVT_EN : Fld := ⟨167, 8, 6, .rw, (.val 0x3), false⟩
def CAB_OWN_OWN : Fld := ⟨168, 0, 32, .rw, .ownFixed, true⟩
def CAB_USE_USE : Fld := ⟨169, 0, 32, .rw, .zero, true⟩
def CAB_RGN_BASE_BASE : Fld := ⟨170, 16, 32, .rw, .zero, true⟩
def CAB_RGN_CFG_SIZE_M1 : Fld := ⟨171, 0, 32, .rw, .zero, true⟩
def CAB_RGN_CFG_EN : Fld := ⟨171, 32, 1, .rw, .zero, true⟩
def CAB_RGN_CFG_CAB_R : Fld := ⟨171, 33, 1, .rw, .zero, true⟩
def CAB_RGN_CFG_CAB_W : Fld := ⟨171, 34, 1, .rw, .zero, true⟩
def CAB_RGN_CFG_OPEN_R : Fld := ⟨171, 35, 1, .rw, .zero, true⟩
def CAB_RGN_CFG_OPEN_W : Fld := ⟨171, 36, 1, .rw, .zero, true⟩
def CAB_RGN_CFG_KINDS : Fld := ⟨171, 37, 9, .rw, .zero, true⟩
def CAB_RGN_CFG_LOCK : Fld := ⟨171, 46, 1, .w1s, .zero, true⟩
def DBG_CTRL_CMD : Fld := ⟨172, 0, 3, .wo, .zero, false⟩
def DBG_CTRL_SIZE64 : Fld := ⟨172, 3, 1, .wo, .zero, false⟩
def DBG_STATUS_STATE : Fld := ⟨173, 0, 3, .ro, .zero, false⟩
def DBG_STATUS_BUSY : Fld := ⟨173, 3, 1, .ro, .zero, false⟩
def DBG_STATUS_RESULT : Fld := ⟨173, 4, 4, .ro, .zero, false⟩
def DBG_STATUS_FAILS : Fld := ⟨173, 8, 4, .ro, .zero, false⟩
def DBG_STATUS_MIN_LEFT : Fld := ⟨173, 12, 11, .ro, .zero, false⟩
def DBG_ACC_ADDR_ADDR : Fld := ⟨174, 0, 48, .rw, .zero, false⟩
def DBG_ACC_DATA_DATA : Fld := ⟨175, 0, 64, .rw, .zero, false⟩
def DBG_ID_ID : Fld := ⟨176, 0, 64, .ro, .hw, false⟩
def DBG_BUF_WORD : Fld := ⟨177, 0, 32, .rw, .zero, false⟩
/-! Chapter 20 -/
def PWR_REQ_TARGET : Fld := ⟨178, 0, 3, .wo, .zero, true⟩
def PWR_REQ_SEQ : Fld := ⟨178, 16, 16, .ro, .zero, true⟩
def PWR_STATUS_STATE : Fld := ⟨179, 0, 3, .ro, .zero, false⟩
def PWR_STATUS_PHASE : Fld := ⟨179, 3, 3, .ro, .zero, false⟩
def PWR_STATUS_TARGET : Fld := ⟨179, 6, 3, .ro, .zero, false⟩
def PWR_STATUS_NEXT : Fld := ⟨179, 9, 3, .ro, .zero, false⟩
def PWR_STATUS_NEXT_VALID : Fld := ⟨179, 12, 1, .ro, .zero, false⟩
def PWR_STATUS_CUR_SEQ : Fld := ⟨179, 16, 16, .ro, .zero, false⟩
def PWR_STATUS_NEXT_SEQ : Fld := ⟨179, 32, 16, .ro, .zero, false⟩
def PWR_STATUS_LAST_SEQ : Fld := ⟨179, 48, 16, .ro, .zero, false⟩
def PWR_CFG_STATES : Fld := ⟨180, 0, 3, .rwl, .img, true⟩
def PWR_CFG_ENTRY_MS : Fld := ⟨180, 4, 10, .rwl, .img, true⟩
def PWR_PADREL_HELD : Fld := ⟨181, 0, 16, .w1c, .zero, true⟩
def PWR_CNT_REFUSED : Fld := ⟨182, 0, 16, .rc, .zero, false⟩
def PWR_CNT_ABORTED : Fld := ⟨182, 16, 16, .rc, .zero, false⟩
def PWR_CNT_LAST_REFUSER : Fld := ⟨182, 32, 8, .ro, .zero, false⟩
def PWR_CNT_LAST_BLOCK : Fld := ⟨182, 40, 8, .ro, .zero, false⟩
def PWR_OUTCOME_SEQ : Fld := ⟨183, 0, 16, .ro, .zero, false⟩
def PWR_OUTCOME_TARGET : Fld := ⟨183, 16, 3, .ro, .zero, false⟩
def PWR_OUTCOME_RESULT : Fld := ⟨183, 19, 3, .ro, .zero, false⟩
def PWR_OUTCOME_REFUSER : Fld := ⟨183, 22, 8, .ro, .zero, false⟩
def PWR_OUTCOME_BLOCK : Fld := ⟨183, 30, 8, .ro, .zero, false⟩
def PWR_OUTCOME_KIND : Fld := ⟨183, 38, 4, .ro, .zero, false⟩
def PWR_OUTCOME_WORLD : Fld := ⟨183, 42, 1, .ro, .zero, false⟩
def TIM_ST_ST : Fld := ⟨184, 0, 64, .ro, .zero, false⟩
def TIM_STATUS_STATE : Fld := ⟨185, 0, 2, .ro, (.val 0x2), false⟩
def TIM_STATUS_SOURCE : Fld := ⟨185, 2, 2, .ro, .zero, false⟩
def TIM_STATUS_SLEWING : Fld := ⟨185, 4, 1, .ro, .zero, false⟩
def TIM_STATUS_BEHIND : Fld := ⟨185, 5, 1, .ro, .zero, false⟩
def TIM_STATUS_UNC : Fld := ⟨185, 32, 32, .ro, .zero, false⟩
def TIM_CFG_TIME_REF : Fld := ⟨186, 0, 2, .rwl, .img, true⟩
def TIM_CFG_DRIFT_PPB : Fld := ⟨186, 2, 18, .rwl, .img, true⟩
def TIM_PPS_EDGE_ST : Fld := ⟨187, 0, 62, .ro, .zero, false⟩
def TIM_PPS_ARM_SEC : Fld := ⟨188, 0, 33, .rwc, .zero, true⟩
def TIM_PPS_ARM_ARMED : Fld := ⟨188, 33, 1, .ro, .zero, true⟩
def TIM_CAL_RATIO : Fld := ⟨189, 0, 64, .ro, (.val 0x773594000000), false⟩
def TIM_ALARM_ST : Fld := ⟨190, 0, 62, .rwc, .zero, true⟩
def TIM_ALARM_EN : Fld := ⟨190, 63, 1, .rwc, .zero, true⟩
/-! Chapter 21 -/
def FAB_ERR_Q_COUNT : Fld := ⟨191, 0, 5, .ro, .zero, false⟩
def FAB_ERR_Q_OLDEST : Fld := ⟨191, 5, 4, .ro, .zero, false⟩
def FAB_ERR_Q_OVERFLOW : Fld := ⟨191, 9, 1, .w1c, .zero, false⟩
def FAB_ERR_Q_LOST : Fld := ⟨191, 10, 16, .rc, .zero, false⟩
def FAB_ERR_Q_LOST_CODE : Fld := ⟨191, 32, 8, .ro, .zero, false⟩
def FAB_ERR_Q_NEXT_SEQ : Fld := ⟨191, 40, 16, .ro, .zero, false⟩
def FAB_ERR_ACK_SEQ : Fld := ⟨192, 0, 16, .wo, .zero, false⟩
def FAB_ERR_REC_WORD : Fld := ⟨193, 0, 64, .ro, .zero, false⟩
def FAB_ERR_ISL_RESETS : Fld := ⟨194, 0, 16, .rc, .zero, false⟩
def FAB_ERR_ISL_IN_WINDOW : Fld := ⟨194, 16, 4, .ro, .zero, false⟩
def FAB_ERR_ISL_LAST_ESC : Fld := ⟨194, 20, 1, .ro, .zero, false⟩
def FAB_ERR_ISL_IN_PROGRESS : Fld := ⟨194, 21, 1, .ro, .zero, false⟩
def FAB_ERR_MOD_DOMAIN : Fld := ⟨195, 0, 8, .ro, .zero, false⟩
def FAB_ERR_MOD_CODE : Fld := ⟨195, 8, 8, .ro, .zero, false⟩
def FAB_ERR_MOD_ACTION : Fld := ⟨195, 16, 2, .ro, .zero, false⟩
def FAB_ERR_MOD_SAFE : Fld := ⟨195, 18, 1, .ro, .zero, false⟩
def FAB_ERR_MOD_RESTARTS : Fld := ⟨195, 19, 8, .ro, .zero, false⟩
def FAB_ERR_SWREP_DOMAIN : Fld := ⟨196, 0, 8, .wo, .zero, true⟩
def FAB_ERR_SWREP_CODE : Fld := ⟨196, 8, 8, .wo, .zero, true⟩
def FAB_ERR_SWREP_CLASS : Fld := ⟨196, 16, 2, .wo, .zero, true⟩
def FAB_ERR_SWREP_SOURCE : Fld := ⟨196, 18, 8, .wo, .zero, true⟩
def FAB_ERR_SWREP_GO : Fld := ⟨196, 26, 1, .wo, .zero, true⟩
/-! Chapter 22 -/
def ADL_STATUS_NEXT_SEQ : Fld := ⟨197, 0, 32, .ro, .zero, false⟩
def ADL_STATUS_START : Fld := ⟨197, 32, 16, .ro, .hw, false⟩
def ADL_STATUS_BUF : Fld := ⟨197, 48, 7, .ro, .zero, false⟩
def ADL_STATUS_FULL : Fld := ⟨197, 55, 1, .ro, .zero, false⟩
def ADL_CFG_FLUSH_MARK : Fld := ⟨198, 0, 6, .rwl, .img, true⟩
def ADL_CFG_WARN_PCT : Fld := ⟨198, 6, 7, .rwl, .img, true⟩
def ADL_RING_HELD : Fld := ⟨199, 0, 21, .ro, .hw, false⟩
def ADL_RING_NEAR_WRAP : Fld := ⟨199, 21, 1, .ro, .zero, false⟩
def ADL_RING_OVERWRITTEN : Fld := ⟨199, 32, 16, .rc, .zero, false⟩
def ADL_RING_STALLS : Fld := ⟨199, 48, 16, .rc, .zero, false⟩
def ADL_MARK_SEQ : Fld := ⟨200, 0, 32, .rwc, .hw, true⟩
def ADL_MARK_START : Fld := ⟨200, 32, 16, .rwc, .hw, true⟩
def ADL_RD_POS_SEQ : Fld := ⟨201, 0, 32, .rwc, .zero, false⟩
def ADL_RD_POS_START : Fld := ⟨201, 32, 16, .rwc, .zero, false⟩
def ADL_RD_POS_HELD : Fld := ⟨201, 48, 1, .ro, .zero, false⟩
def ADL_RD_WORD : Fld := ⟨202, 0, 64, .ro, .zero, false⟩
def ADL_SEAL_WORD : Fld := ⟨203, 0, 64, .ro, .zero, false⟩
/-! Chapter 23 -/
def CRC_CTRL_POLY : Fld := ⟨204, 0, 2, .rw, .zero, false⟩
def CRC_CTRL_INIT : Fld := ⟨204, 2, 1, .wo, .zero, false⟩
def CRC_CTRL_IE : Fld := ⟨204, 3, 1, .rw, .zero, false⟩
def CRC_CTRL_DONE : Fld := ⟨204, 4, 1, .w1c, .zero, false⟩
def CRC_CTRL_MATCH : Fld := ⟨204, 5, 1, .ro, .zero, false⟩
def CRC_CTRL_BUSY : Fld := ⟨204, 6, 1, .ro, .zero, false⟩
def CRC_DATA_DATA : Fld := ⟨205, 0, 32, .wo, .zero, false⟩
def CRC_VAL_VAL : Fld := ⟨206, 0, 64, .rw, (.val 0xFFFFFFFF), false⟩
def CRC_RESULT_RESULT : Fld := ⟨207, 0, 64, .ro, .zero, false⟩
def CRC_EXPECT_EXPECT : Fld := ⟨208, 0, 64, .rw, .zero, false⟩
def CRC_COUNT_COUNT : Fld := ⟨209, 0, 32, .rw, .zero, false⟩
def CRC_COUNT_LEN : Fld := ⟨209, 32, 32, .rw, .zero, false⟩
/-! Chapter 24 -/
def PMU_CTRL_FREEZE_OPEN : Fld := ⟨210, 0, 1, .rw, .zero, false⟩
def PMU_CTRL_FREEZE_CAB : Fld := ⟨210, 1, 1, .rwc, .zero, false⟩
def PMU_CTRL_FRZ_OVF_OPEN : Fld := ⟨210, 2, 1, .rw, .zero, false⟩
def PMU_CTRL_FRZ_OVF_CAB : Fld := ⟨210, 3, 1, .rwc, .zero, false⟩
def PMU_TRIG_ST : Fld := ⟨211, 0, 62, .rw, .zero, false⟩
def PMU_TRIG_FRZ : Fld := ⟨211, 62, 1, .rw, .zero, false⟩
def PMU_TRIG_ARM : Fld := ⟨211, 63, 1, .w1s, .zero, false⟩
def PMU_SNAP_STATUS_VALID : Fld := ⟨212, 0, 1, .w1c, .zero, false⟩
def PMU_SNAP_STATUS_LATE : Fld := ⟨212, 1, 1, .w1c, .zero, false⟩
def PMU_SNAP_STATUS_ST_STATE : Fld := ⟨212, 2, 2, .ro, .zero, false⟩
def PMU_SNAP_STATUS_SEQ : Fld := ⟨212, 16, 16, .ro, .zero, false⟩
def PMU_OVF_OVF : Fld := ⟨213, 0, 32, .w1c, .zero, false⟩
def PMU_SNAP_OVF_OVF : Fld := ⟨214, 0, 32, .ro, .zero, false⟩
def PMU_SMP_PC_PC : Fld := ⟨215, 0, 64, .ro, .zero, false⟩
def PMU_SMP_INFO_COUNTER : Fld := ⟨216, 0, 7, .ro, .zero, false⟩
def PMU_SMP_INFO_MODE : Fld := ⟨216, 7, 2, .ro, .zero, false⟩
def PMU_SMP_INFO_TRAP : Fld := ⟨216, 9, 1, .ro, .zero, false⟩
def PMU_SMP_INFO_LOST : Fld := ⟨216, 10, 1, .w1c, .zero, false⟩
def PMU_SMP_INFO_VALID : Fld := ⟨216, 11, 1, .w1c, .zero, false⟩
def PMU_EVSEL_BLOCK : Fld := ⟨217, 0, 8, .rw, .zero, false⟩
def PMU_EVSEL_EVENT : Fld := ⟨217, 8, 8, .rw, .zero, false⟩
def PMU_EVSEL_SUB : Fld := ⟨217, 16, 8, .rw, (.val 0xFF), false⟩
def PMU_EVSEL_EN : Fld := ⟨217, 24, 1, .rw, .zero, false⟩
def PMU_EVSEL_IE : Fld := ⟨217, 25, 1, .rw, .zero, false⟩
def PMU_EVSEL_SAMPLE : Fld := ⟨217, 26, 1, .rw, .zero, false⟩
def PMU_EVSEL_WORLD : Fld := ⟨217, 27, 1, .rwc, .zero, false⟩
def PMU_EVFILT_DRW_FILT : Fld := ⟨218, 0, 7, .rw, (.val 0x7F), false⟩
def PMU_CNT_COUNT : Fld := ⟨219, 0, 48, .rw, .zero, false⟩
def PMU_SNAP_COUNT : Fld := ⟨220, 0, 48, .ro, .zero, false⟩
def PMU_BW_CFG_WINDOW : Fld := ⟨221, 0, 20, .rw, (.val 0x3E8), false⟩
def PMU_BW_CFG_EN : Fld := ⟨221, 20, 1, .rw, .zero, false⟩
def PMU_BW_CFG_STEPPED : Fld := ⟨221, 21, 1, .ro, .zero, false⟩
def PMU_BW_CFG_WSEQ : Fld := ⟨221, 32, 32, .ro, .zero, false⟩
def PMU_BW_RD_BYTES : Fld := ⟨222, 0, 48, .ro, .zero, false⟩
def PMU_BW_WR_BYTES : Fld := ⟨223, 0, 48, .ro, .zero, false⟩
def PMU_BW_PEAK_BYTES : Fld := ⟨224, 0, 48, .rc, .zero, false⟩
/-! Chapter 25 -/
def BST_DESC_WORD : Fld := ⟨225, 0, 64, .rwc, .zero, true⟩
def BST_GO_GO : Fld := ⟨226, 0, 1, .rwc, .zero, true⟩
def BST_STATUS_BUSY : Fld := ⟨227, 0, 5, .ro, .zero, false⟩
def BST_STATUS_HOST_BUSY : Fld := ⟨227, 5, 1, .ro, .zero, false⟩
def BST_STATUS_REASON : Fld := ⟨227, 8, 4, .ro, .zero, false⟩
def BST_STATUS_MAP_COUNT : Fld := ⟨227, 12, 7, .ro, .zero, false⟩
def BST_STATUS_MAP_FULL : Fld := ⟨227, 19, 1, .w1c, .zero, false⟩
def BST_RESULT0_KIND : Fld := ⟨228, 0, 8, .ro, .zero, false⟩
def BST_RESULT0_CAUSE : Fld := ⟨228, 8, 8, .ro, .zero, false⟩
def BST_RESULT0_COVERAGE : Fld := ⟨228, 16, 10, .ro, .zero, false⟩
def BST_RESULT0_DRAM_SLICE : Fld := ⟨228, 26, 3, .ro, .zero, false⟩
def BST_RESULT0_DURATION_US : Fld := ⟨228, 32, 32, .ro, .zero, false⟩
def BST_RESULT1_FIRST_ADDR : Fld := ⟨229, 0, 64, .ro, .zero, false⟩
def BST_RESULT2_FIRST_BIT : Fld := ⟨230, 0, 9, .ro, .zero, false⟩
def BST_RESULT2_FIRST_MEM : Fld := ⟨230, 16, 8, .ro, .zero, false⟩
def BST_RESULT2_FAILS : Fld := ⟨230, 24, 8, .ro, .zero, false⟩
def BST_RESULT3_END_ST : Fld := ⟨231, 0, 62, .ro, .zero, false⟩
def BST_RESULT3_ST_STATE : Fld := ⟨231, 62, 2, .ro, .zero, false⟩
def BST_MAP_MEM : Fld := ⟨232, 0, 8, .ro, .zero, false⟩
def BST_MAP_STATE : Fld := ⟨232, 8, 2, .ro, .zero, false⟩
def BST_MAP_BIT : Fld := ⟨232, 16, 9, .ro, .zero, false⟩
def BST_MAP_LINE : Fld := ⟨232, 32, 32, .ro, .zero, false⟩
def HPx_BIST_GO_GO : Fld := ⟨233, 0, 1, .wo, .zero, true⟩
def HPx_BIST_DESC_WORD : Fld := ⟨234, 0, 64, .rw, .zero, false⟩

end F

/-- The registers of chapter 02. -/
def regs02 : List Reg :=
  [ ⟨0, "PWR_SUPPLY", 0x22, 0x00F002200400, [], false, false, false, .por,
     [F.PWR_SUPPLY_VIN, F.PWR_SUPPLY_PLATE_T, F.PWR_SUPPLY_THROTTLE, F.PWR_SUPPLY_HAP_RES, F.PWR_SUPPLY_VIN_LOW, F.PWR_SUPPLY_VIN_HIGH, F.PWR_SUPPLY_HOT, F.PWR_SUPPLY_LAST_OFF]⟩ ]

/-- The registers of chapter 03. -/
def regs03 : List Reg :=
  [ ⟨1, "CFG_STATUS", 0x28, 0x00F002800000, [], false, false, false, .por,
     [F.CFG_STATUS_STAGE, F.CFG_STATUS_COPY, F.CFG_STATUS_COMMITTED, F.CFG_STATUS_FALLBACK, F.CFG_STATUS_TRAIN_FULL, F.CFG_STATUS_EXT_TEST, F.CFG_STATUS_LAMP_ACTIVE, F.CFG_STATUS_DESK_D_HEADS, F.CFG_STATUS_SLOT_ID]⟩,
    ⟨2, "CFG_FAIL", 0x28, 0x00F002800008, [], false, false, false, .por,
     [F.CFG_FAIL_A_CAUSE, F.CFG_FAIL_B_CAUSE, F.CFG_FAIL_A_SECTION, F.CFG_FAIL_B_SECTION]⟩ ]

/-- The registers of chapter 05. -/
def regs05 : List Reg :=
  [ ⟨3, "HPx_MBX_GO", 0x1A, 0x00F001A00100, [(2, 0x100000)], false, false, false, .prt,
     [F.HPx_MBX_GO_GO]⟩,
    ⟨4, "HPx_MBX_STATUS", 0x1A, 0x00F001A00104, [(2, 0x100000)], false, false, false, .prt,
     [F.HPx_MBX_STATUS_BUSY, F.HPx_MBX_STATUS_DONE, F.HPx_MBX_STATUS_COLLIDE, F.HPx_MBX_STATUS_EVENT, F.HPx_MBX_STATUS_EVT_COUNT]⟩,
    ⟨5, "HPx_AP_BASE", 0x1A, 0x00F001A00200, [(2, 0x100000)], true, false, true, .prt,
     [F.HPx_AP_BASE_BASE]⟩,
    ⟨6, "DRW_INFO", 0x00, 0x00F020010000, [(64, 0x40000)], false, false, false, .drw,
     [F.DRW_INFO_DRAWER, F.DRW_INFO_CLASS, F.DRW_INFO_TEMPLATE, F.DRW_INFO_QUEUES, F.DRW_INFO_REPLAY, F.DRW_INFO_NONPREEMPT, F.DRW_INFO_HEAP_64M]⟩,
    ⟨7, "DRW_STATUS", 0x00, 0x00F020010008, [(64, 0x40000)], false, false, false, .drw,
     [F.DRW_STATUS_STATE, F.DRW_STATUS_DIRTY_ON, F.DRW_STATUS_RESET_SEEN, F.DRW_STATUS_RESET_SEQ]⟩,
    ⟨8, "DRW_GERR", 0x00, 0x00F020010010, [(64, 0x40000)], false, false, false, .drw,
     [F.DRW_GERR_CODE, F.DRW_GERR_QUEUE, F.DRW_GERR_COUNT]⟩,
    ⟨9, "DRW_EVT", 0x00, 0x00F020010018, [(64, 0x40000)], false, false, false, .drw,
     [F.DRW_EVT_VECTOR, F.DRW_EVT_EN]⟩,
    ⟨10, "DRW_Q_RING", 0x00, 0x00F020011000, [(64, 0x40000), (16, 0x20)], true, false, false, .drw,
     [F.DRW_Q_RING_SIZE_LOG2, F.DRW_Q_RING_BASE]⟩,
    ⟨11, "DRW_Q_CTRL", 0x00, 0x00F020011008, [(64, 0x40000), (16, 0x20)], false, false, false, .drw,
     [F.DRW_Q_CTRL_ENABLE, F.DRW_Q_CTRL_ENGINE, F.DRW_Q_CTRL_VECTOR, F.DRW_Q_CTRL_CLOSING]⟩,
    ⟨12, "DRW_Q_POS", 0x00, 0x00F020011010, [(64, 0x40000), (16, 0x20)], true, true, false, .drw,
     [F.DRW_Q_POS_HEAD, F.DRW_Q_POS_TAIL]⟩,
    ⟨13, "DRW_MOD", 0x00, 0x00F020012000, [(64, 0x40000), (16, 0x8)], false, false, false, .drw,
     [F.DRW_MOD_TIME_US, F.DRW_MOD_COUNT]⟩ ]

/-- The registers of chapter 06. -/
def regs06 : List Reg :=
  [ ⟨14, "DRW_TL_VAL", 0x00, 0x00F020014000, [(64, 0x40000), (256, 0x8)], true, true, false, .drw,
     [F.DRW_TL_VAL_VALUE]⟩,
    ⟨15, "DRW_TL_INFO", 0x00, 0x00F020016000, [(64, 0x40000), (256, 0x4)], false, false, false, .drw,
     [F.DRW_TL_INFO_ID, F.DRW_TL_INFO_ABANDONED, F.DRW_TL_INFO_GRANTED]⟩,
    ⟨16, "DRW_Q_CPL", 0x00, 0x00F020011018, [(64, 0x40000), (16, 0x20)], true, false, false, .drw,
     [F.DRW_Q_CPL_SIZE_LOG2, F.DRW_Q_CPL_BASE]⟩,
    ⟨17, "DRW_Q_CPOS", 0x00, 0x00F020011200, [(64, 0x40000), (16, 0x8)], true, true, false, .drw,
     [F.DRW_Q_CPOS_WRITTEN, F.DRW_Q_CPOS_CONSUMED]⟩,
    ⟨18, "JNL_STATUS", 0x06, 0x00F000600000, [], true, true, false, .isl,
     [F.JNL_STATUS_USED, F.JNL_STATUS_USED_HWM, F.JNL_STATUS_CC_OCC, F.JNL_STATUS_CC_HWM, F.JNL_STATUS_FETCH_STALL]⟩,
    ⟨19, "JNL_RESERVE", 0x06, 0x00F000600010, [], false, false, true, .isl,
     [F.JNL_RESERVE_PER_CTX]⟩,
    ⟨20, "JNL_COUNT", 0x06, 0x00F000600020, [], true, true, false, .isl,
     [F.JNL_COUNT_REPLAYS, F.JNL_COUNT_LIMIT, F.JNL_COUNT_WB_RETRY, F.JNL_COUNT_CC_STALL]⟩ ]

/-- The registers of chapter 07. -/
def regs07 : List Reg :=
  [ ⟨21, "GFE_PASS_CFG", 0x07, 0x00F000700100, [], false, false, true, .isl,
     [F.GFE_PASS_CFG_MIN_TILED_TILES, F.GFE_PASS_CFG_BIN_EST, F.GFE_PASS_CFG_FORCE]⟩,
    ⟨22, "GFE_BG_SERVICE", 0x07, 0x00F000700110, [], false, false, false, .isl,
     [F.GFE_BG_SERVICE_IN_SERVICE, F.GFE_BG_SERVICE_TESTING, F.GFE_BG_SERVICE_RETIRED]⟩,
    ⟨23, "GFE_PASS_COUNT", 0x07, 0x00F000700120, [], true, true, false, .isl,
     [F.GFE_PASS_COUNT_TILED, F.GFE_PASS_COUNT_IMMEDIATE, F.GFE_PASS_COUNT_FLUSHES, F.GFE_PASS_COUNT_FORCED]⟩,
    ⟨24, "GFE_SIG_COUNT", 0x07, 0x00F000700128, [], true, true, false, .isl,
     [F.GFE_SIG_COUNT_SKIPPED, F.GFE_SIG_COUNT_WRITTEN]⟩,
    ⟨25, "BGn_STATUS", 0x08, 0x00F000800000, [(4, 0x100000)], false, false, false, .isl,
     [F.BGn_STATUS_STATE, F.BGn_STATUS_RESIDENT, F.BGn_STATUS_SB_STALL]⟩ ]

/-- The registers of chapter 08. -/
def regs08 : List Reg :=
  [ ⟨26, "GFE_PLAN", 0x07, 0x00F000700200, [], false, false, true, .isl,
     [F.GFE_PLAN_SAFE_MIN, F.GFE_PLAN_COMP_MIN, F.GFE_PLAN_ASSURED_MIN]⟩,
    ⟨27, "GFE_WINDOW", 0x07, 0x00F000700208, [], true, true, false, .isl,
     [F.GFE_WINDOW_REF_HEAD, F.GFE_WINDOW_FREE_RUN, F.GFE_WINDOW_GROUPS, F.GFE_WINDOW_NOMINAL, F.GFE_WINDOW_NUMBER]⟩,
    ⟨28, "GFE_DL_CFG", 0x07, 0x00F000700210, [], false, false, true, .isl,
     [F.GFE_DL_CFG_GUARD_US, F.GFE_DL_CFG_NP_MASK, F.GFE_DL_CFG_NP_LIMIT_US]⟩,
    ⟨29, "GFE_DL_STATUS", 0x07, 0x00F000700218, [], true, true, false, .isl,
     [F.GFE_DL_STATUS_PREEMPTS, F.GFE_DL_STATUS_DISCARDED, F.GFE_DL_STATUS_MISS_HEADS, F.GFE_DL_STATUS_ESCALATIONS, F.GFE_DL_STATUS_ASSURED_SHORT, F.GFE_DL_STATUS_MISSES]⟩,
    ⟨30, "GFE_CTX_SHARE", 0x07, 0x00F000701000, [(66, 0x8)], false, false, true, .isl,
     [F.GFE_CTX_SHARE_SHARE, F.GFE_CTX_SHARE_CAP, F.GFE_CTX_SHARE_ACTIVE, F.GFE_CTX_SHARE_PENDING]⟩,
    ⟨31, "GFE_CTX_LEDGER", 0x07, 0x00F000701400, [(66, 0x8)], true, true, false, .isl,
     [F.GFE_CTX_LEDGER_USED, F.GFE_CTX_LEDGER_LAST]⟩,
    ⟨32, "GFE_CTX_STATUS", 0x07, 0x00F000701800, [(66, 0x4)], false, false, false, .isl,
     [F.GFE_CTX_STATUS_STATE, F.GFE_CTX_STATUS_NP, F.GFE_CTX_STATUS_GROUPS, F.GFE_CTX_STATUS_TIMEOUTS, F.GFE_CTX_STATUS_PREEMPTED]⟩,
    ⟨33, "GFE_CTX_LIMIT", 0x07, 0x00F000701C00, [(66, 0x4)], false, false, true, .isl,
     [F.GFE_CTX_LIMIT_RUN_LIMIT_MS]⟩ ]

/-- The registers of chapter 09. -/
def regs09 : List Reg :=
  [ ⟨34, "HDn_LOWN", 0x10, 0x00F001000800, [(8, 0x100000), (9, 0x4)], false, false, true, .isl,
     [F.HDn_LOWN_OWNER, F.HDn_LOWN_SLOT]⟩,
    ⟨35, "CMP_SCL_COEF", 0x0C, 0x00F000C04000, [(640, 0x4)], false, false, false, .isl,
     [F.CMP_SCL_COEF_COEF]⟩,
    ⟨36, "HDn_PIPE", 0x10, 0x00F001000900, [(8, 0x100000)], false, false, true, .isl,
     [F.HDn_PIPE_MTX_EN, F.HDn_PIPE_LUT_EN, F.HDn_PIPE_DITHER_EN, F.HDn_PIPE_BANK, F.HDn_PIPE_SWAP]⟩,
    ⟨37, "HDn_MTX", 0x10, 0x00F001000A00, [(8, 0x100000), (9, 0x4)], false, false, true, .isl,
     [F.HDn_MTX_COEF]⟩,
    ⟨38, "HDn_LUT", 0x10, 0x00F001010000, [(8, 0x100000), (3, 0x1000), (1024, 0x4)], false, false, false, .isl,
     [F.HDn_LUT_VALUE]⟩,
    ⟨39, "HDn_SFLIP", 0x10, 0x00F001000910, [(8, 0x100000)], false, false, true, .isl,
     [F.HDn_SFLIP_WINDOWS]⟩,
    ⟨40, "DRW_LS_DESC", 0x00, 0x00F020018000, [(64, 0x40000), (64, 0x80), (16, 0x4)], false, false, false, .drw,
     [F.DRW_LS_DESC_WORD]⟩,
    ⟨41, "DRW_LS_CTRL", 0x00, 0x00F020018040, [(64, 0x40000), (64, 0x80)], false, false, false, .drw,
     [F.DRW_LS_CTRL_EVT]⟩,
    ⟨42, "DRW_LS_STATUS", 0x00, 0x00F020018048, [(64, 0x40000), (64, 0x80)], true, true, false, .drw,
     [F.DRW_LS_STATUS_APPLIED_SEQ, F.DRW_LS_STATUS_PENDING_SEQ, F.DRW_LS_STATUS_PENDING, F.DRW_LS_STATUS_ON, F.DRW_LS_STATUS_OWNED, F.DRW_LS_STATUS_HEAD, F.DRW_LS_STATUS_LAYER, F.DRW_LS_STATUS_LAST_OUTCOME, F.DRW_LS_STATUS_HELD]⟩,
    ⟨43, "DRW_FLIP_SEL", 0x00, 0x00F02001A000, [(64, 0x40000)], true, true, false, .drw,
     [F.DRW_FLIP_SEL_SLOTS]⟩,
    ⟨44, "DRW_FLIP_GO", 0x00, 0x00F02001A008, [(64, 0x40000)], false, false, false, .drw,
     [F.DRW_FLIP_GO_GO, F.DRW_FLIP_GO_GROUP]⟩,
    ⟨45, "DRW_FLIP_STATUS", 0x00, 0x00F02001A010, [(64, 0x40000)], false, false, false, .drw,
     [F.DRW_FLIP_STATUS_SEQ, F.DRW_FLIP_STATUS_RESULT, F.DRW_FLIP_STATUS_SLOT]⟩ ]

/-- The registers of chapter 10. -/
def regs10 : List Reg :=
  [ ⟨46, "HDn_CTRL", 0x10, 0x00F001000000, [(8, 0x100000)], false, false, true, .isl,
     [F.HDn_CTRL_RUN, F.HDn_CTRL_MODE, F.HDn_CTRL_DIV, F.HDn_CTRL_BLANK, F.HDn_CTRL_PREFETCH_LINES]⟩,
    ⟨47, "HDn_STATUS", 0x10, 0x00F001000008, [(8, 0x100000)], false, false, false, .isl,
     [F.HDn_STATUS_STATE, F.HDn_STATUS_LOCKED, F.HDn_STATUS_HOLDOVER, F.HDn_STATUS_FALLBACK, F.HDn_STATUS_SLIP, F.HDn_STATUS_TE_MISS, F.HDn_STATUS_UNDERRUN, F.HDn_STATUS_WRITE_REJ, F.HDn_STATUS_LOCK_RANGE, F.HDn_STATUS_START_ERR, F.HDn_STATUS_LINE]⟩,
    ⟨48, "HDn_H", 0x10, 0x00F001000010, [(8, 0x100000)], true, false, true, .isl,
     [F.HDn_H_HACTIVE, F.HDn_H_HTOTAL, F.HDn_H_HFP, F.HDn_H_HSYNC]⟩,
    ⟨49, "HDn_V", 0x10, 0x00F001000018, [(8, 0x100000)], true, false, true, .isl,
     [F.HDn_V_VACTIVE, F.HDn_V_VTOTAL, F.HDn_V_VFP, F.HDn_V_VSYNC]⟩,
    ⟨50, "HDn_PCLK", 0x10, 0x00F001000020, [(8, 0x100000)], false, false, true, .isl,
     [F.HDn_PCLK_KHZ, F.HDn_PCLK_HSYNC_POS, F.HDn_PCLK_VSYNC_POS, F.HDn_PCLK_BPC]⟩,
    ⟨51, "HDn_TRIM", 0x10, 0x00F001000028, [(8, 0x100000)], false, false, false, .isl,
     [F.HDn_TRIM_TRIM, F.HDn_TRIM_PHASE_ERR]⟩,
    ⟨52, "HDn_AS", 0x10, 0x00F001000030, [(8, 0x100000)], false, false, true, .isl,
     [F.HDn_AS_VTOTAL_MIN, F.HDn_AS_VTOTAL_MAX]⟩,
    ⟨53, "HDn_TE", 0x10, 0x00F001000034, [(8, 0x100000)], false, false, true, .isl,
     [F.HDn_TE_EDGE, F.HDn_TE_MISSES, F.HDn_TE_PERIOD_US]⟩,
    ⟨54, "HDn_FETCH", 0x10, 0x00F001000040, [(8, 0x100000)], true, true, false, .isl,
     [F.HDn_FETCH_DEMAND, F.HDn_FETCH_MIN_LEAD_US]⟩,
    ⟨55, "HDn_URCNT", 0x10, 0x00F001000048, [(8, 0x100000)], true, true, false, .isl,
     [F.HDn_URCNT_COUNT]⟩,
    ⟨56, "HDn_FRAME", 0x10, 0x00F001000050, [(8, 0x100000)], true, true, false, .isl,
     [F.HDn_FRAME_NUMBER]⟩,
    ⟨57, "HDn_FSTART", 0x10, 0x00F001000058, [(8, 0x100000)], true, true, false, .isl,
     [F.HDn_FSTART_ST, F.HDn_FSTART_ST_STATE]⟩,
    ⟨58, "HDn_IRQ", 0x10, 0x00F001000060, [(8, 0x100000)], false, false, false, .isl,
     [F.HDn_IRQ_EN, F.HDn_IRQ_PEND]⟩,
    ⟨59, "HDn_FRPT", 0x10, 0x00F001000100, [(8, 0x100000), (8, 0x20), (4, 0x8)], true, false, false, .isl,
     [F.HDn_FRPT_WORD]⟩,
    ⟨60, "CMP_FETCH_CFG", 0x0C, 0x00F000C00300, [], false, false, true, .isl,
     [F.CMP_FETCH_CFG_GEN_CAP, F.CMP_FETCH_CFG_GEN_EFF]⟩,
    ⟨61, "CMP_FETCH_STATUS", 0x0C, 0x00F000C00308, [], true, true, false, .isl,
     [F.CMP_FETCH_STATUS_AGG_DEMAND, F.CMP_FETCH_STATUS_PAUSES, F.CMP_FETCH_STATUS_PAUSE_WAIT_US]⟩ ]

/-- The registers of chapter 11. -/
def regs11 : List Reg :=
  [ ⟨62, "WIT_HCTRL", 0x18, 0x00F001800100, [(8, 0x10)], false, false, true, .isl,
     [F.WIT_HCTRL_FORCE, F.WIT_HCTRL_RESTORE]⟩,
    ⟨63, "WIT_HSTATUS", 0x18, 0x00F001800108, [(8, 0x10)], false, false, false, .isl,
     [F.WIT_HSTATUS_STATE, F.WIT_HSTATUS_FAIL, F.WIT_HSTATUS_PROOF_CNT, F.WIT_HSTATUS_PROOF_FAIL, F.WIT_HSTATUS_NO_REF, F.WIT_HSTATUS_DECODE]⟩,
    ⟨64, "WIT_RGN", 0x18, 0x00F001801000, [(8, 0x100), (16, 0x10)], true, false, true, .isl,
     [F.WIT_RGN_X, F.WIT_RGN_Y, F.WIT_RGN_W, F.WIT_RGN_H]⟩,
    ⟨65, "WIT_RCFG", 0x18, 0x00F001801008, [(8, 0x100), (16, 0x10)], false, false, true, .isl,
     [F.WIT_RCFG_EN, F.WIT_RCFG_ACTION, F.WIT_RCFG_THRESH, F.WIT_RCFG_CLIP, F.WIT_RCFG_CLASS, F.WIT_RCFG_PENDING, F.WIT_RCFG_REJ]⟩,
    ⟨66, "WIT_SIG", 0x18, 0x00F001808000, [(8, 0x100), (16, 0x10)], true, true, false, .isl,
     [F.WIT_SIG_ACTUAL]⟩,
    ⟨67, "WIT_EXP", 0x18, 0x00F001808008, [(8, 0x100), (16, 0x10)], true, true, false, .isl,
     [F.WIT_EXP_EXPECTED]⟩,
    ⟨68, "WIT_EVT", 0x18, 0x00F001800020, [(2, 0x8)], true, true, false, .isl,
     [F.WIT_EVT_WORD]⟩,
    ⟨69, "WIT_EVT_POP", 0x18, 0x00F001800030, [], false, false, false, .isl,
     [F.WIT_EVT_POP_POP]⟩,
    ⟨70, "WIT_EVT_STATUS", 0x18, 0x00F001800038, [], false, false, false, .isl,
     [F.WIT_EVT_STATUS_COUNT, F.WIT_EVT_STATUS_OVERFLOW, F.WIT_EVT_STATUS_LOST]⟩,
    ⟨71, "WIT_LOAD", 0x18, 0x00F001800040, [], false, false, false, .isl,
     [F.WIT_LOAD_RATE, F.WIT_LOAD_NO_REF_CNT]⟩ ]

/-- The registers of chapter 12. -/
def regs12 : List Reg :=
  [ ⟨72, "HDn_PORT_CFG", 0x10, 0x00F001002000, [(8, 0x100000)], false, false, true, .isl,
     [F.HDn_PORT_CFG_MODE, F.HDn_PORT_CFG_LANES, F.HDn_PORT_CFG_RATE, F.HDn_PORT_CFG_LANE_REV, F.HDn_PORT_CFG_SSC, F.HDn_PORT_CFG_DSI_HPD, F.HDn_PORT_CFG_EVT_EN]⟩,
    ⟨73, "HDn_PORT_STATUS", 0x10, 0x00F001002008, [(8, 0x100000)], false, false, false, .isl,
     [F.HDn_PORT_STATUS_LINK, F.HDn_PORT_STATUS_HPD, F.HDn_PORT_STATUS_CODING, F.HDn_PORT_STATUS_LANES_ACT, F.HDn_PORT_STATUS_RATE_ACT, F.HDn_PORT_STATUS_UNPLUG, F.HDn_PORT_STATUS_IRQ_HPD, F.HDn_PORT_STATUS_RETRAIN, F.HDn_PORT_STATUS_TRAIN_FAIL, F.HDn_PORT_STATUS_EDID_BLOCKS, F.HDn_PORT_STATUS_RETRAINS]⟩,
    ⟨74, "HDn_PANEL", 0x10, 0x00F001002010, [(8, 0x100000)], false, false, true, .isl,
     [F.HDn_PANEL_PWR, F.HDn_PANEL_BL, F.HDn_PANEL_BL_MODE, F.HDn_PANEL_DUTY, F.HDn_PANEL_PWM_HZ]⟩,
    ⟨75, "HDn_PANEL_T", 0x10, 0x00F001002014, [(8, 0x100000)], false, false, true, .isl,
     [F.HDn_PANEL_T_BL_OFF_MS, F.HDn_PANEL_T_OFF_MIN_MS]⟩,
    ⟨76, "HDn_SB_CMD", 0x10, 0x00F001002020, [(8, 0x100000)], false, false, true, .isl,
     [F.HDn_SB_CMD_TARGET, F.HDn_SB_CMD_WRITE, F.HDn_SB_CMD_FAST, F.HDn_SB_CMD_LEN, F.HDn_SB_CMD_ADDR]⟩,
    ⟨77, "HDn_SB_DATA", 0x10, 0x00F001002028, [(8, 0x100000), (4, 0x4)], false, false, false, .isl,
     [F.HDn_SB_DATA_DATA]⟩,
    ⟨78, "HDn_SB_STATUS", 0x10, 0x00F001002038, [(8, 0x100000)], false, false, false, .isl,
     [F.HDn_SB_STATUS_BUSY, F.HDn_SB_STATUS_DONE, F.HDn_SB_STATUS_RESULT]⟩,
    ⟨79, "HDn_EDID", 0x10, 0x00F001002400, [(8, 0x100000), (128, 0x4)], false, false, false, .isl,
     [F.HDn_EDID_BYTES]⟩ ]

/-- The registers of chapter 13. -/
def regs13 : List Reg :=
  [ ⟨80, "PLK_ID", 0x1C, 0x00F001C00000, [], false, false, true, .isl,
     [F.PLK_ID_MODULE_ID, F.PLK_ID_TIME_PRIO]⟩,
    ⟨81, "PLK_CFG", 0x1C, 0x00F001C00008, [], true, true, true, .isl,
     [F.PLK_CFG_ORIG_US, F.PLK_CFG_REQ_TIMEOUT, F.PLK_CFG_COMMIT_LEAD_US, F.PLK_CFG_AUDIO_LAT_US]⟩,
    ⟨82, "PLK_STATUS", 0x1C, 0x00F001C00010, [], true, true, false, .isl,
     [F.PLK_STATUS_MASTER_ID, F.PLK_STATUS_MASTER_HOPS, F.PLK_STATUS_TICK_OK, F.PLK_STATUS_TICK_MISMATCH, F.PLK_STATUS_DUP_ID, F.PLK_STATUS_REACHABLE, F.PLK_STATUS_DROPS]⟩,
    ⟨83, "PLK_TICK", 0x1C, 0x00F001C00018, [], true, true, false, .isl,
     [F.PLK_TICK_PERIOD_Q]⟩,
    ⟨84, "PLK_TICK_NUM", 0x1C, 0x00F001C00020, [], true, true, false, .isl,
     [F.PLK_TICK_NUM_K]⟩,
    ⟨85, "PLK_PORT_CTRL", 0x1C, 0x00F001C00100, [(4, 0x40)], false, false, true, .isl,
     [F.PLK_PORT_CTRL_EN, F.PLK_PORT_CTRL_NRZ_ONLY, F.PLK_PORT_CTRL_RETRAIN]⟩,
    ⟨86, "PLK_PORT_STATUS", 0x1C, 0x00F001C00108, [(4, 0x40)], true, true, false, .isl,
     [F.PLK_PORT_STATUS_STATE, F.PLK_PORT_STATUS_PAM4, F.PLK_PORT_STATUS_PEER_ID, F.PLK_PORT_STATUS_PEER_PORT, F.PLK_PORT_STATUS_DELAY_NS]⟩,
    ⟨87, "PLK_PORT_CNT", 0x1C, 0x00F001C00110, [(4, 0x40)], true, true, false, .isl,
     [F.PLK_PORT_CNT_CW_CORR, F.PLK_PORT_CNT_CW_UNCORR, F.PLK_PORT_CNT_REPLAYS, F.PLK_PORT_CNT_LINK_DOWNS, F.PLK_PORT_CNT_FALLBACKS]⟩,
    ⟨88, "PLK_ROUTE_SEL", 0x1C, 0x00F001C00200, [], false, false, false, .isl,
     [F.PLK_ROUTE_SEL_ID]⟩,
    ⟨89, "PLK_ROUTE", 0x1C, 0x00F001C00204, [], false, false, false, .isl,
     [F.PLK_ROUTE_PORT, F.PLK_ROUTE_VALID, F.PLK_ROUTE_HOPS, F.PLK_ROUTE_SEQ]⟩,
    ⟨90, "PLK_WIN_BASE", 0x1C, 0x00F001C01000, [(32, 0x10)], true, false, true, .isl,
     [F.PLK_WIN_BASE_BASE]⟩,
    ⟨91, "PLK_WIN_CTRL", 0x1C, 0x00F001C01008, [(32, 0x10)], true, false, true, .isl,
     [F.PLK_WIN_CTRL_SIZE_M1, F.PLK_WIN_CTRL_PEER, F.PLK_WIN_CTRL_ANY_PEER, F.PLK_WIN_CTRL_READ, F.PLK_WIN_CTRL_WRITE, F.PLK_WIN_CTRL_EN, F.PLK_WIN_CTRL_SESSIONS]⟩,
    ⟨92, "PLK_AP_CTRL", 0x1C, 0x00F001C02000, [(64, 0x10)], true, false, true, .isl,
     [F.PLK_AP_CTRL_PEER, F.PLK_AP_CTRL_WIN, F.PLK_AP_CTRL_READ, F.PLK_AP_CTRL_WRITE, F.PLK_AP_CTRL_EN, F.PLK_AP_CTRL_FW, F.PLK_AP_CTRL_STATE, F.PLK_AP_CTRL_SIZE_M1]⟩,
    ⟨93, "PLK_AP_DRW", 0x1C, 0x00F001C02008, [(64, 0x10)], true, false, true, .isl,
     [F.PLK_AP_DRW_DRAWERS]⟩,
    ⟨94, "PLK_EXP", 0x1C, 0x00F001C03000, [(16, 0x40), (5, 0x8)], true, false, true, .isl,
     [F.PLK_EXP_WORD]⟩,
    ⟨95, "PLK_EXP_STATUS", 0x1C, 0x00F001C03028, [(16, 0x40)], true, true, false, .isl,
     [F.PLK_EXP_STATUS_SUBS, F.PLK_EXP_STATUS_REFUSED, F.PLK_EXP_STATUS_COALESCED, F.PLK_EXP_STATUS_TILES]⟩,
    ⟨96, "PLK_IMP", 0x1C, 0x00F001C04000, [(16, 0x40), (6, 0x8)], true, false, true, .isl,
     [F.PLK_IMP_WORD]⟩,
    ⟨97, "PLK_IMP_STATUS", 0x1C, 0x00F001C04030, [(16, 0x40)], true, true, false, .isl,
     [F.PLK_IMP_STATUS_STATE, F.PLK_IMP_STATUS_FRONT, F.PLK_IMP_STATUS_BUSY, F.PLK_IMP_STATUS_LATE, F.PLK_IMP_STATUS_GENS]⟩ ]

/-- The registers of chapter 14. -/
def regs14 : List Reg :=
  [ ⟨98, "DMC_INFO", 0x19, 0x00F001900000, [], false, false, false, .isl,
     [F.DMC_INFO_CAP, F.DMC_INFO_RETIRED]⟩,
    ⟨99, "DMC_RGN_A", 0x19, 0x00F001900100, [(8, 0x10)], true, false, true, .isl,
     [F.DMC_RGN_A_BASE_64M, F.DMC_RGN_A_SIZE_64M, F.DMC_RGN_A_CH_OFFSET_MIB, F.DMC_RGN_A_CHMASK]⟩,
    ⟨100, "DMC_RGN_B", 0x19, 0x00F001900108, [(8, 0x10)], false, false, true, .isl,
     [F.DMC_RGN_B_GRAIN_LOG2, F.DMC_RGN_B_ECC, F.DMC_RGN_B_CLASS, F.DMC_RGN_B_EN]⟩,
    ⟨101, "DMC_REF", 0x19, 0x00F001900200, [], false, false, false, .isl,
     [F.DMC_REF_RATE, F.DMC_REF_HOT_CH, F.DMC_REF_HOT]⟩,
    ⟨102, "DMC_RT_CTRL", 0x19, 0x00F001900300, [], false, false, true, .isl,
     [F.DMC_RT_CTRL_PERIOD_MS, F.DMC_RT_CTRL_EN, F.DMC_RT_CTRL_NOW, F.DMC_RT_CTRL_SWEEP, F.DMC_RT_CTRL_MIN_EYE]⟩,
    ⟨103, "DMC_RT_STATUS", 0x19, 0x00F001900308, [], true, true, false, .isl,
     [F.DMC_RT_STATUS_LAST_CH, F.DMC_RT_STATUS_ACTIVE, F.DMC_RT_STATUS_PAUSES, F.DMC_RT_STATUS_SKIPS, F.DMC_RT_STATUS_MAX_PAUSE]⟩,
    ⟨104, "DMC_ECC_STATUS", 0x19, 0x00F001900400, [], true, true, false, .isl,
     [F.DMC_ECC_STATUS_CE, F.DMC_ECC_STATUS_UE, F.DMC_ECC_STATUS_UE_CH]⟩,
    ⟨105, "DMC_ECC_ADDR", 0x19, 0x00F001900408, [], true, true, false, .isl,
     [F.DMC_ECC_ADDR_ADDR, F.DMC_ECC_ADDR_BIT]⟩,
    ⟨106, "DMC_SCRUB", 0x19, 0x00F001900410, [], false, false, true, .isl,
     [F.DMC_SCRUB_EN, F.DMC_SCRUB_SCRUB_US]⟩,
    ⟨107, "DMC_TRN_CTRL", 0x19, 0x00F001901000, [], false, false, false, .isl,
     [F.DMC_TRN_CTRL_CH, F.DMC_TRN_CTRL_ALL, F.DMC_TRN_CTRL_OP, F.DMC_TRN_CTRL_PATTERN, F.DMC_TRN_CTRL_LEN_LOG2, F.DMC_TRN_CTRL_DIR, F.DMC_TRN_CTRL_START, F.DMC_TRN_CTRL_BUSY]⟩,
    ⟨108, "DMC_TRN_PAT", 0x19, 0x00F001901200, [(64, 0x4)], false, false, false, .isl,
     [F.DMC_TRN_PAT_DQ, F.DMC_TRN_PAT_DMI]⟩,
    ⟨109, "DMC_TRN_ERR", 0x19, 0x00F001901100, [(18, 0x4)], false, false, false, .isl,
     [F.DMC_TRN_ERR_COUNT]⟩,
    ⟨110, "DMC_DLY", 0x19, 0x00F001902000, [(16, 0x80), (18, 0x4)], false, false, false, .isl,
     [F.DMC_DLY_RD, F.DMC_DLY_WR]⟩,
    ⟨111, "DMC_VREF", 0x19, 0x00F001902048, [(16, 0x80)], false, false, false, .isl,
     [F.DMC_VREF_CTRL, F.DMC_VREF_DRAM]⟩,
    ⟨112, "DMC_CH_ACC", 0x19, 0x00F001903000, [(16, 0x10)], true, true, false, .isl,
     [F.DMC_CH_ACC_ACCESSES]⟩,
    ⟨113, "DMC_CH_EVT", 0x19, 0x00F001903008, [(16, 0x10)], true, true, false, .isl,
     [F.DMC_CH_EVT_MISSES, F.DMC_CH_EVT_TURNS]⟩ ]

/-- The registers of chapter 15. -/
def regs15 : List Reg :=
  [ ⟨114, "TCH_PNL_CFG", 0x1D, 0x00F001D00100, [(8, 0x40)], true, false, true, .isl,
     [F.TCH_PNL_CFG_MODE, F.TCH_PNL_CFG_DRIVES, F.TCH_PNL_CFG_SENSES, F.TCH_PNL_CFG_RATE_HZ, F.TCH_PNL_CFG_GATE_US, F.TCH_PNL_CFG_SELF_GATE_US, F.TCH_PNL_CFG_WAKE_EN, F.TCH_PNL_CFG_ABSORB, F.TCH_PNL_CFG_PERSIST_S]⟩,
    ⟨115, "TCH_PNL_THR", 0x1D, 0x00F001D00108, [(8, 0x40)], true, false, true, .isl,
     [F.TCH_PNL_THR_TOUCH_THR, F.TCH_PNL_THR_RELEASE_THR, F.TCH_PNL_THR_HOVER_THR, F.TCH_PNL_THR_GLOVE_THR]⟩,
    ⟨116, "TCH_PNL_MAP", 0x1D, 0x00F001D00110, [(8, 0x40)], true, false, true, .isl,
     [F.TCH_PNL_MAP_XSCALE, F.TCH_PNL_MAP_YSCALE, F.TCH_PNL_MAP_XOFF, F.TCH_PNL_MAP_YOFF, F.TCH_PNL_MAP_SWAP, F.TCH_PNL_MAP_XFLIP, F.TCH_PNL_MAP_YFLIP]⟩,
    ⟨117, "TCH_PNL_TEMP", 0x1D, 0x00F001D00118, [(8, 0x40)], false, false, true, .isl,
     [F.TCH_PNL_TEMP_TEMPCO]⟩,
    ⟨118, "TCH_PNL_STATUS", 0x1D, 0x00F001D00120, [(8, 0x40)], true, true, false, .isl,
     [F.TCH_PNL_STATUS_STATE, F.TCH_PNL_STATUS_TOUCHES, F.TCH_PNL_STATUS_BASE_FRESH, F.TCH_PNL_STATUS_ABSENT_EVT, F.TCH_PNL_STATUS_SUSPECT_EVT, F.TCH_PNL_STATUS_PERSIST_EVT, F.TCH_PNL_STATUS_OVERFLOW, F.TCH_PNL_STATUS_ABOVE, F.TCH_PNL_STATUS_SCAN_SEQ]⟩,
    ⟨119, "TCH_PNL_CMD", 0x1D, 0x00F001D00128, [(8, 0x40)], false, false, true, .isl,
     [F.TCH_PNL_CMD_REBASE, F.TCH_PNL_CMD_EVT_EN]⟩,
    ⟨120, "TCH_LINE_RET", 0x1D, 0x00F001D00130, [(8, 0x40), (2, 0x8)], true, false, true, .isl,
     [F.TCH_LINE_RET_RETIRED]⟩,
    ⟨121, "TCH_RGN", 0x1D, 0x00F001D02000, [(256, 0x10)], true, false, true, .isl,
     [F.TCH_RGN_X, F.TCH_RGN_Y, F.TCH_RGN_W, F.TCH_RGN_H]⟩,
    ⟨122, "TCH_RCFG", 0x1D, 0x00F001D02008, [(256, 0x10)], true, false, true, .isl,
     [F.TCH_RCFG_PANEL, F.TCH_RCFG_EN, F.TCH_RCFG_OWNER, F.TCH_RCFG_SLOT, F.TCH_RCFG_EFFECT, F.TCH_RCFG_TRIGGER, F.TCH_RCFG_FWD, F.TCH_RCFG_WAKE, F.TCH_RCFG_REMOTE_OK, F.TCH_RCFG_HOVER, F.TCH_RCFG_PRIO, F.TCH_RCFG_FWD_ID, F.TCH_RCFG_FWD_RGN]⟩,
    ⟨123, "TCH_NODE", 0x1D, 0x00F001D10000, [(8, 0x8000), (40, 0x200), (72, 0x4)], false, false, false, .isl,
     [F.TCH_NODE_COMP, F.TCH_NODE_BASE]⟩,
    ⟨124, "TCH_FWQ", 0x1D, 0x00F001D00800, [(4, 0x8)], true, true, false, .isl,
     [F.TCH_FWQ_WORD]⟩,
    ⟨125, "TCH_FWQ_STATUS", 0x1D, 0x00F001D00820, [], false, false, false, .isl,
     [F.TCH_FWQ_STATUS_POP, F.TCH_FWQ_STATUS_COUNT, F.TCH_FWQ_STATUS_LOST]⟩,
    ⟨126, "DRW_TCH_RING", 0x00, 0x00F02001C000, [(64, 0x40000)], true, false, false, .drw,
     [F.DRW_TCH_RING_SIZE_LOG2, F.DRW_TCH_RING_BASE]⟩,
    ⟨127, "DRW_TCH_CTRL", 0x00, 0x00F02001C008, [(64, 0x40000)], false, false, false, .drw,
     [F.DRW_TCH_CTRL_EN, F.DRW_TCH_CTRL_VECTOR]⟩,
    ⟨128, "DRW_TCH_POS", 0x00, 0x00F02001C010, [(64, 0x40000)], true, true, false, .drw,
     [F.DRW_TCH_POS_WRITTEN, F.DRW_TCH_POS_CONSUMED]⟩,
    ⟨129, "DRW_TCH_CONS", 0x00, 0x00F02001C018, [(64, 0x40000)], false, false, false, .drw,
     [F.DRW_TCH_CONS_VALUE]⟩,
    ⟨130, "DRW_TCH_STAT", 0x00, 0x00F02001C01C, [(64, 0x40000)], false, false, false, .drw,
     [F.DRW_TCH_STAT_LOST, F.DRW_TCH_STAT_RESYNC]⟩ ]

/-- The registers of chapter 16. -/
def regs16 : List Reg :=
  [ ⟨131, "HAP_CH_CFG", 0x1E, 0x00F001E00100, [(8, 0x20)], true, false, true, .isl,
     [F.HAP_CH_CFG_R_COIL, F.HAP_CH_CFG_F0_HZ, F.HAP_CH_CFG_F_MIN_HZ, F.HAP_CH_CFG_F_MAX_HZ, F.HAP_CH_CFG_STOP_MV, F.HAP_CH_CFG_CLR]⟩,
    ⟨132, "HAP_CH_THERM", 0x1E, 0x00F001E00108, [(8, 0x20)], false, false, true, .isl,
     [F.HAP_CH_THERM_I2T_LIMIT, F.HAP_CH_THERM_TAU_DS]⟩,
    ⟨133, "HAP_CH_STATUS", 0x1E, 0x00F001E00110, [(8, 0x20)], true, true, false, .isl,
     [F.HAP_CH_STATUS_PHASE, F.HAP_CH_STATUS_EFFECT, F.HAP_CH_STATUS_WAITING, F.HAP_CH_STATUS_THERM_LOCK, F.HAP_CH_STATUS_OPEN, F.HAP_CH_STATUS_SHORT, F.HAP_CH_STATUS_FREQ, F.HAP_CH_STATUS_E]⟩,
    ⟨134, "HAP_CH_CNT", 0x1E, 0x00F001E00118, [(8, 0x20)], true, true, false, .isl,
     [F.HAP_CH_CNT_REFUSED, F.HAP_CH_CNT_REPLACED, F.HAP_CH_CNT_BRAKE_TIMEOUT, F.HAP_CH_CNT_BUDGET_LIM]⟩,
    ⟨135, "HAP_TRIG", 0x1E, 0x00F001E00010, [], false, false, false, .isl,
     [F.HAP_TRIG_CHANNEL, F.HAP_TRIG_EFFECT, F.HAP_TRIG_GO]⟩ ]

/-- The registers of chapter 17. -/
def regs17 : List Reg :=
  [ ⟨136, "AUD_CFG", 0x1F, 0x00F001F00000, [], false, false, true, .isl,
     [F.AUD_CFG_RATE, F.AUD_CFG_CLK_SRC, F.AUD_CFG_MCLK_OUT]⟩,
    ⟨137, "AUD_STATUS", 0x1F, 0x00F001F00008, [], true, true, false, .isl,
     [F.AUD_STATUS_FRAME_ST, F.AUD_STATUS_ST_STATE]⟩,
    ⟨138, "AUD_PORT", 0x1F, 0x00F001F00100, [(4, 0x10)], false, false, true, .isl,
     [F.AUD_PORT_EN, F.AUD_PORT_I2S, F.AUD_PORT_MASTER, F.AUD_PORT_DELAY, F.AUD_PORT_SLIPS]⟩,
    ⟨139, "AUD_MIX", 0x1F, 0x00F001F00400, [(8, 0x40), (16, 0x4)], false, false, true, .isl,
     [F.AUD_MIX_SRC, F.AUD_MIX_GAIN]⟩,
    ⟨140, "AUD_OUT", 0x1F, 0x00F001F00800, [(32, 0x8)], false, false, true, .isl,
     [F.AUD_OUT_SRC, F.AUD_OUT_VOL, F.AUD_OUT_RAMP_MS, F.AUD_OUT_EQ_EN, F.AUD_OUT_LOCK]⟩,
    ⟨141, "AUD_CAP", 0x1F, 0x00F001F00A00, [(16, 0x8)], true, false, true, .isl,
     [F.AUD_CAP_SRC]⟩,
    ⟨142, "AUD_SEND", 0x1F, 0x00F001F00B00, [(4, 0x10)], false, false, true, .isl,
     [F.AUD_SEND_EN, F.AUD_SEND_DEST_ID, F.AUD_SEND_RSTREAM, F.AUD_SEND_CHANNELS]⟩,
    ⟨143, "AUD_SEND_SEL", 0x1F, 0x00F001F00B08, [(4, 0x10)], true, false, true, .isl,
     [F.AUD_SEND_SEL_SRC]⟩,
    ⟨144, "AUD_RECV", 0x1F, 0x00F001F00B80, [(4, 0x8)], true, true, true, .isl,
     [F.AUD_RECV_EN, F.AUD_RECV_SRC_ID, F.AUD_RECV_ANY, F.AUD_RECV_LATE, F.AUD_RECV_SLIPS]⟩,
    ⟨145, "AUD_VOICE", 0x1F, 0x00F001F00C00, [(8, 0x10)], true, false, true, .isl,
     [F.AUD_VOICE_ASSET, F.AUD_VOICE_LOOP, F.AUD_VOICE_FORCE, F.AUD_VOICE_DUCK_DB, F.AUD_VOICE_OUT_VOL, F.AUD_VOICE_GAIN, F.AUD_VOICE_PLAY, F.AUD_VOICE_STOP, F.AUD_VOICE_PLAYING]⟩,
    ⟨146, "AUD_VOICE_MASK", 0x1F, 0x00F001F00C08, [(8, 0x10)], false, false, true, .isl,
     [F.AUD_VOICE_MASK_OUT_MASK]⟩,
    ⟨147, "AUD_BQ_SWAP", 0x1F, 0x00F001F00E00, [], false, false, true, .isl,
     [F.AUD_BQ_SWAP_MASK]⟩,
    ⟨148, "AUD_BQ", 0x1F, 0x00F001F10000, [(32, 0x200), (10, 0x20), (5, 0x4)], false, false, false, .isl,
     [F.AUD_BQ_COEF]⟩,
    ⟨149, "DRW_AUD_CFG", 0x00, 0x00F02001E000, [(64, 0x40000), (32, 0x10)], false, false, false, .drw,
     [F.DRW_AUD_CFG_EN, F.DRW_AUD_CFG_QUEUE, F.DRW_AUD_CFG_CHANNELS, F.DRW_AUD_CFG_FORMAT, F.DRW_AUD_CFG_MODULE]⟩,
    ⟨150, "DRW_AUD_STATUS", 0x00, 0x00F02001E008, [(64, 0x40000), (32, 0x10)], true, true, false, .drw,
     [F.DRW_AUD_STATUS_XRUN, F.DRW_AUD_STATUS_GAP, F.DRW_AUD_STATUS_FIRST_ST]⟩ ]

/-- The registers of chapter 18. -/
def regs18 : List Reg :=
  [ ⟨151, "CCL_CORE", 0x02, 0x00F000200100, [(4, 0x10)], false, false, false, .isl,
     [F.CCL_CORE_SLEEP, F.CCL_CORE_WAKE, F.CCL_CORE_STATE, F.CCL_CORE_REFUSED, F.CCL_CORE_WORLD]⟩,
    ⟨152, "RTx_CTRL", 0x03, 0x00F000300000, [(2, 0x100000)], false, false, false, .isl,
     [F.RTx_CTRL_SLEEP, F.RTx_CTRL_WAKE, F.RTx_CTRL_STATE, F.RTx_CTRL_REFUSED, F.RTx_CTRL_MISMATCHES]⟩,
    ⟨153, "ICU_SRC", 0x20, 0x00F002001000, [(512, 0x4)], false, false, true, .isl,
     [F.ICU_SRC_PRIO, F.ICU_SRC_DIST, F.ICU_SRC_LEVEL, F.ICU_SRC_WORLD, F.ICU_SRC_TGT_CC, F.ICU_SRC_TGT_RT, F.ICU_SRC_PENDING, F.ICU_SRC_OFFERED, F.ICU_SRC_INSERVICE, F.ICU_SRC_CTX, F.ICU_SRC_LAST]⟩,
    ⟨154, "ICU_PEND", 0x20, 0x00F002000100, [(16, 0x4)], false, false, false, .isl,
     [F.ICU_PEND_PENDING]⟩,
    ⟨155, "ICU_SET", 0x20, 0x00F002000180, [], false, false, false, .isl,
     [F.ICU_SET_ID]⟩,
    ⟨156, "ICU_GDIS", 0x20, 0x00F002000000, [], false, false, true, .isl,
     [F.ICU_GDIS_GDIS]⟩,
    ⟨157, "ICU_STATUS", 0x20, 0x00F002000008, [], true, true, false, .isl,
     [F.ICU_STATUS_AWAKE, F.ICU_STATUS_WAKING, F.ICU_STATUS_BAD_COMPLETE, F.ICU_STATUS_WITHDRAWN, F.ICU_STATUS_WAKES]⟩,
    ⟨158, "ICU_THRESH", 0x20, 0x00F002002000, [(10, 0x100)], false, false, false, .isl,
     [F.ICU_THRESH_THRESH]⟩,
    ⟨159, "ICU_CLAIM", 0x20, 0x00F002002004, [(10, 0x100)], false, false, false, .isl,
     [F.ICU_CLAIM_ID]⟩,
    ⟨160, "ICU_COMPLETE", 0x20, 0x00F002002008, [(10, 0x100)], false, false, false, .isl,
     [F.ICU_COMPLETE_ID]⟩,
    ⟨161, "HUT_ICU_EN", 0x01, 0x00F000100100, [], true, false, true, .por,
     [F.HUT_ICU_EN_EN]⟩,
    ⟨162, "HUT_ICU_PEND", 0x01, 0x00F000100108, [], true, true, false, .por,
     [F.HUT_ICU_PEND_PENDING]⟩,
    ⟨163, "HUT_ICU_CLAIM", 0x01, 0x00F000100110, [], false, false, false, .por,
     [F.HUT_ICU_CLAIM_ID]⟩,
    ⟨164, "HUT_DBELL", 0x01, 0x00F000100200, [], false, false, false, .por,
     [F.HUT_DBELL_RING]⟩ ]

/-- The registers of chapter 19. -/
def regs19 : List Reg :=
  [ ⟨165, "CAB_LC", 0x21, 0x00F002100000, [], false, false, true, .mod,
     [F.CAB_LC_STATE, F.CAB_LC_NEXT, F.CAB_LC_KEY_KILLED, F.CAB_LC_TARGET, F.CAB_LC_REQ_ERR]⟩,
    ⟨166, "CAB_FUSE", 0x21, 0x00F002100008, [], false, false, true, .mod,
     [F.CAB_FUSE_SVN_FLOOR, F.CAB_FUSE_REVOKED, F.CAB_FUSE_ROOT_SLOT, F.CAB_FUSE_RAISE_TO, F.CAB_FUSE_REVOKE, F.CAB_FUSE_FUSE_ERR, F.CAB_FUSE_BUSY]⟩,
    ⟨167, "CAB_EVT", 0x21, 0x00F002100010, [], false, false, false, .mod,
     [F.CAB_EVT_PARTNER_A, F.CAB_EVT_PARTNER_B, F.CAB_EVT_LC_DONE, F.CAB_EVT_DBG_OPEN, F.CAB_EVT_DBG_CLOSE, F.CAB_EVT_FUSE_DONE, F.CAB_EVT_EN]⟩,
    ⟨168, "CAB_OWN", 0x21, 0x00F002100100, [(8, 0x4)], false, false, true, .mod,
     [F.CAB_OWN_OWN]⟩,
    ⟨169, "CAB_USE", 0x21, 0x00F002100140, [(8, 0x4)], false, false, true, .mod,
     [F.CAB_USE_USE]⟩,
    ⟨170, "CAB_RGN_BASE", 0x21, 0x00F002101000, [(32, 0x10)], true, false, true, .mod,
     [F.CAB_RGN_BASE_BASE]⟩,
    ⟨171, "CAB_RGN_CFG", 0x21, 0x00F002101008, [(32, 0x10)], true, false, true, .mod,
     [F.CAB_RGN_CFG_SIZE_M1, F.CAB_RGN_CFG_EN, F.CAB_RGN_CFG_CAB_R, F.CAB_RGN_CFG_CAB_W, F.CAB_RGN_CFG_OPEN_R, F.CAB_RGN_CFG_OPEN_W, F.CAB_RGN_CFG_KINDS, F.CAB_RGN_CFG_LOCK]⟩,
    ⟨172, "DBG_CTRL", 0x29, 0x00F002900000, [], false, false, false, .por,
     [F.DBG_CTRL_CMD, F.DBG_CTRL_SIZE64]⟩,
    ⟨173, "DBG_STATUS", 0x29, 0x00F002900004, [], false, false, false, .por,
     [F.DBG_STATUS_STATE, F.DBG_STATUS_BUSY, F.DBG_STATUS_RESULT, F.DBG_STATUS_FAILS, F.DBG_STATUS_MIN_LEFT]⟩,
    ⟨174, "DBG_ACC_ADDR", 0x29, 0x00F002900008, [], true, true, false, .por,
     [F.DBG_ACC_ADDR_ADDR]⟩,
    ⟨175, "DBG_ACC_DATA", 0x29, 0x00F002900010, [], true, true, false, .por,
     [F.DBG_ACC_DATA_DATA]⟩,
    ⟨176, "DBG_ID", 0x29, 0x00F002900020, [(2, 0x8)], true, true, false, .por,
     [F.DBG_ID_ID]⟩,
    ⟨177, "DBG_BUF", 0x29, 0x00F002900040, [(72, 0x4)], false, false, false, .por,
     [F.DBG_BUF_WORD]⟩ ]

/-- The registers of chapter 20. -/
def regs20 : List Reg :=
  [ ⟨178, "PWR_REQ", 0x22, 0x00F002200000, [], false, false, true, .por,
     [F.PWR_REQ_TARGET, F.PWR_REQ_SEQ]⟩,
    ⟨179, "PWR_STATUS", 0x22, 0x00F002200008, [], true, true, false, .por,
     [F.PWR_STATUS_STATE, F.PWR_STATUS_PHASE, F.PWR_STATUS_TARGET, F.PWR_STATUS_NEXT, F.PWR_STATUS_NEXT_VALID, F.PWR_STATUS_CUR_SEQ, F.PWR_STATUS_NEXT_SEQ, F.PWR_STATUS_LAST_SEQ]⟩,
    ⟨180, "PWR_CFG", 0x22, 0x00F002200010, [], false, false, true, .por,
     [F.PWR_CFG_STATES, F.PWR_CFG_ENTRY_MS]⟩,
    ⟨181, "PWR_PADREL", 0x22, 0x00F002200018, [], false, false, true, .por,
     [F.PWR_PADREL_HELD]⟩,
    ⟨182, "PWR_CNT", 0x22, 0x00F002200100, [(3, 0x8)], true, true, false, .por,
     [F.PWR_CNT_REFUSED, F.PWR_CNT_ABORTED, F.PWR_CNT_LAST_REFUSER, F.PWR_CNT_LAST_BLOCK]⟩,
    ⟨183, "PWR_OUTCOME", 0x22, 0x00F002200200, [(8, 0x8)], true, true, false, .por,
     [F.PWR_OUTCOME_SEQ, F.PWR_OUTCOME_TARGET, F.PWR_OUTCOME_RESULT, F.PWR_OUTCOME_REFUSER, F.PWR_OUTCOME_BLOCK, F.PWR_OUTCOME_KIND, F.PWR_OUTCOME_WORLD]⟩,
    ⟨184, "TIM_ST", 0x22, 0x00F002280000, [], true, true, false, .por,
     [F.TIM_ST_ST]⟩,
    ⟨185, "TIM_STATUS", 0x22, 0x00F002280008, [], true, true, false, .por,
     [F.TIM_STATUS_STATE, F.TIM_STATUS_SOURCE, F.TIM_STATUS_SLEWING, F.TIM_STATUS_BEHIND, F.TIM_STATUS_UNC]⟩,
    ⟨186, "TIM_CFG", 0x22, 0x00F002280010, [], false, false, true, .isl,
     [F.TIM_CFG_TIME_REF, F.TIM_CFG_DRIFT_PPB]⟩,
    ⟨187, "TIM_PPS", 0x22, 0x00F002280018, [], true, true, false, .por,
     [F.TIM_PPS_EDGE_ST]⟩,
    ⟨188, "TIM_PPS_ARM", 0x22, 0x00F002280020, [], true, true, true, .isl,
     [F.TIM_PPS_ARM_SEC, F.TIM_PPS_ARM_ARMED]⟩,
    ⟨189, "TIM_CAL", 0x22, 0x00F002280028, [], true, true, false, .por,
     [F.TIM_CAL_RATIO]⟩,
    ⟨190, "TIM_ALARM", 0x22, 0x00F002280030, [], true, true, true, .isl,
     [F.TIM_ALARM_ST, F.TIM_ALARM_EN]⟩ ]

/-- The registers of chapter 21. -/
def regs21 : List Reg :=
  [ ⟨191, "FAB_ERR_Q", 0x05, 0x00F000580000, [(64, 0x10)], true, true, false, .por,
     [F.FAB_ERR_Q_COUNT, F.FAB_ERR_Q_OLDEST, F.FAB_ERR_Q_OVERFLOW, F.FAB_ERR_Q_LOST, F.FAB_ERR_Q_LOST_CODE, F.FAB_ERR_Q_NEXT_SEQ]⟩,
    ⟨192, "FAB_ERR_ACK", 0x05, 0x00F000580008, [(64, 0x10)], false, false, false, .por,
     [F.FAB_ERR_ACK_SEQ]⟩,
    ⟨193, "FAB_ERR_REC", 0x05, 0x00F000590000, [(64, 0x400), (16, 0x40), (5, 0x8)], true, true, false, .por,
     [F.FAB_ERR_REC_WORD]⟩,
    ⟨194, "FAB_ERR_ISL", 0x05, 0x00F0005A0000, [(16, 0x4)], false, false, false, .por,
     [F.FAB_ERR_ISL_RESETS, F.FAB_ERR_ISL_IN_WINDOW, F.FAB_ERR_ISL_LAST_ESC, F.FAB_ERR_ISL_IN_PROGRESS]⟩,
    ⟨195, "FAB_ERR_MOD", 0x05, 0x00F0005A0100, [], true, true, false, .por,
     [F.FAB_ERR_MOD_DOMAIN, F.FAB_ERR_MOD_CODE, F.FAB_ERR_MOD_ACTION, F.FAB_ERR_MOD_SAFE, F.FAB_ERR_MOD_RESTARTS]⟩,
    ⟨196, "FAB_ERR_SWREP", 0x05, 0x00F0005A0200, [], true, true, true, .por,
     [F.FAB_ERR_SWREP_DOMAIN, F.FAB_ERR_SWREP_CODE, F.FAB_ERR_SWREP_CLASS, F.FAB_ERR_SWREP_SOURCE, F.FAB_ERR_SWREP_GO]⟩ ]

/-- The registers of chapter 22. -/
def regs22 : List Reg :=
  [ ⟨197, "ADL_STATUS", 0x23, 0x00F002300000, [], true, true, false, .por,
     [F.ADL_STATUS_NEXT_SEQ, F.ADL_STATUS_START, F.ADL_STATUS_BUF, F.ADL_STATUS_FULL]⟩,
    ⟨198, "ADL_CFG", 0x23, 0x00F002300008, [], false, false, true, .por,
     [F.ADL_CFG_FLUSH_MARK, F.ADL_CFG_WARN_PCT]⟩,
    ⟨199, "ADL_RING", 0x23, 0x00F002300010, [], true, true, false, .por,
     [F.ADL_RING_HELD, F.ADL_RING_NEAR_WRAP, F.ADL_RING_OVERWRITTEN, F.ADL_RING_STALLS]⟩,
    ⟨200, "ADL_MARK", 0x23, 0x00F002300018, [], true, true, true, .por,
     [F.ADL_MARK_SEQ, F.ADL_MARK_START]⟩,
    ⟨201, "ADL_RD_POS", 0x23, 0x00F002300020, [], true, true, false, .por,
     [F.ADL_RD_POS_SEQ, F.ADL_RD_POS_START, F.ADL_RD_POS_HELD]⟩,
    ⟨202, "ADL_RD", 0x23, 0x00F002300040, [(4, 0x8)], true, true, false, .por,
     [F.ADL_RD_WORD]⟩,
    ⟨203, "ADL_SEAL", 0x23, 0x00F002300060, [(8, 0x8)], true, true, false, .por,
     [F.ADL_SEAL_WORD]⟩ ]

/-- The registers of chapter 23. -/
def regs23 : List Reg :=
  [ ⟨204, "CRC_CTRL", 0x24, 0x00F002400000, [(4, 0x100)], false, false, false, .isl,
     [F.CRC_CTRL_POLY, F.CRC_CTRL_INIT, F.CRC_CTRL_IE, F.CRC_CTRL_DONE, F.CRC_CTRL_MATCH, F.CRC_CTRL_BUSY]⟩,
    ⟨205, "CRC_DATA", 0x24, 0x00F002400008, [(4, 0x100), (3, 0x4)], false, false, false, .isl,
     [F.CRC_DATA_DATA]⟩,
    ⟨206, "CRC_VAL", 0x24, 0x00F002400020, [(4, 0x100)], true, true, false, .isl,
     [F.CRC_VAL_VAL]⟩,
    ⟨207, "CRC_RESULT", 0x24, 0x00F002400028, [(4, 0x100)], true, true, false, .isl,
     [F.CRC_RESULT_RESULT]⟩,
    ⟨208, "CRC_EXPECT", 0x24, 0x00F002400030, [(4, 0x100)], true, true, false, .isl,
     [F.CRC_EXPECT_EXPECT]⟩,
    ⟨209, "CRC_COUNT", 0x24, 0x00F002400038, [(4, 0x100)], true, true, false, .isl,
     [F.CRC_COUNT_COUNT, F.CRC_COUNT_LEN]⟩ ]

/-- The registers of chapter 24. -/
def regs24 : List Reg :=
  [ ⟨210, "PMU_CTRL", 0x25, 0x00F002500000, [], false, false, false, .isl,
     [F.PMU_CTRL_FREEZE_OPEN, F.PMU_CTRL_FREEZE_CAB, F.PMU_CTRL_FRZ_OVF_OPEN, F.PMU_CTRL_FRZ_OVF_CAB]⟩,
    ⟨211, "PMU_TRIG", 0x25, 0x00F002500008, [], true, true, false, .isl,
     [F.PMU_TRIG_ST, F.PMU_TRIG_FRZ, F.PMU_TRIG_ARM]⟩,
    ⟨212, "PMU_SNAP_STATUS", 0x25, 0x00F002500010, [], false, false, false, .isl,
     [F.PMU_SNAP_STATUS_VALID, F.PMU_SNAP_STATUS_LATE, F.PMU_SNAP_STATUS_ST_STATE, F.PMU_SNAP_STATUS_SEQ]⟩,
    ⟨213, "PMU_OVF", 0x25, 0x00F002500020, [(4, 0x4)], false, false, false, .isl,
     [F.PMU_OVF_OVF]⟩,
    ⟨214, "PMU_SNAP_OVF", 0x25, 0x00F002500030, [(4, 0x4)], false, false, false, .isl,
     [F.PMU_SNAP_OVF_OVF]⟩,
    ⟨215, "PMU_SMP_PC", 0x25, 0x00F002500100, [(4, 0x10)], true, true, false, .isl,
     [F.PMU_SMP_PC_PC]⟩,
    ⟨216, "PMU_SMP_INFO", 0x25, 0x00F002500108, [(4, 0x10)], false, false, false, .isl,
     [F.PMU_SMP_INFO_COUNTER, F.PMU_SMP_INFO_MODE, F.PMU_SMP_INFO_TRAP, F.PMU_SMP_INFO_LOST, F.PMU_SMP_INFO_VALID]⟩,
    ⟨217, "PMU_EVSEL", 0x25, 0x00F002501000, [(128, 0x8)], false, false, false, .isl,
     [F.PMU_EVSEL_BLOCK, F.PMU_EVSEL_EVENT, F.PMU_EVSEL_SUB, F.PMU_EVSEL_EN, F.PMU_EVSEL_IE, F.PMU_EVSEL_SAMPLE, F.PMU_EVSEL_WORLD]⟩,
    ⟨218, "PMU_EVFILT", 0x25, 0x00F002501004, [(128, 0x8)], false, false, false, .isl,
     [F.PMU_EVFILT_DRW_FILT]⟩,
    ⟨219, "PMU_CNT", 0x25, 0x00F002502000, [(128, 0x8)], true, true, false, .isl,
     [F.PMU_CNT_COUNT]⟩,
    ⟨220, "PMU_SNAP", 0x25, 0x00F002503000, [(128, 0x8)], true, true, false, .isl,
     [F.PMU_SNAP_COUNT]⟩,
    ⟨221, "PMU_BW_CFG", 0x25, 0x00F002504000, [(24, 0x20)], true, true, false, .isl,
     [F.PMU_BW_CFG_WINDOW, F.PMU_BW_CFG_EN, F.PMU_BW_CFG_STEPPED, F.PMU_BW_CFG_WSEQ]⟩,
    ⟨222, "PMU_BW_RD", 0x25, 0x00F002504008, [(24, 0x20)], true, true, false, .isl,
     [F.PMU_BW_RD_BYTES]⟩,
    ⟨223, "PMU_BW_WR", 0x25, 0x00F002504010, [(24, 0x20)], true, true, false, .isl,
     [F.PMU_BW_WR_BYTES]⟩,
    ⟨224, "PMU_BW_PEAK", 0x25, 0x00F002504018, [(24, 0x20)], true, true, false, .isl,
     [F.PMU_BW_PEAK_BYTES]⟩ ]

/-- The registers of chapter 25. -/
def regs25 : List Reg :=
  [ ⟨225, "BST_DESC", 0x26, 0x00F002600000, [(4, 0x8)], true, false, true, .isl,
     [F.BST_DESC_WORD]⟩,
    ⟨226, "BST_GO", 0x26, 0x00F002600020, [], false, false, true, .isl,
     [F.BST_GO_GO]⟩,
    ⟨227, "BST_STATUS", 0x26, 0x00F002600028, [], false, false, false, .isl,
     [F.BST_STATUS_BUSY, F.BST_STATUS_HOST_BUSY, F.BST_STATUS_REASON, F.BST_STATUS_MAP_COUNT, F.BST_STATUS_MAP_FULL]⟩,
    ⟨228, "BST_RESULT0", 0x26, 0x00F002600100, [(2, 0x40)], true, true, false, .isl,
     [F.BST_RESULT0_KIND, F.BST_RESULT0_CAUSE, F.BST_RESULT0_COVERAGE, F.BST_RESULT0_DRAM_SLICE, F.BST_RESULT0_DURATION_US]⟩,
    ⟨229, "BST_RESULT1", 0x26, 0x00F002600108, [(2, 0x40)], true, true, false, .isl,
     [F.BST_RESULT1_FIRST_ADDR]⟩,
    ⟨230, "BST_RESULT2", 0x26, 0x00F002600110, [(2, 0x40)], true, true, false, .isl,
     [F.BST_RESULT2_FIRST_BIT, F.BST_RESULT2_FIRST_MEM, F.BST_RESULT2_FAILS]⟩,
    ⟨231, "BST_RESULT3", 0x26, 0x00F002600118, [(2, 0x40)], true, true, false, .isl,
     [F.BST_RESULT3_END_ST, F.BST_RESULT3_ST_STATE]⟩,
    ⟨232, "BST_MAP", 0x26, 0x00F002600200, [(64, 0x8)], true, true, false, .isl,
     [F.BST_MAP_MEM, F.BST_MAP_STATE, F.BST_MAP_BIT, F.BST_MAP_LINE]⟩,
    ⟨233, "HPx_BIST_GO", 0x1A, 0x00F001A00420, [(2, 0x100000)], false, false, true, .prt,
     [F.HPx_BIST_GO_GO]⟩,
    ⟨234, "HPx_BIST_DESC", 0x1A, 0x00F001A00400, [(2, 0x100000), (4, 0x8)], true, false, false, .prt,
     [F.HPx_BIST_DESC_WORD]⟩ ]

/-- Every register of the device. -/
def regMap : List Reg :=
  regs02 ++ regs03 ++ regs05 ++ regs06 ++ regs07 ++ regs08 ++ regs09 ++ regs10 ++ regs11 ++ regs12 ++ regs13 ++ regs14 ++ regs15 ++ regs16 ++ regs17 ++ regs18 ++ regs19 ++ regs20 ++ regs21 ++ regs22 ++ regs23 ++ regs24 ++ regs25

end Sys2Proof.Machine
end

