-- ==== Sys2Proof/Machine/Types.lean ====
section
/-! DEFINITION. The records of the device's state that are not register fields: origins, held accesses, pins, the input
supervisor, the start sequence, non-volatile records, fuses, errors, audit, power and life cycle. Every field that
has a value at reset other than the spec's is named in the assumption log. -/

namespace Sys2Proof.Machine

/-- Origin kinds of Table 22.2. -/
inductive OKind where
  | loader | hutch | core | rt | mediator | drawer | peer | debug | autonomous
  deriving DecidableEq, Repr, Inhabited

/-- The KIND number of Table 22.2. -/
def OKind.num : OKind → Nat
  | .loader => 0 | .hutch => 1 | .core => 2 | .rt => 3 | .mediator => 4
  | .drawer => 5 | .peer => 6 | .debug => 7 | .autonomous => 8

/-- An origin (R139, Table 22.2). `cab` is the world bit of R603; a part that does not apply to the kind is 0. -/
structure Origin where
  kind : OKind := .autonomous
  cab : Bool := false
  port : Nat := 0
  fn : Nat := 0
  core : Nat := 0
  peer : Nat := 0
  deriving DecidableEq, Repr, Inhabited

/-- The origin word of Table 22.2 (R682). -/
def Origin.word (o : Origin) : Nat :=
  o.kind.num * 2 ^ 28 + b2n o.cab * 2 ^ 27 + (o.port % 2) * 2 ^ 26 + (o.fn % 64) * 2 ^ 20
    + (o.core % 8) * 2 ^ 17 + (o.peer % 2 ^ 14) * 2 ^ 3

/-- Hardware acting on its own: origin kind 8 (R682). -/
def Origin.hw : Origin := { kind := .autonomous, cab := true }
/-- The Hutch core: Cabinet world (Table 19.1). -/
def Origin.hutch : Origin := { kind := .hutch, cab := true }
/-- RTA (0) or RTB (1): always Cabinet (Table 19.1). -/
def Origin.rt (n : Nat) : Origin := { kind := .rt, cab := true, core := n }
/-- Application core `n` in M mode (`cab`) or in S or U mode. -/
def Origin.cc (n : Nat) (cab : Bool) : Origin := { kind := .core, cab := cab, core := n }
/-- The mediator of host port `p`: Open (Table 19.1). -/
def Origin.mediator (p : Nat) : Origin := { kind := .mediator, port := p }
/-- Drawer `d` (R18): VF number `d mod 32 + 1` of its port. -/
def Origin.ofDrawer (d : Nat) : Origin := { kind := .drawer, port := d / 32, fn := d % 32 + 1 }

/-- A half of a paired 64-bit register held for an origin (R139). -/
structure Latch where
  origin : Origin
  reg : Nat
  idx : Nat
  write : Bool
  value : Nat
  deriving DecidableEq, Repr, Inhabited

/-- A register access that waits at its block's serialisation point (R141, R685): `data` is `none` for a read, and `audited` tells a
write that waits for its own entry. -/
structure Held where
  origin : Origin
  addr : Nat
  size : Nat
  data : Option Nat
  audited : Bool := false
  deriving DecidableEq, Repr, Inhabited

/-- What a read returned, to whom. -/
structure ReadData where
  origin : Origin
  addr : Nat
  value : Nat
  deriving DecidableEq, Repr, Inhabited

/-- A transaction that a host port issues, in issue order (R146: record after data, MSI-X after record): a posted write with its Relaxed
Ordering bit (Table 5.1), a read request, a message, a completion. -/
inductive HostOut where
  | write (addr : Nat) (data : List Byte) (relaxed : Bool)
  | read (addr n : Nat)
  | msix (fn vector : Nat)
  | pme (fn : Nat)
  | cplOk (value : Nat)
  | retryStatus
  deriving DecidableEq, Repr, Inhabited

/-- Causes that drive FAULT_N low (R63): throttle level 4, both copies rejected, a module-level error, and the causes
that the image's error policy adds (FAULT_ADD bit, Table 21.5). -/
inductive FaultCause where
  | throttle4 | bothRejected | moduleError | policy (bit : Nat)
  deriving DecidableEq, Repr, Inhabited

/-- Causes of a power-off in the coding of LAST_OFF (Table 2.14). -/
inductive OffCause where
  | orderly | removal | inputLoss | pwrEnDrop | thermalTrip | noRecord
  deriving DecidableEq, Repr, Inhabited

/-- LAST_OFF code (Table 2.14). -/
def OffCause.code : OffCause → Nat
  | .orderly => 0 | .removal => 1 | .inputLoss => 2 | .pwrEnDrop => 3 | .thermalTrip => 4 | .noRecord => 15

/-- Where the device is between OFF and running (R45, R52, R57, R82). -/
inductive Phase where
  | off | starting | running | shutdown | emergency (cause : OffCause)
  deriving DecidableEq, Repr, Inhabited

/-- The pins of J1 and of the panel connectors that the spec gives a level (R48, R63 to R70, R433). The `N` pins are
held as levels: `true` is high or released. -/
structure Pins where
  prsntN : Bool := true
  pwrEn : Bool := false
  wakeN : Bool := true
  slotId : Nat := 0
  perstN : List Bool := [false, false]
  ppsIn : Bool := false
  aliveReleased : Bool := true
  faultCauses : List FaultCause := []
  ppsOut : Bool := false
  ppsOutFall : Nat := 0
  frameSync : Bool := false
  frameSyncFall : Nat := 0
  panelPwrEn : BitVec 8 := 0
  blEn : BitVec 8 := 0
  blPwmDuty : List (Nat × Nat) := []
  outputsHiZ : Bool := true
  padsHeldEmergency : Bool := false
  peWakeLow : List Bool := [false, false]
  deriving DecidableEq, Repr, Inhabited

/-- The input supervisor (R43 to R51): powered from 12V_PRE, outside every power domain. -/
structure Supervisor where
  powered : Bool := false
  precharging : Bool := false
  mainSwitch : Bool := false
  inputMv : Nat := 0
  armed : Bool := false
  qualified : Bool := false
  deriving DecidableEq, Repr, Inhabited

/-- One section of an image copy: its directory entry (Table 3.3) and its bytes as stored. -/
structure Section where
  type : Nat := 0
  flags : Nat := 0
  offset : Nat := 0
  length : Nat := 0
  reserved : Nat := 0
  digest : Nat := 0
  body : List Byte := []
  deriving DecidableEq, Repr, Inhabited

/-- What the bytes of an image copy say (Table 3.2): the header fields, the bytes that the signature covers, and the sections in
directory order. -/
structure ImageCopy where
  magic : Nat := 0
  format : Nat := 0
  sectionCount : Nat := 0
  imageLen : Nat := 0
  svn : Nat := 0
  buildId : Nat := 0
  part : Nat := 0
  signerKey : List Byte := []
  signature : List Byte := []
  covered : List Byte := []
  sections : List Section := []
  deriving DecidableEq, Repr, Inhabited

/-- Life-cycle states (R620) in the coding of CAB_LC.STATE. -/
inductive LifeCycle where
  | blank | provisioned | field | service | retired
  deriving DecidableEq, Repr, Inhabited

/-- CAB_LC.STATE code. -/
def LifeCycle.code : LifeCycle → Nat
  | .blank => 0 | .provisioned => 1 | .field => 2 | .service => 3 | .retired => 4

/-- A fuse burn in progress (R623). -/
inductive Burn where
  | provisioned | toField | toRetired | svn (floor : Nat) | revoke (mask : Nat)
  deriving DecidableEq, Repr, Inhabited

/-- The fuses (Table 19.3, R620): provisioned items, revocation, floor, life-cycle pairs, device ID, order code. Key
values themselves cannot be read by any master (R617) and are not held as numbers. -/
structure Fuses where
  rootDigest : List (Nat × List Byte) := []
  decryptKeySet : Bool := false
  deviceKeySet : Bool := false
  revoked : Nat := 0
  svnFloor : Nat := 0
  pairProvisioned : Bool := false
  pairField : Bool := false
  pairRetired : Bool := false
  keyKill : Bool := false
  deviceId : Nat := 0
  capX32 : Bool := false
  pmaxC64 : Bool := false
  burns : List Burn := []
  deriving DecidableEq, Repr, Inhabited

/-- An audit entry (Table 22.1). -/
structure AuditEntry where
  st : Nat := 0
  stState : Nat := 2
  seq : Nat := 0
  origin : Nat := 0
  addr : Nat := 0
  old : Nat := 0
  new : Nat := 0
  start : Nat := 0
  type : Nat := 0
  refused : Bool := false
  high : Bool := false
  copy : Nat := 0
  reason : Nat := 0
  deriving DecidableEq, Repr, Inhabited

/-- A seal record (Table 22.3) without VERDICT, which is recomputed on every read (R690). -/
structure Seal where
  block : Nat := 0
  firstSeq : Nat := 0
  start : Nat := 0
  count : Nat := 0
  cause : Nat := 0
  handle : Nat := 0
  prevTag : Nat := 0
  mac : Nat := 0
  deriving DecidableEq, Repr, Inhabited

/-- A block of the MRAM ring (R686): its entries in log order and its seal once it is sealed. -/
structure Block where
  entries : List AuditEntry := []
  sealRec : Option Seal := none
  deriving DecidableEq, Repr, Inhabited

/-- A test results record (Table 25.5, the words of BST_RESULT). -/
structure TestRecord where
  kind : Nat := 255
  cause : Nat := 15
  coverage : Nat := 0
  slice : Nat := 0
  durationUs : Nat := 0
  firstAddr : Nat := 0
  firstBit : Nat := 0
  firstMem : Nat := 0
  fails : Nat := 0
  endSt : Nat := 0
  stState : Nat := 2
  deriving DecidableEq, Repr, Inhabited

/-- A repair-map entry (R722, Table of BST_MAP): memory, line, bit, state 1 PENDING, 2 REPAIRED, 3 UNREPAIRABLE. -/
structure Repair where
  mem : Nat := 0
  line : Nat := 0
  bit : Nat := 0
  state : Nat := 0
  deriving DecidableEq, Repr, Inhabited

/-- The SERVICE record of R624. -/
structure ServiceRecord where
  deviceId : Nat := 0
  serial : Nat := 0
  rootDigest : Nat := 0
  sealOk : Bool := true
  deriving DecidableEq, Repr, Inhabited

/-- The baseline record of a panel (R520): plate temperature when it was written, baselines by node, CRC good. -/
structure BaseRec where
  temp : Int := 0
  base : List (Nat × Nat) := []
  valid : Bool := true
  deriving DecidableEq, Repr, Inhabited

/-- The training record of a channel (R504): read and write delays of its 18 bits, Vref codes of controller and device, RATE, CRC good. -/
structure TrainRec where
  rd : List Nat := []
  wr : List Nat := []
  ctrl : Nat := 0
  dram : Nat := 0
  rate : Nat := 0
  valid : Bool := true
  deriving DecidableEq, Repr, Inhabited

/-- What MRAM keeps through OFF (R686): the audit ring and the other records. -/
structure Mram where
  ring : List Block := []
  ringSlots : Nat := 16384
  sealedBlocks : Nat := 0
  lastOff : OffCause := .noRecord
  startCount : Nat := 0
  markSeq : Nat := 0
  markStart : Nat := 0
  closing : TestRecord := {}
  opening : TestRecord := {}
  repairs : List Repair := []
  training : List (Nat × TrainRec) := []
  baselines : List (Nat × BaseRec) := []
  service : Option ServiceRecord := none
  marchSlice : Nat := 0
  badCells : List Nat := []
  deriving DecidableEq, Repr, Inhabited

/-- The on-die audit buffer (R683): entries accepted and not yet copied, oldest first, and the start of the open block. -/
structure Adl where
  buf : List AuditEntry := []
  blockOpen : Bool := false
  handle : Nat := 0
  keyDerived : Bool := false
  flushAt : Option Nat := none
  deriving DecidableEq, Repr, Inhabited

/-- An error record (Table 21.3). -/
structure ErrRec where
  domain : Nat := 0
  code : Nat := 0
  cls : Nat := 0
  drawer : Option Nat := none
  source : Nat := 0
  action : Nat := 0
  count : Nat := 1
  origin : Nat := 0
  seq : Nat := 0
  firstSt : Nat := 0
  firstState : Nat := 0
  lastSt : Nat := 0
  lastState : Nat := 0
  detail : Nat := 0
  deriving DecidableEq, Repr, Inhabited

/-- A detected error, before it is recorded. -/
structure ErrIn where
  domain : Nat
  code : Nat
  source : Nat := 0
  origin : Nat := 0
  drawer : Option Nat := none
  detail : Nat := 0
  action : Nat := 0
  cls : Option Nat := none
  deriving DecidableEq, Repr, Inhabited

/-- A write of a register that has a row of its own: address, block, old and new value, whether audited and 64 bits wide. -/
structure RegWrite where
  addr : Nat
  blk : Nat
  old : Nat := 0
  new : Nat := 0
  audited : Bool := true
  wide : Bool := false
  /-- In the error window or the TIM window: no ownership of its block's (R658). -/
  free : Bool := false
  /-- Bits of IMG fields that the write attempts (R118). -/
  img : Nat := 0
  /-- Further audit entries that its effect makes. -/
  more : Nat := 0
  deriving DecidableEq, Repr, Inhabited

/-- The queue of one error domain (R657): slot of the oldest record and the unacknowledged records, oldest first. -/
structure ErrQ where
  head : Nat := 0
  recs : List ErrRec := []
  deriving DecidableEq, Repr, Inhabited

/-- The reset units and islands of Table 21.4. -/
inductive ResetUnit where
  | bg (g : Nat) | rtPair (n : Nat) | head (n : Nat) | witIsland
  | gpuIsland | coreIsland | perIsland | hostIsland | plkIsland | tchIsland
  deriving DecidableEq, Repr, Inhabited

/-- An ISLAND-class reset called for and not yet made (R667), with whether it came from an escalation (R665). -/
structure ResetDue where
  unit : ResetUnit
  domain : Nat
  code : Nat
  esc : Bool
  deriving DecidableEq, Repr, Inhabited

/-- Error-recovery state beside the error registers (R659 to R677): due and running resets, the heads that ran when theirs began, the times of resets within the
reset window, RESTART times, a MOD reset called for, and the POLICY values with their defaults. -/
structure ErrState where
  queues : List (Nat × ErrQ) := []
  due : List ResetDue := []
  running : List ResetUnit := []
  headsRan : List Nat := []
  resetTimes : List (Nat × Nat) := []
  restartTimes : List Nat := []
  modResetDue : Bool := false
  moduleAction : Nat := 1
  faultAdd : Nat := 0
  windowMs : Nat := 1000
  limit : Nat := 3
  overrides : List (Nat × Nat) := []
  drawerLog : List (Nat × List ErrRec) := []
  drawerLogDropped : List (Nat × Nat) := []
  deriving DecidableEq, Repr, Inhabited

/-- A power request: its sequence number, target and origin (R635). -/
structure PwrReq where
  seq : Nat := 0
  target : Nat := 0
  origin : Origin := {}
  deriving DecidableEq, Repr, Inhabited

/-- The power manager and the time base beside their registers (R632 to R655): the transition in progress and the next slot,
each with the requests merged with it, the last request of each origin, the save area (values of the registers that R354, R412 and R599 name), the ST latch of an entry; what is left to
slew (positive inserts, negative skips) of which `behind` is a backward set, PPS edges in a row within 20 ns; CLOCK_POWER values; the
GPU clock in force and the limits that the haptic reserve (R24) and the 120 W average (R25) put on it; GEN_EFF as throttle level 2 and
as R25 lower it, none where they do not. -/
structure Pm where
  inProgress : Option PwrReq := none
  /-- Throttle levels below whose thresholds both temperatures are by 3 °C or more, and since when (R79). -/
  cool : List (Nat × Nat) := []
  merged : List Nat := []
  next : Option PwrReq := none
  nextMerged : List Nat := []
  lastSeqOf : List (Origin × Nat) := []
  seqCount : Nat := 0
  saved : List (Nat × Nat) := []
  st0 : Nat := 0
  c0 : Nat := 0
  unc0 : Nat := 0
  inv0 : Bool := false
  slew : Int := 0
  behind : Nat := 0
  slewPhase : Nat := 0
  uncFrac : Nat := 0
  ppsEdges : Nat := 0
  ppsAt : Nat := 0
  calN : Nat := 0
  calSt : Nat := 0
  drainAt : Nat := 0
  secRun : Bool := false
  gpuMhzCap : Nat := 1750
  gpuMhz : Nat := 1750
  reserveMhz : Nat := 1750
  averageMhz : Nat := 1750
  genThrottle : Option Nat := none
  genAverage : Option Nat := none
  wakeNEn : Bool := false
  tchWakeEn : Bool := false
  frameSyncPlyn : Bool := false
  ppsOutUs : Nat := 100000
  hapReserve : Bool := false
  deriving DecidableEq, Repr, Inhabited

/-- Operations on the provisioning registers (Table 19.3, column Set by; Table 19.6). -/
inductive ProvOp where
  | rootDigest (slot : Nat) (digest : List Byte)
  | decryptKey
  | svnFloor (n : Nat)
  | burnProvisioned
  deriving DecidableEq, Repr, Inhabited

/-- A debug session (R630): its origin, the certificate's SERIAL, when it opened and MAX_MIN. -/
structure Session where
  origin : Origin := {}
  serial : Nat := 0
  openedAt : Nat := 0
  maxMin : Nat := 0
  deriving DecidableEq, Repr, Inhabited

/-- Debug and life-cycle state beside CAB and DBG (R617 to R631). -/
structure Dbg where
  nonce : Option (List Byte) := none
  nonceAt : Nat := 0
  verifying : Option (List Byte × Bool) := none
  session : Option Session := none
  dbgRoots : Nat := 0
  rootDigests : List (List Byte) := []
  tapInstr : Nat := 0x3F
  tapCapture : Nat := 0
  boundary : Nat := 0
  pinsDriven : Bool := false
  pinsHiZ : Bool := false
  deriving DecidableEq, Repr, Inhabited

/-- A core's timer compares and sleep (R582, R584). -/
structure CoreTimers where
  mtimecmp : Option Nat := none
  stimecmp : Option Nat := none
  deriving DecidableEq, Repr, Inhabited

/-- The control cores beside CCL_CORE and RTx_CTRL (R580 to R585, R613 to R616): targets 0 to 3 CC0 to CC3, 4 RTA, 5
RTB, 6 the Hutch core; timer compares, interrupts fired, world-switch effects, core counters held, and a sleeping Hutch. -/
structure Cores where
  timers : List (Nat × CoreTimers) := []
  timerIrq : List Nat := []
  extLine : List Nat := []
  regsZeroed : List Nat := []
  tlbCabValid : List Nat := []
  countersStopped : List Nat := []
  hutchWfi : Bool := false
  restartAt : List (Nat × Nat) := []
  sleptFor : List Nat := []
  deriving DecidableEq, Repr, Inhabited

/-- What an unlisted byte of device memory reads as: MOD resets made so far (R734), and ranges, newest first, that have been undefined
(`some` number of the free values, R263) or all zero (`none`) since they were last written as a whole. -/
structure MemRest where
  epoch : Nat := 0
  ranges : List (Nat × Nat × Option Nat) := []
  deriving DecidableEq, Repr, Inhabited

/-! ### Operands of commands -/

/-- What the ROM finds of a section besides its bytes: a flash read error that one retry did not cure (R90). -/
structure SecCheck where
  readErr : Bool := false
  deriving DecidableEq, Repr, Inhabited

/-- What the ROM finds of a header besides its bytes: a flash read error, and that of IDENTITY. -/
structure HdrCheck where
  readErr : Bool := false
  ident : SecCheck := {}
  deriving DecidableEq, Repr, Inhabited

/-- A host access. -/
structure BarAccess where
  port : PortId
  /-- Function: 0 is PF0, n is VF n. -/
  fn : Fin 33
  /-- BAR2 rather than BAR0. -/
  bar2 : Bool
  off : Nat
  n : Nat
  data : Option (List Byte)
  deriving DecidableEq, Repr


/-- What the training of a channel found at start (R505): the record's CRC, the errors and windows of the fast path's LOOP, and the result
of a full training, none where the channel cannot be trained. -/
structure ChanTrain where
  ch : ChanId
  crcOk : Bool
  errs : List Nat
  eyes : List (Nat × Nat)
  full : Option TrainRec
  deriving DecidableEq, Repr

/-- What an emergency trigger is (R57); `tooHigh` for an input above 15.0 V. -/
inductive Trigger where
  | removal | inputLoss (tooHigh : Bool) | pwrEnDrop
  deriving DecidableEq, Repr

/-! ### Drawers, timelines and commands (chapters 5 and 6) -/

/-- A Drawer template (Table 5.4). -/
structure Template where
  id : Nat := 0
  assured : Bool := false
  nonpreempt : Bool := false
  onA : Bool := false
  onB : Bool := false
  replay : Bool := false
  placeholder : Bool := false
  migrate : Bool := false
  maxInstances : Nat := 1
  queues : Nat := 1
  layers : Nat := 0
  headMask : Nat := 0
  gpuMin : Nat := 0
  gpuMax : Nat := 0
  timelines : Nat := 1
  heapMib : Nat := 64
  heapRegion : Nat := 0
  audioPlay : Nat := 0
  audioCap : Nat := 0
  touchRegions : Nat := 0
  drainMs : Nat := 1
  placeholderAsset : Nat := 0
  raw : List Byte := []
  deriving DecidableEq, Repr, Inhabited

/-- A MUTABLE entry (Table 3.9). -/
structure Mutable where
  blk : Nat := 0
  ports : Nat := 0
  off : Nat := 0
  mask : Nat := 0
  deriving DecidableEq, Repr, Inhabited

/-- A fence timeline (R211 to R217): value, ABANDONED, owning Drawer and local index, Drawers granted a wait. -/
structure Timeline where
  value : Nat := 0
  abandoned : Bool := false
  owner : Option Nat := none
  index : Nat := 0
  grants : List Nat := []
  deriving DecidableEq, Repr, Inhabited

/-- Causes of a Drawer reset in the codes of Table 5.21. -/
inductive ResetCause where
  | reset | flr | prt | destroy | vfDisable
  deriving DecidableEq, Repr, Inhabited

/-- CAUSE code (Table 5.21). -/
def ResetCause.code : ResetCause → Nat
  | .reset => 0 | .flr => 1 | .prt => 2 | .destroy => 3 | .vfDisable => 4

/-- Rank for merged requests: PRT, VF_DISABLE, DESTROY, FLR, RESET, highest first (R203). -/
def ResetCause.rank : ResetCause → Nat
  | .reset => 0 | .flr => 1 | .destroy => 2 | .vfDisable => 3 | .prt => 4

/-- A Drawer reset in progress (R194 to R203): cause, whether still DRAIN, whether status words are written to host memory,
whether the Drawer ends FREE, commands squashed so far, the DRAIN deadline, the sequence number, Journal records (of the reserve and
shared) to free at its end, the SHARE that was active when it began (R306). -/
structure ResetJob where
  cause : ResetCause := .reset
  drain : Bool := false
  hostWrites : Bool := true
  toFree : Bool := false
  squashed : Nat := 0
  deadline : Nat := 0
  seq : Nat := 0
  rsvCtx : Nat := 0
  rsvShared : Nat := 0
  share : Nat := 0
  deriving DecidableEq, Repr, Inhabited

/-- A QUIESCE or SAVE that waits for work in flight (R189, R190). -/
structure QuiesceJob where
  save : Bool := false
  deadline : Nat := 0
  tag : Nat := 0
  deriving DecidableEq, Repr, Inhabited

/-- Dirty logging of a Drawer (R186 to R188): the two heap bitmaps as lists of 64 KiB granules, and the host log ring. -/
structure DirtyLog where
  active : List Nat := []
  retired : List Nat := []
  ringAddr : Nat := 0
  ringEntries : Nat := 512
  written : Nat := 0
  sinceSwap : Nat := 0
  overflow : Bool := false
  deriving DecidableEq, Repr, Inhabited

/-- One MSI-X vector with its moderation (R180 to R184). -/
structure MsixVec where
  addr : Nat := 0
  data : Nat := 0
  masked : Bool := true
  pendingBit : Bool := false
  events : Nat := 0
  timerFrom : Option Nat := none
  frozenUs : Nat := 0
  deriving DecidableEq, Repr, Inhabited

/-- A function's MSI-X, power-management and AER state (R181 to R185, Table 5.1): `aer` is its uncorrectable error status. -/
structure PciFn where
  vecs : List (Nat × MsixVec) := []
  fnMask : Bool := false
  d3hot : Bool := false
  pmeStatus : Bool := false
  pmeEn : Bool := false
  aer : Nat := 0
  deriving DecidableEq, Repr, Inhabited

/-- What the host configured of a port before it set VF Enable (Table 5.1): System Page Size (64 KiB or 4 KiB), Max Payload Size
(128 x 2^mps bytes, up to 512), Max Read Request Size (128 x 2^mrrs, up to 4096) and Enable Relaxed Ordering. -/
structure PciCfg where
  page64 : Bool := false
  mps : Fin 3 := 0
  mrrs : Fin 6 := 2
  relaxed : Bool := true
  deriving DecidableEq, Repr, Inhabited

/-- What a write of a function's PMCSR carries beside PowerState (R183): PME_En, and a 1 to PME_Status, which clears it. -/
structure Pmcsr where
  pmeEn : Bool := false
  clear : Bool := false
  deriving DecidableEq, Repr, Inhabited

/-- How a host read of the module ends badly (R159). -/
inductive HostReadEnd where
  | timeout | unsupported | poisoned
  deriving DecidableEq, Repr

/-- Where a fetched command stands (R210, R211, R218, R230). -/
inductive CmdStage where
  | fetched | running | finished | reported
  deriving DecidableEq, Repr, Inhabited

/-- A quad of a primitive (R271 to R273): the pixel (even coordinates of the target) at its top left, the Bench that shaded it, and what its
fragment program put out. -/
structure Quad where
  x : Nat := 0
  y : Nat := 0
  bench : Nat := 0
  out : List Byte := []
  deriving DecidableEq, Repr, Inhabited

/-- A primitive of a pass in API order (R256): the draw of the stream that it belongs to, the tiles that it touches (R263) and its quads
in the order in which the Benches finish them. -/
structure Prim where
  draw : Nat := 0
  tiles : List Nat := []
  quads : List Quad := []
  deriving DecidableEq, Repr, Inhabited

/-- How a PASS runs (chapter 7): mode, Bench groups that an immediate pass is mapped over (R268) and those that it occupies, primitives in API order, primitives binned
before the last flush, the draw stream, for each draw its place in the stream and V of its vertex program, tiles taken (group and tile), written back, with their tile-done bit set, and
committed, the contents of tiles in tile memory, flush count, Tray and signature-table ranges. -/
structure PassRun where
  tiled : Bool := true
  tilesX : Nat := 0
  tilesY : Nat := 0
  groups : List Nat := []
  occ : List Nat := []
  prims : List Prim := []
  binned : Nat := 0
  stream : List Byte := []
  draws : List (Nat × Nat) := []
  nextTile : Nat := 0
  inTile : List (Nat × Nat) := []
  retake : List Nat := []
  written : List Nat := []
  wroteBy : List (Nat × Nat) := []
  mapped : List Nat := []
  done : List Nat := []
  content : List (Nat × List (List Byte)) := []
  flushes : Nat := 0
  footprint : Nat := 0
  trayBase : Nat := 0
  traySize : Nat := 0
  sigs : List (Nat × Nat) := []
  sigValid : List Nat := []
  sigWritten : List Nat := []
  deriving DecidableEq, Repr, Inhabited

/-- A command of a Drawer queue from its fetch to the release of its record (R205 to R241). -/
structure Cmd where
  queue : Nat := 0
  seq : Nat := 0
  entry : List Byte := []
  bodyKnown : Bool := true
  stage : CmdStage := .fetched
  state : Nat := 0
  attempt : Nat := 0
  code : Nat := 0
  committed : Nat := 0
  total : Nat := 0
  started : Bool := false
  visible : Bool := false
  signalled : Bool := false
  statusOk : Bool := true
  source : Nat := 16
  rsvCtx : Nat := 0
  rsvShared : Nat := 0
  replayable : Bool := true
  startedAt : Nat := 0
  runNs : Nat := 0
  postedAt : Nat := 0
  postedCommitted : Nat := 0
  pass : PassRun := {}
  aux : List Nat := []
  deriving DecidableEq, Repr, Inhabited

/-- A Drawer beside its registers (chapter 5); numbers 64 and 65 hold the commands of CX-COMP and CX-SAFE (Table 8.1). -/
structure Drw where
  heapBase : Nat := 0
  saveBase : Nat := 0
  heapSize : Nat := 0
  tlIds : List Nat := []
  fn : PciFn := {}
  reset : Option ResetJob := none
  quiesce : Option QuiesceJob := none
  dirty : Option DirtyLog := none
  gerrRaised : Bool := false
  cmds : List Cmd := []
  everEnabled : Bool := false
  /-- QUIESCED was reached by QUIESCE, not by SAVE (R192). -/
  byQuiesce : Bool := false
  layerSlots : Nat := 0
  streams : List Nat := []
  /-- Queues that wait for Journal records (R233): at fetch (none), or for the rest of a command's at its dispatch. -/
  fetchStall : List (Nat × Option Nat) := []
  deriving DecidableEq, Repr, Inhabited

/-- A Drawer event record (Table 5.21). -/
structure DrwEvent where
  drawer : Nat := 0
  cause : Nat := 0
  mode : Nat := 0
  seq : Nat := 0
  squashed : Nat := 0
  st : Nat := 0
  stState : Nat := 0
  deriving DecidableEq, Repr, Inhabited

/-- A mailbox request (Table 5.5) and its payload. -/
structure MbxReq where
  opcode : Nat := 0
  drawer : Nat := 0
  tag : Nat := 0
  length : Nat := 0
  payload : List Byte := []
  deriving DecidableEq, Repr, Inhabited

/-- A mailbox response (Table 5.6). -/
structure MbxRsp where
  result : Nat := 0
  tag : Nat := 0
  detail : Nat := 0
  payload : List Byte := []
  deriving DecidableEq, Repr, Inhabited

/-- The request a mailbox serves: its opcode, tag and Drawer within the port, whether it waits for work to end, and the response once
it is ready. -/
structure MbxJob where
  opcode : Nat := 0
  tag : Nat := 0
  drawer : Nat := 0
  waiting : Bool := false
  rsp : Option MbxRsp := none
  deriving DecidableEq, Repr, Inhabited

/-- The new image of IMAGE_BEGIN and IMAGE_DATA: its length and bytes, and how far its commit has come: copy B being written, then copy A
(R120, R173). -/
structure PartialImage where
  len : Nat := 0
  bytes : List (Nat × Byte) := []
  stage : Nat := 0
  deriving DecidableEq, Repr, Inhabited

/-- A host port beside its registers (R88, R156 to R166, R203, R204). -/
structure HostPort where
  linkUp : Bool := false
  inReset : Bool := true
  vfEnable : Bool := false
  vf2Log2 : Nat := 26
  apRegions : Nat := 0
  job : Option MbxJob := none
  request : List (Nat × Byte) := []
  response : List (Nat × Byte) := []
  events : List DrwEvent := []
  eventsDropped : Nat := 0
  pf : PciFn := {}
  image : Option PartialImage := none
  cfg : PciCfg := {}
  /-- The function whose error stands in the AER header log that PF0 and its VFs share (Table 5.1). -/
  aerLog : Option Nat := none
  deriving DecidableEq, Repr, Inhabited

/-- Completion Collector and Journal beside their registers (R229 to R234, R242): entries held by each source, records used
of each context's reserve and of the shared pool, and the Cabinet-world counts of JNL_COUNT. -/
structure JnlState where
  ccHeld : List (Nat × Nat) := []
  ctxUsed : List (Nat × Nat) := []
  sharedUsed : Nat := 0
  records : List (List Byte) := []
  cabReplays : Nat := 0
  cabLimit : Nat := 0
  cabRetry : Nat := 0
  cabStall : Nat := 0
  deriving DecidableEq, Repr, Inhabited

end Sys2Proof.Machine
end

