-- ==== Sys2Proof/Machine/LinkTypes.lean ====
section
/-! DEFINITION. The records of PlynLink that are not register fields (chapter 13). -/

namespace Sys2Proof.Machine

/-- A PlynLink message (Table 13.3). -/
structure Msg where
  type : Nat := 0
  dlen : Nat := 0
  dest : Nat := 0
  toLocal : Bool := false
  src : Nat := 0
  hops : Nat := 0
  aux : Nat := 0
  arg : Nat := 0
  data : List Byte := []
  deriving DecidableEq, Repr, Inhabited

/-- What concerns management messages (R483): one arrives on a port, firmware of a world sends one, or takes the oldest of its queue. -/
inductive MgmtEvent where
  | arrive (p : PlkPort) (m : Msg)
  | send (cab : Bool) (dest : Fin 16384) (tag : Fin 256) (data : List Byte)
  | take (cab : Bool)
  deriving DecidableEq, Repr

/-- A flit (Table 13.2); the CRC is computed from its bytes. -/
structure Flit where
  kind : Nat := 0
  seq : Nat := 0
  ack : Nat := 0
  ackValid : Bool := false
  nak : Bool := false
  crClass : Nat := 0
  crCount : Nat := 0
  msgs : List Msg := []
  deriving DecidableEq, Repr, Inhabited

/-- A port beside its registers (R443 to R450, R459): kept in NRZ, the next SEQ sent and expected, DATA flits not yet acknowledged,
a NAK sent for the replay awaited, NAKs in a row of one SEQ, credits per class, messages that wait for credit, the class served last
of 3 to 5, credit withheld while STAGE is full, a LEAVE that waits for outstanding requests (since when, and its reason), uncorrectable
codewords in a row, and when its training began. -/
structure PlkPortRt where
  nrz : Bool := false
  txSeq : Nat := 0
  unacked : List (Nat × List Msg) := []
  rxNext : Nat := 0
  nakOut : Bool := false
  nakSeq : Nat := 4096
  nakRun : Nat := 0
  credit : List (Nat × Nat) := []
  waiting : List Msg := []
  lastClass : Nat := 5
  heldCredit : Nat := 0
  leaving : Option (Nat × Nat) := none
  uncRun : Nat := 0
  trainAt : Nat := 0
  deriving DecidableEq, Repr, Inhabited

/-- A stored route (R452 to R456); hops 63 is unreachable. `freshAt` is when an entry last replaced it. -/
structure Route where
  port : Nat := 0
  hops : Nat := 63
  seq : Nat := 0
  prio : Nat := 0
  freshAt : Nat := 0
  deriving DecidableEq, Repr, Inhabited

/-- A session of a peer on an exported window (R468). -/
structure PeerSession where
  id : Nat := 0
  win : Nat := 0
  peer : Nat := 0
  read : Bool := false
  write : Bool := false
  deriving DecidableEq, Repr, Inhabited

/-- A remote request of this module (R469 to R471): its tag once it is issued, aperture, byte mask of a partial write, the origin,
address and size of a core access or the command (Drawer, queue, sequence number) and unit that it serves, the offset of its first
granule and its length, the data of a write or, once it is done, of a read, and when it was issued. -/
structure RemoteReq where
  tag : Option Nat := none
  ap : Nat := 0
  write : Bool := false
  mask : Option Nat := none
  origin : Origin := {}
  addr : Nat := 0
  size : Nat := 0
  cmd : Option (Nat × Nat × Nat) := none
  off : Nat := 0
  len : Nat := 0
  data : List Byte := []
  done : Bool := false
  issuedAt : Nat := 0
  deriving DecidableEq, Repr, Inhabited

/-- A subscriber of an export (R476, R482). -/
structure Subscriber where
  peer : Nat := 0
  tx0 : Nat := 0
  ty0 : Nat := 0
  tw : Nat := 0
  th : Nat := 0
  resync : Bool := true
  inGen : Bool := false
  acked : Bool := false
  deriving DecidableEq, Repr, Inhabited

/-- An export beside its registers: the last V started, the generation in flight, its subscribers, and when its GEN_END went out. -/
structure ExportRt where
  last : Nat := 0
  gen : Option Nat := none
  subs : List Subscriber := []
  endAt : Nat := 0
  deriving DecidableEq, Repr, Inhabited

/-- An import beside its registers (R477 to R482): staged tiles with their encoded bytes, those complete, the low 16 bits of V of the
tiles, GEN_END once it came (V, FORMAT, WIDTH, HEIGHT), tiles changed in the previous generation, GEN_COMMITs that wait for their
instant (V, ST), an answer that stops or delays SUBSCRIBE, and when SUBSCRIBE was last sent. -/
structure ImportRt where
  v16 : Option Nat := none
  staged : List (Nat × List Byte) := []
  complete : List Nat := []
  ended : Option (Nat × Nat × Nat × Nat) := none
  changed : List Nat := []
  commits : List (Nat × Nat) := []
  retry : Bool := false
  stopped : Bool := false
  sentAt : Nat := 0
  deriving DecidableEq, Repr, Inhabited

/-- PlynLink beside its registers: ports, routes, the last SEQ originated, when it was originated and the table last sent whole, the
self-set of R651, good exchanges in a row, whether the parent answered within 10 ms, when it answered and when it was asked, whether the
tick of PLK_TICK_NUM has occurred, sessions, session of each aperture, apertures whose OPEN waits for its answer, when each sent its OPEN,
requests, exports, imports, MGMT queues and MGMT messages sent, and the flits sent. -/
structure Plk where
  ports : List (Nat × PlkPortRt) := []
  routes : List (Nat × Route) := []
  ownSeq : Nat := 0
  origAt : Nat := 0
  tableAt : Nat := 0
  started : Bool := false
  selfFrom : Option Nat := none
  goodEx : Nat := 0
  parentOk : Bool := false
  rspAt : Nat := 0
  syncAt : Nat := 0
  ticked : Bool := false
  sessions : List PeerSession := []
  apSession : List (Nat × Nat) := []
  opening : List Nat := []
  openAt : List (Nat × Nat) := []
  reqs : List RemoteReq := []
  nextTag : Nat := 0
  exports : List (Nat × ExportRt) := []
  imports : List (Nat × ImportRt) := []
  mgmt : List (Nat × List Msg) := []
  mgmtSent : List Msg := []
  slotOffset : Bool := false
  tokenKey : List Byte := []
  out : List (Nat × Flit) := []
  deriving DecidableEq, Repr, Inhabited

/-- A request that waits for its admission to the FIFO of a paused DRAM channel (R496, R508): a master's access, a host's access to a BAR2,
or a peer's access that came by PlynLink. -/
inductive Stalled where
  | access (o : Origin) (blk a n : Nat) (data : Option (List Byte))
  | bar (x : BarAccess)
  | peer (m : Msg)
  deriving DecidableEq, Repr

end Sys2Proof.Machine
end

