-- ==== Sys2Proof/Machine/PerTypes.lean ====
section
/-! DEFINITION. The records of touch, haptics and audio that are not register fields (chapters 15 to 17). -/

namespace Sys2Proof.Machine

/-- A haptic effect (Table 16.1). -/
structure Effect where
  urgent : Bool := false
  track : Bool := false
  attackMs : Nat := 0
  sustainMs : Nat := 0
  brakeMs : Nat := 1
  freqHz : Nat := 50
  aAttack : Nat := 0
  aSustain : Nat := 0
  aBrake : Nat := 1
  deriving DecidableEq, Repr, Inhabited

/-- A haptic channel beside its registers: the effect that waits, drive frequency in quarters of a Hz, E of R551 in half units of
10^-10 A2s, whether the bridge is at high impedance, when the phase and the drive began, and when the waiting effect was triggered. -/
structure HapCh where
  waiting : Option Nat := none
  freq4 : Int := 0
  e : Nat := 0
  hiZ : Bool := true
  phaseAt : Nat := 0
  driveAt : Nat := 0
  waitAt : Nat := 0
  deriving DecidableEq, Repr, Inhabited

/-- The haptic block beside its registers: the effect library, the channels, and when E and the budget were last updated. -/
structure Hap where
  effects : List Effect := []
  chs : List (Nat × HapCh) := []
  tickAt : Nat := 0
  deriving DecidableEq, Repr, Inhabited

/-- What one oscillator counted in a gate window: whole periods N and reference cycles M (R513). -/
structure Gate where
  n : Nat := 0
  m : Nat := 0
  deriving DecidableEq, Repr, Inhabited

/-- Steps of a scan (R512): a drive line of a mutual scan, and the two steps of a self scan. -/
inductive ScanStep where
  | mutualSense (d : Fin 40) | selfSense | selfDrive
  deriving DecidableEq, Repr

/-- A live touch (R522 to R528): position in 1/256 pitch on the sense and drive axes, and in head pixels. -/
structure Touch where
  id : Nat := 0
  tx : Int := 0
  ty : Int := 0
  px : Nat := 0
  py : Nat := 0
  signal : Nat := 0
  area : Nat := 0
  region : Option Nat := none
  since : Nat := 0
  flags : Nat := 0
  nodes : List Nat := []
  deriving DecidableEq, Repr, Inhabited

/-- A panel beside its registers: raw values of the scan by node and by self group, baselines of the groups, the ST of the last gate
window, sums and counts for fresh baselines, live touches, candidates of the last scan, regions fired in this scan, scans in a row
of negative signal per node, of absence and of presence, the region of the hover, REBASE awaited, first report to come, WAKE flag to
come, groups that reached the threshold in the last wake scan, gate windows of this scan that have ended, and when the last scan began,
a node last was a candidate, the baselines were last saved, and the last probe or wake scan was. -/
structure Panel where
  scanning : Bool := false
  raw : List (Nat × Nat) := []
  selfS : List (Nat × Nat) := []
  selfD : List (Nat × Nat) := []
  groupS : List (Nat × Nat) := []
  groupD : List (Nat × Nat) := []
  st : Nat := 0
  sums : List (Nat × Nat × Nat) := []
  fresh : Nat := 0
  touches : List Touch := []
  cands : List Nat := []
  fired : List Nat := []
  neg : List (Nat × Nat) := []
  absent : Nat := 0
  probes : Nat := 0
  hover : Option (Option Nat) := none
  rebase : Bool := false
  first : Bool := true
  wake : Bool := false
  wakeHits : List (Nat × Nat) := []
  gates : Nat := 0
  scanAt : Nat := 0
  candAt : Nat := 0
  savedAt : Nat := 0
  probeAt : Nat := 0
  deriving DecidableEq, Repr, Inhabited

/-- The touch engine beside its registers: panels, firmware queue, forwarded copies discarded, Drawers whose rings resend live touches
in the next scan. -/
structure Tch where
  panels : List (Nat × Panel) := []
  fwq : List (List Byte) := []
  remoteLost : Nat := 0
  resync : List Nat := []
  deriving DecidableEq, Repr, Inhabited

/-- A linear ramp: present value, target and frames left. -/
structure Ramp where
  cur : Int := 0
  target : Int := 0
  left : Nat := 0
  deriving DecidableEq, Repr, Inhabited

/-- A chime voice: next sample, frames left of a STOP ramp. -/
structure Voice where
  pos : Nat := 0
  stopLeft : Option Nat := none
  deriving DecidableEq, Repr, Inhabited

/-- An output: equaliser state (x1, x2, y1, y2 of each section), the gain of the volume stage and the own VOL it last went to, the
duck gain, and the deepest DUCK_DB and loudest override volume of the chimes that force it. -/
structure OutRt where
  eq : List (Int × Int × Int × Int) := []
  vol : Ramp := {}
  volOf : Nat := 255
  duck : Ramp := { cur := 2 ^ 30, target := 2 ^ 30 }
  forced : Option (Nat × Nat) := none
  deriving DecidableEq, Repr, Inhabited

/-- A stream of a Drawer: the command it plays or captures, with its period length and buffer address, frames of it played or written
to the host, frames left of the squash ramp, frames of silence to the end of a period, and a capture stream's buffered frames, each
with its ST, with a loss to report. -/
structure StreamRt where
  cmd : Option (Nat × Nat) := none
  period : Nat := 1
  addr : Nat := 0
  frames : Nat := 0
  squash : Option Nat := none
  silence : Nat := 0
  buf : List (Nat × List Int) := []
  lost : Bool := false
  deriving DecidableEq, Repr, Inhabited

/-- A receive stream: samples by target ST that are still to play, and the last frame played with its target ST. -/
structure RecvRt where
  due : List (Nat × List Int) := []
  last : Option (Nat × List Int) := none
  deriving DecidableEq, Repr, Inhabited

/-- What one audio frame takes from outside: the samples of the 32 TDM input slots, the samples that the stream buffers hold for this
frame (by Drawer x 32 + stream; none where they have not been fetched), the frames that each capture stream writes to the host, and
the slave ports whose elastic buffer slips. -/
structure AudioIn where
  tdm : List (BitVec 32) := []
  play : List (Nat × List (BitVec 32)) := []
  drain : List (Nat × Nat) := []
  slips : List (Fin 4) := []
  deriving DecidableEq, Repr, Inhabited

/-- The audio graph beside its registers: whether the AUDIO section is present, the active coefficients that differ from those after POR,
held AUD_BQ writes, voices, outputs, streams by Drawer x 32 + index, send accumulators, receive streams, outputs of the last two
frames on their way to the TDM outputs, TDM inputs of the last two frames, the samples on SDO, and when the last frame was. -/
structure Aud where
  present : Bool := false
  active : List (Nat × Nat) := []
  bqHeld : List (Nat × Nat) := []
  voices : List (Nat × Voice) := []
  outs : List (Nat × OutRt) := []
  streams : List (Nat × StreamRt) := []
  send : List (Nat × (Nat × List (List Int))) := []
  recv : List (Nat × RecvRt) := []
  outPipe : List (List Int) := []
  inPipe : List (List Int) := []
  sdo : List Int := []
  frameAt : Nat := 0
  deriving DecidableEq, Repr, Inhabited

/-- Open-world totals of a port monitor: read and write bytes of the last window, and the highest read total since last read. -/
structure BwOpen where
  rd : Nat := 0
  wr : Nat := 0
  peak : Nat := 0
  deriving DecidableEq, Repr, Inhabited

/-- What a read of PMU_BW_RD latched for an origin (R719). -/
structure BwLatch where
  origin : Origin := {}
  m : Nat := 0
  wr : Nat := 0
  wseq : Nat := 0
  deriving DecidableEq, Repr, Inhabited

/-- Performance monitoring beside its registers: ST and world of the write that armed the snapshot, Open-world totals of the port
monitors, the latches of R719, the number of each monitor's window in progress counted from ST 0, and the monitors whose window a step of ST
cut short. -/
structure Pmu where
  armSt : Nat := 0
  armCab : Bool := false
  bwOpen : List (Nat × BwOpen) := []
  bwLatch : List BwLatch := []
  bwAt : List (Nat × Nat) := []
  bwCut : List Nat := []
  deriving DecidableEq, Repr, Inhabited

/-- A test command that runs (R728 to R733): the host port it came from, or none for BST_GO; its descriptor's fields; committed units,
TOTAL, failures and the first of them; when it started and when its status word was last written; whether the unit was
retired before. -/
structure TestJob where
  host : Option Nat := none
  op : Nat := 1
  cls : Nat := 0
  index : Nat := 0
  line : Nat := 0
  statusAddr : Nat := 0
  progAddr : Nat := 0
  committed : Nat := 0
  total : Nat := 0
  fails : Nat := 0
  firstAddr : Nat := 0
  firstBit : Nat := 0
  firstMem : Nat := 0
  startedAt : Nat := 0
  postedAt : Nat := 0
  was : Bool := false
  deriving DecidableEq, Repr, Inhabited

/-- A failure that a test finds: memory ID, line of 64 bytes and bit within it, and its address as Table 25.5 gives it. -/
structure TestFail where
  mem : Nat := 0
  line : Nat := 0
  bit : Nat := 0
  addr : Nat := 0
  deriving DecidableEq, Repr, Inhabited

/-- A step of an orderly shutdown (R52): SHUTDOWN_REQ_N is low, or the closing test has come to its end with these failures, the
coverage it reached in 0.1 % units and its duration. -/
inductive ShutdownStep where
  | request
  | finish (fails : List TestFail) (coverage : Fin 1001) (durationUs : Nat)
  deriving DecidableEq, Repr

/-- What UNIT_COMMIT counts a unit of: a Drawer's command, or a test command of a unit class. -/
inductive WorkRef where
  | command (d : CtxId) (q : QueueId) (seq : Nat)
  | test (job : Nat) (fails : List TestFail)
  deriving DecidableEq, Repr

end Sys2Proof.Machine
end

