-- ==== Sys2Proof/Syntax.lean ====
section
/-! DEFINITION. The commands of the device: one constructor per row of spec/opcode_table.json, in the table's order. An operand that
the device does not compute itself (a measurement, a verdict of cryptography, the data of a peer or of a shader) stands in the command that
brings it. -/

namespace Sys2Proof

open Machine

/-- The commands. Each docstring names the row and its rule; the meaning is `exec` of the same name in Machine/. -/
inductive Instr where
  /-- SUPERVISOR_POWER_UP (R50): 12V_PRE mates; the input supervisor powers up disarmed and begins the precharge current ramp. -/
  | supervisorPowerUp (mv : Nat)
  /-- PRECHARGE_ABORT (R62): PRSNT_N opens or the input is lost during precharge before the start event; precharge stops and no
  record is written. -/
  | prechargeAbort (inputLost : Bool)
  /-- MAIN_SWITCH_CLOSE (R51): The hold-up capacitance reaches within 0.3 V of the input and the main 12 V switch closes with
  current limited to 3.0 A. -/
  | mainSwitchClose
  /-- INPUT_QUALIFIED (R43): The hold-up charge, input range and PRSNT_N conditions have held for 1 ms and the input becomes
  qualified. -/
  | inputQualified
  /-- SUPERVISOR_ARM (R44): PWR_EN has been low for 1 ms and the supervisor becomes armed. -/
  | supervisorArm
  /-- START_EVENT (R45): PWR_EN high completes its 100 us debounce while armed, qualified and in OFF; POR begins and the
  supervisor disarms. -/
  | startEvent
  /-- ROM_ENTRY (R82): The Hutch powers up, drives ALIVE_N low, enters ROM and reads SLOT_ID once. -/
  | romEntry (slot : Fin 16)
  /-- SIGNATURE_VERDICT (R89): The ROM finishes checking a copy's header, signer key, SVN, signature and IDENTITY and accepts or
  rejects the copy. -/
  | signatureVerdict (c : HdrCheck)
  /-- SECTION_LOAD (R96): Configuration sections are read, digest- and tag-checked and firmware is loaded to Hutch SRAM and RT
  memories. -/
  | sectionLoad (cs : List (Nat × SecCheck))
  /-- REPAIR_APPLY (R723): At STAGE 0x3 the ROM maps spare rows over PENDING and REPAIRED repair-map entries. -/
  | repairApply
  /-- OPENING_TEST (R726): The opening test completes, writes its results record, and retires failing groups or heads or ends in
  recovery start. -/
  | openingTest (fails : List TestFail) (coverage : Fin 1001) (durationUs : Nat)
  /-- DRAM_TRAINING (R505): DRAM training by fast or full path completes for all channels at start. -/
  | dramTraining (xs : List ChanTrain)
  /-- SHELF_LOAD (R360): Shelf assets are placed and checked, safety-plane buffers zeroed, PANEL_PWR_EN raised, touch engine
  started and FW_APP load begun. -/
  | shelfLoad (cab shelf : SecCheck) (cabUnit : Nat)
  /-- LINK_START (R425): A head's panel delay expires and its port begins link initialisation and training. -/
  | linkStart (h : HeadId) (sink : Sink)
  /-- EXTENDED_TEST (R727): The remainder of the extended opening test runs after the first frames and sets EXT_TEST. -/
  | extendedTest (fails : List TestFail) (ports : List PlkPort) (coverage : Fin 1001) (slice : Fin 8) (durationUs : Nat)
  /-- PLYNLINK_START (R82): The start sequence starts the enabled PlynLink ports before commit. -/
  | plynlinkStart (app : SecCheck) (appBase : Nat)
  /-- COMMIT (R116): The Hutch writes the commit audit entry, sets COMMITTED once it is durable, locks RWL fields and releases HPA
  and HPB. -/
  | commit
  /-- RECOVERY_START (R101): With no accepted copy, a BLANK or RETIRED state, or a failure that names it, heads and peripherals
  stop and the host ports are released with PF0 only. -/
  | recoveryStart
  /-- ORDERLY_SHUTDOWN (R52): SHUTDOWN_REQ_N low for 10 us (or an OFF request) blanks heads, takes ports down, runs the closing
  test, records results, seals audit and powers off. -/
  | orderlyShutdown (x : ShutdownStep)
  /-- EMERGENCY_TRIGGER (R57): Removal, input loss, over-voltage, PWR_EN drop or thermal trip is recognised and an emergency
  record begins. -/
  | emergencyTrigger (t : Trigger)
  /-- EMERGENCY_RECORD (R59): The Hutch flushes and seals the audit buffer, records the closing test missing with its cause, turns
  off PD00 and releases ALIVE_N. -/
  | emergencyRecord
  /-- WAKE_N_PULSE (R66): A low pulse of at least 1 us on WAKE_N raises Hutch ICU source 0 and, if enabled, wakes the module or
  aborts an entry. -/
  | wakeNPulse
  /-- PPS_IN_EDGE (R652): A PPS_IN rising edge is captured in ST and, on the master, used to set, step or slew ST and update its
  state. -/
  | ppsInEdge
  /-- PPS_TIMEOUT (R652): No PPS_IN edge has arrived for 1.5 s and a FINE ST becomes COARSE. -/
  | ppsTimeout
  /-- PPS_OUT_PULSE (R68): ST reaches a whole second and PPS_OUT rises for the configured width. -/
  | ppsOutPulse
  /-- SUPPLY_SAMPLE (R74): Every 1 ms the input voltage is sampled into PWR_SUPPLY and VIN_LOW or VIN_HIGH set if out of range. -/
  | supplySample (mv : Nat)
  /-- THROTTLE_EVAL (R78): Every 1 ms plate and die temperatures are evaluated and the throttle level raised with its actions,
  including FAULT_N and thermal trip. -/
  | throttleEval (plate die : Int)
  /-- THROTTLE_DROP (R79): Both temperatures have stayed 3 C below the current level's thresholds for 1 s and the level drops by
  one. -/
  | throttleDrop
  /-- HAPTIC_SHORT (R42): A short on HAP_P or HAP_M switches the channel's H-bridge to high impedance within 5 us and sets SHORT.
  -/
  | hapticShort (c : HapId)
  /-- CAN_FRAME_RX (R109): A CAN frame arrives; it is checked against the telltale entries and either updates telltale states or
  is discarded and counted. -/
  | canFrameRx (port : Fin 2) (ext : Bool) (id : Fin 536870912) (data : List Byte)
  /-- TELLTALE_TIMEOUT (R111): TIMEOUT_MS passes without a valid frame and the telltale takes its timeout state. -/
  | telltaleTimeout (i : Fin 64)
  /-- CAN_STATUS_FRAME (R115): Every STATUS_PERIOD_MS RTA sends the 8-byte status frame on the selected CAN ports. -/
  | canStatusFrame
  /-- LAMP_TEST_END (R113): The 2 s lamp-test window from the first telltale frame closes and telltales show their received
  states. -/
  | lampTestEnd
  /-- REGISTER_WRITE (R136): A write to a register without a row of its own reaches its block's serialisation point and sets,
  refuses or holds its fields by access code. -/
  | registerWrite (o : Origin) (a n v : Nat)
  /-- AUDIT_ENTRY (R683): An audit entry is accepted into the on-die buffer, becomes durable and releases the waiting audited
  change. -/
  | auditEntry
  /-- MEMORY_ACCESS (R606): A master's memory access is decoded, checked by region checkers and carried to DRAM, on-die memory or
  an aperture. -/
  | memoryAccess (o : Origin) (blk a n : Nat) (data : Option (List Byte))
  /-- HOST_BAR_ACCESS (R158): A host request to a PF or VF BAR completes successfully, with zero data for accesses that decode as
  errors. -/
  | hostBarAccess (x : BarAccess)
  /-- PRT_RESET (R162): PERST_N, hot reset, link-down or PF FLR resets one host port, SQUASHes its Drawers to FREE and abandons
  any mailbox request. -/
  | prtReset (p : PortId) (cause : Fin 4)
  /-- VF_DISABLE (R162): VF Enable is cleared and every non-FREE Drawer of the port is SQUASHed to FREE. -/
  | vfDisable (p : PortId)
  /-- VF_FLR (R194): A VF Function Level Reset starts a SQUASH of its Drawer with no host writes for squashed commands. -/
  | vfFlr (d : DrawerId)
  /-- D3HOT_ENTRY (R183): A function enters D3hot; moderation timers freeze and pending moderated events set PME_Status and signal
  PME. -/
  | d3hotEntry (p : PortId) (f : Fin 33) (m : Pmcsr)
  /-- D0_RETURN (R184): A function returns to D0 and each vector with a pending event fires or sets its pending bit. -/
  | d0Return (p : PortId) (f : Fin 33) (m : Pmcsr)
  /-- MSIX_UNMASK (R181): A vector or function mask clears and a pending MSI-X message is sent. -/
  | msixUnmask (p : PortId) (f : Fin 33) (v : Option (Fin 64))
  /-- MODERATION_TIMER (R180): A vector's moderation timer reaches TIME_US and the vector fires. -/
  | moderationTimer (d : DrawerId) (v : VecId)
  /-- QUERY (R168): Mailbox command returning CFG_STATUS, CFG_FAIL, life-cycle state, order code and free timelines. -/
  | query (p : PortId)
  /-- LIST_TEMPLATES (R168): Mailbox command returning the port's offered template entries. -/
  | listTemplates (p : PortId)
  /-- DRAWER_INFO (R168): Mailbox command returning a Drawer's state, template, heap, shares and counts. -/
  | drawerInfo (p : PortId)
  /-- EVENT_READ (R204): Mailbox command returning and removing the oldest Drawer event records. -/
  | eventRead (p : PortId)
  /-- CREATE (R169): Mailbox command that allocates and zeroes a heap and binds a template's resources to a Drawer, making it
  ACTIVE. -/
  | create (p : PortId)
  /-- RESIZE (R170): Mailbox command that grows or, when quiesced, shrinks a Drawer heap. -/
  | resize (p : PortId)
  /-- SET_SHARE (R171): Mailbox command that sets a Drawer's pending GPU share for the next budget window. -/
  | setShare (p : PortId)
  /-- GRANT_WAIT (R212): Mailbox command that grants or revokes a Drawer's wait on another Drawer's timeline. -/
  | grantWait (p : PortId)
  /-- RESET (R194): Mailbox command that starts a DRAIN or SQUASH reset of a Drawer and returns the reset sequence number. -/
  | reset (p : PortId)
  /-- DESTROY (R194): Mailbox command that SQUASHes a Drawer and frees it. -/
  | destroy (p : PortId)
  /-- SAVE (R189): Mailbox command that stops fetch, waits for in-flight work, quiesces the Drawer and returns its save image. -/
  | save (p : PortId)
  /-- RESTORE (R192): Mailbox command that loads a save image into a quiesced, unconfigured Drawer. -/
  | restore (p : PortId)
  /-- RESUME (R190): Mailbox command that returns a quiesced Drawer to ACTIVE. -/
  | resume (p : PortId)
  /-- QUIESCE (R190): Mailbox command that stops fetch and moves an ACTIVE Drawer to QUIESCED once in-flight work ends. -/
  | quiesce (p : PortId)
  /-- DRAWER_QUIESCED (R190): The last in-flight command of a quiescing Drawer reaches a terminal state and the Drawer becomes
  QUIESCED. -/
  | drawerQuiesced (d : DrawerId)
  /-- QUIESCE_TIMEOUT (R189): SAVE or QUIESCE times out with work in flight; it returns BUSY and fetching resumes. -/
  | quiesceTimeout (d : DrawerId)
  /-- DIRTY_START (R186): Mailbox command that begins heap-bitmap and host-log dirty logging for a Drawer. -/
  | dirtyStart (p : PortId)
  /-- DIRTY_SWAP (R187): Mailbox command that swaps the heap bitmap banks and returns and clears the previous active bank. -/
  | dirtySwap (p : PortId)
  /-- DIRTY_STOP (R168): Mailbox command that stops dirty logging. -/
  | dirtyStop (p : PortId)
  /-- HEAP_EXPORT (R168): Mailbox command copying heap page ranges to host memory. -/
  | heapExport (p : PortId)
  /-- HEAP_IMPORT (R168): Mailbox command copying host memory into heap page ranges. -/
  | heapImport (p : PortId) (data : List (List Byte))
  /-- REG_WRITE (R172): Mailbox command writing MUTABLE-granted bits of a register as an audited change and returning the old
  value. -/
  | regWrite (p : PortId)
  /-- REG_READ (R168): Mailbox command returning the value of a register. -/
  | regRead (p : PortId)
  /-- IMAGE_BEGIN (R173): Mailbox command starting an image update with its length and header, discarding any partial image. -/
  | imageBegin (p : PortId)
  /-- IMAGE_DATA (R168): Mailbox command supplying image bytes at an offset. -/
  | imageData (p : PortId)
  /-- IMAGE_COMMIT (R120): Mailbox command that checks the new image and writes and verifies copy B then copy A. -/
  | imageCommit (p : PortId) (c : HdrCheck)
  /-- AUDIT_READ (R691): Mailbox command returning audit entries and seals from a position and advancing the read mark. -/
  | auditRead (p : PortId)
  /-- ERROR_READ (R673): Mailbox command returning Drawer error log entries or a domain's unacknowledged records. -/
  | errorRead (p : PortId)
  /-- MAILBOX_RESPONSE (R175): A mailbox request finishes; the response is written, DONE sets and PF0 vector 0 fires. -/
  | mailboxResponse (p : PortId)
  /-- DOORBELL (R177): A guest writes a queue doorbell; the tail value is checked and TAIL set or a guest error recorded. -/
  | doorbell (d : DrawerId) (q : QueueId) (value : Fin 4294967296)
  /-- COMPLETION_DOORBELL (R228): A guest writes the completion doorbell; the count is checked and CONSUMED updated. -/
  | completionDoorbell (d : DrawerId) (q : QueueId) (value : Fin 4294967296)
  /-- QUEUE_ENABLE (R738): A write sets ENABLE of a queue, zeroing HEAD, TAIL, WRITTEN and CONSUMED, or fails with FORMAT. -/
  | queueEnable (d : DrawerId) (q : QueueId) (engine : Fin 4) (vector : VecId)
  /-- QUEUE_DISABLE (R739): A write clears ENABLE; fetch stops and CLOSING holds until fetched commands release their records. -/
  | queueDisable (d : DrawerId) (q : QueueId)
  /-- COMMAND_FETCH (R209): The module reserves Journal records and fetches the next ring entry of a queue whose fetch conditions
  hold. -/
  | commandFetch (d : DrawerId) (q : QueueId) (entry : List Byte)
  /-- HOST_READ_ERROR (R159): A host read for a Drawer ends in timeout, UR or poison; the command or fetched entry ends with
  HOST_READ. -/
  | hostReadError (d : DrawerId) (q : QueueId) (seq : Option Nat) (how : HostReadEnd)
  /-- NOP (R207): Command that does nothing but complete, signal and report in queue order on any engine. -/
  | nop (d : CtxId) (q : QueueId) (seq : Nat)
  /-- COPY (R208): Copy-engine command moving bytes between host memory, heap and remote windows. -/
  | copy (d : DrawerId) (q : QueueId) (seq : Nat)
  /-- FILL (R208): Copy-engine command filling a destination with a 32-bit pattern. -/
  | fill (d : DrawerId) (q : QueueId) (seq : Nat)
  /-- PASS (R258): GPU command that fixes tiled or immediate mode and renders a pass over its render area. -/
  | pass (d : CtxId) (q : QueueId) (seq : Nat) (binds : List (Nat × Nat)) (fieldsOk : Bool) (prims : List Prim)
    (stalls : List (GroupId × Nat))
  /-- COMPUTE (R285): GPU command that runs a program over a grid of workgroups. -/
  | compute (d : CtxId) (q : QueueId) (seq : Nat)
  /-- COMPOSE_LIST (R362): Composition command composing a list of descriptors from memory into an output surface. -/
  | composeList (d : DrawerId) (q : QueueId) (seq : Nat)
  /-- CAPTURE (R363): Composition command writing back one whole frame of a head at the chosen tap. -/
  | capture (d : DrawerId) (q : QueueId) (seq : Nat)
  /-- CAPTURE_TIMEOUT (R365): A capture has not started within 100 ms and ends in error TIMEOUT. -/
  | captureTimeout (d : DrawerId) (q : QueueId) (seq : Nat)
  /-- AUDIO (R563): Audio command playing or capturing PERIODS periods of a stream buffer. -/
  | audio (d : DrawerId) (q : QueueId) (seq : Nat)
  /-- UNIT_COMMIT (R222): A unit's writes and partial-result record become visible and COMMITTED counts it. -/
  | unitCommit (w : WorkRef) (data : List Byte) (writes : List (Nat × List Byte))
  /-- STATUS_WORD_UPDATE (R221): The status word of a running command is rewritten with its rising COMMITTED count. -/
  | statusWordUpdate (d : CtxId) (q : QueueId) (seq : Nat)
  /-- DATA_VISIBLE (R211): A command will write nothing more and all its writes are visible; an unordered command signals its
  fence. -/
  | dataVisible (d : CtxId) (q : QueueId) (seq : Nat)
  /-- REPORT_ACCEPT (R229): The Completion Collector accepts a finished-command report into its input buffer. -/
  | reportAccept (d : CtxId) (q : QueueId) (seq : Nat)
  /-- COMPLETION_RELEASE (R230): The collector releases a queue's next report: status word, record, signal, RETIRE and MSI-X
  event. -/
  | completionRelease (d : CtxId) (q : QueueId)
  /-- COMMAND_FAULT (R236): A fault strikes running work; a FAULT record is written and the command is replayed or ended. -/
  | commandFault (d : CtxId) (q : QueueId) (seq : Nat) (blk : Nat) (code : Option (Fin 16))
  /-- TILE_START (R266): A Bench group with a free tile slot takes the next tile of a pass in row-major order. -/
  | tileStart (d : CtxId) (q : QueueId) (seq : Nat) (g : GroupId)
  /-- TILE_WRITEBACK (R277): A finished tile is written back or skipped by signature match and its signature entry updated. -/
  | tileWriteback (d : CtxId) (q : QueueId) (seq tile : Nat) (refused : Nat)
  /-- PARTIAL_RENDER_FLUSH (R264): The next primitive does not fit the bin area; bins are rendered and stored into a flush buffer
  and binning resumes. -/
  | partialRenderFlush (d : CtxId) (q : QueueId) (seq : Nat)
  /-- SHADER_FAULT (R288): A program fault ends the PASS or COMPUTE with SHADER. -/
  | shaderFault (d : CtxId) (q : QueueId) (seq : Nat) (writes : List (Nat × List Byte))
  /-- WINDOW_START (R296): A budget window opens at a reference-head frame start or by timeout and grants credits from active
  shares. -/
  | windowStart
  /-- BENCH_OFFER (R299): A Bench group that can take a wave or tile offers it to contexts by dispatch tier. -/
  | benchOffer (g : GroupId)
  /-- CX_COMMAND_RELEASE (R315): A CX-COMP or CX-SAFE command is released and the deadline monitor claims or preempts Bench
  groups. -/
  | cxCommandRelease (ctx : Fin 2) (q : QueueId) (entry : List Byte) (ring : Nat × Fin 17)
  /-- PREEMPTION_POINT (R307): A preempted Bench group reaches its preemption point, its state is staged and it is given to the
  preempting context. -/
  | preemptionPoint (g : GroupId)
  /-- PREEMPT_TIMEOUT (R312): A group misses its preemption bound and is reset as an island with its commands replayed. -/
  | preemptTimeout (g : GroupId)
  /-- PREEMPT_RESUME (R310): The preempting context releases a group and the preempted context resumes on it first. -/
  | preemptResume (g : GroupId)
  /-- DEADLINE_EVAL (R317): Every 1 us the monitor estimates a CX command's finish and escalates preemption if it would miss its
  cutoff. -/
  | deadlineEval (id : Nat)
  /-- CX_CUTOFF_MISS (R318): A CX command is not retired at its cutoff; MISS_HEADS and MISSES are set. -/
  | cxCutoffMiss (id : Nat)
  /-- NP_LIMIT_TIMEOUT (R322): A NONPREEMPT command exceeds NP_LIMIT_US and ends with TIMEOUT. -/
  | npLimitTimeout (d : DrawerId) (q : QueueId) (seq : Nat)
  /-- RUN_LIMIT_TIMEOUT (R323): A PASS or COMPUTE exceeds RUN_LIMIT_MS of run time and ends with TIMEOUT. -/
  | runLimitTimeout (c : CtxId) (q : QueueId) (seq : Nat)
  /-- LAYER_OWNER_WRITE (R326): A write changes a head layer's OWNER or SLOT, discards its pending flip and switches it off at the
  next latch point. -/
  | layerOwnerWrite (o : Origin) (h : HeadId) (l : Fin 9) (owner : Fin 128) (slot : Fin 64)
  /-- FLIP_COMMIT (R341): A DRW_FLIP_GO write commits the selected slots' staged descriptors as flips or a flip group, or refuses
  them. -/
  | flipCommit (who : FlipSource) (group : Bool)
  /-- SAFETY_FLIP (R356): RTA writes HDn_SFLIP to flip safety-plane windows at the next latch point. -/
  | safetyFlip (o : Origin) (h : HeadId) (w : Fin 65536)
  /-- PIPE_SWAP_REQUEST (R340): Setting HDn_PIPE.SWAP requests a matrix and gamma bank swap at the next latch point. -/
  | pipeSwapRequest (o : Origin) (h : HeadId)
  /-- FENCE_SAMPLE (R345): 1 us before the latch point the head reads the timelines of every pending flip. -/
  | fenceSample (h : HeadId)
  /-- LATCH_POINT (R346): The head decides each pending flip group, applies swaps, safety flips, Witness state and telltale
  states, and divides line buffers. -/
  | latchPoint (h : HeadId)
  /-- FRAME_START (R393): A head's frame starts; the frame number rises, ST is captured and trim or slip adjusts to the reference.
  -/
  | frameStart (h : HeadId) (minLeadUs : Nat) (e : Int)
  /-- FRAME_END (R394): A head writes its frame report and raises FRAME_END; a stopping head stops here. -/
  | frameEnd (h : HeadId)
  /-- HEAD_START (R380): RUN written 0 to 1 on a STOPPED head checks timing, locks the synthesiser and trains the link. -/
  | headStart (o : Origin) (h : HeadId)
  /-- HEAD_STOP (R381): RUN written 0 stops the head at the next frame end and takes its link down. -/
  | headStop (o : Origin) (h : HeadId)
  /-- HOLDOVER_ENTRY (R376): A locked head loses its reference and enters holdover with its last trim. -/
  | holdoverEntry (h : HeadId)
  /-- TE_EDGE (R377): An active TE edge updates the TE period and may start a TE-mode frame. -/
  | teEdge (h : HeadId) (minLeadUs : Nat)
  /-- TE_MISS (R377): No TE edge arrives within half a frame after the latch point and the frame starts anyway. -/
  | teMiss (h : HeadId) (minLeadUs : Nat)
  /-- LAYER_UNDERRUN (R389): Scan-out reaches a pixel with no buffered data; the layer is disabled for the frame and the underrun
  reported. -/
  | layerUnderrun (h : HeadId) (l : Fin 8) (y x : Nat)
  /-- PAUSE_GRANT (R388): The fetch scheduler and PLK grant a DRAM channel pause once every lead is at least 22 us. -/
  | pauseGrant (leads : List (HeadId × Nat))
  /-- WITNESS_RESULT (R407): One line after frame end each region's result is known, regions trip and event records are queued. -/
  | witnessResult (h : HeadId) (actual : List (Nat × Nat)) (decode noRef : Nat) (proofMade : Bool)
  /-- WITNESS_RESTORE (R409): Cabinet firmware writes RESTORE to request NORMAL state at the next latch point. -/
  | witnessRestore (o : Origin) (h : HeadId)
  /-- WITNESS_EVENT_POP (R415): A WIT_EVT_POP write removes the oldest Witness event record. -/
  | witnessEventPop (o : Origin)
  /-- HPD_IRQ (R429): A sampled HPD low of 0.25 to 2 ms is IRQ_HPD; the link status is read and the link retrained if lock is
  lost. -/
  | hpdIrq (h : HeadId) (lockLost : Bool)
  /-- HPD_UNPLUG (R429): A sampled HPD low exceeds 2 ms; transmitters turn off and the EDID is cleared. -/
  | hpdUnplug (h : HeadId)
  /-- HPD_REPLUG (R429): HPD has been high 10 ms after an unplug; the EDID is read and training begins. -/
  | hpdReplug (h : HeadId) (sink : Sink)
  /-- LINK_TRAINING_DONE (R426): Display link training ends and the head begins its frames within 1 ms. -/
  | linkTrainingDone (h : HeadId) (ok : Bool)
  /-- TRAINING_RETRY (R427): After training fails on every configuration the procedure is repeated every 1 s. -/
  | trainingRetry (h : HeadId)
  /-- BACKLIGHT_ON (R433): BL_DELAY_MS after the first frame the Hutch raises BL_EN. -/
  | backlightOn (h : HeadId)
  /-- PANEL_POWER_DOWN (R434): BL_EN falls, the link goes down after BL_OFF_MS, then PANEL_PWR_EN falls. -/
  | panelPowerDown (h : HeadId)
  /-- SIDEBAND_REQUEST (R438): A write to HDn_SB_CMD starts an AUX, I2C or DSI sideband request. -/
  | sidebandRequest (o : Origin) (h : HeadId) (w : Fin 4294967296)
  /-- SIDEBAND_DONE (R438): A sideband request ends with OK, NACK, TIMEOUT, DENIED or NO_SINK and DONE sets. -/
  | sidebandDone (h : HeadId) (result : Fin 5) (reply : List (Fin 4294967296))
  /-- PLK_LINK_UP (R443): A PlynLink port finishes PAM4 or NRZ training and its link comes up. -/
  | plkLinkUp (p : PlkPort) (credits : List Nat)
  /-- NRZ_FALLBACK (R443): PAM4 training misses the error ratio in 100 ms and the port trains in NRZ. -/
  | nrzFallback (p : PlkPort)
  /-- PLK_LINK_DOWN (R448): Alignment, codeword or NAK failures or a LEAVE take the link down; buffers are discarded and routes
  through it invalidated. -/
  | plkLinkDown (p : PlkPort)
  /-- PORT_RETRAIN (R443): A RETRAIN write takes the port link down and trains it again. -/
  | portRetrain (o : Origin) (p : PlkPort)
  /-- PORT_DISABLE (R459): Clearing a port's EN waits for outstanding requests and sends LEAVE. -/
  | portDisable (o : Origin) (p : PlkPort)
  /-- FLIT_RECEIVE (R447): A flit arrives; it is accepted or discarded with a NAK, acknowledgements processed and its messages
  delivered. -/
  | flitReceive (p : PlkPort) (corr uncorr : Bool) (b : List Byte)
  /-- HELLO (R451): Message giving the neighbour's module ID, port, time priority and start count. -/
  | hello (p : PlkPort) (m : Msg)
  /-- ROUTE (R454): Message of route entries that replace stored routes when newer or shorter. -/
  | route (p : PlkPort) (m : Msg)
  /-- LEAVE (R448): Message announcing a neighbour's departure; the link goes down. -/
  | leave (p : PlkPort) (m : Msg)
  /-- SYNC_REQ (R461): Message from a child timestamped T1 that the parent answers with SYNC_RSP. -/
  | syncReq (p : PlkPort) (m : Msg)
  /-- SYNC_RSP (R462): Message from which the child computes offset and link delay and steers or sets ST. -/
  | syncRsp (p : PlkPort) (m : Msg)
  /-- WR (R471): Remote write message applied at the exporter and answered with WR_ACK. -/
  | wr (p : PlkPort) (m : Msg)
  /-- WR_PART (R451): Remote partial write of one masked granule. -/
  | wrPart (p : PlkPort) (m : Msg)
  /-- RD_REQ (R451): Remote read request answered with RD_DATA. -/
  | rdReq (p : PlkPort) (m : Msg)
  /-- OPEN (R468): Message requesting a session on an exported window, granted if enabled, permitted and the token matches. -/
  | openMsg (p : PlkPort) (m : Msg)
  /-- WR_ACK (R471): Response completing a remote write, making it visible or reporting its RESULT. -/
  | wrAck (p : PlkPort) (m : Msg)
  /-- RD_DATA (R451): Response carrying remote read data or a RESULT. -/
  | rdData (p : PlkPort) (m : Msg)
  /-- OPEN_RSP (R468): Response giving an aperture its session and mapped size or a refusal. -/
  | openRsp (p : PlkPort) (m : Msg)
  /-- SUBSCRIBE (R482): Message adding, replacing or removing an importer's tile rectangle on an export. -/
  | subscribe (p : PlkPort) (m : Msg)
  /-- SUB_ACK (R482): Response to SUBSCRIBE with OK, CLOSED, RANGE or BUSY. -/
  | subAck (p : PlkPort) (m : Msg)
  /-- TILE (R477): Message carrying encoded tile data that the importer stages. -/
  | tile (p : PlkPort) (m : Msg)
  /-- GEN_END (R477): Message closing a generation with its tile count. -/
  | genEnd (p : PlkPort) (m : Msg)
  /-- GEN_ACK (R476): Importer acknowledgement of a decoded generation. -/
  | genAck (p : PlkPort) (m : Msg)
  /-- GEN_COMMIT (R478): Message naming the tick at whose commit instant an import raises IMP_TL. -/
  | genCommit (p : PlkPort) (m : Msg)
  /-- TOUCH (R529): Forwarded touch record delivered to a region with REMOTE_OK or discarded. -/
  | touch (p : PlkPort) (m : Msg)
  /-- AUDIO_MESSAGE (R578): Message of 8 frames of samples accepted by a receive stream. -/
  | audioMessage (p : PlkPort) (m : Msg)
  /-- MGMT (R483): Management message placed in the destination's world queue or answered queue full. -/
  | mgmt (x : MgmtEvent)
  /-- MGMT_ACK (R483): Response to MGMT; a queue-full answer makes the sender retry. -/
  | mgmtAck (p : PlkPort) (m : Msg)
  /-- ROUTE_ORIGINATE (R453): Every ORIG_US a module raises its own SEQ and advertises changed entries. -/
  | routeOriginate
  /-- ROUTE_REFRESH (R453): Every 100 ms a module sends its whole route table on every up port. -/
  | routeRefresh
  /-- ROUTE_EXPIRE (R456): A route not refreshed for 4 x ORIG_US becomes unreachable. -/
  | routeExpire (id : Fin 16384)
  /-- SYNC_TICK (R461): Every 1 ms each module sends SYNC_REQ to its parent. -/
  | syncTick
  /-- FRAME_TICK (R464): ST reaches tick k of the master's period and the system frame tick occurs. -/
  | frameTick
  /-- TICK_LOST (R465): No SYNC_RSP for 10 ms or ST INVALID clears TICK_OK and the frame tick is reported lost. -/
  | tickLost
  /-- ST_SELF_FINE (R651): 10 ms pass with no usable neighbour time and, with no PPS reference, ST becomes FINE at its own value.
  -/
  | stSelfFine
  /-- APERTURE_ENABLE (R468): Setting an aperture's EN sends OPEN to its peer. -/
  | apertureEnable (o : Origin) (k : Fin 64) (peer : Fin 16384) (win : Fin 32) (read write fw : Bool)
  /-- APERTURE_OPEN_RETRY (R468): A CLOSED or UNREACHABLE aperture retries OPEN every 100 ms. -/
  | apertureOpenRetry (k : Fin 64)
  /-- REMOTE_TIMEOUT (R470): A remote request has no response within REQ_TIMEOUT and ends REMOTE. -/
  | remoteTimeout (tag : Fin 4096)
  /-- WINDOW_CLOSE (R472): Clearing or changing an exported window answers new requests CLOSED and drops its sessions. -/
  | windowClose (o : Origin) (w : Fin 32) (sizeM1 : Fin 1048576) (peer : Fin 16384) (any read write en : Bool)
  /-- GENERATION_START (R476): PROD_TL rises and the exporter sends changed tiles, updates SHADOW, raises REL_TL and sends
  GEN_END. -/
  | generationStart (e : Fin 16)
  /-- GEN_ACK_TIMEOUT (R476): 20 ms pass waiting for acks; non-ackers are marked resync and GEN_COMMIT goes to the rest. -/
  | genAckTimeout (e : Fin 16)
  /-- IMPORT_DECODE (R477): With a generation staged and the back mirror free, CX-COMP decodes it, a flip is committed and GEN_ACK
  sent. -/
  | importDecode (i : Fin 16) (descs : List (Nat × List Byte))
  /-- COMMIT_INSTANT (R478): ST reaches tick(k) minus COMMIT_LEAD and the import raises IMP_TL to V. -/
  | commitInstant (i : Fin 16)
  /-- SUBSCRIBE_RETRY (R482): An importer answered BUSY or CLOSED sends SUBSCRIBE again every 100 ms. -/
  | subscribeRetry (i : Fin 16)
  /-- REFRESH (R499): A per-bank refresh falls due every tREFIpb and is issued before the next request. -/
  | refresh (ch : ChanId)
  /-- REFRESH_RATE_POLL (R500): Every 16 ms the devices' refresh-rate status is read and RATE set, starting retraining on change.
  -/
  | refreshRatePoll (rate : Fin 3) (ch : ChanId)
  /-- SCRUB (R494): Every SCRUB_US one ECC line per channel is read and rewritten if corrected. -/
  | scrub (lines : List Nat)
  /-- RETRAIN_REQUEST (R507): A channel's periodic retraining falls due and the controller requests pause grants. -/
  | retrainRequest (ch : ChanId)
  /-- RETRAIN_PAUSE (R507): With both grants held the channel stops, sweeps one direction and centres its delays. -/
  | retrainPause
  /-- RETRAIN_PAUSE_END (R508): The sweep ends and the paused channel resumes, or delays stay unchanged with DRAM_EYE. -/
  | retrainPauseEnd (eyes : List Eye) (lengthNs : Nat)
  /-- RETRAIN_SKIP (R509): Grants are not held within 50 ms; the retraining is skipped and counted. -/
  | retrainSkip
  /-- RETRAIN_NOW (R507): A NOW write retrains every active channel once. -/
  | retrainNow (o : Origin)
  /-- WRITE_PAT (R503): Training operation writing the selected pattern into the training area. -/
  | writePat (o : Origin) (c : TrnCfg)
  /-- READ_CMP (R503): Training operation reading and comparing the pattern, counting errors per bit. -/
  | readCmp (o : Origin) (c : TrnCfg)
  /-- LOOP (R503): Training operation writing and comparing bursts in a loop. -/
  | loop (o : Origin) (c : TrnCfg)
  /-- CENTRE (R507): Training operation sweeping delays and centring each bit in its passing window. -/
  | centre (o : Origin) (c : TrnCfg)
  /-- TRAINING_OP_DONE (R503): A training operation finishes, BUSY clears and Hutch ICU source 11 is raised. -/
  | trainingOpDone (errs : List Nat) (eyes : List (ChanId × List Eye))
  /-- VREF_WRITE (R503): A write of DMC_VREF.DRAM issues the device mode-register write. -/
  | vrefWrite (o : Origin) (ch : ChanId) (code : Fin 128)
  /-- SCAN_START (R516): A panel scan begins at RATE_HZ, stepping drive lines through mutual and self scans. -/
  | scanStart (p : PanelId)
  /-- GATE_WINDOW_END (R534): A drive step's gate window ends; raw values are taken and DOWN haptic triggers fire for newly
  crossing nodes. -/
  | gateWindowEnd (p : PanelId) (step : ScanStep) (counts : List Gate)
  /-- SCAN_PROCESS (R522): After a scan's last gate window touches are found, tracked, baselines adjusted and records delivered.
  -/
  | scanProcess (p : PanelId)
  /-- BASELINE_SAVE (R520): Every 600 s with no touch a RUNNING panel writes its baselines to MRAM. -/
  | baselineSave (p : PanelId)
  /-- SUSPECT_CLEAR (R526): No candidate for 500 ms; a SUSPECT panel resets baselines and enters RUNNING. -/
  | suspectClear (p : PanelId)
  /-- REBASE (R526): A REBASE write cancels live touches and rebases the panel from the next scan. -/
  | rebase (o : Origin) (p : PanelId)
  /-- PANEL_PROBE (R535): An ABSENT panel probes at 10 Hz and restarts when nodes are valid again. -/
  | panelProbe (p : PanelId) (valid : Nat)
  /-- WAKE_SCAN (R537): In PARK a panel self-scans at 20 Hz and raises the TCH wake source on a qualifying touch. -/
  | wakeScan (p : PanelId) (sense drive : List Gate)
  /-- TOUCH_CONSUME (R533): A DRW_TCH_CONS write reports consumed touch records. -/
  | touchConsume (d : DrawerId) (v : Fin 4294967296)
  /-- TOUCH_RING_ENABLE (R533): Setting DRW_TCH_CTRL.EN zeroes positions and resends DOWN with RESYNC for live touches. -/
  | touchRingEnable (d : DrawerId)
  /-- TOUCH_FWQ_POP (R529): A POP write removes the oldest firmware touch record. -/
  | touchFwqPop (o : Origin)
  /-- HAPTIC_TRIGGER (R545): A touch or HAP_TRIG trigger starts, replaces, queues or is refused for an effect on a channel. -/
  | hapticTrigger (o : Origin) (c : HapId) (i : Fin 64)
  /-- EFFECT_PHASE_END (R542): An effect's attack or sustain time ends and it moves to its next phase or brake. -/
  | effectPhaseEnd (c : HapId)
  /-- DRIVE_OFF_GAP (R544): At an expected zero crossing the bridge opens a 40 us gap, samples back-EMF and adjusts frequency. -/
  | driveOffGap (c : HapId) (errHz : Int) (emfMv : Nat)
  /-- BRAKE_END (R549): A brake reaches STOP_MV or BRAKE_MS; the channel idles or starts the waiting effect. -/
  | brakeEnd (c : HapId) (stopped : Bool)
  /-- WAIT_TIMEOUT (R548): A waiting effect's 2 ms passes; the brake is aborted and the effect starts in phase. -/
  | waitTimeout (c : HapId)
  /-- HAPTIC_TICK (R551): Every 100 us coil energy E and the power budget are updated, locking or scaling channels. -/
  | hapticTick
  /-- OPEN_DETECT (R540): Measured current stays below 10 % of command for 2 ms; OPEN sets and the effect ends. -/
  | openDetect (c : HapId)
  /-- CLR (R540): A CLR write clears OPEN and SHORT of a channel. -/
  | clr (o : Origin) (c : HapId)
  /-- AUDIO_FRAME (R554): Each sample period the graph computes every node, plays streams and voices, sends and receives samples.
  -/
  | audioFrame (x : AudioIn)
  /-- BANK_SWAP (R561): An AUD_BQ_SWAP write swaps coefficient banks of the masked outputs between two frames. -/
  | bankSwap (o : Origin) (mask : Fin 4294967296)
  /-- PLAY (R571): A PLAY write starts a chime voice at its first sample in the next frame. -/
  | play (o : Origin) (v : Fin 8)
  /-- STOP (R571): A STOP write ramps a voice to zero over 5 ms and ends it. -/
  | stop (o : Origin) (v : Fin 8)
  /-- STREAM_ENABLE (R562): Setting DRW_AUD_CFG.EN enables a stream if its queue has ENGINE 3. -/
  | streamEnable (d : DrawerId) (j : Fin 32)
  /-- ICU_SOURCE_EVENT (R586): A main ICU source becomes pending and is offered to a context or wakes a target. -/
  | icuSourceEvent (n : SrcId) (rise : Bool)
  /-- CLAIM (R591): A read of ICU_CLAIM takes the highest offered source into service or returns 1023. -/
  | claim (o : Origin) (c : IcuCtx)
  /-- COMPLETE (R592): A write to ICU_COMPLETE ends a source's service and re-offers it if pending. -/
  | complete (o : Origin) (c : IcuCtx) (n : Nat)
  /-- ICU_SET (R598): A write to ICU_SET makes a software or message source pending. -/
  | icuSet (o : Origin) (n : SrcId)
  /-- GDIS (R593): A write of GDIS holds off or resumes all ICU delivery. -/
  | gdis (o : Origin) (v : Bool)
  /-- CORE_SLEEP (R584): A core with SLEEP set executes WFI and sleeps, withdrawing its offers, or is refused. -/
  | coreSleep (t : Target)
  /-- CORE_WAKE (R584): A sleeping core is woken by the ICU, a WAKE write or its timer compare. -/
  | coreWake (t : Target) (o : Option Origin)
  /-- CORE_RUNNING (R584): A waking core is running again and pending offers are made to it. -/
  | coreRunning (t : Target)
  /-- TIMER_COMPARE (R582): ST reaches a core timer compare and its interrupt fires. -/
  | timerCompare (c : Fin 7)
  /-- RT_LOCKSTEP (R583): An RT pair mismatch resets that pair alone and signals PARTNER_RESET to the other. -/
  | rtLockstep (n : Fin 2)
  /-- HUT_DBELL (R600): A write to HUT_DBELL sets the Hutch source of the writing core. -/
  | hutDbell (o : Origin)
  /-- HUTCH_WAKE (R601): An enabled pending Hutch ICU source restarts the Hutch core from WFI and in PARK or HOLD wakes the
  module. -/
  | hutchWake
  /-- HUT_ICU_CLAIM (R602): A read of HUT_ICU_CLAIM returns and clears the lowest enabled pending Hutch source. -/
  | hutIcuClaim (o : Origin)
  /-- TRAP_TO_CABINET (R613): A trap into M mode sets the core's world bit to Cabinet. -/
  | trapToCabinet (n : Fin 4)
  /-- MRET_TO_OPEN (R614): An mret to S or U mode clears registers and Cabinet TLB entries and clears the world bit. -/
  | mretToOpen (n : Fin 4)
  /-- LIFE_CYCLE_REQUEST (R622): A CAB_LC.TARGET write requests FIELD or RETIRED for the next start, burning fuses or refused. -/
  | lifeCycleRequest (o : Origin) (target : Fin 8)
  /-- RAISE_TO (R617): A CAB_FUSE.RAISE_TO write burns the security-version floor higher or is refused. -/
  | raiseTo (o : Origin) (v : Fin 128)
  /-- REVOKE (R617): A CAB_FUSE.REVOKE write burns a root slot's revocation or is refused. -/
  | revoke (o : Origin) (mask : Fin 16)
  /-- FUSE_BURN_DONE (R623): A fuse burn completes and BUSY clears. -/
  | fuseBurnDone
  /-- EXTEST (R626): TAP instruction driving pins from the boundary-scan register where permitted. -/
  | extest (bsr : Nat)
  /-- IDCODE (R626): TAP instruction selecting the 32-bit IDCODE register. -/
  | idcode
  /-- SAMPLE_PRELOAD (R626): TAP instruction sampling or preloading the boundary-scan register. -/
  | samplePreload (bsr : Nat)
  /-- CLAMP (R626): TAP instruction holding pins from the boundary-scan register with bypass selected. -/
  | clamp
  /-- HIGHZ (R626): TAP instruction placing outputs at high impedance. -/
  | highz
  /-- BYPASS (R626): TAP instruction selecting the bypass register. -/
  | bypass
  /-- DBG (R626): TAP scan reading or writing a DBG register word. -/
  | dbg (write : Bool) (w : Fin 128) (v : Fin 4294967296)
  /-- PROV (R626): TAP scan onto the provisioning registers, permitted only in BLANK. -/
  | prov (op : ProvOp)
  /-- CHALLENGE (R627): Debug command placing a fresh nonce in DBG_BUF. -/
  | challenge
  /-- SUBMIT (R629): Debug command verifying a certificate against the nonce, device and debug roots. -/
  | submit
  /-- CERTIFICATE_VERDICT (R630): A certificate verdict arrives; a session opens, a life-cycle transition is made or the failure
  counted. -/
  | certificateVerdict
  /-- END (R630): Debug command ending the open session. -/
  | endSession
  /-- READ (R631): Debug command performing one read under the session's origin. -/
  | read (wide : Bool)
  /-- WRITE (R631): Debug command performing one write under the session's origin. -/
  | write (wide : Bool)
  /-- SESSION_EXPIRE (R630): MAX_MIN after opening the debug session ends. -/
  | sessionExpire
  /-- NONCE_EXPIRE (R627): 300 s pass and the current nonce is no longer valid. -/
  | nonceExpire
  /-- TRST_LOW (R630): TRST_N low ends the session, spends the nonce and discards any verdict. -/
  | trstLow
  /-- POWER_REQUEST (R637): A PWR_REQ write is refused or ranked against the transition scheme: started, merged, slotted, or
  aborting an entry. -/
  | powerRequest (o : Origin) (t : Fin 8)
  /-- DRAIN_PHASE_END (R638): All DRAIN steps of an entry complete and SAVE begins at the point of no return. -/
  | drainPhaseEnd
  /-- ENTRY_REFUSED (R639): DRAIN exceeds ENTRY_MS and the entry ends REFUSED with the lowest incomplete block as refuser. -/
  | entryRefused
  /-- SAVE_PHASE_END (R641): The hardware save of turning-off domains and the ST latch complete and ISOLATE begins. -/
  | savePhaseEnd
  /-- ISOLATE_PHASE_END (R643): Pads are held and domains turned off; the target state is reached and the next slot starts. -/
  | isolatePhaseEnd
  /-- POWER_PHASE_END (R644): On exit, domains are on and PLLs locked. -/
  | powerPhaseEnd
  /-- RESTORE_PHASE_END (R642): Saved registers and timelines are restored and ST set from the crystal count. -/
  | restorePhaseEnd
  /-- RESUME_PHASE_END (R644): DRAM retraining or HOLD checks and core restarts complete and STATE reads RUN. -/
  | resumePhaseEnd (hdr : HdrCheck) (cab app : SecCheck) (eyes : List (ChanId × List Eye × List Eye)) (train : List ChanTrain)
  /-- PAD_RELEASE (R643): A PWR_PADREL write releases the held pads of a powered domain. -/
  | padRelease (o : Origin) (m : Fin 65536)
  /-- ST_ALARM (R599): ST reaches TIM_ALARM and Hutch ICU source 8 fires. -/
  | stAlarm
  /-- HARDWARE_ERROR (R659): A detected fault is recorded or merged in its domain queue and acted on by its class. -/
  | hardwareError (e : ErrIn)
  /-- HANG (R660): A transaction to or from a block is not completed within 1 ms. -/
  | hang (blk : DomainId) (source : Nat)
  /-- ISLAND_RESET (R668): An ISLAND-class error isolates and resets a unit or island, replays its work and restores its IMG
  shadows. -/
  | islandReset (u : ResetUnit)
  /-- ISLAND_RESET_DONE (R667): A reset unit or island is back in service within its bound. -/
  | islandResetDone (u : ResetUnit)
  /-- MOD_RESET (R734): A MOD reset re-runs the full start sequence from ROM entry, keeping POR-domain state. -/
  | modReset
  /-- DRAWER_RESET_DONE (R203): No Drawer-tagged transaction remains; the Drawer returns to ACTIVE or FREE and an event record is
  queued. -/
  | drawerResetDone (d : DrawerId)
  /-- DRAIN_TIMEOUT (R201): A DRAIN reset's timeout passes with work left and it continues as SQUASH. -/
  | drainTimeout (d : DrawerId)
  /-- ERROR_ACK (R666): A FAB_ERR_ACK write acknowledges and frees a domain's records up to a sequence number. -/
  | errorAck (o : Origin) (d : DomainId) (n : Fin 65536)
  /-- SWREP (R742): A FAB_ERR_SWREP write with GO reports a firmware-defined error or records FORMAT or ACCESS_DENIED. -/
  | swrep (o : Origin) (v : Nat)
  /-- AUDIT_FLUSH (R684): ADL copies one durable entry per us to the MRAM ring. -/
  | auditFlush (verified : Bool)
  /-- ADL_MARK (R693): A write advances the audit read mark if not behind it. -/
  | adlMark (o : Origin) (start : Fin 65536) (seq : Fin 4294967296)
  /-- INIT (R700): A CRC_CTRL write with INIT loads the INIT value and clears COUNT, DONE and MATCH. -/
  | initCrc (o : Origin) (u : Fin 4) (poly : Fin 4) (ie : Bool)
  /-- FEED (R696): A CRC_DATA8, 16 or 32 write feeds bytes into a unit, setting DONE and MATCH at LEN. -/
  | feed (o : Origin) (u : Fin 4) (k : Fin 3) (v : Fin 4294967296)
  /-- COUNTER_OVERFLOW (R710): A PMU counter wraps past 2^48, sets OVF and may freeze its world. -/
  | counterOverflow (n : Fin 128) (inc : Nat) (pc : Nat) (mode : Fin 4) (trap : Bool)
  /-- ARM (R713): A PMU_TRIG write with ARM arms one snapshot at ST T. -/
  | arm (o : Origin) (t : Nat) (frz : Bool)
  /-- SNAPSHOT (R715): Every counting domain reaches T and captures counts; the snapshot becomes valid. -/
  | snapshot (late : Bool)
  /-- BW_WINDOW (R718): A port monitor's window ends at an ST multiple and its totals are published. -/
  | bwWindow (m : Fin 24) (rd wr rdOpen wrOpen : Nat)
  /-- BW_READ (R719): A PMU_BW_RD read latches the same window's write total for its origin. -/
  | bwRead (o : Origin) (m : Fin 24)
  /-- UNIT_TEST (R728): Test command taking a unit out of service, testing it, then returning or retiring it. -/
  | unitTest (o : Origin) (host : Option PortId)
  /-- UNIT_RETIRE (R728): Test command retiring a unit without a test. -/
  | unitRetire (o : Origin) (host : Option PortId)
  /-- MEM_MARCH (R732): Host-directed test command marching a memory in BLANK. -/
  | memMarch (o : Origin) (host : Option PortId)
  /-- DRAM_TRAIN (R732): Host-directed test command running full DRAM training in BLANK. -/
  | dramTrain (o : Origin) (host : Option PortId)
  /-- TEST_DONE (R733): A test command ends, writes its terminal status and raises source 60 or PF0 vector 3. -/
  | testDone (n : Fin 7) (fails : List TestFail) (train : Option TrainRec)
  /-- REGISTER_READ (R135): A register read reaches its block's serialisation point, returns the field and clears RC fields or
  latches the other half of a paired register. -/
  | registerRead (o : Origin) (a n : Nat)
  /-- PERST_N_DEASSERT (R88): HPx_PERST_N is deasserted; the port leaves PRT reset, raises Hutch ICU source 9 or 10 and begins
  link training. -/
  | perstNDeassert (p : PortId)
  /-- HOST_LINK_UP (R88): A host port detects its link partner and completes PCIe link training, after PERST_N release or a
  surprise link-down. -/
  | hostLinkUp (p : PortId)
  /-- VF_ENABLE (R163): The host sets VF Enable in the port's SR-IOV capability, after which CREATE may bind Drawers of that port.
  -/
  | vfEnable (p : PortId) (cfg : PciCfg)
  /-- SYNTHESISER_LOCK (R380): A starting head's pixel-clock synthesiser locks, or fails with START_ERR 5, and link start for a
  runtime start begins. -/
  | synthesiserLock (h : HeadId) (ok : Bool) (sink : Sink)
  /-- HPD_ASSERT (R86): HPD rises on a DisplayPort head that has been waiting for its sink, and the port reads DPCD and EDID and
  starts training. -/
  | hpdAssert (h : HeadId) (sink : Sink)
  /-- PANEL_POWER_UP (R434): OFF_MIN_MS after PANEL_PWR_EN fell, a raise that was requested earlier is carried out and the panel
  start order resumes. -/
  | panelPowerUp (h : HeadId)
  /-- PORT_TRAIN_RETRY (R443): A PlynLink port that could not bring up both lanes retries training after 1 s. -/
  | portTrainRetry (p : PlkPort)
  /-- ST_SLEW_DONE (R650): A backward difference D is fully absorbed by slewing, and SLEWING and BEHIND clear. -/
  | stSlewDone
  deriving DecidableEq, Repr

end Sys2Proof
end

