-- ==== Sys2Proof/Config.lean ====
section
/-! DEFINITION. What an implementation fixes and the spec leaves open: opaque constants without a body. No proof can see a
value of one, so a claim holds for every value. -/

namespace Sys2Proof.Config

/-- HMAC-SHA-256 under the audit sealing key of a handle (R617, R689). The key cannot be read by any agent, so the MAC is an
uninterpreted function of the handle and the covered bytes. Log entry 6. -/
opaque sealMac : Nat → List (BitVec 8) → Nat

/-- SHA-384 of bytes, as the little-endian number of the digest's bytes (R91, R92, R94, R100). Log entry 6. -/
opaque sha384 : List (BitVec 8) → Nat

/-- Does ECDSA P-384 refuse a signature of a key over covered bytes (R91)? Log entry 6. -/
opaque ecdsaBad : List (BitVec 8) → List (BitVec 8) → List (BitVec 8) → Bool

/-- Does the AES-256-GCM tag of a stored section (IV, ciphertext, tag) fail under the image decryption key of the fuses, which is
provisioned or not (R95)? Log entry 6. -/
opaque gcmBad : Bool → List (BitVec 8) → Bool

/-- The plaintext of a stored section under that key (R95). Log entry 6. -/
opaque gcmPlain : Bool → List (BitVec 8) → List (BitVec 8)

/-- The free values: the `n`-th value that the spec leaves open. Log entry 7. -/
opaque freeValue : Nat → Nat

/-- The value of a window token (R467), HMAC under the token key over the text the rule names. Log entry 6. -/
opaque tokenMac : List (BitVec 8) → List (BitVec 8) → Nat

/-- A byte of a memory array whose contents a MOD reset leaves undefined (R734), for the `n`-th such reset. Log entry 8. -/
opaque undefinedByte : Nat → Nat → BitVec 8

/-- A byte of a range of memory that the spec leaves undefined (R263), for the `n`-th value that it leaves open. Log entry 8. -/
opaque undefinedRange : Nat → Nat → BitVec 8

/-- What blending leaves of a pixel (R273): the draw state, the fragment program's output, the pixel of the quad (0 to 3) and its attachments as
they stand, with all samples, give its attachments after depth test, stencil test and blending. Table 7.7 lists the states without
their encodings. Log entry 15. -/
opaque blendPixel : List (BitVec 8) → List (BitVec 8) → Nat → List (List (BitVec 8)) → List (List (BitVec 8))

/-- The mean of the samples of one channel of a render target (R254), given the format, the channel and the samples, where Table 7.6 does
not give its number format or the spec its rounding. Log entry 15. -/
opaque resolveChannel : Nat → Nat → List Nat → Nat

/-- Coefficients of CMP_SCL_COEF (R336, Table 9.4): a ROM whose contents the spec does not give, as taps of a phase; the last
tap of each phase makes the sum 256. Log entry 11. -/
opaque sclCoef : Nat → Nat

/-- Does an inexact quotient `num / den` round up, where the spec states a result but not its rounding? Log entry 16. -/
opaque roundUp : Int → Nat → Bool

/-- The gain 10^(-v / 40) of a volume code from 1 to 254 in units of 2^-30: the spec gives it as a real number and no format.
Log entry 17. -/
opaque volGain : Nat → Nat

/-- What a 64-bit accumulator holds of a sum that does not fit it (R559): the spec states no overflow. Log entry 18. -/
opaque accOverflow : Int → Int

/-- Size in MiB, at least 1, of a memory of Table 25.1 whose size the spec does not state (caches of CC0 to CC3, register files,
Witness buffers). Log entry 19. -/
opaque memMib : Nat → Nat

end Sys2Proof.Config
end

