-- ==== Sys2Proof/Machine/State.lean ====
section
/-! DEFINITION. The state of the device, its state after reset, and the reasons for which a step can stop. -/

namespace Sys2Proof.Machine

/-- Progress of the start sequence beside CFG_STATUS (R82, R87, R101). -/
structure Boot where
  rom : Bool := false
  copyTried : Nat := 0
  verified : Bool := false
  sectionsLoaded : Bool := false
  repairsDone : Bool := false
  openingDone : Bool := false
  dramTrained : Bool := false
  firstFrame : Bool := false
  firstFrameAt : Nat := 0
  appBase : Nat := 0
  shelfLoaded : Bool := false
  extNeeded : Bool := false
  extDone : Bool := false
  plynDone : Bool := false
  portsReleased : Bool := false
  recovery : Bool := false
  shutdownWaiting : Bool := false
  aborted : Bool := false
  buildId : Nat := 0
  deriving DecidableEq, Repr, Inhabited

/-- The state of the device. -/
structure State where
  /-- The commands that wait, first in, first out. The block form of this model; no part of the spec. -/
  pending : List Instr := []
  /-- Every stored register of the maps of the spec (`F.` fields of Regs.lean), as the elements that differ from their reset value; keys rising. -/
  regs : List (Nat × Nat) := []
  /-- The values that the loaded image gave the IMG fields (R117): what a reset of their domain puts back. -/
  shadow : List (Nat × Nat) := []
  /-- Device memory (R122, R123): the bytes of DRAM, Shelf store, Hutch SRAM, tightly coupled memories and MRAM that differ from what an unlisted byte reads as. -/
  mem : List Host.Cell := []
  /-- What decides what an unlisted byte of device memory reads as (R263, R734). -/
  memRest : MemRest := {}
  /-- Nanoseconds since power-on, the clock that the timed rules count in (R648). The model's own clock. -/
  now : Nat := 0
  /-- Values taken so far from the free values of Config; the model's own field. -/
  freeCtr : Nat := 0
  /-- Where the module is between power-off, start and run (R43 to R59, R82). -/
  phase : Phase := .off
  /-- Power domains PD00 to PD15 that are on (R632, Table 20.1). -/
  pd : BitVec 16 := 0
  /-- Pins of J1 and of the panel connectors (R48, R63 to R70, R433). -/
  pins : Pins := {}
  /-- The input supervisor (R43 to R51). -/
  sup : Supervisor := {}
  /-- Progress of the start sequence (R82, R87, R101). -/
  boot : Boot := {}
  /-- What MRAM keeps through OFF (R59, R520, R624, R686, R722). -/
  nv : Mram := {}
  /-- The fuses (Table 19.3, R617 to R622). -/
  fuses : Fuses := {}
  /-- Copy A of the configuration flash, from its first byte on (R89, Table 3.2). -/
  flashA : List Byte := []
  /-- Copy B of the configuration flash, from its first byte on (R89, Table 3.2). -/
  flashB : List Byte := []
  /-- Halves of paired 64-bit registers held for an origin (R139). -/
  latches : List Latch := []
  /-- Register accesses that wait at their serialisation point, oldest first (R141, R685). -/
  held : List Held := []
  /-- What the module sent to the hosts: completions, messages and writes, by port, oldest first (R181, R205, R230). -/
  hostOut : List (Nat × HostOut) := []
  /-- What reads returned to masters inside the module, oldest first. -/
  reads : List ReadData := []
  /-- The on-die audit buffer and the open block (R683 to R688). -/
  adl : Adl := {}
  /-- Error queues, escalation and recovery state (R657 to R677). -/
  err : ErrState := {}
  /-- Power manager and time base (R632 to R656). -/
  pm : Pm := {}
  /-- Debug sessions and the TAP (R626 to R631). -/
  dbg : Dbg := {}
  /-- Control cores (R580 to R585, R613 to R616). -/
  cores : Cores := {}
  /-- The Drawer templates of the image (Table 5.4). -/
  templates : List Template := []
  /-- The MUTABLE entries of the image (Table 3.9). -/
  mutables : List Mutable := []
  /-- Host ports and mailboxes (R88, R156 to R176), by number. -/
  ports : List (Nat × HostPort) := []
  /-- Drawers (chapter 5), by number. -/
  drw : List (Nat × Drw) := []
  /-- Fence timelines (R211 to R217), by module ID. -/
  tls : List (Nat × Timeline) := []
  /-- Completion Collector and Journal (R229 to R242). -/
  jnl : JnlState := {}
  /-- Head layers (chapter 9), by head x 9 + layer. -/
  layers : List (Nat × Layer) := []
  /-- Commits taken so far, which number them in order (R341). -/
  flipCtr : Nat := 0
  /-- Heads (chapters 9 and 10), by number. -/
  heads : List (Nat × HeadRt) := []
  /-- Display ports and panels (chapter 12), by number. -/
  dps : List (Nat × PortRt) := []
  /-- The Witness (chapter 11). -/
  wit : Wit := {}
  /-- Assets and safety planes of the Shelf (R357 to R360). -/
  shelf : Shelf := {}
  /-- Telltales and the CAN ports (R107 to R115). -/
  tell : Telltales := {}
  /-- GPU front end, Bench groups and the ledger of shares (chapters 7 and 8). -/
  gpu : Gpu := {}
  /-- The DRAM controller (chapter 14). -/
  dmc : Dmc := {}
  /-- Requests that wait for their admission to the FIFO of a paused DRAM channel, oldest first (R496, R508). -/
  stalled : List Stalled := []
  /-- PlynLink (chapter 13). -/
  plk : Plk := {}
  /-- The haptic drive (chapter 16). -/
  hap : Hap := {}
  /-- Touch sensing (chapter 15). -/
  tch : Tch := {}
  /-- The audio graph (chapter 17). -/
  aud : Aud := {}
  /-- Performance monitoring (chapter 24). -/
  pmu : Pmu := {}
  /-- Test commands that run (R728 to R733). -/
  tests : List TestJob := []
  deriving DecidableEq, Repr, Inhabited

/-- Nothing in this model faults: an access that the spec says does not exist reads zero and records an error (R125). -/
inductive Fault where
  /-- Raised by no meaning. Safe. -/
  | none
  deriving DecidableEq, Repr

/-- Refusals. -/
inductive Refusal where
  /-- An arm of Dispatch whose command has no meaning yet. Safe. -/
  | notModelled (mnemonic : String)
  deriving DecidableEq, Repr

/-- The device right after reset. -/
def State.reset : State := {}

end Sys2Proof.Machine
end

