-- ==== Sys2Proof/Machine/Ops.lean ====
section
/-! DEFINITION. The named operations that the meanings share: register fields, time stamps, memory, the interrupt
controllers, audit entries, error recording, resets and the device's outputs. -/

namespace Sys2Proof.Machine

/-- Level sources of Table 18.2 (the others that exist are edge sources). -/
def icuIsLevel (n : Nat) : Bool := (16 ≤ n && n ≤ 41) || (44 ≤ n && n ≤ 127)

/-- Sources that exist in Table 18.2; the reserved ones are never pending (R586, R657). -/
def icuExists (n : Nat) : Bool :=
  (1 ≤ n && n ≤ 79 && n ≠ 78 && n ≠ 64) || (80 ≤ n && n ≤ 107) || (128 ≤ n && n ≤ 135) || (256 ≤ n && n ≤ 511)

/-- Value of a field at reset (the Reset column; IMG and HW fields read 0 until they are loaded, R9). -/
def Fld.rstv (f : Fld) (i : Nat) : Nat :=
  match f.rst with
  | .zero => 0
  | .val n => n
  | .lut => 4 * (i % 1024)
  | .mtx => if i % 9 / 3 = i % 3 then 0x1000 else 0
  | .ownFixed => if i = 0 then 0x1A else if i = 1 then 0x282 else 0
  | .level => b2n (icuIsLevel i)
  | .bq => if i % 5 = 0 then 0x40000000 else 0
  | .img | .hw | .rom => 0

/-- Number of a field: register and lowest bit. -/
def Fld.num (f : Fld) : Nat := f.reg * 64 + f.lo

/-- Key of element `i` of a field in the register store. -/
def Fld.key (f : Fld) (i : Nat) : Nat := f.num * 2 ^ 20 + i % 2 ^ 20

/-- Element `i` of a field. -/
def State.get (s : State) (f : Fld) (i : Nat := 0) : Nat := tget (f.rstv i) s.regs (f.key i)

/-- Set element `i` of a field; the value is cut to the field's width. -/
def State.put (s : State) (f : Fld) (i : Nat) (v : Nat) : State :=
  { s with regs := tset (f.rstv i) s.regs (f.key i) (v % 2 ^ f.width) }

/-- Is the one-bit element `i` of the field 1? -/
def State.on (s : State) (f : Fld) (i : Nat := 0) : Bool := s.get f i = 1

/-- Set a one-bit field. -/
def State.putB (s : State) (f : Fld) (i : Nat) (b : Bool) : State := s.put f i (b2n b)

/-- Count up by `n`, saturating at the field's width. -/
def State.incSat (s : State) (f : Fld) (i : Nat := 0) (n : Nat := 1) : State :=
  s.put f i (min (s.get f i + n) (2 ^ f.width - 1))

/-- Count up by `n`, wrapping. -/
def State.incWrap (s : State) (f : Fld) (i : Nat := 0) (n : Nat := 1) : State := s.put f i (s.get f i + n)

/-- Set or clear bit `b` of a field that holds a bit vector. -/
def State.putBit (s : State) (f : Fld) (i b : Nat) (v : Bool) : State :=
  s.put f i (if v then setBit (s.get f i) b else clrBit (s.get f i) b)

/-- Raise a high-water mark. -/
def State.maxTo (s : State) (f : Fld) (i v : Nat) : State := s.put f i (max (s.get f i) v)

/-- The word that element `i` of register `r` reads as. -/
def State.regWord (s : State) (r i : Nat) : Nat :=
  ((regMap[r]?).map (fun x => x.flds.foldl (fun a f => a + s.get f i * 2 ^ f.lo) 0)).getD 0

/-- Put an IMG field and its shadow (R668: the shadow follows every write that takes effect). -/
def State.putImg (s : State) (f : Fld) (i v : Nat) : State :=
  { s.put f i v with shadow := tset 0 s.shadow (f.key i) (v % 2 ^ f.width) }

/-! ### Time -/

/-- ST (R648). -/
def State.st (s : State) : Nat := s.get F.TIM_ST_ST
/-- State of ST: 0 FINE, 1 COARSE, 2 INVALID (R649). -/
def State.stState (s : State) : Nat := s.get F.TIM_STATUS_STATE

/-- Has the image committed (R116)? -/
def State.committed (s : State) : Bool := s.on F.CFG_STATUS_COMMITTED

/-- A fresh free value number: the counter that opaque free values are applied to. -/
def State.fresh (s : State) : State := { s with freeCtr := s.freeCtr + 1 }

/-! ### Power domains (Tables 1.1 and 1.2) -/

/-- Power domain of a block's registers; a Drawer page is block 0 here and lies in PD12. -/
def pdOfBlk (b : Nat) : Nat :=
  if b = 0 then 12 else if b = 1 then 0 else if b = 2 then 2 else if b = 3 ∨ b = 4 then 3
  else if b = 5 ∨ b = 6 then 1 else if b = 7 ∨ b = 0xC ∨ b = 0xD then 4
  else if 8 ≤ b ∧ b ≤ 0xB then b - 3 else if 0x10 ≤ b ∧ b ≤ 0x18 then 10
  else if b = 0x19 then 9 else if b = 0x1A ∨ b = 0x1B then 12 else if b = 0x1C then 13 else if b = 0x1D then 14
  else if b = 0x1E ∨ b = 0x1F ∨ b = 0x2A then 11
  else if b = 0x22 ∨ b = 0x23 ∨ b = 0x28 ∨ b = 0x29 then 0 else 1

/-- Is power domain `d` on? -/
def State.pdOnB (s : State) (d : Nat) : Bool := s.pd.getLsbD d

/-- Turn a set of power domains on or off. -/
def State.setPd (s : State) (m : BitVec 16) (v : Bool) : State := { s with pd := if v then s.pd ||| m else s.pd &&& ~~~m }

/-- Is block `b` being reset as part of an island (R668)? -/
def ResetUnit.covers (u : ResetUnit) (b : Nat) : Bool :=
  match u with
  | .bg g => b = 8 + g
  | .rtPair n => b = 3 + n
  | .head n => b = 0x10 + n
  | .witIsland => 0x10 ≤ b && b ≤ 0x18
  | .gpuIsland => b = 7 || b = 0xC || b = 0xD
  | .coreIsland => b = 2
  | .perIsland => b = 0x1E || b = 0x1F || b = 0x2A
  | .hostIsland => b = 0x1A || b = 0x1B || b = 0
  | .plkIsland => b = 0x1C
  | .tchIsland => b = 0x1D

/-- Power domain of a reset unit (FAB_ERR_ISL index). -/
def ResetUnit.pd : ResetUnit → Nat
  | .bg g => 5 + g | .rtPair _ => 3 | .head _ => 10 | .witIsland => 10 | .gpuIsland => 4
  | .coreIsland => 2 | .perIsland => 11 | .hostIsland => 12 | .plkIsland => 13 | .tchIsland => 14

/-- Can block `b` be reached: its domain is on and it is not isolated (R145, R668)? -/
def State.blkOn (s : State) (b : Nat) : Bool := s.pdOnB (pdOfBlk b) && !s.err.running.any (fun u => u.covers b)

/-! ### Outputs -/

/-- Issue a posted transaction on host port `p`, after those already issued. -/
def State.hostOutPush (s : State) (p : Nat) (o : HostOut) : State := { s with hostOut := s.hostOut ++ [(p, o)] }

/-- Return read data: a host's as a Successful Completion of its port (R158), a debug session's to DBG_ACC_DATA (R631), any other
master's to it. -/
def State.ret (s : State) (o : Origin) (addr v : Nat) : State :=
  if o.kind = .mediator || o.kind = .drawer then s.hostOutPush o.port (.cplOk v)
  else if o.kind = .debug then s.put F.DBG_ACC_DATA_DATA 0 v
  else { s with reads := s.reads ++ [⟨o, addr, v⟩] }

/-- Drive FAULT_N for a cause (R63); the cause stays until its release (R64). -/
def State.faultN (s : State) (c : FaultCause) : State :=
  if s.pins.faultCauses.contains c then s
  else { s with pins := { s.pins with faultCauses := s.pins.faultCauses ++ [c] } }

/-- Take a cause off FAULT_N (R64). -/
def State.faultNRelease (s : State) (c : FaultCause) : State :=
  { s with pins := { s.pins with faultCauses := s.pins.faultCauses.filter (fun x => x != c) } }

/-- FAULT_N is low while a cause drives it. -/
def Pins.faultLow (p : Pins) : Bool := !p.faultCauses.isEmpty

/-! ### The Hutch ICU (R600) and the main ICU (R586 to R598) -/

/-- An event of a Hutch ICU source sets its pending bit. -/
def State.hutchRaise (s : State) (n : Nat) : State := s.putBit F.HUT_ICU_PEND_PENDING 0 n true

/-- Context of target `t` that source `n` uses (R585, R587). -/
def State.icuCtxOf (s : State) (n t : Nat) : Nat :=
  if t < 4 then (if s.on F.ICU_SRC_WORLD n then 4 + t else t) else t + 4

/-- Is target `t` in the mask of source `n`? -/
def State.icuTgt (s : State) (n t : Nat) : Bool :=
  if t < 4 then bit (s.get F.ICU_SRC_TGT_CC n) t else bit (s.get F.ICU_SRC_TGT_RT n) (t - 4)

/-- Is target `t` awake? -/
def State.awake (s : State) (t : Nat) : Bool := bit (s.get F.ICU_STATUS_AWAKE) t

/-- May source `n` be offered to target `t` (the set elig of R589)? -/
def State.icuElig (s : State) (n t : Nat) : Bool :=
  s.icuTgt n t && s.awake t && s.get F.ICU_THRESH_THRESH (s.icuCtxOf n t) < s.get F.ICU_SRC_PRIO n

/-- Wake target `t` (R589, R596): WAKING and the core's STATE 2; a pair in its mismatch reset stays in it, and runs when it ends (R583). -/
def State.wakeTarget (s : State) (t : Nat) : State :=
  let s := s.putBit F.ICU_STATUS_WAKING 0 t true
  if t < 4 then (s.put F.CCL_CORE_STATE t 2).put F.CCL_CORE_SLEEP t 0
  else if s.get F.RTx_CTRL_STATE (t - 4) = 3 then s else (s.put F.RTx_CTRL_STATE (t - 4) 2).put F.RTx_CTRL_SLEEP (t - 4) 0

/-- Offer source `n` to target `t`. -/
def State.icuGive (s : State) (n t : Nat) : State :=
  let s := ((s.put F.ICU_SRC_OFFERED n 1).put F.ICU_SRC_CTX n (s.icuCtxOf n t)).put F.ICU_SRC_LAST n t
  { s with cores := { s.cores with sleptFor := s.cores.sleptFor.filter (fun x => x != n) } }

/-- The procedure of R589 for one source. Nothing is offered while PD01 is off (R599). -/
def State.icuTry (s : State) (n : Nat) : State :=
  if !s.on F.ICU_SRC_PENDING n || s.on F.ICU_SRC_OFFERED n || s.on F.ICU_SRC_INSERVICE n
      || s.on F.ICU_GDIS_GDIS || s.get F.ICU_SRC_PRIO n = 0 || !s.pdOnB 1 then s
  else
    let elig := (List.range 6).filter (s.icuElig n)
    let mask := (List.range 6).filter (s.icuTgt n)
    match elig with
    | [] =>
      match mask with
      | [] => s
      | t :: _ =>
        if mask.any s.awake || mask.any (fun t => bit (s.get F.ICU_STATUS_WAKING) t) then s
        else (s.wakeTarget t).incSat F.ICU_STATUS_WAKES
    | lo :: _ =>
      if s.on F.ICU_SRC_DIST n || s.cores.sleptFor.contains n then
        match elig.filter (fun t => s.get F.ICU_SRC_LAST n < t) with
        | t :: _ => s.icuGive n t
        | [] => s.icuGive n lo
      else s.icuGive n lo

/-- Every source is tried again, as when an input of R589 changes. -/
def State.icuReeval (s : State) : State := (List.range 512).foldl State.icuTry s

/-- A source's event: it becomes pending and is offered (R586, R589). Sources that do not exist never are (Table 18.2). -/
def State.icuRaise (s : State) (n : Nat) : State :=
  if icuExists n then (s.put F.ICU_SRC_PENDING n 1).icuTry n else s

/-- Withdraw an offer (R595). -/
def State.icuWithdraw (s : State) (n : Nat) (bySleep : Bool) : State :=
  if s.on F.ICU_SRC_OFFERED n then
    let s := (s.put F.ICU_SRC_OFFERED n 0).incSat F.ICU_STATUS_WITHDRAWN
    let s := if bySleep then { s with cores := { s.cores with sleptFor := s.cores.sleptFor ++ [n] } } else s
    s.icuTry n
  else s

/-- A level source's line falls: it stops being pending, and an unclaimed offer is withdrawn (R586, R595). -/
def State.icuLower (s : State) (n : Nat) : State :=
  if icuIsLevel n then (s.put F.ICU_SRC_PENDING n 0).icuWithdraw n false else s

/-- Drive a level source's line. -/
def State.icuLine (s : State) (n : Nat) (v : Bool) : State := if v then s.icuRaise n else s.icuLower n

/-- Is the line of context `c` asserted (R590, R593)? -/
def State.icuCtxLine (s : State) (c : Nat) : Bool :=
  !s.on F.ICU_GDIS_GDIS && (List.range 512).any (fun n =>
    s.on F.ICU_SRC_OFFERED n && s.get F.ICU_SRC_CTX n = c && s.get F.ICU_THRESH_THRESH c < s.get F.ICU_SRC_PRIO n)

/-! ### Audit entries (R678 to R685) -/

/-- Entries buffered and not yet copied. -/
def State.auditFull (s : State) : Bool := 64 ≤ s.adl.buf.length

/-- Accept an entry into the on-die buffer: it takes the next SEQ, the ST and the START of this start, and is durable
(R681, R683). The Hutch source 6 is pending while more than FLUSH_MARK entries wait (R684). -/
def State.auditAccept (s : State) (e : AuditEntry) : State :=
  let e := { e with st := s.st % 2 ^ 62, stState := s.stState, seq := s.get F.ADL_STATUS_NEXT_SEQ,
                    start := s.get F.ADL_STATUS_START }
  let s := (({ s with adl := { s.adl with buf := s.adl.buf ++ [e] } }).incWrap F.ADL_STATUS_NEXT_SEQ).put
    F.ADL_RING_HELD 0 (min (s.get F.ADL_RING_HELD + 1) 1048576)
  if s.get F.ADL_CFG_FLUSH_MARK < s.adl.buf.length then s.hutchRaise 6 else s

/-- The address field of a TYPE 0 entry: [29:0] register address minus the register base (Table 22.1). -/
def auditAddr (addr : Nat) : Nat := (addr - 0x00F000000000) % 2 ^ 30

/-- A register-write entry (TYPE 0). -/
def State.auditReg (s : State) (o : Origin) (addr old new : Nat) (high refused : Bool) (reason : Nat) : State :=
  s.auditAccept { origin := o.word, addr := auditAddr addr, old := old, new := new, type := 0,
                  refused := refused, high := high, reason := reason }

/-! ### Errors (R657 to R676) -/

/-- Default class of a code (Table 21.2). -/
def defaultClass (code : Nat) : Nat :=
  if 0x20 ≤ code ∧ code ≤ 0x23 then 0
  else if 0x28 ≤ code ∧ code ≤ 0x38 then 1
  else if 0x40 ≤ code ∧ code ≤ 0x45 then 2
  else if 0x48 ≤ code ∧ code ≤ 0x4B then 3
  else 1

/-- Class of a code after the overrides of POLICY, which may only raise it (R660). -/
def State.classOf (s : State) (e : ErrIn) : Nat :=
  max (e.cls.getD (defaultClass e.code)) (tget 0 s.err.overrides e.code)

/-- Domains that have a queue (R657). -/
def hasQueue (d : Nat) : Bool := 1 ≤ d && d ≤ 0x2B && d ≠ 0x0E && d ≠ 0x0F

/-- The reset unit of a domain's row in Table 21.4; `none` where the row says MODULE. -/
def unitOf (d : Nat) : Option ResetUnit :=
  if 8 ≤ d ∧ d ≤ 0xB then some (.bg (d - 8))
  else if d = 3 ∨ d = 4 then some (.rtPair (d - 3))
  else if 0x10 ≤ d ∧ d ≤ 0x17 then some (.head (d - 0x10))
  else if d = 0x18 then some .witIsland
  else if d = 7 ∨ d = 0xC ∨ d = 0xD ∨ d = 6 then some .gpuIsland
  else if d = 2 then some .coreIsland
  else if d = 0x1E ∨ d = 0x1F ∨ d = 0x2A then some .perIsland
  else if d = 0x1A ∨ d = 0x1B then some .hostIsland
  else if d = 0x1C then some .plkIsland
  else if d = 0x1D then some .tchIsland
  else none

/-- The queue of domain `d`. -/
def State.errq (s : State) (d : Nat) : ErrQ := tget {} s.err.queues d

/-- Replace the queue of domain `d`; source 64 + d is pending while it holds a record (R657). -/
def State.setErrq (s : State) (d : Nat) (q : ErrQ) : State :=
  ({ s with err := { s.err with queues := tset {} s.err.queues d q } }).icuLine (64 + d) (!q.recs.isEmpty)

/-- SAFE (R675). -/
def State.safeMode (s : State) : Bool := s.on F.FAB_ERR_MOD_SAFE

/-- Throttle level whose actions apply: SAFE applies those of level 4 (R675, R78). -/
def State.effThrottle (s : State) : Nat := if s.safeMode then max 4 (s.get F.PWR_SUPPLY_THROTTLE) else s.get F.PWR_SUPPLY_THROTTLE

/-- GPU clock limit of a throttle level in MHz (Table 2.13). -/
def throttleMhz (l : Nat) : Nat := if 2 ≤ l then 1200 else if l = 1 then 1500 else 1750

/-- The GPU clock is the lowest of its limits: GPU_MAX_MHZ, the throttle level or SAFE, and those of R24 and R25 (R80, R647). GEN_EFF is
GEN_CAP unless throttle level 2 or R25 lowers it; by how much level 2 does is left open (R387, Table 2.13, log entry 7). -/
def State.clockActions (s : State) : State :=
  let l := s.effThrottle
  let cap := s.get F.CMP_FETCH_CFG_GEN_CAP
  let g := if l < 2 then none else some (s.pm.genThrottle.getD (Config.freeValue s.freeCtr % max 1 cap))
  let s := if 2 ≤ l && s.pm.genThrottle.isNone then s.fresh else s
  let s : State := { s with pm := { s.pm with
    gpuMhz := min (min s.pm.gpuMhzCap (throttleMhz l)) (min s.pm.reserveMhz s.pm.averageMhz), genThrottle := g } }
  s.put F.CMP_FETCH_CFG_GEN_EFF 0 (min (g.getD cap) (s.pm.genAverage.getD cap))

/-- The power manager's loop (R23 to R25): while the haptic reserve is armed the GPU clock is limited so that the rest stays at 140 W, and
for the 120 W average the GPU clock is lowered first and GEN_EFF second. No rule says how far; each limit is a free value in 25 MHz
steps (R647) or GB/s (log entry 7). -/
def State.powerLimits (s : State) : State :=
  let n := s.freeCtr
  let cap := s.pm.gpuMhzCap
  let free := fun (k : Nat) => 25 * (Config.freeValue k % (cap / 25 + 1))
  let avg := free (n + 1)
  let gen := if avg < min cap (throttleMhz s.effThrottle) then some (Config.freeValue (n + 2) % (s.get F.CMP_FETCH_CFG_GEN_CAP + 1)) else none
  ({ s with freeCtr := n + 3, pm := { s.pm with reserveMhz := if s.pm.hapReserve then free n else cap, averageMhz := avg,
                                                genAverage := gen } } : State).clockActions

/-- The recovery start of R101: heads dark and stopped, CAN, touch, haptics, audio and PlynLink off, both host ports
released with PF0 only and no Drawers. In SERVICE the digest of its record is the only debug root (R624). -/
def State.recoveryStart (s : State) : State :=
  let s := ((s.put F.CFG_STATUS_STAGE 0 0xF).put F.CFG_STATUS_COPY 0 0).put F.CFG_STATUS_LAMP_ACTIVE 0 0
  let s := (List.range 8).foldl (fun s h =>
    let s := (s.put F.HDn_CTRL_RUN h 0).put F.WIT_HSTATUS_STATE h 3
    let s := ((s.put F.HDn_PORT_STATUS_LINK h 0).put F.HDn_PORT_STATUS_LANES_ACT h 0).put F.HDn_PORT_STATUS_RATE_ACT h 0
    let s := (s.put F.HDn_STATUS_LOCKED h 0).put F.HDn_STATUS_HOLDOVER h 0
    if s.get F.HDn_STATUS_STATE h = 5 then s else s.put F.HDn_STATUS_STATE h 0) s
  let s := (List.range 8).foldl (fun s p => (s.put F.TCH_PNL_STATUS_STATE p 0).put F.HAP_CH_STATUS_PHASE p 0) s
  let s := (List.range 4).foldl (fun s p => (s.put F.PLK_PORT_CTRL_EN p 0).put F.PLK_PORT_STATUS_STATE p 0) s
  { s with boot := { s.boot with recovery := true, portsReleased := true, sectionsLoaded := false }, phase := .running,
           dbg := { s.dbg with dbgRoots := if s.get F.CAB_LC_STATE = 3 then 1 else 0,
                               rootDigests := if s.get F.CAB_LC_STATE = 3 then [leBytes 48 ((s.nv.service.map (fun r => r.rootDigest)).getD 0)] else [] },
           pins := { s.pins with panelPwrEn := 0, blEn := 0, blPwmDuty := [] }, templates := [], layers := [], dps := [], tell := {}, tch := {}, aud := {},
           heads := s.heads.map (fun (p : Nat × HeadRt) => (p.1, { entry := p.2.entry })),
           hap := {}, plk := { s.plk with ports := [], started := false } }

/-- Times at which the module took RESTART within the last 60 s (R676). -/
def State.recentRestarts (s : State) : List Nat := s.err.restartTimes.filter (fun t => s.now < t + 60000000000)

/-- The MODULE-class actions (Table 21.1, R671, R675, R676). -/
def State.moduleAction (s : State) (domain code : Nat) : State :=
  let s := ((s.faultN .moduleError).hutchRaise 15).put F.FAB_ERR_MOD_DOMAIN 0 domain |>.put F.FAB_ERR_MOD_CODE 0 code
  if !s.committed then s.recoveryStart
  else if s.err.moduleAction = 0 then s.put F.FAB_ERR_MOD_ACTION 0 0
  else if s.err.moduleAction = 2 ∧ s.recentRestarts.length < 2 then
    let ts := s.recentRestarts ++ [s.now]
    { (s.put F.FAB_ERR_MOD_ACTION 0 2).put F.FAB_ERR_MOD_RESTARTS 0 ts.length with
      err := { s.err with restartTimes := ts, modResetDue := true } }
  else ((s.put F.FAB_ERR_MOD_ACTION 0 1).put F.FAB_ERR_MOD_SAFE 0 1).clockActions

/-- Times of the resets of power domain `d` within RESET_WINDOW_MS (R670). -/
def State.resetsIn (s : State) (d : Nat) : List Nat :=
  (s.err.resetTimes.filter (fun (x : Nat × Nat) => x.1 = d && decide (s.now < x.2 + s.err.windowMs * 1000000))).map (fun x => x.2)

/-- Would one more reset be the RESET_LIMIT-th of the unit's island within the window (R670)? -/
def State.overLimit (s : State) (u : ResetUnit) : Bool := decide (s.err.limit ≤ (s.resetsIn u.pd).length + 1)

/-- Call for the reset of an ISLAND-class error of domain `d`, unless one of the same unit runs or is due (R667, R669);
a domain whose row says MODULE is handled as MODULE, and before commit the start ends in recovery start (R671). -/
def State.callReset (s : State) (d code : Nat) (esc : Bool) : State :=
  match unitOf d with
  | none => s.moduleAction d code
  | some u =>
    if !s.committed then s.recoveryStart
    else if s.err.running.contains u || s.err.due.any (fun r => r.unit = u) then s
    else { s with err := { s.err with due := s.err.due ++ [⟨u, d, code, esc⟩] } }

/-- What class `c` does besides the record (Table 21.1). -/
def State.classAction (s : State) (c d code : Nat) (esc : Bool) : State :=
  if c = 2 then s.callReset d code esc else if 3 ≤ c then s.moduleAction d code else s

/-- ACTION of a new record (Table 21.3, R670). -/
def State.actionOf (s : State) (c d given : Nat) : Nat :=
  if c = 2 then (match unitOf d with
    | none => 7
    | some u =>
      if s.committed && s.overLimit u then (match u with | .bg _ => 6 | _ => 7)
      else match u with | .rtPair _ => 4 | .head _ => 4 | _ => 5)
  else if 3 ≤ c then 7 else given

/-- Class of a Drawer: 1 ASSURED, 0 GENERAL (R20). -/
def State.assured (s : State) (d : Nat) : Bool := s.get F.DRW_INFO_CLASS d = 1

/-- FAULT_N causes that POLICY adds for a record (FAULT_ADD bits 0, 1 and 3, Table 21.5). -/
def State.policyFault (s : State) (c : Nat) (e : ErrIn) : State :=
  let s := if bit s.err.faultAdd 0 && c = 2 then s.faultN (.policy 0) else s
  let s := if bit s.err.faultAdd 1 && c = 1 && (e.drawer.map s.assured).getD false then s.faultN (.policy 1) else s
  if bit s.err.faultAdd 3 && e.code = 0x34 then s.faultN (.policy 3) else s

/-- Record an error, or merge it, or lose it with escalation, and act on its class (R659 to R665, R669). -/
def State.recordError (s : State) (e : ErrIn) : State :=
  let c := s.classOf e
  let d := e.domain
  let q := s.errq d
  if !hasQueue d then s
  else if q.recs.any (fun r => r.code = e.code && r.cls = c && r.source = e.source) then
    let upd := fun (r : ErrRec) =>
      if r.code = e.code && r.cls = c && r.source = e.source then
        { r with count := satInc r.count 16, lastSt := s.st % 2 ^ 62, lastState := s.stState }
      else r
    ((s.setErrq d { q with recs := q.recs.map upd }).policyFault c e).classAction c d e.code false
  else if 16 ≤ q.recs.length then
    let s := ((s.put F.FAB_ERR_Q_OVERFLOW d 1).incSat F.FAB_ERR_Q_LOST d).put F.FAB_ERR_Q_LOST_CODE d e.code
    s.classAction (min 3 (c + 1)) d e.code true
  else
    let r : ErrRec :=
      { domain := d, code := e.code, cls := c, drawer := e.drawer, source := e.source % 256,
        action := s.actionOf c d e.action, count := 1, origin := e.origin, seq := s.get F.FAB_ERR_Q_NEXT_SEQ d,
        firstSt := s.st % 2 ^ 62, firstState := s.stState, lastSt := s.st % 2 ^ 62, lastState := s.stState,
        detail := e.detail }
    let s := (s.setErrq d { q with recs := q.recs ++ [r] }).incWrap F.FAB_ERR_Q_NEXT_SEQ d
    (s.policyFault c e).classAction c d e.code false

/-- Error domain of the master behind an access (R735). `blk` is the issuing block where the kind does not fix it. -/
def issuerDomain (o : Origin) (blk : Nat) : Nat :=
  match o.kind with
  | .loader => 0x28
  | .hutch => 0x01
  | .core => if blk = 0 then 0x02 else blk
  | .rt => if blk = 0 then 0x03 + o.core else blk
  | .mediator => 0x1A + o.port
  | .drawer => if blk = 0 then 0x1A + o.port else blk
  | .peer => 0x1C
  | .debug => 0x29
  | .autonomous => if blk = 0 then 0x05 else blk

/-- Record a failing access of class CONTAINED against its issuing master (R125, R126, R138, R145, R735); an access of a
Drawer that fails for its own reasons makes no record (R661). -/
def State.accessError (s : State) (o : Origin) (blk code addr : Nat) : State :=
  if o.kind = .drawer then s
  else s.recordError { domain := issuerDomain o blk, code := code, source := o.kind.num, origin := o.word,
                       detail := addr, action := 1 }

/-! ### Register writes that have a row of their own -/

/-- Is block `b` Cabinet-owned (R610)? -/
def State.cabOwned (s : State) (b : Nat) : Bool := bit (s.get F.CAB_OWN_OWN (b / 32)) (b % 32)

/-- Is block `b` in Cabinet use (R612)? -/
def State.cabUse (s : State) (b : Nat) : Bool := s.cabOwned b || bit (s.get F.CAB_USE_USE (b / 32)) (b % 32)

/-- The entries of one audited register write (R679): one for a 32-bit register or a half, two for a 64-bit register. -/
def State.auditWrite (s : State) (o : Origin) (w : RegWrite) (refused : Bool) (reason : Nat) : State :=
  if w.wide then
    (s.auditReg o w.addr (w.old % 2 ^ 32) (w.new % 2 ^ 32) false refused reason).auditReg o w.addr
      (w.old / 2 ^ 32 % 2 ^ 32) (w.new / 2 ^ 32 % 2 ^ 32) true refused reason
  else s.auditReg o w.addr (w.old % 2 ^ 32) (w.new % 2 ^ 32) false refused reason

/-- Does an access wait behind one that waits at the serialisation point of the same block (R141)? -/
def State.behindHeld (s : State) (a : Nat) : Bool := s.held.any (fun h => h.addr / 2 ^ 20 = a / 2 ^ 20)

/-- Does an audited write of this origin still wait? Its next one, to whatever block, is released only after it (Table 4.7). -/
def State.auditedHeld (s : State) (o : Origin) : Bool := s.held.any (fun h => h.audited && h.origin = o)

/-- Does the write wait at its serialisation point for a free buffer slot, behind a write that waits there, or for its origin's previous
audited write (R141, R146, R685)? -/
def State.mustWait (s : State) (o : Origin) (w : RegWrite) : Bool :=
  (w.audited && s.committed && (decide (64 < s.adl.buf.length + (if w.wide then 2 else 1) + w.more) || s.auditedHeld o)) || s.behindHeld w.addr

/-- Bits of the word at offset `off` of block `b` that MUTABLE grants to port `p` (R119). -/
def State.mutableBits (s : State) (p b off : Nat) : Nat :=
  s.mutables.foldl (fun m e => if e.blk = b && bit e.ports p && e.off = off then m ||| e.mask else m) 0

/-- Does R118 let the origin change the IMG fields of block `b` without a MUTABLE entry: before commit, Hutch firmware, a certified debug
session, and Cabinet firmware on a Cabinet-owned block? -/
def State.imgFree (s : State) (o : Origin) (b : Nat) : Bool :=
  !s.committed || o.kind = .loader || o.kind = .hutch || o.kind = .debug || (o.cab && s.cabOwned b)

/-- Does R118 withhold the attempted IMG bits of a write from the origin? -/
def State.imgDenied (s : State) (o : Origin) (w : RegWrite) : Bool :=
  decide (w.img ≠ 0) && !s.imgFree o w.blk
    && !(o.kind = .mediator && andNot w.img (s.mutableBits o.port w.blk (w.addr % 2 ^ 20)
      + s.mutableBits o.port w.blk (w.addr % 2 ^ 20 + 4) * 2 ^ 32) = 0)

/-- Hold an access at its serialisation point (R141); a write that waits counts in STALLS (R685). -/
def State.hold (s : State) (h : Held) : State :=
  { (if h.data.isSome then s.incSat F.ADL_RING_STALLS else s) with held := s.held ++ [h] }

/-- A register write at its block's serialisation point: a block that cannot be reached answers BLOCK_OFF (R145); an
Open-world write to a Cabinet-owned block is refused with REGION and, if audited, a refused entry (R610); an audited
write waits for its entries, which are durable before its effect `k` (R679, R685); `refuse` names the reason for which a
rule of the block refuses the attempted fields (R136), 0 for none; `part` is what the rest of a refused write does; an IMG field that
R118 withholds is refused with reason 3. -/
def State.guarded (s : State) (o : Origin) (w : RegWrite) (refuse : Nat) (k : State → State)
    (part : State → State := fun s => s) : State :=
  if !(w.free || s.blkOn w.blk) then s.accessError o 0 0x2A w.addr
  else if s.mustWait o w then
    s.hold { origin := o, addr := w.addr, size := if w.wide then 8 else 4, data := some w.new, audited := w.audited && s.committed }
  else if !w.free && s.cabOwned w.blk && !o.cab then
    (if w.audited && s.committed then s.auditWrite o w true 4 else s).accessError o 0 0x29 w.addr
  else if refuse ≠ 0 then part (if w.audited && s.committed then s.auditWrite o w true refuse else s)
  else if s.imgDenied o w then (if w.audited && s.committed then s.auditWrite o w true 3 else s)
  else if w.audited && s.committed then k (s.auditWrite o w false 0) else k s

/-- A read of a 32-bit register of block `blk` at its serialisation point: it waits behind a write that waits there (R141); of a block that
cannot be reached, or that the origin's world may not read, it returns 0 and records the error (R145, R610); else `k` answers it. -/
def State.guardedRead (s : State) (o : Origin) (a blk : Nat) (k : State → State × Nat) : State :=
  if !s.blkOn blk then (s.accessError o 0 0x2A a).ret o a 0
  else if s.behindHeld a then s.hold { origin := o, addr := a, size := 4, data := none }
  else if s.cabOwned blk && !o.cab then (s.accessError o 0 0x29 a).ret o a 0
  else (k s).1.ret o a (k s).2

/-- A configuration error of a register of block `blk` at offset `off`: FORMAT against the block (R7). -/
def State.cfgError (s : State) (o : Origin) (blk off : Nat) : State :=
  s.recordError { domain := blk, code := 0x33, source := min 255 (off / 4), origin := o.word }

/-! ### Memory -/

/-- What a byte of device memory that nothing has written reads as: 0 (DESIGN CHOICE, log entry 5); after the `n`-th MOD reset, and in a
range that is undefined, a value that is left open (R263, R734; log entry 8). -/
def memDefault (r : MemRest) (a : Nat) : Byte :=
  match r.ranges.find? (fun x => decide (x.1 ≤ a) && decide (a < x.1 + x.2.1)) with
  | some (_, _, some k) => Config.undefinedRange k a
  | some (_, _, none) => 0
  | none => if r.epoch = 0 then 0 else Config.undefinedByte r.epoch a

/-- The byte at device address `a`. -/
def State.peek (s : State) (a : Nat) : Byte := tget (memDefault s.memRest a) s.mem a

/-- Write the byte at device address `a`. -/
def State.poke (s : State) (a : Nat) (b : Byte) : State := { s with mem := tset (memDefault s.memRest a) s.mem a b }

/-- The `n` bytes from `a`. -/
def State.readBytes (s : State) (a : Nat) : Nat → List Byte
  | 0 => []
  | n + 1 => s.peek a :: s.readBytes (a + 1) n

/-- Write bytes from `a` upwards. -/
def State.writeBytes (s : State) (a : Nat) : List Byte → State
  | [] => s
  | b :: bs => (s.poke a b).writeBytes (a + 1) bs

/-- The `n`-byte little-endian number at `a` (R5). -/
def State.readLE (s : State) (a n : Nat) : Nat := leNat (s.readBytes a n)

/-- No byte of [lo, lo + n) is listed; unlisted ones of that range read as `v` says. -/
def State.memRange (s : State) (lo n : Nat) (v : Option Nat) : State :=
  { s with mem := s.mem.filter (fun p => decide (p.1 < lo) || decide (lo + n ≤ p.1)),
           memRest := { s.memRest with ranges := (lo, n, v) :: s.memRest.ranges } }

/-- The bytes of [lo, lo + n) become 0; where an unlisted byte reads as 0, those of the range are no longer listed. -/
def State.zeroBytes (s : State) (lo n : Nat) : State :=
  if s.memRest = {} then { s with mem := s.mem.filter (fun p => decide (p.1 < lo) || decide (lo + n ≤ p.1)) }
  else s.memRange lo n none

/-- The bytes of [lo, lo + n) become undefined (R263): values that are left open. -/
def State.undefBytes (s : State) (lo n : Nat) : State :=
  { s.memRange lo n (some s.freeCtr) with freeCtr := s.freeCtr + 1 }

/-- Device memory is in canonical form. -/
def Memory.wf (n : MemRest) (m : List Host.Cell) : Bool := tsorted m && m.all (fun p => decide (p.2 ≠ memDefault n p.1))

/-! ### Reset domains (R10, Table 0.3) -/

/-- Is domain `x` reset by an assertion of domain `by_`? ISL here is the part of the island itself. -/
def Dom.within (x by_ : Dom) : Bool :=
  match by_, x with
  | .por, _ => true
  | .mod, .por => false
  | .mod, _ => true
  | .isl, .isl => true
  | .isl, _ => false
  | .prt, .prt => true
  | .prt, .drw => true
  | .prt, _ => false
  | .drw, .drw => true
  | .drw, _ => false

/-- The register a store key belongs to. -/
def regOfKey (k : Nat) : Option Reg := regMap[k / 2 ^ 26]?

/-- Element number of a store key. -/
def idxOfKey (k : Nat) : Nat := k % 2 ^ 20

/-- Number of elements below the first dimension. -/
def Reg.perInst (r : Reg) : Nat := (r.dims.drop 1).foldl (fun a d => a * d.1) 1

/-- Block ID a key belongs to (Table 4.2): in the families of like blocks the first dimension counts the block. 0 stands
for the Drawer pages. -/
def blkOfKey (r : Reg) (k : Nat) : Nat :=
  if r.blk = 0x10 ∨ r.blk = 8 ∨ r.blk = 3 ∨ r.blk = 0x1A then r.blk + idxOfKey k / r.perInst else r.blk

/-- Drawer a key of a Drawer page belongs to. -/
def drawerOfKey (r : Reg) (k : Nat) : Nat := if r.blk = 0 then idxOfKey k / r.perInst else 0

/-- Fields that a reset keeps although their register's domain is reset: RESET_SEEN and RESET_SEQ (Table of DRW_STATUS), and
the module stream that CREATE gave. -/
def keptKey (k : Nat) : Bool :=
  k / 2 ^ 20 = F.DRW_AUD_CFG_MODULE.num || k / 2 ^ 20 = F.DRW_STATUS_RESET_SEEN.num || k / 2 ^ 20 = F.DRW_STATUS_RESET_SEQ.num

/-- Reset the registers that domain `by_` holds in the blocks (and, for Drawer pages, the Drawers) that `which` picks; IMG
fields take their shadow (R668, R642), every other field its reset value. -/
def State.applyReset (s : State) (by_ : Dom) (which : Nat → Nat → Bool) : State :=
  let hit := fun (k : Nat) => match regOfKey k with
    | none => false
    | some r => r.dom.within by_ && which (blkOfKey r k) (drawerOfKey r k) && !keptKey k
  let back := s.shadow.filter (fun p => hit p.1)
  { s with regs := back.foldl (fun m p => tset 0 m p.1 p.2) (s.regs.filter (fun p => !hit p.1)) }

/-- MOD: every register but those of the POR domain takes its reset value (R10, R734). -/
def State.applyMod (s : State) : State :=
  { s with regs := s.regs.filter (fun p => match regOfKey p.1 with
      | none => false
      | some r => r.dom = .por), shadow := [] }

end Sys2Proof.Machine
end

