-- ==== Sys2Proof/Machine/Icu.lean ====
section
/-! DEFINITION. Control cores and interrupt controllers: the commands of chapter 18. -/

namespace Sys2Proof.Machine

/-- Block of target `t`. -/
def blkOfTarget (t : Nat) : Nat := if t < 4 then 2 else 3 + (t - 4)

/-- Device address of ICU_GDIS, ICU_CLAIM(c), ICU_COMPLETE(c), ICU_SET. -/
def icuAddr (off : Nat) : Nat := 0x00F002000000 + off

/-- ICU_SOURCE_EVENT: the line of a level source changes, or an edge source has its event (R586, R589, R595). -/
def execIcuSourceEvent (n : SrcId) (rise : Bool) (s : State) : Host.Outcome State Fault Refusal :=
  .next (if rise then s.icuRaise n else s.icuLower n)

/-- Better of two offered sources for a claim: higher PRIO, ties to the lower ID (R591). -/
def State.claimBetter (s : State) (best : Option Nat) (n : Nat) : Option Nat :=
  match best with
  | none => some n
  | some b => if s.get F.ICU_SRC_PRIO b < s.get F.ICU_SRC_PRIO n then some n else some b

/-- The source a claim at context `c` takes (R591); none while GDIS is 1 (R593). -/
def State.claimPick (s : State) (c : Nat) : Option Nat :=
  if s.on F.ICU_GDIS_GDIS then none
  else ((List.range 512).filter (fun n => s.on F.ICU_SRC_OFFERED n && s.get F.ICU_SRC_CTX n = c
      && s.get F.ICU_THRESH_THRESH c < s.get F.ICU_SRC_PRIO n)).foldl s.claimBetter none

/-- Take source `n` into service: its offer ends, and an edge source stops being pending (R591). -/
def State.icuTake (s : State) (n : Nat) : State :=
  let s := (s.put F.ICU_SRC_OFFERED n 0).put F.ICU_SRC_INSERVICE n 1
  if icuIsLevel n then s else s.put F.ICU_SRC_PENDING n 0

/-- A read of ICU_CLAIM(c): what it returns and what it does (R591, R593; contexts 4 to 9 answer 1023 to the Open world). -/
def State.claimRead (s : State) (o : Origin) (c : Nat) : State × Nat :=
  if 4 ≤ c && !o.cab then (s, 1023)
  else match s.claimPick c with
    | none => (s, 1023)
    | some n => (s.icuTake n, n)

/-- CLAIM (R591, R597). -/
def execClaim (o : Origin) (c : IcuCtx) (s : State) : Host.Outcome State Fault Refusal :=
  .next (s.guardedRead o (icuAddr (0x2004 + 0x100 * c)) 0x20 (fun s => s.claimRead o c))

/-- End the service of source `n` at context `c`, or set BAD_COMPLETE (R592); Open-world writes to contexts 4 to 9 are
ignored. -/
def State.completeWrite (s : State) (o : Origin) (c n : Nat) : State :=
  if 4 ≤ c && !o.cab then s
  else if n < 512 && s.on F.ICU_SRC_INSERVICE n && s.get F.ICU_SRC_CTX n = c then
    (s.put F.ICU_SRC_INSERVICE n 0).icuTry n
  else s.put F.ICU_STATUS_BAD_COMPLETE 0 1

/-- COMPLETE (R592). -/
def execComplete (o : Origin) (c : IcuCtx) (n : Nat) (s : State) : Host.Outcome State Fault Refusal :=
  .next (s.guarded o { addr := icuAddr (0x2008 + 0x100 * c), blk := 0x20, new := n, audited := false } 0
    (fun s => s.completeWrite o c n))

/-- Make a software or message source pending; a Cabinet source from the Open world, or any other ID, records
ACCESS_DENIED against ICU (R598). -/
def State.icuSetWrite (s : State) (o : Origin) (n : Nat) : State :=
  if ((1 ≤ n && n ≤ 15) || (256 ≤ n && n ≤ 511)) && (o.cab || !s.on F.ICU_SRC_WORLD n) then s.icuRaise n
  else s.recordError { domain := 0x20, code := 0x2C, source := o.kind.num, origin := o.word, action := 1 }

/-- ICU_SET (R598). -/
def execIcuSet (o : Origin) (n : SrcId) (s : State) : Host.Outcome State Fault Refusal :=
  .next (s.guarded o { addr := icuAddr 0x180, blk := 0x20, new := n, audited := false } 0
    (fun s => s.icuSetWrite o n))

/-- GDIS takes effect: while 1 no new offers and every line is low; cleared, offers are made again at once (R593). -/
def State.gdisEffect (s : State) (v : Bool) : State :=
  let t := s.putB F.ICU_GDIS_GDIS 0 v
  if v then t else t.icuReeval

/-- GDIS (R593): an RWC field, refused from the Open world when the write changes it (R136, reason 2). -/
def execGdis (o : Origin) (v : Bool) (s : State) : Host.Outcome State Fault Refusal :=
  .next (s.guarded o { addr := icuAddr 0, blk := 0x20, old := s.get F.ICU_GDIS_GDIS, new := b2n v }
    (if !o.cab && v != s.on F.ICU_GDIS_GDIS then 2 else 0) (fun s => s.gdisEffect v))

/-- SLEEP, REFUSED and STATE of target `t`. -/
def State.coreSleepBit (s : State) (t : Nat) : Bool :=
  if t < 4 then s.on F.CCL_CORE_SLEEP t else s.on F.RTx_CTRL_SLEEP (t - 4)

/-- Is a source in service at target `t` (R584)? -/
def State.inServiceAt (s : State) (t : Nat) : Bool :=
  (List.range 512).any (fun n => s.on F.ICU_SRC_INSERVICE n &&
    (s.get F.ICU_SRC_CTX n = t + 4 || (t < 4 && s.get F.ICU_SRC_CTX n = t)))

/-- Target `t` leaves the set of awake targets: offers it holds are withdrawn and go round robin (R595). -/
def State.targetAsleep (s : State) (t : Nat) : State :=
  let s := (s.putBit F.ICU_STATUS_AWAKE 0 t false).putBit F.ICU_STATUS_WAKING 0 t false
  let mine := (List.range 512).filter (fun n => s.on F.ICU_SRC_OFFERED n &&
    (s.get F.ICU_SRC_CTX n = t + 4 || (t < 4 && s.get F.ICU_SRC_CTX n = t)))
  mine.foldl (fun s n => s.icuWithdraw n true) s

/-- CORE_SLEEP: the target executes WFI. With SLEEP set it sleeps and its offers are withdrawn; with a source in service
it stays awake and REFUSED sets (R584, R595, R597). Without SLEEP, WFI leaves it awake. -/
def execCoreSleep (t : Target) (s : State) : Host.Outcome State Fault Refusal :=
  .next (
    if !s.coreSleepBit t || !s.awake t then s
    else if s.inServiceAt t then
      (if (t : Nat) < 4 then s.put F.CCL_CORE_REFUSED t 1 else s.put F.RTx_CTRL_REFUSED (t - 4) 1)
    else (if (t : Nat) < 4 then s.put F.CCL_CORE_STATE t 1 else s.put F.RTx_CTRL_STATE (t - 4) 1).targetAsleep t)

/-- STATE of target `t`: 0 running, 1 asleep, 2 waking, 3 in mismatch reset. -/
def State.coreState (s : State) (t : Nat) : Nat := if t < 4 then s.get F.CCL_CORE_STATE t else s.get F.RTx_CTRL_STATE (t - 4)

/-- A sleeping target is woken: STATE 2, WAKING (R584). -/
def State.coreWakeEffect (s : State) (t : Nat) : State :=
  if s.coreState t = 1 then s.wakeTarget t else s

/-- CORE_WAKE: the ICU, a WAKE write of `o` to the core's control register, or its timer compare (R584). WAKE of an RT pair
is written from the Cabinet world only. -/
def execCoreWake (t : Target) (o : Option Origin) (s : State) : Host.Outcome State Fault Refusal :=
  .next (match o with
    | none => s.coreWakeEffect t
    | some o =>
      s.guarded o { addr := if (t : Nat) < 4 then 0x00F000200100 + 0x10 * t else 0x00F000300000 + 0x100000 * (t - 4),
                    blk := blkOfTarget t, new := 2, audited := false }
        (if 4 ≤ (t : Nat) && !o.cab then 2 else 0) (fun s => s.coreWakeEffect t))

/-- CORE_RUNNING: a waking core runs again; the target is awake and pending offers are made (R584, R589, R596). -/
def execCoreRunning (t : Target) (s : State) : Host.Outcome State Fault Refusal :=
  .next (if s.coreState t ≠ 2 then s
    else
    let s := if (t : Nat) < 4 then s.put F.CCL_CORE_STATE t 0 else s.put F.RTx_CTRL_STATE (t - 4) 0
    ((s.putBit F.ICU_STATUS_WAKING 0 t false).putBit F.ICU_STATUS_AWAKE 0 t true).icuReeval)

/-- The timer compares of core `c` (0 to 3 CC, 4 RTA, 5 RTB, 6 the Hutch). -/
def State.timersOf (s : State) (c : Nat) : CoreTimers := tget {} s.cores.timers c

/-- Fire the compares of core `c` that ST has reached (R582): each raises the core's timer interrupt, numbered 2c for the
machine compare and 2c + 1 for the Sstc compare, and wakes the core if it sleeps (R584). -/
def State.fireTimers (s : State) (c : Nat) : State :=
  let t := s.timersOf c
  let due := fun (x : Option Nat) => match x with | none => false | some v => decide (v ≤ s.st)
  let irq := (if due t.mtimecmp then [2 * c] else []) ++ (if due t.stimecmp then [2 * c + 1] else [])
  if irq.isEmpty then s
  else
    let t' : CoreTimers := { mtimecmp := if due t.mtimecmp then none else t.mtimecmp,
                             stimecmp := if due t.stimecmp then none else t.stimecmp }
    let s := { s with cores := { s.cores with timers := tset {} s.cores.timers c t',
                                              timerIrq := s.cores.timerIrq ++ irq } }
    if c < 6 then s.coreWakeEffect c else s

/-- Every compare that ST has reached fires (R582). -/
def State.fireAllTimers (s : State) : State := (List.range 7).foldl State.fireTimers s

/-- TIMER_COMPARE (R582, R584). -/
def execTimerCompare (c : Fin 7) (s : State) : Host.Outcome State Fault Refusal := .next (s.fireTimers c)

/-- A cause bit of CAB_EVT sets; bits enabled in EN drive main ICU source 59. -/
def State.cabEvent (s : State) (f : Fld) (b : Nat) : State :=
  let s := s.put f 0 1
  if bit (s.get F.CAB_EVT_EN) b then s.icuRaise 59 else s

/-- RT_LOCKSTEP: the pair is reset alone, MISMATCHES counts, the error is recorded, and the partner is told through
source 59 (R583). The tightly coupled memory is kept. -/
def execRtLockstep (n : Fin 2) (s : State) : Host.Outcome State Fault Refusal :=
  .next (
    let s := (s.incSat F.RTx_CTRL_MISMATCHES n).put F.RTx_CTRL_STATE n 3
    let s := s.targetAsleep (4 + n)
    let s := s.cabEvent (if (n : Nat) = 0 then F.CAB_EVT_PARTNER_A else F.CAB_EVT_PARTNER_B) n
    s.recordError { domain := 3 + n, code := 0x43, origin := (Origin.rt n).word })

/-- HUT_DBELL sets the Hutch source of the writing core (R600). -/
def State.dbellWrite (s : State) (o : Origin) : State :=
  if o.kind = .core then s.hutchRaise (16 + o.core % 4)
  else if o.kind = .rt then s.hutchRaise (20 + o.core % 2) else s

/-- HUT_DBELL (R600): HUT is always Cabinet-owned, so an Open-world write has the effect of R126 (R610). -/
def execHutDbell (o : Origin) (s : State) : Host.Outcome State Fault Refusal :=
  .next (s.guarded o { addr := 0x00F000100200, blk := 1, new := 1, audited := false } 0 (fun s => s.dbellWrite o))

/-- Sources both pending and enabled at the Hutch ICU. -/
def State.hutchReady (s : State) (n : Nat) : Bool :=
  bit (s.get F.HUT_ICU_PEND_PENDING) n && bit (s.get F.HUT_ICU_EN_EN) n

/-- The lowest such source; 0xFF if none (R602). -/
def State.hutchPick (s : State) : Nat := ((List.range 64).find? s.hutchReady).getD 0xFF

/-- HUTCH_WAKE: an enabled pending source restarts the Hutch core's clock if it stopped in WFI (R601). The RUN request with
which the firmware answers an enabled wake source is a POWER_REQUEST of its own (R644). -/
def execHutchWake (s : State) : Host.Outcome State Fault Refusal :=
  .next (if s.hutchPick = 0xFF then s else { s with cores := { s.cores with hutchWfi := false } })

/-- A read of HUT_ICU_CLAIM (R602): origin kind 1 and certified debug sessions only. -/
def State.hutClaimRead (s : State) (o : Origin) : State × Nat :=
  if o.kind = .hutch ∨ o.kind = .debug then
    (if s.hutchPick = 0xFF then (s, 0xFF) else (s.putBit F.HUT_ICU_PEND_PENDING 0 s.hutchPick false, s.hutchPick))
  else (s.recordError { domain := 1, code := 0x2C, source := o.kind.num, origin := o.word, action := 1 }, 0)

/-- HUT_ICU_CLAIM (R602, R610). -/
def execHutIcuClaim (o : Origin) (s : State) : Host.Outcome State Fault Refusal :=
  .next (s.guardedRead o 0x00F000100110 1 (fun s => s.hutClaimRead o))

/-- TRAP_TO_CABINET: the core's world bit is set before the handler runs; its cycle, instret and hpmcounter CSRs stop
(R613, R616). -/
def execTrapToCabinet (n : Fin 4) (s : State) : Host.Outcome State Fault Refusal :=
  .next { s.put F.CCL_CORE_WORLD n 1 with
    cores := { s.cores with
      countersStopped := s.cores.countersStopped.filter (fun x => x != (n : Nat)) ++ [(n : Nat)]
      regsZeroed := s.cores.regsZeroed.filter (fun x => x != (n : Nat))
      tlbCabValid := s.cores.tlbCabValid.filter (fun x => x != (n : Nat)) ++ [(n : Nat)] } }

/-- MRET_TO_OPEN: registers but a0 and a1 zeroed, Cabinet TLB and predictor entries invalidated, world bit cleared, the
counters resume (R614, R616). -/
def execMretToOpen (n : Fin 4) (s : State) : Host.Outcome State Fault Refusal :=
  .next { s.put F.CCL_CORE_WORLD n 0 with
    cores := { s.cores with
      countersStopped := s.cores.countersStopped.filter (fun x => x != (n : Nat))
      regsZeroed := s.cores.regsZeroed.filter (fun x => x != (n : Nat)) ++ [(n : Nat)]
      tlbCabValid := s.cores.tlbCabValid.filter (fun x => x != (n : Nat)) } }

end Sys2Proof.Machine
end

