-- ==== Sys2Proof/Machine/Haptic.lean ====
section
/-! DEFINITION. Haptic drive (chapter 16, R42). -/

namespace Sys2Proof.Machine

/-- `num / den` rounded down, or up where it is inexact and the free rounding says so (log entry 16). -/
def roundOpen (num : Int) (den : Nat) : Int :=
  if num % (den : Int) = 0 then num / (den : Int) else num / (den : Int) + (if Config.roundUp num den then 1 else 0)

/-- Haptic channel `c` beside its registers. -/
def State.hapCh (s : State) (c : Nat) : HapCh := tget {} s.hap.chs c
/-- Change haptic channel `c`. -/
def State.modHap (s : State) (c : Nat) (g : HapCh → HapCh) : State :=
  { s with hap := { s.hap with chs := tset {} s.hap.chs c (g (s.hapCh c)) } }
/-- PHASE of a channel. -/
def State.hapPhase (s : State) (c : Nat) : Nat := s.get F.HAP_CH_STATUS_PHASE c

/-- Put the drive frequency: kept in quarters of a Hz, shown in Hz. -/
def State.hapFreq (s : State) (c : Nat) (f4 : Int) : State :=
  (s.modHap c (fun h => { h with freq4 := f4 })).put F.HAP_CH_STATUS_FREQ c (f4 / 4).toNat

/-- Enter a phase of the running effect; the bridge drives in attack, sustain and brake (R541, R542). -/
def State.hapEnter (s : State) (c ph : Nat) : State :=
  (s.put F.HAP_CH_STATUS_PHASE c ph).modHap c (fun h =>
    { h with hiZ := ph = 0 || ph = 5, phaseAt := s.now, driveAt := if h.hiZ then s.now else h.driveAt })

/-- The first phase of an effect that is not 0 ms long. -/
def Effect.firstPhase (e : Effect) : Nat := if e.attackMs ≠ 0 then 1 else if e.sustainMs ≠ 0 then 2 else 3

/-- Start effect `i`: at F0_HZ or FREQ_HZ (R544, Table 16.1), or, replacing a running effect, at the present frequency (R547). -/
def State.hapStart (s : State) (c i : Nat) (cont : Bool) : State :=
  match s.hap.effects[i]? with
  | none => s
  | some e =>
    let s := (s.put F.HAP_CH_STATUS_EFFECT c i).hapEnter c e.firstPhase
    if cont then s
    else s.hapFreq c (4 * ((if e.track then s.get F.HAP_CH_CFG_F0_HZ c else e.freqHz : Nat) : Int))

/-- Does an effect wait? -/
def State.hapWait (s : State) (c : Nat) (w : Option Nat) : State :=
  (s.modHap c (fun h => { h with waiting := w, waitAt := s.now })).putB F.HAP_CH_STATUS_WAITING c w.isSome

/-- Is a trigger refused (R545)? -/
def State.hapRefuse (s : State) (c i : Nat) : Bool :=
  s.boot.recovery || s.get F.HAP_CH_CFG_R_COIL c = 0 || decide (4 ≤ s.hapPhase c) || s.on F.HAP_CH_STATUS_OPEN c || s.on F.HAP_CH_STATUS_SHORT c
    || decide (s.hap.effects.length ≤ i) || s.on F.HAP_CH_STATUS_THERM_LOCK c || !s.on F.PWR_SUPPLY_HAP_RES

/-- A trigger of effect `i` on channel `c` (R545 to R549). -/
def State.hapTrigger (s : State) (c i : Nat) : State :=
  if s.hapRefuse c i then s.incSat F.HAP_CH_CNT_REFUSED c
  else
    let ph := s.hapPhase c
    let urgent := ((s.hap.effects[i]?).map (fun e => e.urgent)).getD false
    if ph = 0 then s.hapStart c i false
    else if ph = 1 || ph = 2 then s.hapStart c i true
    else if urgent then (s.hapWait c none).hapStart c i false
    else (if (s.hapCh c).waiting.isSome then s.incSat F.HAP_CH_CNT_REPLACED c else s).hapWait c (some i)

/-- Address of a HAP register. -/
def hapAddr (off : Nat) : Nat := 0x00F001E00000 + off

/-- HAPTIC_TRIGGER: a write of HAP_TRIG with GO 1, by firmware of either world (R545). -/
def execHapticTrigger (o : Origin) (c : HapId) (i : Fin 64) (s : State) : Host.Outcome State Fault Refusal :=
  .next (s.guarded o { addr := hapAddr 0x10, blk := 0x1E, audited := false } 0 (fun s => s.hapTrigger c i))

/-- The channel goes to its brake (R542, R551). -/
def State.hapBrake (s : State) (c : Nat) : State := if s.hapPhase c = 1 || s.hapPhase c = 2 then s.hapEnter c 3 else s

/-- The effect that channel `c` runs. -/
def State.hapEffect (s : State) (c : Nat) : Effect := (s.hap.effects[s.get F.HAP_CH_STATUS_EFFECT c]?).getD {}

/-- Has the present phase of the channel lasted `ms`? -/
def State.hapLasted (s : State) (c ms : Nat) : Bool := decide ((s.hapCh c).phaseAt + ms * 1000000 ≤ s.now)

/-- EFFECT_PHASE_END (R542): ATTACK_MS or SUSTAIN_MS have passed. Attack ends in sustain, or in the brake where SUSTAIN_MS is 0; sustain
ends in the brake. -/
def execEffectPhaseEnd (c : HapId) (s : State) : Host.Outcome State Fault Refusal :=
  .next (
    let e := s.hapEffect c
    if !s.hapLasted c (if s.hapPhase c = 1 then e.attackMs else e.sustainMs) then s
    else if s.hapPhase c = 1 && e.sustainMs ≠ 0 then s.hapEnter c 2 else s.hapBrake c)

/-- A brake ends: the channel idles, or starts the effect that waits (R541, R548). -/
def State.hapBrakeEnd (s : State) (c : Nat) : State :=
  match (s.hapCh c).waiting with
  | none => s.hapEnter c 0
  | some i => (s.hapWait c none).hapStart c i false

/-- BRAKE_END (R549): the brake reached STOP_MV, or BRAKE_MS without it. -/
def execBrakeEnd (c : HapId) (stopped : Bool) (s : State) : Host.Outcome State Fault Refusal :=
  .next (if s.hapPhase c ≠ 3 || !(stopped || s.hapLasted c (s.hapEffect c).brakeMs) then s
    else (if stopped then s else s.incSat F.HAP_CH_CNT_BRAKE_TIMEOUT c).hapBrakeEnd c)

/-- WAIT_TIMEOUT (R548): 2 ms after its trigger the waiting effect aborts the brake and starts in phase. -/
def execWaitTimeout (c : HapId) (s : State) : Host.Outcome State Fault Refusal :=
  .next (if s.hapPhase c = 3 && decide ((s.hapCh c).waitAt + 2000000 ≤ s.now) then (match (s.hapCh c).waiting with
      | none => s
      | some i => (s.hapWait c none).hapStart c i false)
    else s)

/-- DRIVE_OFF_GAP (R544): in attack and sustain with TRACK the frequency moves by a quarter of the error `errHz` that the two samples
show; in a brake a back-EMF amplitude below STOP_MV ends it. -/
def execDriveOffGap (c : HapId) (errHz : Int) (emfMv : Nat) (s : State) : Host.Outcome State Fault Refusal :=
  .next (
    let track := (s.hapEffect c).track
    if s.hapPhase c = 3 then (if emfMv < s.get F.HAP_CH_CFG_STOP_MV c then s.hapBrakeEnd c else s)
    else if (s.hapPhase c = 1 || s.hapPhase c = 2) && track then
      s.hapFreq c (clampI ((s.hapCh c).freq4 + errHz) (4 * (s.get F.HAP_CH_CFG_F_MIN_HZ c : Int)) (4 * (s.get F.HAP_CH_CFG_F_MAX_HZ c : Int)))
    else s)

/-- The amplitude that the running phase commands, in mA, within 1.5 A and the input voltage over R_COIL (R539). -/
def State.hapAmp (s : State) (c : Nat) : Nat :=
  match s.hap.effects[s.get F.HAP_CH_STATUS_EFFECT c]? with
  | none => 0
  | some e =>
    let a := if s.hapPhase c = 1 then e.aAttack else if s.hapPhase c = 2 then e.aSustain else if s.hapPhase c = 3 then e.aBrake else 0
    min (min a 1500) (s.get F.PWR_SUPPLY_VIN * 100 / s.get F.HAP_CH_CFG_R_COIL c)

/-- Channels that drive. -/
def State.hapDriving (s : State) : List Nat := (List.range 8).filter (fun c => 1 ≤ s.hapPhase c && s.hapPhase c ≤ 3)

/-- Estimate of R552 for a channel in units of 10^-8 W. -/
def State.hapPower (s : State) (c : Nat) : Nat := s.hapAmp c ^ 2 * s.get F.HAP_CH_CFG_R_COIL c * 5 + 50000000

/-- HAPTIC_TICK (R551, R552): every 100 us the budget scales the drive and E follows the RMS current of the interval. -/
def execHapticTick (s : State) : Host.Outcome State Fault Refusal :=
  .next (
    if s.now < s.hap.tickAt + 100000 then s
    else
    let s : State := { s with hap := { s.hap with tickAt := s.now } }
    let drv := s.hapDriving
    let sum := (drv.map s.hapPower).foldl (· + ·) 0
    let budget := if s.on F.PWR_SUPPLY_HAP_RES then 2500000000 else 0
    let ovr := decide (budget < sum)
    (List.range 8).foldl (fun s c =>
      if s.get F.HAP_CH_CFG_R_COIL c = 0 then s
      else
        let sq := if drv.contains c then (if ovr then roundOpen (s.hapAmp c ^ 2 * budget : Nat) sum else (s.hapAmp c ^ 2 : Nat)) else 0
        let s := if ovr && drv.contains c then s.incSat F.HAP_CH_CNT_BUDGET_LIM c else s
        let e := (((s.hapCh c).e : Int) - roundOpen (s.hapCh c).e (1000 * s.get F.HAP_CH_THERM_TAU_DS c) + sq).toNat
        let s := (s.modHap c (fun h => { h with e := e })).put F.HAP_CH_STATUS_E c (min 65535 (e / 200000000))
        let lim := s.get F.HAP_CH_THERM_I2T_LIMIT c * 200000000
        if lim ≤ e then (s.put F.HAP_CH_STATUS_THERM_LOCK c 1).hapBrake c
        else if e ≤ lim / 2 then s.put F.HAP_CH_STATUS_THERM_LOCK c 0
        else s) s)

/-- The effect of a channel ends at once, its bridge at high impedance (R540). -/
def State.hapKill (s : State) (c : Nat) : State := (s.hapWait c none).hapEnter c 0

/-- OPEN_DETECT (R540), after 2 ms of drive. -/
def execOpenDetect (c : HapId) (s : State) : Host.Outcome State Fault Refusal :=
  .next (if 1 ≤ s.hapPhase c && s.hapPhase c ≤ 3 && decide ((s.hapCh c).driveAt + 2000000 ≤ s.now) then (s.hapKill c).put F.HAP_CH_STATUS_OPEN c 1 else s)

/-- HAPTIC_SHORT (R42, R540): the bridge turns to high impedance and SHORT sets. -/
def execHapticShort (c : HapId) (s : State) : Host.Outcome State Fault Refusal :=
  .next (
    let s := if s.hapPhase c ≤ 3 then s.hapKill c else s.modHap c (fun h => { h with hiZ := true })
    s.put F.HAP_CH_STATUS_SHORT c 1)

/-- CLR written 1: OPEN and SHORT clear. -/
def State.hapClr (s : State) (c : Nat) : State := (s.put F.HAP_CH_STATUS_OPEN c 0).put F.HAP_CH_STATUS_SHORT c 0

/-- CLR (R540): a write of HAP_CH_CFG(c) with CLR 1. -/
def execClr (o : Origin) (c : HapId) (s : State) : Host.Outcome State Fault Refusal :=
  .next (s.guarded o { addr := hapAddr (0x100 + 0x20 * c), blk := 0x1E, new := 2 ^ 47, wide := true } 0 (fun s => s.hapClr c))

/-- Before PD11 turns off (R553): waiting effects are discarded and running ones go to their brakes. -/
def State.hapDrain (s : State) : State := (List.range 8).foldl (fun s c => (s.hapWait c none).hapBrake c) s

/-- Has every brake ended (R553)? -/
def State.hapQuiet (s : State) : Bool := s.hapDriving.isEmpty

end Sys2Proof.Machine
end

