-- ==== Sys2Proof/Machine/Pmu.lean ====
section
/-! DEFINITION. Performance monitoring (chapter 24) and the CRC units (chapter 23). -/

namespace Sys2Proof.Machine

/-! ### Counters (R703 to R712, R716, R717) -/

/-- Is the world of counter `n` frozen (R711)? -/
def State.pmuFrozen (s : State) (n : Nat) : Bool :=
  if s.on F.PMU_EVSEL_WORLD n then s.on F.PMU_CTRL_FREEZE_CAB else s.on F.PMU_CTRL_FREEZE_OPEN

/-- Source 54: a counter has both OVF and IE (R710). -/
def State.pmuLine (s : State) : State :=
  s.icuLine 54 ((List.range 128).any (fun n => bit (s.get F.PMU_OVF_OVF (n / 32)) (n % 32) && s.on F.PMU_EVSEL_IE n))

/-- Add increments to counter `n`: past 2^48 it wraps, sets OVF and may freeze its world (R710, R712). -/
def State.pmuAdd (s : State) (n inc : Nat) : State :=
  let v := s.get F.PMU_CNT_COUNT n + inc
  let s := s.put F.PMU_CNT_COUNT n v
  if v < 2 ^ 48 then s
  else
    let s := s.putBit F.PMU_OVF_OVF (n / 32) (n % 32) true
    let s := if s.on F.PMU_EVSEL_WORLD n then (if s.on F.PMU_CTRL_FRZ_OVF_CAB then s.put F.PMU_CTRL_FREEZE_CAB 0 1 else s)
      else (if s.on F.PMU_CTRL_FRZ_OVF_OPEN then s.put F.PMU_CTRL_FREEZE_OPEN 0 1 else s)
    s.pmuLine

/-- Instances of a block in Table 24.1, and its events; (0, _) for a block without events of its own. -/
def pmuEvents (b : Nat) : Nat × List Nat :=
  if b = 2 then (4, [1, 2, 3, 4, 5]) else if b = 3 ∨ b = 4 then (1, [1, 5]) else if b = 6 then (1, [1, 2, 3])
  else if b = 7 then (1, [1, 2, 3]) else if 8 ≤ b ∧ b ≤ 0xB then (5, [1, 2, 3, 4]) else if b = 0xD then (8, [1])
  else if b = 0xC then (4, [1]) else if 0x10 ≤ b ∧ b ≤ 0x17 then (8, [1, 2, 3]) else if b = 0x18 then (8, [1, 2])
  else if b = 0x19 then (16, [1, 2, 3, 4, 5]) else if b = 0x1A ∨ b = 0x1B then (1, [1, 2, 3]) else if b = 0x1C then (4, [1, 2, 3, 4])
  else if b = 0x2B then (3, [1, 2]) else if b = 0x1D then (8, [1, 2]) else if b = 0x1F then (1, [1, 2]) else if b = 5 then (1, [1])
  else (0, [])

/-- Does the selection name an event of Table 24.1 (R703, R705)? CYCLES is defined for every block. -/
def pmuSelOk (b ev sub : Nat) : Bool :=
  b ≤ 0x2B && b ≠ 0 && b ≠ 0xE && b ≠ 0xF && (ev = 0 || (pmuEvents b).2.contains ev)
    && (sub = 0xFF || decide (sub < max 1 (pmuEvents b).1))

/-- Does counter `n` count an event of block `b` (R703, R706, R707)? `tag` is the Drawer behind it, `open_` whether the Open world
caused it. -/
def State.pmuCounts (s : State) (n b ev sub : Nat) (tag : Option Nat) (open_ : Bool) : Bool :=
  s.on F.PMU_EVSEL_EN n && s.get F.PMU_EVSEL_BLOCK n = b && s.get F.PMU_EVSEL_EVENT n = ev
    && (s.get F.PMU_EVSEL_SUB n = 0xFF || s.get F.PMU_EVSEL_SUB n = sub) && !s.pmuFrozen n
    && (decide (0x40 ≤ s.get F.PMU_EVFILT_DRW_FILT n) || tag = some (s.get F.PMU_EVFILT_DRW_FILT n))
    && (s.on F.PMU_EVSEL_WORLD n || (open_ && !s.cabOwned b))

/-- An event that this model shows: every counter that selects it counts it. -/
def State.pmuEvent (s : State) (b ev sub inc : Nat) (tag : Option Nat) (open_ : Bool) : State :=
  if inc = 0 then s
  else ((List.range 128).filter (fun n => s.pmuCounts n b ev sub tag open_)).foldl (fun s n => s.pmuAdd n inc) s

/-- A sample of core `c` (R716, R717): PC, counter and mode, unless one waits. -/
def State.pmuSample (s : State) (n c pc mode : Nat) (trap : Bool) : State :=
  if s.on F.PMU_SMP_INFO_VALID c then s.put F.PMU_SMP_INFO_LOST c 1
  else
    let s := ((s.put F.PMU_SMP_PC_PC c pc).put F.PMU_SMP_INFO_COUNTER c n).put F.PMU_SMP_INFO_MODE c mode
    ((s.putB F.PMU_SMP_INFO_TRAP c trap).put F.PMU_SMP_INFO_VALID c 1).icuLine 55 true

/-- Do the events of block `b` carry the tag of a Drawer (R706)? -/
def pmuTagged (b : Nat) : Bool := [6, 8, 9, 0xA, 0xB, 0xC, 0xD, 0x19, 0x2B, 0x1A, 0x1B].contains b || (decide (0x10 ≤ b) && decide (b ≤ 0x17))

/-- Can counter `n` count an event that its selection names: enabled, not frozen, its domain on, its filter (R706), and, of an Open counter,
a block that is not Cabinet-owned and a core in the Open world (R616, R703, R704, R707)? -/
def State.pmuLive (s : State) (n : Nat) : Bool :=
  let b := s.get F.PMU_EVSEL_BLOCK n
  let ev := s.get F.PMU_EVSEL_EVENT n
  let sub := s.get F.PMU_EVSEL_SUB n
  s.on F.PMU_EVSEL_EN n && !s.pmuFrozen n && pmuSelOk b ev sub && s.blkOn b
    && (decide (0x40 ≤ s.get F.PMU_EVFILT_DRW_FILT n) || (pmuTagged b && ev ≠ 0))
    && (s.on F.PMU_EVSEL_WORLD n || (!s.cabOwned b && !(b = 2 && s.cores.countersStopped.contains sub)))

/-- COUNTER_OVERFLOW (R710, R712, R716): increments of an event that this model does not show (clocks, instructions, cache and fabric
events) reach counter `n`; past 2^48 it overflows, and a sampling counter of a core takes the PC that retires, an Open counter never one of
the Cabinet world. -/
def execCounterOverflow (n : Fin 128) (inc : Nat) (pc : Nat) (mode : Fin 4) (trap : Bool) (s : State) :
    Host.Outcome State Fault Refusal :=
  .next (
    let c := s.get F.PMU_EVSEL_SUB n
    if !s.pmuLive n then s
    else
      let ovr := decide (2 ^ 48 ≤ s.get F.PMU_CNT_COUNT n + inc)
      let s := s.pmuAdd n inc
      if ovr && s.on F.PMU_EVSEL_SAMPLE n && s.get F.PMU_EVSEL_BLOCK n = 2 && decide (c < 4)
          && (s.on F.PMU_EVSEL_WORLD n || decide ((mode : Nat) < 3)) then s.pmuSample n c pc mode trap else s)

/-! ### Snapshots (R713 to R715) -/

/-- Arm a snapshot (R713): a write of PMU_TRIG with ARM 1. -/
def State.pmuArm (s : State) (o : Origin) (t : Nat) (frz : Bool) : State :=
  { ((s.put F.PMU_TRIG_ST 0 t).putB F.PMU_TRIG_FRZ 0 frz).put F.PMU_TRIG_ARM 0 1 with
    pmu := { s.pmu with armSt := s.st, armCab := o.cab } }

/-- Address of a PMU register. -/
def pmuAddr (off : Nat) : Nat := 0x00F002500000 + off

/-- ARM (R713). -/
def execArm (o : Origin) (t : Nat) (frz : Bool) (s : State) : Host.Outcome State Fault Refusal :=
  .next (s.guarded o { addr := pmuAddr 8, blk := 0x25, audited := false, wide := true, new := t } 0 (fun s => s.pmuArm o t frz))

/-- SNAPSHOT (R713 to R715): ST reached T in every counting domain, each capturing at its own clock; LATE sets where a domain got the
trigger after T, which a T less than 2 us after the write allows. -/
def execSnapshot (late : Bool) (s : State) : Host.Outcome State Fault Refusal :=
  .next (
    let t := s.get F.PMU_TRIG_ST
    if !s.on F.PMU_TRIG_ARM || decide (s.st < t) then s
    else
      let isLate := decide (t < s.pmu.armSt) || (late && decide (t < s.pmu.armSt + 2000))
      let s := (List.range 128).foldl (fun s n => s.put F.PMU_SNAP_COUNT n (s.get F.PMU_CNT_COUNT n)) s
      let s := (List.range 4).foldl (fun s w => s.put F.PMU_SNAP_OVF_OVF w (s.get F.PMU_OVF_OVF w)) s
      let s := if s.on F.PMU_TRIG_FRZ then
          (let s := if s.pmu.armCab then s.put F.PMU_CTRL_FREEZE_CAB 0 1 else s
           s.put F.PMU_CTRL_FREEZE_OPEN 0 1)
        else s
      let s := (s.put F.PMU_TRIG_ARM 0 0).put F.PMU_SNAP_STATUS_VALID 0 1
      let s := (s.put F.PMU_SNAP_STATUS_ST_STATE 0 s.stState).incWrap F.PMU_SNAP_STATUS_SEQ
      if isLate then s.put F.PMU_SNAP_STATUS_LATE 0 1 else s)

/-! ### Port monitors (R718, R719) -/

/-- Number, counted from ST 0, of the window of monitor `m` that ST lies in (R718). -/
def State.bwWindowNo (s : State) (m : Nat) : Nat := s.st / (s.get F.PMU_BW_CFG_WINDOW m * 1000)

/-- A write of PMU_BW_CFG that sets EN discards the window in progress: the next one is the first that is reported (Table 24.12). -/
def State.bwStart (s : State) (m : Nat) : State :=
  { s with pmu := { s.pmu with bwAt := tset 0 s.pmu.bwAt m (s.bwWindowNo m + 1), bwCut := s.pmu.bwCut.filter (fun x => x ≠ m) } }

/-- BW_WINDOW (R718): a window of monitor `m` has ended, with these totals, of both worlds and of the Open world alone; STEPPED shows whether
a step of ST cut it short. -/
def execBwWindow (m : Fin 24) (rd wr rdOpen wrOpen : Nat) (s : State) : Host.Outcome State Fault Refusal :=
  .next (
    if !s.on F.PMU_BW_CFG_EN m || decide (s.bwWindowNo m ≤ tget 0 s.pmu.bwAt m) then s
    else
      let stepped := s.pmu.bwCut.contains (m : Nat)
      let s : State := { s with pmu := { s.pmu with bwAt := tset 0 s.pmu.bwAt m (s.bwWindowNo m), bwCut := s.pmu.bwCut.filter (fun x => x ≠ (m : Nat)) } }
      let s := ((s.put F.PMU_BW_RD_BYTES m rd).put F.PMU_BW_WR_BYTES m wr).maxTo F.PMU_BW_PEAK_BYTES m (rd % 2 ^ 48)
      let s := (s.incWrap F.PMU_BW_CFG_WSEQ m).putB F.PMU_BW_CFG_STEPPED m stepped
      let b : BwOpen := tget {} s.pmu.bwOpen m
      { s with pmu := { s.pmu with bwOpen := tset {} s.pmu.bwOpen m ⟨rdOpen % 2 ^ 48, wrOpen % 2 ^ 48, max b.peak (rdOpen % 2 ^ 48)⟩ } })

/-- Monitors that read 0 to the Open world (R719). -/
def bwCabOnly (m : Nat) : Bool := (1 ≤ m && m ≤ 3) || m = 23

/-- A read of PMU_BW_RD(m) (R719): it latches the write total and number of the same window for its origin. -/
def State.bwRead (s : State) (o : Origin) (m : Nat) : State × Nat :=
  let b : BwOpen := tget {} s.pmu.bwOpen m
  let (rd, wr) := if o.cab then (s.get F.PMU_BW_RD_BYTES m, s.get F.PMU_BW_WR_BYTES m) else if bwCabOnly m then (0, 0) else (b.rd, b.wr)
  let rest := s.pmu.bwLatch.filter (fun l => !(l.origin = o && l.m = m))
  ({ s with pmu := { s.pmu with bwLatch := rest ++ [⟨o, m, wr, s.get F.PMU_BW_CFG_WSEQ m⟩] } }, rd)

/-- What a read of PMU_BW_WR(m) returns (R719): the latched total once, else the present one. -/
def State.bwWrRead (s : State) (o : Origin) (m : Nat) : State × Nat :=
  match s.pmu.bwLatch.find? (fun l => l.origin = o && l.m = m) with
  | some l => ({ s with pmu := { s.pmu with bwLatch := s.pmu.bwLatch.filter (fun x => x ≠ l) } }, l.wr)
  | none =>
    let b : BwOpen := tget {} s.pmu.bwOpen m
    (s, if o.cab then s.get F.PMU_BW_WR_BYTES m else if bwCabOnly m then 0 else b.wr)

/-- What a read of PMU_BW_PEAK(m) returns, which clears it (R719). -/
def State.bwPeakRead (s : State) (o : Origin) (m : Nat) : State × Nat :=
  let b : BwOpen := tget {} s.pmu.bwOpen m
  if o.cab then (s.put F.PMU_BW_PEAK_BYTES m 0, s.get F.PMU_BW_PEAK_BYTES m)
  else ({ s with pmu := { s.pmu with bwOpen := tset {} s.pmu.bwOpen m { b with peak := 0 } } }, if bwCabOnly m then 0 else b.peak)

/-- BW_READ (R719). -/
def execBwRead (o : Origin) (m : Fin 24) (s : State) : Host.Outcome State Fault Refusal :=
  let a := pmuAddr (0x4008 + 0x20 * m)
  .next (if !s.blkOn 0x25 then (s.accessError o 0 0x2A a).ret o a 0
    else if s.behindHeld a then s.hold { origin := o, addr := a, size := 8, data := none }
    else if !o.cab && s.cabOwned 0x25 then (s.accessError o 0 0x29 a).ret o a 0
    else let (t, v) := s.bwRead o m; t.ret o a v)

/-! ### CRC units (R695 to R702) -/

/-- Width, polynomial as the register takes it (reflected for reflected codes), INIT, reflected, XOROUT (Table 23.1). -/
def crcParams (p : Nat) : Nat × Nat × Nat × Bool × Nat :=
  if p = 0 then (32, 0xEDB88320, 0xFFFFFFFF, true, 0xFFFFFFFF)
  else if p = 1 then (32, 0x82F63B78, 0xFFFFFFFF, true, 0xFFFFFFFF)
  else if p = 2 then (16, 0x1021, 0xFFFF, false, 0)
  else (64, 0x42F0E1EBA9EA3693, 0, false, 0)

/-- One bit of the running register. -/
def crcBit (w poly : Nat) (refl : Bool) (v : Nat) : Nat :=
  if refl then (if v % 2 = 1 then (v / 2) ^^^ poly else v / 2)
  else (if bit v (w - 1) then (2 * v % 2 ^ w) ^^^ poly else 2 * v % 2 ^ w)

/-- One byte taken (R695). -/
def crcByte (p v b : Nat) : Nat :=
  let (w, poly, _, refl, _) := crcParams p
  (List.range 8).foldl (fun v _ => crcBit w poly refl v) (if refl then v ^^^ b else v ^^^ (b * 2 ^ (w - 8)))

/-- RESULT of a unit (R695). -/
def State.crcResult (s : State) (u : Nat) : Nat :=
  let (w, _, _, _, x) := crcParams (s.get F.CRC_CTRL_POLY u)
  (s.get F.CRC_VAL_VAL u ^^^ x) % 2 ^ w

/-- Source 53: a unit has both DONE and IE (R699). -/
def State.crcLine (s : State) : State :=
  s.icuLine 53 ((List.range 4).any (fun u => s.on F.CRC_CTRL_DONE u && s.on F.CRC_CTRL_IE u))

/-- A unit takes one byte (R696, R699). -/
def State.crcTake (s : State) (u b : Nat) : State :=
  let before := s.get F.CRC_COUNT_COUNT u
  let s := (s.put F.CRC_VAL_VAL u (crcByte (s.get F.CRC_CTRL_POLY u) (s.get F.CRC_VAL_VAL u) b)).incSat F.CRC_COUNT_COUNT u
  if s.get F.CRC_COUNT_LEN u ≠ before && s.get F.CRC_COUNT_COUNT u = s.get F.CRC_COUNT_LEN u then
    ((s.put F.CRC_CTRL_DONE u 1).putB F.CRC_CTRL_MATCH u (s.crcResult u = s.get F.CRC_EXPECT_EXPECT u)).crcLine
  else s

/-- A write of CRC_DATA8, 16 or 32: `n` bytes, low byte first (R696). -/
def State.crcFeed (s : State) (u n v : Nat) : State := (List.range n).foldl (fun s i => s.crcTake u (v / 2 ^ (8 * i) % 256)) s

/-- A write of CRC_CTRL: POLY first; INIT loads VAL and clears COUNT, DONE and MATCH; without it the bits of VAL above the new width
are cleared (R700). -/
def State.crcCtrl (s : State) (u poly : Nat) (init ie clrDone : Bool) : State :=
  let (w, _, i, _, _) := crcParams (poly % 4)
  let s := (s.put F.CRC_CTRL_POLY u poly).putB F.CRC_CTRL_IE u ie
  let s := if clrDone then s.put F.CRC_CTRL_DONE u 0 else s
  let s := if init then
      (((s.put F.CRC_VAL_VAL u i).put F.CRC_COUNT_COUNT u 0).put F.CRC_CTRL_DONE u 0).put F.CRC_CTRL_MATCH u 0
    else s.put F.CRC_VAL_VAL u (s.get F.CRC_VAL_VAL u % 2 ^ w)
  s.crcLine

/-- Address of a CRC register. -/
def crcAddr (u off : Nat) : Nat := 0x00F002400000 + 0x100 * u + off

/-- INIT: a CRC_CTRL write with INIT 1 (R700). -/
def execInit (o : Origin) (u : Fin 4) (poly : Fin 4) (ie : Bool) (s : State) : Host.Outcome State Fault Refusal :=
  .next (s.guarded o { addr := crcAddr u 0, blk := 0x24, audited := false } 0 (fun s => s.crcCtrl u poly true ie false))

/-- FEED: a write of CRC_DATA8 (`k` 0), CRC_DATA16 (1) or CRC_DATA32 (2) (R696). -/
def execFeed (o : Origin) (u : Fin 4) (k : Fin 3) (v : Fin 4294967296) (s : State) : Host.Outcome State Fault Refusal :=
  .next (s.guarded o { addr := crcAddr u (8 + 4 * k), blk := 0x24, audited := false } 0 (fun s => s.crcFeed u (2 ^ (k : Nat)) v))

end Sys2Proof.Machine
end

