-- ==== Sys2Proof/Machine/Mem.lean ====
section
/-! DEFINITION. The device address map (Table 4.1), the fixed rules of Table 19.2 and the region checkers (R605 to R608). -/

namespace Sys2Proof.Machine

/-- The ranges of Table 4.1. -/
inductive MemArea where
  | dram | shelf | journal | hutchSram | tcm (n : Nat) | mram | blockRegs | drawerPages | aperture (k off : Nat) | unmapped
  deriving DecidableEq, Repr

/-- The range of a device address. -/
def memArea (a : Nat) : MemArea :=
  if a < 0x001000000000 then .dram
  else if 0x00E000000000 ≤ a ∧ a < 0x00E000800000 then .shelf
  else if 0x00E001000000 ≤ a ∧ a < 0x00E001600000 then .journal
  else if 0x00E002000000 ≤ a ∧ a < 0x00E002080000 then .hutchSram
  else if 0x00E003000000 ≤ a ∧ a < 0x00E003080000 then .tcm ((a - 0x00E003000000) / 0x40000)
  else if 0x00E800000000 ≤ a ∧ a < 0x00E802000000 then .mram
  else if 0x00F000000000 ≤ a ∧ a < 0x00F010000000 then .blockRegs
  else if 0x00F020000000 ≤ a ∧ a < 0x00F021000000 then .drawerPages
  else if 0x010000000000 ≤ a ∧ a < 0x050000000000 then
    .aperture ((a - 0x010000000000) / 2 ^ 36) ((a - 0x010000000000) % 2 ^ 36)
  else .unmapped

/-- Installed DRAM (R122): 32 GiB on an X32 part. -/
def State.dramSize (s : State) : Nat := if s.fuses.capX32 then 0x000800000000 else 0x001000000000

/-- The lowest-numbered enabled checker whose range contains address `a` (R606). -/
def State.checkerOf (s : State) (a : Nat) : Option Nat :=
  (List.range 32).find? (fun i => s.on F.CAB_RGN_CFG_EN i
    && decide (s.get F.CAB_RGN_BASE_BASE i * 65536 ≤ a)
    && decide (a < s.get F.CAB_RGN_BASE_BASE i * 65536 + (s.get F.CAB_RGN_CFG_SIZE_M1 i + 1) * 65536))

/-- Is a line of DRAM granted to the origin for this direction (R606)? -/
def State.lineGrant (s : State) (o : Origin) (write : Bool) (a : Nat) : Bool :=
  match s.checkerOf a with
  | none => o.cab
  | some i =>
    if o.cab then s.on (if write then F.CAB_RGN_CFG_CAB_W else F.CAB_RGN_CFG_CAB_R) i
    else s.on (if write then F.CAB_RGN_CFG_OPEN_W else F.CAB_RGN_CFG_OPEN_R) i && bit (s.get F.CAB_RGN_CFG_KINDS i) o.kind.num

/-- The enabled region that holds device address `a` (R487). -/
def State.dramRegion (s : State) (a : Nat) : Option Nat :=
  (List.range 8).find? (fun i => s.on F.DMC_RGN_B_EN i
    && decide (s.get F.DMC_RGN_A_BASE_64M i * 2 ^ 26 ≤ a)
    && decide (a < (s.get F.DMC_RGN_A_BASE_64M i + s.get F.DMC_RGN_A_SIZE_64M i) * 2 ^ 26))

/-- Does device address `a` lie in the DRAM that regions map: inside an enabled region, and in its usable part if ECC is on
(R487, R491)? -/
def State.dramMapped (s : State) (a : Nat) : Bool :=
  match s.dramRegion a with
  | none => false
  | some i =>
    let size := s.get F.DMC_RGN_A_SIZE_64M i * 2 ^ 26
    let o := a - s.get F.DMC_RGN_A_BASE_64M i * 2 ^ 26
    !s.on F.DMC_RGN_B_ECC i || decide (o < size - size / 32)

/-- Line addresses that [a, a + n) touches. -/
def linesOf (a n : Nat) : List Nat :=
  if n = 0 then [] else (List.range ((a + n - 1) / 64 - a / 64 + 1)).map (fun i => (a / 64 + i) * 64)

/-- First addresses of the 64 KiB granules that [a, a + n) touches. Every region and every checker begins and ends on 64 KiB (Tables 14.5,
19.12), so what holds of a line holds of its granule. -/
def granulesOf (a n : Nat) : List Nat :=
  if n = 0 then [] else (List.range ((a + n - 1) / 65536 - a / 65536 + 1)).map (fun i => (a / 65536 + i) * 65536)

/-- In PARK the DRAM controller runs only refresh and the status read, until the resume retrains it (R501, R510). -/
def State.dramParked (s : State) : Bool := s.get F.PWR_STATUS_STATE = 2 && decide (s.get F.PWR_STATUS_PHASE < 6)

/-- Does the DRAM controller serve accesses, scrubs and trains? -/
def State.dramServes (s : State) : Bool := s.blkOn 0x19 && !s.dramParked

/-- Bytes of a GPU context's save area (Table 8.1). -/
def saveBytes : Nat := 8 * 2 ^ 20

/-- Bytes of DRAM region `r` that can be used: from its base, the whole of it, or with ECC all but the last 1/32 (R487, R491). -/
def State.rgnUsable (s : State) (r : Nat) : Nat × Nat :=
  let size := s.get F.DMC_RGN_A_SIZE_64M r * 2 ^ 26
  (s.get F.DMC_RGN_A_BASE_64M r * 2 ^ 26,
    if !s.on F.DMC_RGN_B_EN r then 0 else if s.on F.DMC_RGN_B_ECC r then size - size / 32 else size)

/-- Save areas of CX-COMP and CX-SAFE (Table 8.1): 8 MiB each at the end of the usable part of the lowest enabled SAFE region. DESIGN
CHOICE (log entry 21): where in the region they lie the spec leaves open. -/
def State.cxSaves (s : State) : List Nat :=
  match (List.range 8).find? (fun r => s.on F.DMC_RGN_B_EN r && s.get F.DMC_RGN_B_CLASS r = 2) with
  | none => []
  | some r => let u := s.rgnUsable r
    [u.1 + u.2 - 2 * saveBytes, u.1 + u.2 - saveBytes]

/-- Does [a, a + n) meet a save area, which only the GPU front end reaches (R291)? -/
def State.saveHit (s : State) (a n : Nat) : Bool :=
  (s.cxSaves ++ (s.drw.filter (fun p => decide (0 < p.2.heapSize))).map (fun p => p.2.saveBase)).any (fun b =>
    decide (a < b + saveBytes) && decide (b < a + n))

/-- Error code of an access to DRAM, 0 where every line that it touches lies in mapped DRAM (R122, R487, R491), outside the save areas
(R291), and grants it (R606), and the controller serves it (R145, R501). -/
def State.dramErr (s : State) (o : Origin) (write : Bool) (a n : Nat) : Nat :=
  if s.dramSize < a + n then 0x28
  else if !s.dramServes then 0x2A
  else if !(granulesOf a n).all s.dramMapped then 0x28
  else if s.saveHit a n then 0x29
  else if (granulesOf a n).all (s.lineGrant o write) then 0 else 0x29

/-- Bytes of DRAM as a master of this origin reads them: a refused access reads zero (R125, R126). -/
def State.dread (s : State) (o : Origin) (a n : Nat) : List Byte :=
  if s.dramErr o false a n = 0 then s.readBytes a n else List.replicate n 0

/-- A refused read of DRAM records its error against block `blk`, which issued it (R125, R126, R735). -/
def State.readErr (s : State) (o : Origin) (blk a n : Nat) : State :=
  if s.dramErr o false a n = 0 then s else s.accessError o blk (s.dramErr o false a n) a

/-- The 64 KiB granules of the heap at `base`, `size` bytes long, that [a, a + n) touches. -/
def heapGranules (base size a n : Nat) : List Nat :=
  let lo := max a base
  let hi := min (a + n) (base + size)
  if hi ≤ lo then [] else (List.range ((hi - 1 - base) / 65536 - (lo - base) / 65536 + 1)).map (fun i => (lo - base) / 65536 + i)

/-- Whoever writes heap bytes, their granules are marked in the active bank of the Drawer's heap log (R186, R187). -/
def State.markDirty (s : State) (a n : Nat) : State :=
  { s with drw := s.drw.map (fun p => match p.2.dirty with
    | none => p
    | some l => (p.1, { p.2 with dirty := some { l with
        active := l.active ++ (heapGranules p.2.heapBase p.2.heapSize a n).filter (fun g => !l.active.contains g) } })) }

/-- Write bytes of DRAM for a master of this origin: a refused access has no effect but its record (R126, R735). -/
def State.dwrite (s : State) (o : Origin) (blk a : Nat) (bs : List Byte) : State :=
  if s.dramErr o true a bs.length = 0 then (s.writeBytes a bs).markDirty a bs.length
  else s.accessError o blk (s.dramErr o true a bs.length) a

/-- Outcome of the checks of a memory access: 0 allowed, or the error code of R125, R126 or R145. Apertures are checked by
R469 and R470 elsewhere, registers by R135 to R138. -/
def State.memCheck (s : State) (o : Origin) (write : Bool) (a n : Nat) : Nat :=
  match memArea a with
  | .dram => s.dramErr o write a n
  | .shelf => if o.cab && (!write || o.kind ≠ .loader || !s.committed) then (if s.pdOnB 1 then 0 else 0x2A) else 0x29
  | .journal => if !o.cab || write then 0x29 else if s.pdOnB 1 then 0 else 0x2A
  | .hutchSram => if !o.cab || (write && decide (0x00E002060000 ≤ a)) then 0x29 else 0
  | .tcm k => if !o.cab then 0x29 else if s.blkOn (3 + k) then 0 else 0x2A
  | .mram => if o.kind = .hutch || (o.kind = .debug && o.cab) then 0 else 0x29
  | _ => 0x28

/-- What a read of a memory range returns: Journal records stand in their order from the start of the range; everything else is
device memory. -/
def State.memRead (s : State) (a n : Nat) : List Byte :=
  match memArea a with
  | .journal =>
    (List.range n).map (fun i =>
      let o := a - 0x00E001000000 + i
      ((s.jnl.records[o / 32]?).bind (fun r => r[o % 32]?)).getD 0)
  | _ => s.readBytes a n

end Sys2Proof.Machine
end

