-- ==== Sys2Proof/Machine/Compose.lean ====
section
/-! DEFINITION. The composition arithmetic of chapter 9 (R325, R329 to R339, R357): what a head or an offline composition
draws at each pixel, as pure functions of the snapshot and of memory. -/

namespace Sys2Proof.Machine

/-- A pixel: three 12-bit components and an 8-bit alpha. -/
structure Px where
  r : Int := 0
  g : Int := 0
  b : Int := 0
  a : Int := 255
  deriving DecidableEq, Repr, Inhabited

/-- `v`, a number of `w` bits, widened to `n` bits by repeating its bits from the most significant end (R334). -/
def widen (v w n : Nat) : Nat := (List.range n).foldl (fun acc k => acc * 2 + b2n (bit v (w - 1 - k % w))) 0

/-- `a / b` rounded to nearest, ties away from zero, for positive operands. -/
def roundDiv (a b : Nat) : Nat := (2 * a + b) / (2 * b)

/-- Kr and Kb of a CSC code in units of 1/10000 (R335). -/
def krkb (csc : Nat) : Nat × Nat :=
  if csc % 4 = 0 then (2990, 1140) else if csc % 4 = 1 then (2126, 722) else (2627, 593)

/-- The multipliers M_y, M_rr, M_bb, M_gb, M_gr (R335). -/
def yuvMul (csc : Nat) (full : Bool) : Int × Int × Int × Int × Int :=
  let kr := (krkb csc).1
  let kb := (krkb csc).2
  let sy := if full then 255 else 219
  let sc := if full then 255 else 224
  let k := 4095 * 4096
  ((roundDiv k sy : Nat), (roundDiv (k * 2 * (10000 - kr)) (10000 * sc) : Nat),
   (roundDiv (k * 2 * (10000 - kb)) (10000 * sc) : Nat),
   (roundDiv (k * 2 * kb * (10000 - kb)) (10000 * (10000 - kr - kb) * sc) : Nat),
   (roundDiv (k * 2 * kr * (10000 - kr)) (10000 * (10000 - kr - kb) * sc) : Nat))

/-- YUV to 12-bit RGB (R335). -/
def yuvToRgb (csc y cb cr a : Nat) : Px :=
  let full := bit csc 2
  let m := yuvMul csc full
  let y' : Int := if full then (y : Int) else (y : Int) - 16
  let cb' : Int := (cb : Int) - 128
  let cr' : Int := (cr : Int) - 128
  { r := clampI ((m.1 * y' + m.2.1 * cr' + 2048) / 4096) 0 4095,
    g := clampI ((m.1 * y' - m.2.2.2.1 * cb' - m.2.2.2.2 * cr' + 2048) / 4096) 0 4095,
    b := clampI ((m.1 * y' + m.2.2.1 * cb' + 2048) / 4096) 0 4095, a := a }

/-- Bytes per pixel (Table 9.3); 0 for an undefined format. -/
def layerBpp (f : Nat) : Nat :=
  if f = 1 ∨ f = 0x20 then 2 else if f = 2 then 3 else if f = 3 ∨ f = 4 ∨ f = 5 ∨ f = 0x21 then 4 else 0

/-- Is the format a YUV one? -/
def isYuv (f : Nat) : Bool := f = 0x20 || f = 0x21

/-- ENABLE, PREMULT and PIXEL_ALPHA of a descriptor. -/
def Desc.enable (d : Desc) : Bool := bit d.flags 0
/-- PREMULT. -/
def Desc.premult (d : Desc) : Bool := bit d.flags 1
/-- PIXEL_ALPHA. -/
def Desc.pixelAlpha (d : Desc) : Bool := bit d.flags 2

/-- A descriptor from its 64 bytes (Table 9.2). -/
def Desc.parse (b : List Byte) : Desc :=
  { addr := fieldLE b 0 8, pitch := fieldLE b 8 4, format := fieldLE b 0xC 1, flags := fieldLE b 0xD 1,
    transform := fieldLE b 0xE 1, csc := fieldLE b 0xF 1, srcX := fieldLE b 0x10 2, srcY := fieldLE b 0x12 2,
    srcW := fieldLE b 0x14 2, srcH := fieldLE b 0x16 2, dstX := fieldLE b 0x18 2, dstY := fieldLE b 0x1A 2,
    dstW := fieldLE b 0x1C 2, dstH := fieldLE b 0x1E 2, ga := fieldLE b 0x20 1, fenceTl := fieldLE b 0x24 2,
    fenceVal := fieldLE b 0x28 8, resv := fieldLE b 0x21 3 + fieldLE b 0x26 2 + fieldLE b 0x30 16 }

/-- The transformed source size: 90 and 270 degrees exchange the axes (R332). -/
def Desc.tw (d : Desc) : Nat := if d.transform % 2 = 1 then d.srcH else d.srcW
/-- Transformed height. -/
def Desc.th (d : Desc) : Nat := if d.transform % 2 = 1 then d.srcW else d.srcH

/-- The source pixel (x, y), in crop coordinates, converted and widened (R330, R334, R335). -/
def State.srcPixel (s : State) (o : Origin) (base : Nat) (d : Desc) (x y : Nat) : Px :=
  let get := fun (a n : Nat) => leNat (s.dread o a n)
  let px := d.srcX + x
  let a := base + d.addr + d.pitch * (d.srcY + y) + px * layerBpp d.format
  let rgb := fun (v rl rw gl gw bl bw : Nat) (al : Nat) =>
    ({ r := widen (bits v rl rw) rw 12, g := widen (bits v gl gw) gw 12, b := widen (bits v bl bw) bw 12, a := al } : Px)
  if d.format = 1 then rgb (get a 2) 11 5 5 6 0 5 255
  else if d.format = 2 then rgb (get a 3) 16 8 8 8 0 8 255
  else if d.format = 3 then rgb (get a 4) 16 8 8 8 0 8 255
  else if d.format = 4 then
    let v := get a 4
    rgb v 16 8 8 8 0 8 (if d.pixelAlpha then bits v 24 8 else 255)
  else if d.format = 5 then
    let v := get a 4
    rgb v 20 10 10 10 0 10 (if d.pixelAlpha then widen (bits v 30 2) 2 8 else 255)
  else if d.format = 0x21 then
    let v := get a 4
    yuvToRgb d.csc (bits v 16 8) (bits v 8 8) (bits v 0 8) (if d.pixelAlpha then bits v 24 8 else 255)
  else
    let pair := base + d.addr + d.pitch * (d.srcY + y) + px / 2 * 4
    let v := get pair 4
    let last := px / 2 = (d.srcX + d.srcW - 1) / 2
    let nx := get (pair + 4) 4
    let c := fun (lo : Nat) => if px % 2 = 1 ∧ !last then (bits v lo 8 + bits nx lo 8 + 1) / 2 else bits v lo 8
    yuvToRgb d.csc (if px % 2 = 1 then bits v 16 8 else bits v 0 8) (c 8) (c 24) 255

/-- The pixel (u, v) of the cropped, mirrored and rotated source (R332); coordinates outside repeat the edge (R336). -/
def State.xformPixel (s : State) (o : Origin) (base : Nat) (d : Desc) (u v : Int) : Px :=
  let u := (clampI u 0 ((d.tw : Int) - 1)).toNat
  let v := (clampI v 0 ((d.th : Int) - 1)).toNat
  let rot := d.transform % 4
  let p : Nat × Nat :=
    if rot = 0 then (u, v) else if rot = 1 then (v, d.srcH - 1 - u)
    else if rot = 2 then (d.srcW - 1 - u, d.srcH - 1 - v) else (d.srcW - 1 - v, u)
  let x := if bit d.transform 2 then d.srcW - 1 - p.1 else p.1
  let y := if bit d.transform 3 then d.srcH - 1 - p.2 else p.2
  s.srcPixel o base d x y

/-- A scaler tap: horizontal taps 6 per phase, vertical taps 4 per phase from index 384 (Table 9.4). -/
def tapOf (first n p j : Nat) : Int :=
  let raw := fun i => sx (Config.sclCoef (first + n * p + i)) 10
  if j + 1 < n then raw j else 256 - ((List.range (n - 1)).map raw).foldl (· + ·) 0

/-- Source position of an output coordinate in 16.16 fixed point (R336). -/
def sclPos (x S D : Nat) : Int := (((2 * x + 1) * S * 32768 / D : Nat) : Int) - 32768

/-- A polyphase filter over `n` taps around position `pos`, for one component. -/
def filterTaps (first n : Nat) (before : Int) (pos : Int) (sample : Int → Int) (hi : Int) : Int :=
  let p := (pos % 65536 / 1024).toNat
  let sum := (List.range n).foldl (fun acc (j : Nat) => acc + tapOf first n p j * sample (pos / 65536 - before + (j : Int))) 0
  clampI ((sum + 128) / 256) 0 hi

/-- A pixel built from a filter of each component. -/
def pxMap (g : (Px → Int) → Int → Int) : Px :=
  { r := g Px.r 4095, g := g Px.g 4095, b := g Px.b 4095, a := g Px.a 255 }

/-- The scaled layer pixel at (x, y) of the destination rectangle (R336); at a ratio of exactly 1 an axis passes unchanged. -/
def State.sclPixel (s : State) (o : Origin) (base : Nat) (d : Desc) (x y : Nat) : Px :=
  let hor := fun (v : Int) =>
    if d.tw = d.dstW then s.xformPixel o base d x v
    else pxMap (fun c hi => filterTaps 0 6 2 (sclPos x d.tw d.dstW) (fun u => c (s.xformPixel o base d u v)) hi)
  if d.th = d.dstH then hor y
  else pxMap (fun c hi => filterTaps 384 4 1 (sclPos y d.th d.dstH) (fun v => c (hor (clampI v 0 ((d.th : Int) - 1)))) hi)

/-- Source-over of a pixel onto the opaque result below (R337). -/
def blend (premult : Bool) (ga : Nat) (c : Px) (d : Px) : Px :=
  let a := (c.a * ga + 127) / 255
  let one := fun (x y : Int) =>
    if premult then min 4095 ((x * ga + y * (255 - a) + 127) / 255) else (x * a + y * (255 - a) + 127) / 255
  { r := one c.r d.r, g := one c.g d.g, b := one c.b d.b, a := 255 }

/-- An opaque XRGB8888 colour, widened. -/
def colourPx (v : Nat) : Px :=
  { r := widen (bits v 16 8) 8 12, g := widen (bits v 8 8) 8 12, b := widen (bits v 0 8) 8 12, a := 255 }

/-- Is (x, y) in the rectangle? -/
def inRect (q : Nat × Nat × Nat × Nat) (x y : Nat) : Bool :=
  q.1 ≤ x && x < q.1 + q.2.2.1 && q.2.1 ≤ y && y < q.2.1 + q.2.2.2

/-- A layer over `below` at (x, y) of the frame. -/
def State.layerPixel (s : State) (o : Origin) (base : Nat) (d : Desc) (x y : Nat) (below : Px) : Px :=
  if d.enable && inRect (d.dstX, d.dstY, d.dstW, d.dstH) x y then
    blend d.premult d.ga (s.sclPixel o base d (x - d.dstX) (y - d.dstY)) below
  else below

/-- A Shelf image drawn from (x0, y0) over `below`: pixel replication by SCALE, PREMULT 1, ga 255 (R357). -/
def State.assetPixel (s : State) (i : Option Nat) (x0 y0 x y : Nat) (below : Px) : Px :=
  match i.bind (fun i => s.shelf.assets[i]?) with
  | none => below
  | some a =>
    let u := (x - x0) / 2 ^ a.scale
    let v := (y - y0) / 2 ^ a.scale
    if x < x0 || y < y0 || a.w ≤ u || a.h ≤ v then below
    else
      let bpp := if a.format = 1 then 2 else 4
      let w := s.readLE (a.addr + (v * a.w + u) * bpp) bpp
      let c : Px := if a.format = 1 then
          { r := widen (bits w 11 5) 5 12, g := widen (bits w 5 6) 6 12, b := widen (bits w 0 5) 5 12, a := 255 }
        else { colourPx w with a := bits w 24 8 }
      blend true 255 c below

/-- Is the layer composed as disabled at (x, y): GENERAL inside a CLIP region (R402) or under throttle level 4 (Table 2.13), or
after its underrun in this frame (R389)? -/
def Snap.hidden (p : Snap) (e : SnapLayer) (x y : Nat) : Bool :=
  (e.general && (p.noGeneral || p.clips.any (fun c => inRect c x y)))
    || p.underruns.any (fun u => u.1 = e.l && (decide (u.2.1 < y) || (u.2.1 = y && decide (u.2.2 ≤ x))))

/-- One element of the stack over `below`: a layer, or a placeholder (R357), which is opaque over its whole rectangle. -/
def State.snapLayer (s : State) (p : Snap) (x y : Nat) (below : Px) (e : SnapLayer) : Px :=
  if p.hidden e x y then below
  else match e.desc with
    | some d => s.layerPixel Origin.hw e.base d x y below
    | none => if inRect e.rect x y then s.assetPixel e.place e.rect.1 e.rect.2.1 x y (colourPx p.bgColour) else below

/-- The safety-plane windows over `below`: ARGB8888 premultiplied, ga 255 (R337, R356), and in them the glyphs of the lit telltales
(R108, R113; log entry 27). -/
def State.safetyPixel (s : State) (p : Snap) (x y : Nat) (below : Px) : Px :=
  let hit := fun (w : Window) => inRect (w.x, w.y, w.w, w.h) x y
  let under := p.windows.foldl (fun below w =>
    if hit w then
      let v := s.readLE (w.buf + ((y - w.y) * w.w + (x - w.x)) * 4) 4
      blend true 255 { colourPx v with a := bits v 24 8 } below
    else below) below
  if p.windows.any hit then p.glyphs.foldl (fun below g => s.assetPixel (some g.1) g.2.1 g.2.2 x y below) under else under

/-- The blended 12-bit pixel of a frame before the pipe (R325, R357, R404). -/
def State.blended (s : State) (p : Snap) (x y : Nat) : Px :=
  let bg := colourPx p.bgColour
  if p.witState = 1 then s.safetyPixel p x y (s.assetPixel p.fallbackAsset 0 0 x y bg)
  else s.safetyPixel p x y (p.layers.foldl (s.snapLayer p x y) (s.assetPixel p.bgAsset 0 0 x y bg))

/-- Element `i` of the active bank: matrix 0 to 8, gamma table from 16 in rows of 1,024. -/
def Snap.bankAt (p : Snap) (i : Nat) : Nat :=
  tget (if i < 16 then F.HDn_MTX_COEF.rstv i else 4 * ((i - 16) % 1024)) p.bank i

/-- Matrix stage (R338). -/
def Snap.matrix (p : Snap) (c : Px) : Px :=
  let m := fun k j => sx (p.bankAt (3 * k + j)) 16
  let row := fun k => clampI ((m k 0 * c.r + m k 1 * c.g + m k 2 * c.b + 2048) / 4096) 0 4095
  { r := row 0, g := row 1, b := row 2, a := c.a }

/-- Gamma table stage for component `k` (R338). -/
def Snap.gamma (p : Snap) (k : Nat) (v : Int) : Int :=
  let v := v.toNat
  let i := v / 4
  let l := fun (i : Nat) => ((p.bankAt (16 + 1024 * k + min i 1023) : Nat) : Int)
  l i + ((l (i + 1) - l i) * ((v % 4 : Nat) : Int) + 2) / 4

/-- The dither hash (R339): `r` for component `k` at (x, y) of frame `f`. -/
def ditherOf (x y f k bpc : Nat) : Nat :=
  let m := 2 ^ 32
  let h := (x * 0x9E3779B1 % m) ^^^ (y * 0x85EBCA77 % m) ^^^ (f * 0xC2B2AE3D % m) ^^^ (k * 0x27D4EB2F % m)
  let h := h ^^^ (h >>> 15)
  let h := h * 0x2C1B3C6D % m
  let h := h ^^^ (h >>> 12)
  h >>> (20 + bpc)

/-- Reduction of a 12-bit value to `b` bits (R338). -/
def reduceTo (b : Nat) (dither : Option Nat) (v : Int) : Nat :=
  let v := v.toNat
  match dither with
  | some r => min ((v + r) / 2 ^ (12 - b)) (2 ^ b - 1)
  | none => min ((v + (if b = 12 then 0 else 2 ^ (11 - b))) / 2 ^ (12 - b)) (2 ^ b - 1)

/-- The B-bit components R, G, B that leave the pins at (x, y) (R338, R383, R404). -/
def State.pinPixel (s : State) (p : Snap) (x y : Nat) : Nat × Nat × Nat :=
  if p.blank || p.witState = 2 then (0, 0, 0)
  else
    let c := s.blended p x y
    let c := if p.mtxEn then p.matrix c else c
    let g := fun k v => if p.lutEn then p.gamma k v else v
    let red := fun k v => reduceTo p.bpc (if p.dither then some (ditherOf x y p.frame k p.bpc) else none) (g k v)
    (red 0 c.r, red 1 c.g, red 2 c.b)

/-- The 32-bit word that the Witness signs for a pixel of B bits (R396). -/
def witWord (b : Nat) (c : Nat × Nat × Nat) : Nat :=
  c.2.2 * 2 ^ (10 - b) + c.2.1 * 2 ^ (10 - b) * 2 ^ 10 + c.1 * 2 ^ (10 - b) * 2 ^ 20

/-- One byte of CRC-64/ECMA-182: polynomial 0x42F0E1EBA9EA3693, no reflection (R278). -/
def crc64Byte (crc : Nat) (b : Byte) : Nat :=
  (List.range 8).foldl (fun c _ =>
    if bit c 63 then (c * 2 % 2 ^ 64) ^^^ 0x42F0E1EBA9EA3693 else c * 2 % 2 ^ 64) (crc ^^^ (b.toNat * 2 ^ 56))

/-- CRC-64/ECMA-182 of bytes, initial value 0, no final XOR (R278). -/
def crc64 (bs : List Byte) : Nat := bs.foldl crc64Byte 0

/-- The expected signature of a rectangle of a frame (R397): row by row, left to right. -/
def State.regionSig (s : State) (p : Snap) (q : Nat × Nat × Nat × Nat) : Nat :=
  (List.range q.2.2.2).foldl (fun c j =>
    (List.range q.2.2.1).foldl (fun c i =>
      (leBytes 4 (witWord p.bpc (s.pinPixel p (q.1 + i) (q.2.1 + j)))).foldl crc64Byte c) c) 0

/-- An output pixel of a composition in OUT_FORMAT (Table 9.9): RGB565, XRGB8888, ARGB8888 or ARGB2101010, alpha at its
maximum (R362); components are given with their widths already reduced. -/
def outPixel (fmt : Nat) (c : Nat × Nat × Nat) : List Byte :=
  if fmt = 1 then leBytes 2 (c.2.2 + c.2.1 * 32 + c.1 * 2048)
  else if fmt = 5 then leBytes 4 (c.2.2 + c.2.1 * 2 ^ 10 + c.1 * 2 ^ 20 + 3 * 2 ^ 30)
  else leBytes 4 (c.2.2 + c.2.1 * 2 ^ 8 + c.1 * 2 ^ 16 + (if fmt = 4 then 255 * 2 ^ 24 else 0))

/-- Component widths R, G, B of an output format. -/
def outWidths (fmt : Nat) : Nat × Nat × Nat := if fmt = 1 then (5, 6, 5) else if fmt = 5 then (10, 10, 10) else (8, 8, 8)

/-- A pixel of an offline composition: descriptors over BG, reduced to the output widths, dithered with FRAME (R362). -/
def State.listPixel (s : State) (o : Origin) (base : Nat) (ds : List Desc) (bg frame fmt : Nat) (dither : Bool) (x y : Nat) : List Byte :=
  let c := ds.foldl (fun below d => s.layerPixel o base d x y below) (colourPx bg)
  let w := outWidths fmt
  let red := fun k b v => reduceTo b (if dither then some (ditherOf x y (frame % 2 ^ 32) k b) else none) v
  outPixel fmt (red 0 w.1 c.r, red 1 w.2.1 c.g, red 2 w.2.2 c.b)

/-- A pixel of a capture (R363): TAP 0 rounds the blended components to the output widths; TAP 1 puts the pins' B-bit values
into the most significant bits. With the Witness off NORMAL the capture records what leaves the pins. -/
def State.capturePixel (s : State) (p : Snap) (fmt : Nat) (tapPins : Bool) (x y : Nat) : List Byte :=
  let w := outWidths fmt
  if tapPins || p.witState ≠ 0 then
    let c := s.pinPixel p x y
    let up := fun b v => if p.bpc ≤ b then v * 2 ^ (b - p.bpc) else v / 2 ^ (p.bpc - b)
    outPixel fmt (up w.1 c.1, up w.2.1 c.2.1, up w.2.2 c.2.2)
  else
    let c := s.blended p x y
    outPixel fmt (reduceTo w.1 none c.r, reduceTo w.2.1 none c.g, reduceTo w.2.2 none c.b)

end Sys2Proof.Machine
end

