-- ==== Sys2Proof/Machine/Dram.lean ====
section
/-! DEFINITION. The DRAM controller (chapter 14): the mapping, inline ECC, refresh, scrubbing, training and retraining, and the
fetch scheduler's grant of a pause (R388). -/

namespace Sys2Proof.Machine

/-- Change the controller's internal state. -/
def State.modDmc (s : State) (g : Dmc → Dmc) : State := { s with dmc := g s.dmc }

/-! ### Mapping (R486 to R491) -/

/-- Set bits of a mask, lowest first. -/
def setBits (m n : Nat) : List Nat := (List.range n).filter (fun i => bit m i)

/-- Channel and channel-local offset of device address `a` in region `i` (R488). -/
def State.dramMap (s : State) (i a : Nat) : Nat × Nat :=
  let o := a - s.get F.DMC_RGN_A_BASE_64M i * 2 ^ 26
  let g := 2 ^ s.get F.DMC_RGN_B_GRAIN_LOG2 i
  let m := setBits (s.get F.DMC_RGN_A_CHMASK i) 16
  let st := if s.on F.DMC_RGN_B_ECC i then 64 * (o / 64 + o / 64 / 31) + o % 64 else o
  let k := st / g
  (m.getD (k % m.length) 0, s.get F.DMC_RGN_A_CH_OFFSET_MIB i * 2 ^ 20 + k / m.length * g + st % g)

/-- Bank of a channel-local offset (Table 14.2). -/
def bankOf (c : Nat) : Nat := bits c 11 4 ^^^ bits c 15 4
/-- Row of a channel-local offset. -/
def rowOf (c : Nat) : Nat := c / 2 ^ 15

/-! ### Accesses (R491 to R497) -/

/-- Count one 64-byte access of a channel: accesses, row misses and turns (Tables 14.21, 14.22, open-page policy of R495). -/
def State.dramCount (s : State) (o : Origin) (write : Bool) (line : Nat) : State :=
  match s.dramRegion line with
  | none => s
  | some i =>
    let (ch, cl) := s.dramMap i line
    let b := ch * 16 + bankOf cl
    let miss := tget 0 s.dmc.openRows b ≠ rowOf cl + 1
    let turn := tget false s.dmc.lastWrite ch ≠ write
    let tag := if o.kind = .drawer then some (o.port * 32 + o.fn - 1) else none
    let ev := fun (s : State) (e : Nat) => s.pmuEvent 0x19 e ch 1 tag (!o.cab)
    let s := ev (s.incSat F.DMC_CH_ACC_ACCESSES ch) 1
    let s := if miss then ev (s.incSat F.DMC_CH_EVT_MISSES ch) 2 else s
    let s := if turn then ev (s.incSat F.DMC_CH_EVT_TURNS ch) 3 else s
    s.modDmc (fun m => { m with openRows := tset 0 m.openRows b (rowOf cl + 1), lastWrite := tset false m.lastWrite ch write })

/-- Channel of a line, 0 where no region holds it. -/
def State.chanOf (s : State) (line : Nat) : Nat := ((s.dramRegion line).map (fun i => (s.dramMap i line).1)).getD 0

/-- A line with a single-bit error is read: corrected, counted and recorded (R493). -/
def State.eccCorrect (s : State) (line b : Nat) : State :=
  let s := ((s.incSat F.DMC_ECC_STATUS_CE).put F.DMC_ECC_ADDR_ADDR 0 line).put F.DMC_ECC_ADDR_BIT 0 b
  s.recordError { domain := 0x19, code := 0x21, source := s.chanOf line, detail := line }

/-- An access meets a line with a double-bit error: it is poisoned (R493). -/
def State.eccPoison (s : State) (o : Origin) (line : Nat) : State :=
  let ch := s.chanOf line
  let s := (((s.incSat F.DMC_ECC_STATUS_UE).put F.DMC_ECC_STATUS_UE_CH 0 ch).put F.DMC_ECC_ADDR_ADDR 0 line).put F.DMC_ECC_ADDR_BIT 0 0x1FF
  s.recordError { domain := 0x19, code := 0x2E, source := ch, origin := o.word, detail := line }

/-- Is a line of [a, a + n) poisoned? -/
def State.poisoned (s : State) (a n : Nat) : Bool := (linesOf a n).any (fun l => s.dmc.bad.any (fun p => p.1 = l && p.2 = 0x1FF))

/-- Does a write of [a, a + n) meet a poisoned line that it covers only in part (R493)? -/
def State.partPoisoned (s : State) (a n : Nat) : Bool :=
  s.dmc.bad.any (fun p => p.2 = 0x1FF && decide (p.1 < a + n) && decide (a < p.1 + 64) && !(decide (a ≤ p.1) && decide (p.1 + 64 ≤ a + n)))

/-- ECC of the flawed lines that an access to [a, a + n) meets: a line written whole is rewritten and its flaw cleared; every other
is read, a partial write being a read and a write (R492, R493). -/
def State.eccLines (s : State) (o : Origin) (write : Bool) (a n : Nat) : State :=
  s.dmc.bad.foldl (fun s p =>
    if a + n ≤ p.1 || p.1 + 64 ≤ a then s
    else if write && decide (a ≤ p.1) && decide (p.1 + 64 ≤ a + n) then
      s.modDmc (fun m => { m with bad := m.bad.filter (fun q => q.1 ≠ p.1) })
    else if p.2 = 0x1FF then s.eccPoison o p.1
    else s.eccCorrect p.1 p.2) s

/-- The controller's part of an access: counts, and ECC (R492, R493). -/
def State.dramAccess (s : State) (o : Origin) (write : Bool) (a n : Nat) : State :=
  ((linesOf a n).foldl (fun s l => s.dramCount o write l) s).eccLines o write a n

/-- Put bytes into DRAM: a poisoned line that they cover only in part keeps its own (R493). -/
def State.putLines (s : State) (a : Nat) (bs : List Byte) : State :=
  if s.partPoisoned a bs.length then
    s.writeBytes a (bs.zipIdx.map (fun (b, i) => if s.poisoned (a + i) 1
      && !(decide (a ≤ (a + i) / 64 * 64) && decide ((a + i) / 64 * 64 + 64 ≤ a + bs.length)) then s.peek (a + i) else b))
  else s.writeBytes a bs

/-! ### Admission to a paused channel (R495, R496, R508) -/

/-- Lines of [a, a + n) that fall in the channel that is paused. -/
def State.pausedLines (s : State) (a n : Nat) : Nat :=
  match s.dmc.retrain with
  | none => 0
  | some r => if r.paused then ((linesOf a n).filter (fun l => (s.dramRegion l).isSome && s.chanOf l = r.ch)).length else 0

/-- Is an access of a master HIGH: to a region of class SAFE or ASSURED (R496)? -/
def State.highReq (s : State) (a : Nat) : Bool := ((s.dramRegion a).map (fun i => decide (1 ≤ s.get F.DMC_RGN_B_CLASS i))).getD false

/-- Is a request admitted to the FIFO of the paused channel: a HIGH one while any of its 64 entries is free, any other while 16 are (R496)? -/
def State.admits (s : State) (a n : Nat) : Bool :=
  s.pausedLines a n = 0 || (if s.highReq a then decide (s.dmc.fifo < 64) else decide (s.dmc.fifo + 16 ≤ 64))

/-- The entries that a request admitted during a pause takes. -/
def State.enterFifo (s : State) (a n : Nat) : State :=
  if s.pausedLines a n = 0 then s else s.modDmc (fun m => { m with fifo := min 64 (m.fifo + s.pausedLines a n) })

/-- The first line given of each channel. -/
def State.onePerChan (s : State) (lines : List Nat) : List Nat :=
  lines.foldl (fun acc a => if acc.any (fun b => s.chanOf b = s.chanOf (a / 64 * 64)) then acc else acc ++ [a / 64 * 64]) []

/-- SCRUB (R494): SCRUB_US after the last, one line of an ECC region of each channel is read, and rewritten if an error was corrected.
`lines` are the lines that the scrub is at: their order the spec leaves open. -/
def execScrub (lines : List Nat) (s : State) : Host.Outcome State Fault Refusal :=
  .next (if !s.on F.DMC_SCRUB_EN || !s.dramServes || decide (s.now < s.dmc.scrubAt + s.get F.DMC_SCRUB_SCRUB_US * 1000) then s
    else (s.onePerChan lines).foldl (fun s a =>
      let l := a / 64 * 64
      let ecc := ((s.dramRegion l).map (fun i => s.on F.DMC_RGN_B_ECC i)).getD false
      if !ecc then s
      else
        let s := s.dramAccess Origin.hw false l 64
        s.modDmc (fun m => { m with bad := m.bad.filter (fun p => !(p.1 = l && p.2 ≠ 0x1FF)) }))
      (s.modDmc (fun m => { m with scrubAt := s.now })))

/-- tREFIpb in ns at the present rate (R499): over-temperature keeps rate x2 (R500). -/
def State.refreshNs (s : State) : Nat := if s.get F.DMC_REF_RATE = 0 then 488 else 244

/-- REFRESH (R499): tREFIpb after the last, the next pair b, b + 8 of the channel is refreshed and its rows close. A retired channel is off
(R490). -/
def execRefresh (ch : ChanId) (s : State) : Host.Outcome State Fault Refusal :=
  .next (if bit (s.get F.DMC_INFO_RETIRED) ch || !s.pdOnB 9 || decide (s.now < tget 0 s.dmc.refAt ch + s.refreshNs) then s
    else
      let p := tget 0 s.dmc.refPair ch
      s.modDmc (fun m => { m with refAt := tset 0 m.refAt ch s.now, refPair := tset 0 m.refPair ch ((p + 1) % 8),
                                  openRows := terase (terase m.openRows (ch * 16 + p)) (ch * 16 + p + 8) }))

/-- Active channels: those not retired (R490). -/
def State.activeChans (s : State) : List Nat := (List.range 16).filter (fun c => !bit (s.get F.DMC_INFO_RETIRED) c)

/-! ### Retraining (R507 to R510) -/

/-- Direction of the channel's next pause: read and write alternate (R507). -/
def State.retrainDir (s : State) (ch : Nat) : Nat := tget 0 s.dmc.nextDir ch

/-- A retraining falls due: it asks for its grants, or waits until the one in hand ends (R508). -/
def State.retrainAsk (s : State) (ch dir : Nat) : State :=
  match s.dmc.retrain with
  | none =>
    (s.modDmc (fun m => { m with retrain := some { ch := ch, dir := dir, since := s.now } })).put F.DMC_TRN_CTRL_BUSY 0 1
  | some _ => s.modDmc (fun m => { m with waiting := m.waiting ++ [(ch, dir)] })

/-- The retraining in hand is over: the next that waits asks for its grants. -/
def State.retrainNext (s : State) : State :=
  let s := (s.modDmc (fun m => { m with retrain := none })).put F.DMC_TRN_CTRL_BUSY 0 0
  match s.dmc.waiting with
  | [] => s
  | (ch, d) :: r => (s.modDmc (fun m => { m with waiting := r })).retrainAsk ch d

/-- RETRAIN_REQUEST (R507): with EN set, the channel's periodic retraining falls due, PERIOD_MS after the last. -/
def execRetrainRequest (ch : ChanId) (s : State) : Host.Outcome State Fault Refusal :=
  .next (if !s.on F.DMC_RT_CTRL_EN || bit (s.get F.DMC_INFO_RETIRED) ch || !s.dramServes
        || decide (s.now < tget 0 s.dmc.askedAt ch + s.get F.DMC_RT_CTRL_PERIOD_MS * 1000000) then s
    else (s.modDmc (fun m => { m with askedAt := tset 0 m.askedAt ch s.now })).retrainAsk ch (s.retrainDir ch))

/-- Every active channel is retrained once (NOW of DMC_RT_CTRL, and a change of RATE). In PARK the controller does not train: the resume
trains every channel (R501, R510). -/
def State.retrainAll (s : State) : State := if !s.dramServes then s else s.activeChans.foldl (fun s c => s.retrainAsk c (s.retrainDir c)) s

/-- Device address of a DMC register. -/
def dmcAddr (off : Nat) : Nat := 0x00F001900000 + off

/-- RETRAIN_NOW: a write of NOW. -/
def execRetrainNow (o : Origin) (s : State) : Host.Outcome State Fault Refusal :=
  .next (s.guarded o { addr := dmcAddr 0x300, blk := 0x19, new := 2 ^ 13 } 0 State.retrainAll)

/-- PAUSE_GRANT (R388): the fetch scheduler grants the pause when every layer of every RUNNING head has a lead of at least 22 us;
`leads` lists heads and the leads of their layers in ns. -/
def execPauseGrant (leads : List (HeadId × Nat)) (s : State) : Host.Outcome State Fault Refusal :=
  .next (match s.dmc.retrain with
    | none => s
    | some r =>
      if r.granted || leads.any (fun p => s.get F.HDn_STATUS_STATE p.1 = 2 && decide (p.2 < 22000)) then s
      else
        let s := s.modDmc (fun m => { m with retrain := some { r with granted := true } })
        (s.incSat F.CMP_FETCH_STATUS_PAUSES).maxTo F.CMP_FETCH_STATUS_PAUSE_WAIT_US 0 (min 65535 ((s.now - r.since) / 1000)))

/-- Is a head running, so that a pause needs the scheduler's grant (R510)? -/
def State.anyHeadRuns (s : State) : Bool := (List.range 8).any (fun h => s.get F.HDn_STATUS_STATE h = 2)

/-- The PlynLink grant of a pause (R473): every up port has 256 KiB of its 512 KiB receive buffer free. -/
def State.plkGrant (_s : State) (held : Nat → Nat) : Bool := (List.range 4).all (fun p => decide (held p * 16 ≤ 262144))

/-- Set the delays of a channel from a sweep, or leave every one and record DRAM_EYE if a bit's window is too narrow (R507, R509). -/
def State.centreDelays (s : State) (ch dir : Nat) (eyes : List Eye) : State :=
  let min_ := s.get F.DMC_RT_CTRL_MIN_EYE
  if eyes.any (fun e => decide (e.below < min_) || decide (e.above < min_)) then
    s.recordError { domain := 0x19, code := 0x31, source := ch }
  else (eyes.take 18).zipIdx.foldl (fun s (e, b) =>
    if dir = 0 then s.put F.DMC_DLY_RD (ch * 18 + b) e.centre else s.put F.DMC_DLY_WR (ch * 18 + b) e.centre) s

/-- RETRAIN_SKIP (R509): both grants were not held within 50 ms; the fourth skip in a row of a channel is recorded. -/
def execRetrainSkip (s : State) : Host.Outcome State Fault Refusal :=
  .next (match s.dmc.retrain with
    | none => s
    | some r =>
      if r.paused || decide (s.now < r.since + 50000000) then s
      else
        let n := tget 0 s.dmc.skips r.ch + 1
        let s := (s.incSat F.DMC_RT_STATUS_SKIPS).modDmc (fun m => { m with skips := tset 0 m.skips r.ch (if 4 ≤ n then 0 else n) })
        let s := if 4 ≤ n then s.recordError { domain := 0x19, code := 0x32, source := r.ch } else s
        s.retrainNext)

/-- REFRESH_RATE_POLL (R500): 16 ms after the last, the status read gives the highest rate and its channel. -/
def execRefreshRatePoll (rate : Fin 3) (ch : ChanId) (s : State) : Host.Outcome State Fault Refusal :=
  .next (
    if !s.pdOnB 9 || decide (s.now < s.dmc.pollAt + 16000000) then s
    else
      let s := s.modDmc (fun m => { m with pollAt := s.now })
      let old := s.get F.DMC_REF_RATE
      let s := (s.put F.DMC_REF_RATE 0 rate).put F.DMC_REF_HOT_CH 0 ch
      let s := if (rate : Nat) = 2 then (s.put F.DMC_REF_HOT 0 1).recordError { domain := 0x19, code := 0x30, source := ch } else s
      if old = rate then s else s.retrainAll.hutchRaise 11)

/-! ### Training operations (R503) -/

/-- May the origin write the training registers (R503)? -/
def State.trnAllowed (s : State) (o : Origin) : Bool := !s.committed || o.kind = .hutch || o.kind = .debug

/-- Channels of an operation. -/
def State.trnChans (s : State) (c : TrnCfg) : List Nat := if c.all then s.activeChans else [c.ch % 16]

/-- Operation `op` begins: the error counts clear and, for an operation other than none, BUSY reads 1 (Table 14.16). WRITE_PAT and LOOP write the pattern into the training
areas; after commit a CENTRE asks for the grants of each channel's pause (R507). -/
def State.trnGo (s : State) (op : Nat) (c : TrnCfg) : State :=
  let s := (((s.put F.DMC_TRN_CTRL_CH 0 c.ch).putB F.DMC_TRN_CTRL_ALL 0 c.all).put F.DMC_TRN_CTRL_OP 0 op).put
    F.DMC_TRN_CTRL_PATTERN 0 c.pattern
  let s := (s.put F.DMC_TRN_CTRL_LEN_LOG2 0 c.lenLog2).put F.DMC_TRN_CTRL_DIR 0 c.dir
  let s := (List.range 18).foldl (fun s b => s.put F.DMC_TRN_ERR_COUNT b 0) s
  if op = 0 then s
  else
  let s := (s.put F.DMC_TRN_CTRL_BUSY 0 1).modDmc (fun m => { m with op := some (op, c) })
  if op = 1 || op = 3 then
    (s.trnChans c).foldl (fun s ch => s.modDmc (fun m => { m with area := tset (0, 0) m.area ch (c.pattern + 1, c.lenLog2) })) s
  else if op = 4 && s.committed then
    (s.trnChans c).foldl (fun s ch => s.retrainAsk ch c.dir) (s.modDmc (fun m => { m with op := none }))
  else s

/-- A write of DMC_TRN_CTRL with START (R503): after commit only the Hutch and a debug session; ignored while an operation runs. -/
def State.trnStart (s : State) (o : Origin) (op : Nat) (c : TrnCfg) : State :=
  s.guarded o { addr := dmcAddr 0x1000, blk := 0x19, audited := false } 0 (fun s =>
    if !s.trnAllowed o then
      s.recordError { domain := 0x19, code := 0x2C, source := o.kind.num, origin := o.word, detail := dmcAddr 0x1000 }
    else if 5 ≤ c.pattern then s.cfgError o 0x19 0x1000
    else if s.on F.DMC_TRN_CTRL_BUSY || !s.dramServes then s
    else s.trnGo op c)

/-- WRITE_PAT: the pattern is written into the training areas. -/
def execWritePat (o : Origin) (c : TrnCfg) (s : State) : Host.Outcome State Fault Refusal := .next (s.trnStart o 1 c)

/-- READ_CMP: the training areas are read and compared with the pattern. -/
def execReadCmp (o : Origin) (c : TrnCfg) (s : State) : Host.Outcome State Fault Refusal := .next (s.trnStart o 2 c)

/-- LOOP: bursts of the pattern are written and compared in a loop. -/
def execLoop (o : Origin) (c : TrnCfg) (s : State) : Host.Outcome State Fault Refusal := .next (s.trnStart o 3 c)

/-- CENTRE (R507): before commit, when nothing uses the channels, the sweep needs no grants. -/
def execCentre (o : Origin) (c : TrnCfg) (s : State) : Host.Outcome State Fault Refusal := .next (s.trnStart o 4 c)

/-- TRAINING_OP_DONE (R503, R509): the operation ends. `errs` are the mismatches per bit and `eyes` the windows of each channel that
a CENTRE swept: the device and the wires give them. -/
def execTrainingOpDone (errs : List Nat) (eyes : List (ChanId × List Eye)) (s : State) : Host.Outcome State Fault Refusal :=
  .next (match s.dmc.op with
    | none => s
    | some (op, c) =>
      let s := (errs.take 18).zipIdx.foldl (fun s (e, b) => s.put F.DMC_TRN_ERR_COUNT b (min e (2 ^ 32 - 1))) s
      let s := if op = 4 then eyes.foldl (fun s p => s.centreDelays p.1 c.dir p.2) s else s
      ((s.modDmc (fun m => { m with op := none })).put F.DMC_TRN_CTRL_BUSY 0 0).hutchRaise 11)

/-- VREF_WRITE (R503, Table 14.20): the code is stored and the device's mode register written. -/
def execVrefWrite (o : Origin) (ch : ChanId) (code : Fin 128) (s : State) : Host.Outcome State Fault Refusal :=
  .next (s.guarded o { addr := dmcAddr (0x2048 + 0x80 * ch), blk := 0x19, audited := false } 0 (fun s =>
    if s.trnAllowed o then
      (s.put F.DMC_VREF_DRAM ch code).modDmc (fun m => { m with vrefDev := tset 0x40 m.vrefDev ch code })
    else s.recordError { domain := 0x19, code := 0x2C, source := o.kind.num, origin := o.word, detail := dmcAddr (0x2048 + 0x80 * ch) }))

/-- Put the delays and Vref codes of a training record into channel `ch`. -/
def State.putTraining (s : State) (ch : Nat) (r : TrainRec) : State :=
  let s := (List.range 18).foldl (fun s b =>
    (s.put F.DMC_DLY_RD (ch * 18 + b) (r.rd.getD b 0)).put F.DMC_DLY_WR (ch * 18 + b) (r.wr.getD b 0)) s
  ((s.put F.DMC_VREF_CTRL ch r.ctrl).put F.DMC_VREF_DRAM ch r.dram).modDmc (fun m => { m with vrefDev := tset 0x40 m.vrefDev ch r.dram })

/-- The training record of a channel as its registers stand (R504). -/
def State.trainingOf (s : State) (ch : Nat) : TrainRec :=
  { rd := (List.range 18).map (fun b => s.get F.DMC_DLY_RD (ch * 18 + b)), wr := (List.range 18).map (fun b => s.get F.DMC_DLY_WR (ch * 18 + b)),
    ctrl := s.get F.DMC_VREF_CTRL ch, dram := s.get F.DMC_VREF_DRAM ch, rate := s.get F.DMC_REF_RATE }

/-- Write the training record of a channel to MRAM. -/
def State.saveTraining (s : State) (ch : Nat) : State :=
  { s with nv := { s.nv with training := tset {} s.nv.training ch (s.trainingOf ch) } }

end Sys2Proof.Machine
end

