-- ==== Sys2Proof/Machine/Queue.lean ====
section
/-! DEFINITION. Drawers' queues: MSI-X, guest errors, timelines, the Journal, and the commands of chapter 6 (with the
doorbell and MSI-X commands of chapter 5). -/

namespace Sys2Proof.Machine

/-! ### Drawers and ports -/

/-- Drawer `d` beside its registers. -/
def State.drwOf (s : State) (d : Nat) : Drw := tget {} s.drw d
/-- Change Drawer `d`. -/
def State.modDrw (s : State) (d : Nat) (g : Drw → Drw) : State := { s with drw := tset {} s.drw d (g (s.drwOf d)) }
/-- Host port `p` beside its registers. -/
def State.portOf (s : State) (p : Nat) : HostPort := tget {} s.ports p
/-- Change host port `p`. -/
def State.modPort (s : State) (p : Nat) (g : HostPort → HostPort) : State :=
  { s with ports := tset {} s.ports p (g (s.portOf p)) }

/-- Index of queue `q` of Drawer `d` in the register store. -/
def qIx (d q : Nat) : Nat := d * 16 + q

/-- Is the Drawer ACTIVE, QUIESCED, RESETTING, FREE (Table 5.2)? -/
def State.drwState (s : State) (d : Nat) : Nat := s.get F.DRW_STATUS_STATE d

/-! ### Functions: MSI-X, moderation and D3hot (R180 to R185) -/

/-- Vector `v` of a function. -/
def PciFn.vec (f : PciFn) (v : Nat) : MsixVec := tget {} f.vecs v
/-- Replace vector `v`. -/
def PciFn.setVec (f : PciFn) (v : Nat) (x : MsixVec) : PciFn := { f with vecs := tset {} f.vecs v x }

/-- Function `f` of port `p`: 0 is PF0, n is VF n, the Drawer's (R18). -/
def State.fnOf (s : State) (p f : Nat) : PciFn := if f = 0 then (s.portOf p).pf else (s.drwOf (p * 32 + f - 1)).fn
/-- Replace function `f` of port `p`. -/
def State.setFn (s : State) (p f : Nat) (x : PciFn) : State :=
  if f = 0 then s.modPort p (fun w => { w with pf := x }) else s.modDrw (p * 32 + f - 1) (fun w => { w with fn := x })

/-- Is the function a Drawer's whose reset lets nothing of the Drawer reach host memory: FLR, PRT reset, VF Enable cleared (R196)? -/
def State.fnSilent (s : State) (p f : Nat) : Bool :=
  decide (0 < f) && (s.drwOf (p * 32 + f - 1)).reset.any (fun j => !j.hostWrites)

/-- The pending message of vector `v` is sent when both masks are clear (R181), and the function is in D0 (R183). -/
def State.sendPending (s : State) (p f v : Nat) : State :=
  let x := s.fnOf p f
  if !(x.vec v).pendingBit || (x.vec v).masked || x.fnMask || x.d3hot || s.fnSilent p f then s
  else (s.setFn p f (x.setVec v { x.vec v with pendingBit := false })).hostOutPush p (.msix f v)

/-- Fire vector `v`: the message leaves if vector and function are unmasked, else the pending bit sets (R181). What was gathered for the
firing is spent. -/
def State.fireFn (s : State) (p f v : Nat) : State :=
  let x := s.fnOf p f
  if s.fnSilent p f then s
  else (s.setFn p f (x.setVec v { x.vec v with events := 0, timerFrom := none, frozenUs := 0, pendingBit := true })).sendPending p f v

/-- Set PME_Status; a PME goes out when it sets with PME_En 1 (R183): a PM_PME message, or WAKE# while the link is down (Table 5.1). What
releases WAKE# the spec leaves open; DESIGN CHOICE (log entry 55): it stays low until the module's power-off or a MOD reset. -/
def State.pmeSignal (s : State) (p f : Nat) : State :=
  let x := s.fnOf p f
  let s' := s.setFn p f { x with pmeStatus := true }
  if x.pmeStatus || !x.pmeEn then s'
  else if (s.portOf p).linkUp then s'.hostOutPush p (.pme f)
  else { s' with pins := { s'.pins with peWakeLow := s'.pins.peWakeLow.set p true } }

/-- Count an event of vector `v`; the first one since the vector fired starts its timer (R180). -/
def MsixVec.count (x : MsixVec) (now : Nat) : MsixVec := { x with events := x.events + 1, timerFrom := some (x.timerFrom.getD now) }

/-- An event of vector `v` of Drawer `d`, moderated by DRW_MOD(v) (R180); in D3hot it is counted and sets PME_Status (R183). -/
def State.msixEvent (s : State) (d v : Nat) : State :=
  let f := (s.drwOf d).fn
  let x1 := (f.vec v).count s.now
  let cnt := s.get F.DRW_MOD_COUNT (qIx d v)
  let tim := s.get F.DRW_MOD_TIME_US (qIx d v)
  let s1 := s.modDrw d (fun w => { w with fn := f.setVec v x1 })
  if f.d3hot then s1.pmeSignal (d / 32) (d % 32 + 1)
  else if (tim = 0 ∧ cnt = 0) ∨ (cnt ≠ 0 ∧ cnt ≤ x1.events) then s1.fireFn (d / 32) (d % 32 + 1) v
  else s1

/-- An event of PF0 vector `v` of port `p` fires at once, subject to masking (R181); in D3hot it is counted and sets PME_Status (R183). -/
def State.pfEvent (s : State) (p v : Nat) : State :=
  let f := (s.portOf p).pf
  if f.d3hot then (s.setFn p 0 (f.setVec v ((f.vec v).count s.now))).pmeSignal p 0
  else s.fireFn p 0 v

/-- MODERATION_TIMER: the vector's timer reaches TIME_US and it fires (R180); in D3hot the timer is frozen (R183). -/
def execModerationTimer (d : DrawerId) (v : VecId) (s : State) : Host.Outcome State Fault Refusal :=
  .next (let f := (s.drwOf d).fn
    let x := f.vec v
    let tim := s.get F.DRW_MOD_TIME_US (qIx d v)
    match x.timerFrom with
    | none => s
    | some t => if tim ≠ 0 ∧ 0 < x.events ∧ f.d3hot = false ∧ t + (tim - x.frozenUs) * 1000 ≤ s.now then s.fireFn (d / 32) (d % 32 + 1) v else s)

/-- MSIX_UNMASK: the mask of a vector (or, with no vector, the function mask) clears; a pending message is sent when both masks are
clear (R181). -/
def execMsixUnmask (p : PortId) (f : Fin 33) (v : Option (Fin 64)) (s : State) : Host.Outcome State Fault Refusal :=
  .next (
    let x := s.fnOf p f
    match v with
    | some v => if f ≠ 0 ∧ 16 ≤ (v : Nat) then s else (s.setFn p f (x.setVec v { x.vec v with masked := false })).sendPending p f v
    | none => (List.range 64).foldl (fun s v => s.sendPending p f v) (s.setFn p f { x with fnMask := false }))

/-- A write of a function's PMCSR: PME_En is written, and PME_Status cleared by a 1 (PRESUMED: PCIe's layout, log entry 23). -/
def PciFn.pmcsr (f : PciFn) (m : Pmcsr) : PciFn := { f with pmeEn := m.pmeEn, pmeStatus := f.pmeStatus && !m.clear }

/-- The moderation timers of a function freeze at what they have counted (R183). -/
def PciFn.freeze (f : PciFn) (now : Nat) : PciFn :=
  { f with vecs := f.vecs.map (fun p =>
      (p.1, { p.2 with frozenUs := match p.2.timerFrom with | none => 0 | some t => p.2.frozenUs + (now - t) / 1000 })) }

/-- D3HOT_ENTRY: the function's PMCSR is written with PowerState D3hot. Timers freeze; with a moderated event pending PME_Status sets and
PME is signalled (R183). -/
def execD3hotEntry (p : PortId) (f : Fin 33) (m : Pmcsr) (s : State) : Host.Outcome State Fault Refusal :=
  .next (
    let x := (s.fnOf p f).pmcsr m
    if x.d3hot then s.setFn p f x
    else
      let s := s.setFn p f { x.freeze s.now with d3hot := true }
      if x.vecs.any (fun p => decide (0 < p.2.events)) then s.pmeSignal p f else s)

/-- D0_RETURN: the function's PMCSR is written with PowerState D0. Each vector with a pending event fires at once, or sets its pending bit
if masked (R184). -/
def execD0Return (p : PortId) (f : Fin 33) (m : Pmcsr) (s : State) : Host.Outcome State Fault Refusal :=
  .next (
    let s := s.setFn p f { (s.fnOf p f).pmcsr m with d3hot := false }
    (List.range 64).foldl (fun s v => if 0 < ((s.fnOf p f).vec v).events then s.fireFn p f v else s.sendPending p f v) s)

/-! ### Guest errors (R179) -/

/-- Record a guest error: CODE, QUEUE, COUNT; the event vector is raised if EN is 1 and none has raised it since DRW_GERR was
last read (R179). -/
def State.guestError (s : State) (d code q : Nat) : State :=
  let s := ((s.put F.DRW_GERR_CODE d code).put F.DRW_GERR_QUEUE d q).incSat F.DRW_GERR_COUNT d
  if s.on F.DRW_EVT_EN d && !(s.drwOf d).gerrRaised then
    (s.modDrw d (fun w => { w with gerrRaised := true })).msixEvent d (s.get F.DRW_EVT_VECTOR d)
  else s

/-! ### Timelines (R211 to R217) -/

/-- Timeline `id`. -/
def State.tl (s : State) (id : Nat) : Timeline := tget {} s.tls id
/-- Change timeline `id`. -/
def State.modTl (s : State) (id : Nat) (g : Timeline → Timeline) : State := { s with tls := tset {} s.tls id (g (s.tl id)) }
/-- Module ID of local timeline `i` of Drawer `d`. -/
def State.localTl (s : State) (d i : Nat) : Option Nat := (s.drwOf d).tlIds[i]?

/-- COALESCED of the exports whose PROD_TL is the timeline: a rise that finds one not yet started merges with it (R476). -/
def State.expCoalesce (s : State) (id v : Nat) : State :=
  (List.range 16).foldl (fun s e =>
    let w := s.get F.PLK_EXP_WORD (e * 5 + 4)
    let last := (tget {} s.plk.exports e : ExportRt).last
    if bit w 8 && bits w 16 12 = id && decide ((s.tl id).value < v) && decide (last < (s.tl id).value) then
      s.incSat F.PLK_EXP_STATUS_COALESCED e
    else s) s

/-- A signal raises the timeline to the larger of its value and `v`; on an abandoned one it has no effect (R197, R213). -/
def State.tlRaise (s : State) (id v : Nat) : State :=
  if (s.tl id).abandoned then s
  else (s.expCoalesce id v).modTl id (fun t => { t with value := max t.value v })

/-! ### Ring entries (Tables 6.1 to 6.3) -/

/-- Header fields of a command. -/
def Cmd.opcode (c : Cmd) : Nat := fieldLE c.entry 0 1
/-- FLAGS. -/
def Cmd.flags (c : Cmd) : Nat := fieldLE c.entry 1 1
/-- UNORDERED. -/
def Cmd.unordered (c : Cmd) : Bool := bit c.flags 0
/-- IDEMPOTENT. -/
def Cmd.idempotent (c : Cmd) : Bool := bit c.flags 1
/-- NONPREEMPT. -/
def Cmd.nonpreempt (c : Cmd) : Bool := bit c.flags 2
/-- NO_IRQ. -/
def Cmd.noIrq (c : Cmd) : Bool := bit c.flags 3
/-- SIGNAL. -/
def Cmd.signal (c : Cmd) : Bool := c.bodyKnown && bit c.flags 4
/-- Number of waits. -/
def Cmd.waits (c : Cmd) : Nat := fieldLE c.entry 2 1 % 4
/-- STATUS_ADDR. -/
def Cmd.statusAddr (c : Cmd) : Nat := fieldLE c.entry 8 8
/-- SIG_TL, the local index. -/
def Cmd.sigTl (c : Cmd) : Nat := fieldLE c.entry 0x10 2 % 256
/-- SIG_VALUE. -/
def Cmd.sigValue (c : Cmd) : Nat := fieldLE c.entry 0x18 8
/-- WAITi_TL and WAITi_VALUE. -/
def Cmd.waitOf (c : Cmd) (i : Nat) : Nat × Nat := (fieldLE c.entry (0x12 + 2 * i) 2, fieldLE c.entry (0x20 + 8 * i) 8)
/-- A field of the body. -/
def Cmd.body (c : Cmd) (off n : Nat) : Nat := fieldLE c.entry (0x40 + off) n

/-- The reserved bits and bytes of the header, and the wait count, are as Table 6.1 has them, and on an internal queue bytes 0x30 to 0x33 as
Table 8.4 (R313). DEDUCED (log entry 10). -/
def headerOk (internal : Bool) (e : List Byte) : Bool :=
  fieldLE e 1 1 < 32 && fieldLE e 2 1 ≤ 2 && fieldLE e 3 5 = 0 && fieldLE e 0x11 1 = 0 && fieldLE e 0x16 2 = 0
    && fieldLE e 0x34 12 = 0
    && (if internal then decide (fieldLE e 0x30 1 < 8) && decide (fieldLE e 0x31 1 ≤ 4) && decide (fieldLE e 0x32 2 ≠ 0)
        else fieldLE e 0x30 4 = 0)

/-- The engine an opcode needs: 0 GPU, 1 copy, 2 composition, 3 audio; NOP runs on any (Table 6.2). -/
def engineOf (op : Nat) : Option Nat :=
  if op = 1 ∨ op = 2 then some 1 else if op = 0x10 ∨ op = 0x11 then some 0
  else if op = 0x20 then some 2 else if op = 0x30 then some 3 else none

/-- The commands of Drawer `d`. -/
def State.cmds (s : State) (d : Nat) : List Cmd := (s.drwOf d).cmds

/-- The command of queue `q` with sequence number `k`. -/
def State.cmd? (s : State) (d q k : Nat) : Option Cmd := (s.cmds d).find? (fun c => c.queue = q && c.seq = k)

/-- Change one command. -/
def State.modCmd (s : State) (d q k : Nat) (g : Cmd → Cmd) : State :=
  s.modDrw d (fun w => { w with cmds := w.cmds.map (fun c => if c.queue = q && c.seq = k then g c else c) })

/-- Resolve the timeline that a wait names (R212): a local index, or a module timeline granted to the Drawer; `none` where the
wait is undefined or not granted. -/
def State.waitTl (s : State) (d w : Nat) : Option Nat :=
  if bit w 15 then
    let id := w % 4096
    if (s.tl id).grants.contains d then some id else none
  else s.localTl d (w % 256)

/-- The waits of a command as timeline and value; `none` for one that is not defined or granted. -/
def State.waitList (s : State) (d : Nat) (c : Cmd) : List (Option Nat × Nat) :=
  (List.range c.waits).map (fun i => (s.waitTl d (c.waitOf i).1, (c.waitOf i).2))

/-- Every wait is met (Table 6.1). -/
def State.waitsMet (s : State) (d : Nat) (c : Cmd) : Bool :=
  (s.waitList d c).all (fun p => match p.1 with | none => false | some id => decide (p.2 ≤ (s.tl id).value))

/-- Some wait names an abandoned timeline (R216). -/
def State.waitsAbandoned (s : State) (d : Nat) (c : Cmd) : Bool :=
  (s.waitList d c).any (fun p => match p.1 with | none => false | some id => (s.tl id).abandoned)

/-! ### GPU contexts (Table 8.1) -/

/-- The origin of the work of context `c`: the Drawer's, Open module firmware's for CX-COMP, an RT pair's for CX-SAFE (Table 19.1). DESIGN
CHOICE (log entry 58): CX work names core 0 of its kind. -/
def ctxOrigin (c : Nat) : Origin := if c < 64 then Origin.ofDrawer c else if c = 64 then Origin.cc 0 false else Origin.rt 0

/-- The Drawer that context `c` is, if it is one. -/
def ctxDrawer (c : Nat) : Option Nat := if c < 64 then some c else none

/-- Internal queue `q` of context 64 or 65. -/
def State.iqOf (s : State) (c q : Nat) : Iq := tget {} s.gpu.iqs ((c - 64) * 16 + q)
/-- Change internal queue `q` of context 64 or 65. -/
def State.modIq (s : State) (c q : Nat) (g : Iq → Iq) : State :=
  { s with gpu := { s.gpu with iqs := tset {} s.gpu.iqs ((c - 64) * 16 + q) (g (s.iqOf c q)) } }

/-- Records that queue `q` of a context has released. -/
def State.qWritten (s : State) (c q : Nat) : Nat := if c < 64 then s.get F.DRW_Q_CPOS_WRITTEN (qIx c q) else (s.iqOf c q).written
/-- M of the completion ring of a queue, as a power of two. -/
def State.cplLog (s : State) (c q : Nat) : Nat := if c < 64 then s.get F.DRW_Q_CPL_SIZE_LOG2 (qIx c q) else (s.iqOf c q).log

/-! ### Host memory, and the memory of a context -/

/-- Parts of [a, a + n) that end at multiples of `size`: the requests of at most that size in which a port reads or writes them. DESIGN
CHOICE (log entry 23). -/
def pciParts (size : Nat) : Nat → Nat → Nat → List (Nat × Nat)
  | 0, _, _ => []
  | fuel + 1, a, n => if n = 0 then [] else (a, min n (size - a % size)) :: pciParts size fuel (a + min n (size - a % size))
      (n - min n (size - a % size))

/-- Reads of `n` bytes of host memory from `a` by port `p`, each at most Max Read Request Size (Table 5.1). -/
def State.portRead (s : State) (p a n : Nat) : State :=
  let m := 128 * 2 ^ ((s.portOf p).cfg.mrrs : Nat)
  (pciParts m (n / m + 2) a n).foldl (fun s x => s.hostOutPush p (.read x.1 x.2)) s

/-- Data written to host memory from `a` by port `p`, each write at most Max Payload Size, with Relaxed Ordering where the host enabled it
(Table 5.1). -/
def State.portData (s : State) (p a : Nat) (bs : List Byte) : State :=
  let m := 128 * 2 ^ ((s.portOf p).cfg.mps : Nat)
  (pciParts m (bs.length / m + 2) a bs.length).foldl (fun s x =>
    s.hostOutPush p (.write x.1 ((bs.drop (x.1 - a)).take x.2) (s.portOf p).cfg.relaxed)) s

/-- The system pages, of 4 or 64 KiB, that a host write touches (R186). -/
def pagesOf (page addr n : Nat) : List Nat :=
  if n = 0 then [] else (List.range ((addr + n - 1) / page - addr / page + 1)).map (fun i => (addr / page + i) * page)

/-- Add one host log entry, or set OVERFLOW when the ring is full (R188, Table 5.23). -/
def State.hostLog (s : State) (d page : Nat) : State :=
  match (s.drwOf d).dirty with
  | none => s
  | some l =>
    if l.ringEntries ≤ l.sinceSwap then s.modDrw d (fun w => { w with dirty := some { l with overflow := true } })
    else (s.modDrw d (fun w => { w with dirty := some { l with written := (l.written + 1) % 2 ^ 32, sinceSwap := l.sinceSwap + 1 } })).hostOutPush
      (d / 32) (.write (l.ringAddr + l.written % l.ringEntries * 8) (leBytes 8 page) false)

/-- The host log entries of a write; they go out before it (R188). -/
def State.hostLogged (s : State) (d addr n : Nat) : State :=
  (pagesOf (if (s.portOf (d / 32)).cfg.page64 then 65536 else 4096) addr n).foldl (fun s p => s.hostLog d p) s

/-- Write a status word or record of context `d` (R218, R227): to host memory for a Drawer, without Relaxed Ordering, unless its reset
keeps it out (R196); to module memory for CX-COMP and CX-SAFE, whose records firmware places (R228). -/
def State.hostWrite (s : State) (d addr : Nat) (bs : List Byte) : State :=
  if 64 ≤ d then s.dwrite (ctxOrigin d) 7 addr bs
  else if s.fnSilent (d / 32) (d % 32 + 1) then s
  else (s.hostLogged d addr bs.length).hostOutPush (d / 32) (.write addr bs false)

/-- Write data of Drawer `d` to host memory (R208). -/
def State.hostData (s : State) (d addr : Nat) (bs : List Byte) : State :=
  if s.fnSilent (d / 32) (d % 32 + 1) then s else (s.hostLogged d addr bs.length).portData (d / 32) addr bs

/-- An access that block `blk` made for Drawer `d` was refused by no fault of the Drawer's: recorded against the block, with the Drawer
(R126, R735). -/
def State.carriedError (s : State) (d blk code addr : Nat) : State :=
  if 64 ≤ d then s.accessError (ctxOrigin d) blk code addr
  else s.recordError { domain := blk, code := code, source := 5, origin := (Origin.ofDrawer d).word, drawer := some d, detail := addr, action := 1 }

/-- Write heap bytes of context `d` at heap offset `off` from block `blk`, marking their granules dirty (R186). CX-COMP and CX-SAFE have no
heap: their offsets are device addresses (DESIGN CHOICE, log entry 58). -/
def State.heapWrite (s : State) (d blk off : Nat) (bs : List Byte) : State :=
  let a := (s.drwOf d).heapBase + off
  let o := ctxOrigin d
  if s.dramErr o true a bs.length = 0 then ((s.putLines a bs).eccLines o true a bs.length).markDirty a bs.length
  else s.carriedError d blk (s.dramErr o true a bs.length) a

/-- Heap bytes of context `d` as its work reads them (R603, R606). -/
def State.heapRead (s : State) (d off n : Nat) : List Byte := s.dread (ctxOrigin d) ((s.drwOf d).heapBase + off) n

/-- A read of heap bytes that is refused leaves its record (R126, R735). -/
def State.heapReadErr (s : State) (d blk off n : Nat) : State :=
  let a := (s.drwOf d).heapBase + off
  let e := s.dramErr (ctxOrigin d) false a n
  if e = 0 then s else s.carriedError d blk e a

/-- A heap range lies wholly inside the heap (R208); for CX-COMP and CX-SAFE, inside module DRAM. -/
def State.inHeap (s : State) (d off n : Nat) : Bool := off + n ≤ (if d < 64 then (s.drwOf d).heapSize else s.dramSize)

/-! ### Status word and completion record (Tables 6.6 and 6.8) -/

/-- The status word (Table 6.6). -/
def Cmd.status (c : Cmd) : Nat :=
  c.state * 2 ^ 60 + (c.attempt % 16) * 2 ^ 56 + (if c.state = 4 then c.code else 0) * 2 ^ 48
    + (c.committed % 2 ^ 24) * 2 ^ 24 + c.total % 2 ^ 24

/-- Write the status word as one aligned 8-byte posted write, where the command has one (R218). -/
def State.postStatus (s : State) (d : Nat) (c : Cmd) : State :=
  if c.statusOk && c.bodyKnown && c.statusAddr ≠ 0 then s.hostWrite d c.statusAddr (leBytes 8 c.status) else s

/-- Did the command signal or will it (a command that ends otherwise than done does not, R215)? -/
def Cmd.signals (c : Cmd) : Bool := c.signal && c.state = 3

/-- Bytes 0x08 to 0x1F of a completion record. -/
def State.recordTail (s : State) (c : Cmd) : List Byte :=
  leBytes 8 c.status ++ leBytes 8 (s.st % 2 ^ 62 + s.stState * 2 ^ 62) ++ leBytes 8 (if c.signals then c.sigValue else 0)

/-- Bytes 0x00 to 0x07: SEQ, QUEUE with PHASE, TL (R226). -/
def recordHead (c : Cmd) (mLog : Nat) : List Byte :=
  leBytes 4 c.seq ++ leBytes 2 (c.queue + (if c.seq / 2 ^ mLog % 2 = 0 then 2 ^ 15 else 0))
    ++ leBytes 2 (if c.signals then c.sigTl else 0xFFFF)

/-- Address of record `n` of queue `q` (R226). -/
def State.cplSlot (s : State) (d q n : Nat) : Nat :=
  (if d < 64 then s.get F.DRW_Q_CPL_BASE (qIx d q) * 64 else (s.iqOf d q).base) + n % 2 ^ s.cplLog d q * 32

/-! ### The Journal (R232 to R234) -/

/-- Records of the shared pool. -/
def State.sharedPool (s : State) : Nat := 196608 - 66 * s.get F.JNL_RESERVE_PER_CTX

/-- Records that can still be had for context `x`. -/
def State.jnlFree (s : State) (x : Nat) : Nat :=
  (s.get F.JNL_RESERVE_PER_CTX - tget 0 s.jnl.ctxUsed x) + (s.sharedPool - s.jnl.sharedUsed)

/-- Take `n` records for context `x`, first from its reserve (R233): the part from the reserve. -/
def State.jnlFromCtx (s : State) (x n : Nat) : Nat := min n (s.get F.JNL_RESERVE_PER_CTX - tget 0 s.jnl.ctxUsed x)

/-- Reserve `n` records for context `x`. -/
def State.jnlTake (s : State) (x n : Nat) : State :=
  let a := s.jnlFromCtx x n
  let s := { s with jnl := { s.jnl with ctxUsed := tset 0 s.jnl.ctxUsed x (tget 0 s.jnl.ctxUsed x + a),
                                        sharedUsed := s.jnl.sharedUsed + (n - a) } }
  let s := s.put F.JNL_STATUS_USED 0 (s.get F.JNL_STATUS_USED + n)
  s.maxTo F.JNL_STATUS_USED_HWM 0 (s.get F.JNL_STATUS_USED)

/-- Free records. -/
def State.jnlGive (s : State) (x a b : Nat) : State :=
  let s := { s with jnl := { s.jnl with ctxUsed := tset 0 s.jnl.ctxUsed x (tget 0 s.jnl.ctxUsed x - a),
                                        sharedUsed := s.jnl.sharedUsed - b } }
  s.put F.JNL_STATUS_USED 0 (s.get F.JNL_STATUS_USED - (a + b))

/-- QUEUE word of a Journal record header (Table 6.11): INTERNAL for CX-COMP (0) and CX-SAFE (1). -/
def jnlQueue (d q : Nat) : Nat := if d < 64 then d + q * 64 else (d - 64) + q * 64 + 2 ^ 15

/-- Put a Journal record into the slot of the record that `same` picks, or into a fresh one. -/
def State.jnlPut (s : State) (d : Nat) (same : List Byte → Bool) (r : List Byte) : State :=
  let rs := s.jnl.records
  let rs := if rs.any same then rs.map (fun x => if same x then r else x) else rs ++ [r]
  { s with jnl := { s.jnl with records := rs } }.pmuEvent 6 1 0 1 (ctxDrawer d) (!(ctxOrigin d).cab)

/-- Write a Journal record, header of Table 6.11 and 24 bytes of payload, into the slot of its type and part that the command reserved
(R233): a later UNITS or FAULT record takes the place of the one before. -/
def State.jnlWrite (s : State) (d q k type part : Nat) (payload : List Byte) : State :=
  let h := leBytes 1 type ++ leBytes 1 part ++ leBytes 2 (jnlQueue d q) ++ leBytes 4 k
  s.jnlPut d (fun x => x.take 8 = h) (h ++ (payload ++ List.replicate 24 0).take 24)

/-- Free every record of a command (RETIRE, R234). -/
def State.jnlDrop (s : State) (d q k : Nat) : State :=
  { s with jnl := { s.jnl with records := s.jnl.records.filter (fun r =>
      !(fieldLE r 2 2 = jnlQueue d q && fieldLE r 4 4 = k)) } }

/-- Does a record of this type exist for the command? -/
def State.jnlHas (s : State) (d q k type : Nat) : Bool :=
  s.jnl.records.any (fun r => fieldLE r 2 2 = jnlQueue d q && fieldLE r 4 4 = k && fieldLE r 0 1 = type)

/-! ### The ledger's charge (R298) -/

/-- Contexts that occupy a group: those of its work, or the preempting context while a preemption saves or restores state (R298). -/
def BenchGrp.ctxs (b : BenchGrp) : List Nat :=
  match b.preemptFor.or b.restoreFor with
  | some c => if c < 66 then [c] else (b.holds.map (fun h => h.ctx)).eraseDups
  | none => (b.holds.map (fun h => h.ctx)).eraseDups

/-- Charge the time since the last charge: each occupied group's to its contexts, split equally (R298), and to
the run time of each command that holds a group (R323). -/
def State.charge (s : State) : State :=
  let dt := s.now - s.gpu.chargedAt
  let s := s.gpu.groups.foldl (fun s p =>
    let cs := p.2.ctxs
    cs.foldl (fun s c => s.put F.GFE_CTX_LEDGER_USED c (s.get F.GFE_CTX_LEDGER_USED c + dt / cs.length))
      { s with gpu := { s.gpu with windowUse := s.gpu.windowUse + (if cs.isEmpty then 0 else dt) } }) s
  let ran := (s.gpu.groups.flatMap (fun p => p.2.holds.map (fun h => (h.ctx, h.q, h.seq)))).eraseDups
  let s := ran.foldl (fun s x => s.modCmd x.1 x.2.1 x.2.2 (fun c => { c with runNs := c.runNs + dt })) s
  { s with gpu := { s.gpu with chargedAt := s.now } }

/-! ### Ends of commands -/

/-- Group state without the holds that `off` picks: where the last hold of a CX context leaves, what it displaced resumes next, and the
restore is the CX context's (R298, R310). -/
def BenchGrp.drop (b : BenchGrp) (off : Hold → Bool) : BenchGrp :=
  let cx := (b.holds.filter off).find? (fun h => 64 ≤ h.ctx)
  let b := { b with holds := b.holds.filter (fun h => !off h), resumeFirst := b.resumeFirst.filter (fun h => !off h) }
  match cx with
  | none => b
  | some h => if b.resumeFirst.isEmpty || b.holds.any (fun x => 64 ≤ x.ctx) then b else { b with restoreFor := some h.ctx }

/-- Take a command's waves and tiles off every Bench group, its time charged (R298). -/
def State.dropWork (s : State) (d q k : Nat) : State :=
  let s := s.charge
  let groups := s.gpu.groups.map (fun p => (p.1, p.2.drop (fun h => h.ctx = d && h.q = q && h.seq = k)))
  { s with gpu := { s.gpu with groups := groups.filter (fun p => p.2 ≠ {}) } }

/-- Remote writes of a command that the peer has not acknowledged (R211). -/
def State.unacked (s : State) (d q k : Nat) : Bool := s.plk.reqs.any (fun r => r.cmd = some (d, q, k) && r.write && !r.done && r.tag.isSome)

/-- Forget the requests of a command, but for remote writes that `keep` says are still on their way. -/
def State.dropReqs (s : State) (d : Nat) (c : Cmd) (keep : Bool := false) : State :=
  { s with plk := { s.plk with reqs := s.plk.reqs.filter (fun r =>
      r.cmd ≠ some (d, c.queue, c.seq) || (keep && r.write && !r.done && r.tag.isSome)) } }

/-- The collector source that reports a command (R229): the Bench group, copy engine, composition channel or audio graph that ran it;
PlynLink for REMOTE, Journal replay for the codes of a replay; the front end for what ended without running. Which of several Bench
groups reports the spec leaves open; DESIGN CHOICE (log entry 58): the lowest that holds the command. -/
def State.reportSource (s : State) (d : Nat) (c : Cmd) (code : Nat) : Nat :=
  if code = 6 || code = 7 || code = 9 then 19
  else if code = 0x0C then 18
  else if c.stage ≠ .running then 17
  else if c.opcode = 0x10 || c.opcode = 0x11 then
    ((List.range 4).find? (fun g => s.gpu.groups.any (fun p => p.1 = g && p.2.holds.any (fun h =>
      h.ctx = d && h.q = c.queue && h.seq = c.seq)))).getD 17
  else c.source

/-- After a tiled pass the contents of its Tray are undefined (R263). -/
def State.trayEnd (s : State) (c : Cmd) : State :=
  if c.started && decide (0 < c.pass.traySize) then s.undefBytes c.pass.trayBase c.pass.traySize else s

/-- End a command in a terminal state without its having run further. It reaches its data-visible point when its last write is visible
(R211): at once, or when the peer has acknowledged its remote writes. -/
def State.endCmd (s : State) (d q k state code : Nat) : State :=
  match (s.drwOf d).cmds.find? (fun c => c.queue = q && c.seq = k) with
  | none => s
  | some c =>
    let src := s.reportSource d c code
    (((s.trayEnd c).dropReqs d c true).dropWork d q k).modCmd d q k (fun c =>
      { c with state := state, code := code, stage := .finished, visible := !s.unacked d q k, source := src,
               pass := { c.pass with inTile := [], content := [], prims := [] } })

/-- Signal a command's timeline: the SIGNAL record first (R234), then the raise. -/
def State.signalCmd (s : State) (d : Nat) (c : Cmd) : State :=
  match s.localTl d c.sigTl with
  | none => s
  | some id => ((s.jnlWrite d c.queue c.seq 6 0 (leBytes 4 id ++ leBytes 4 0 ++ leBytes 8 c.sigValue)).tlRaise id c.sigValue)

/-- Every command that waits on timeline `id`, undispatched, ends in state abandoned (R197, R216). -/
def State.abandonWaiters (s : State) (id : Nat) : State :=
  (List.range 64).foldl (fun s d => (s.cmds d).foldl (fun s c =>
    if c.stage = .fetched && (s.waitList d c).any (fun p => p.1 = some id) then s.endCmd d c.queue c.seq 6 0 else s) s) s

/-- Abandon timeline `id`: ABANDONED sets, the value is kept (R197). -/
def State.abandonTl (s : State) (id : Nat) : State :=
  (s.modTl id (fun t => { t with abandoned := true })).abandonWaiters id

/-! ### Fetch (R205 to R218) -/

/-- Does the device state stop fetch: an entry to a low-power state (R241), SAFE for GENERAL Drawers (R675), a QUIESCE or SAVE
in progress (R189, R190)? -/
def State.fetchStopped (s : State) (d : Nat) : Bool :=
  (s.pm.inProgress.map (fun r => decide (r.target ≠ 0))).getD false || s.get F.PWR_STATUS_STATE ≠ 0
    || (s.safeMode && !s.assured d) || (s.drwOf d).quiesce.isSome

/-- The fetch conditions of R209 but for the Journal records of the fetch; a queue whose command waits for records at its dispatch does not
fetch (R233). -/
def State.canFetch (s : State) (d q : Nat) : Bool :=
  !(s.drwOf d).fetchStall.any (fun x => x.1 = q && x.2.isSome) && s.drwState d = 1 && s.on F.DRW_Q_CTRL_ENABLE (qIx d q) && !s.fetchStopped d
    && s.get F.DRW_Q_POS_HEAD (qIx d q) ≠ s.get F.DRW_Q_POS_TAIL (qIx d q)
    && (s.get F.DRW_Q_POS_HEAD (qIx d q) + 2 ^ 32 - s.get F.DRW_Q_CPOS_CONSUMED (qIx d q)) % 2 ^ 32
        < 2 ^ s.get F.DRW_Q_CPL_SIZE_LOG2 (qIx d q)

/-- The error with which a fetched entry ends without running: FORMAT for a misaligned STATUS_ADDR, a reserved encoding or
the wrong engine (R207, R218), FENCE_GRANT for an undefined timeline or a wait without a grant (R212), FORMAT for
NONPREEMPT on an opcode other than COMPUTE (R319), NONPREEMPT without the grant (R320). -/
def State.fetchError (s : State) (d q : Nat) (c : Cmd) : Nat :=
  let eng := engineOf c.opcode
  if c.statusAddr % 8 ≠ 0 then 1
  else if !headerOk (64 ≤ d) c.entry then 1
  else if c.opcode ≠ 0 && eng ≠ some (if d < 64 then s.get F.DRW_Q_CTRL_ENGINE (qIx d q) else 0) then 1
  else if (c.signal && (s.localTl d c.sigTl).isNone) || (s.waitList d c).any (fun p => p.1.isNone) then 3
  else if c.nonpreempt && c.opcode ≠ 0x11 then 1
  else if c.nonpreempt && !(decide (d < 64) && s.on F.DRW_INFO_NONPREEMPT d) then 0x0B
  else 0

/-- FETCH_STALL is 1 while a queue waits for Journal records (R233). -/
def State.stallBit (s : State) : State := s.putB F.JNL_STATUS_FETCH_STALL 0 (s.drw.any (fun p => !p.2.fetchStall.isEmpty))

/-- Queue `q` waits for Journal records, at fetch or for command `k` at its dispatch, or has them (R233). -/
def State.setStall (s : State) (d q : Nat) (k : Option Nat) (v : Bool) : State :=
  let rest := (s.drwOf d).fetchStall.filter (fun x => x != (q, k))
  (s.modDrw d (fun w => { w with fetchStall := if v then rest ++ [(q, k)] else rest })).stallBit

/-- Write the six CMD records of a command (R234). -/
def State.jnlCmd (s : State) (d q k : Nat) (e : List Byte) : State :=
  (List.range 6).foldl (fun s i => s.jnlWrite d q k 1 i ((e.drop (24 * i)).take 24)) s

/-- TOTAL of a command as its entry gives it (Table 6.2, R223, R249, R286, R361, R563): 0xFFFFFF for an indirect COMPUTE. How a count
that no field of a valid entry can have is written is the model's reading (log entry 53). -/
def State.unitTotal (s : State) (c : Cmd) : Nat :=
  let op := c.opcode
  if op = 0x11 && bit (c.body 0x1E 1) 0 then 0xFFFFFF
  else min 0xFFFFFE (
    if op = 1 || op = 2 then (c.body 0x10 8 + 65535) / 65536
    else if op = 0x10 then (c.body 0x20 2 + 31) / 32 * ((c.body 0x22 2 + 31) / 32)
    else if op = 0x11 then (c.body 0x10 4 * c.body 0x14 4 * c.body 0x18 4 + 255) / 256
    else if op = 0x20 then ((if c.body 0 1 = 1 then s.get F.HDn_V_VACTIVE (c.body 2 1) else c.body 6 2) + 31) / 32
    else if op = 0x30 then c.body 0x0C 2
    else 1)

/-- Entry `k` of queue `q` becomes a command; records reserved as R233 states. TOTAL of an entry that was not read is a free value other
than 0xFFFFFF, which R223 keeps for an indirect COMPUTE (log entry 53). -/
def State.takeCmd (s : State) (d q k : Nat) (e : List Byte) (known : Bool) : State :=
  let a := s.jnlFromCtx d 8
  let c : Cmd := { queue := q, seq := k, entry := e, bodyKnown := known, source := 17,
                   rsvCtx := a, rsvShared := 8 - a, statusOk := known && fieldLE e 8 8 % 8 = 0 }
  let c := { c with total := if known then s.unitTotal c else Config.freeValue s.freeCtr % 0xFFFFFF }
  let s := (s.jnlTake d 8).setStall d q none false
  let s := if known then s else s.fresh
  (s.modDrw d (fun w => { w with cmds := w.cmds ++ [c] })).jnlCmd d q k e

/-- Take entry HEAD of queue `q` as a command, HEAD advancing past it. -/
def State.takeEntry (s : State) (d q : Nat) (e : List Byte) (known : Bool) : State :=
  (s.takeCmd d q (s.get F.DRW_Q_POS_HEAD (qIx d q)) e known).incWrap F.DRW_Q_POS_HEAD (qIx d q)

/-- Host address of entry `k` of queue `q` (R205). -/
def State.ringSlot (s : State) (d q k : Nat) : Nat :=
  s.get F.DRW_Q_RING_BASE (qIx d q) * 64 + k % 2 ^ s.get F.DRW_Q_RING_SIZE_LOG2 (qIx d q) * 128

/-- A command just taken ends where its entry is in error (R207, R212, R218, R319, R320) or names an abandoned timeline (R216). -/
def State.screenCmd (s : State) (d q k : Nat) : State :=
  match s.cmd? d q k with
  | none => s
  | some c =>
    let err := s.fetchError d q c
    let s := if err = 3 && decide (d < 64) then s.guestError d 5 q else s
    if err ≠ 0 then s.endCmd d q k 4 err
    else if s.waitsAbandoned d c then s.endCmd d q k 6 0
    else s

/-- COMMAND_FETCH: entry HEAD is read at its place in the ring, and what the host's memory answers becomes a command (R205 to R218,
R233). -/
def execCommandFetch (d : DrawerId) (q : QueueId) (entry : List Byte) (s : State) : Host.Outcome State Fault Refusal :=
  .next (
    if !s.canFetch d q then s
    else if s.jnlFree d < 8 then s.setStall d q none true
    else
      let k := s.get F.DRW_Q_POS_HEAD (qIx d q)
      ((s.portRead (d / 32) (s.ringSlot d q k) 128).takeEntry d q ((entry ++ List.replicate 128 0).take 128) true).screenCmd d q k)

/-- A host read of port `p` for function `f` failed: its AER status sets, Completion Timeout [14] or Poisoned TLP [12], and the header of
the first poisoned completion stands in the shared header log (Table 5.1; PRESUMED: PCIe's bits, log entry 23). -/
def State.aerError (s : State) (p f : Nat) (e : HostReadEnd) : State :=
  let x := s.fnOf p f
  match e with
  | .unsupported => s
  | .timeout => s.setFn p f { x with aer := setBit x.aer 14 }
  | .poisoned =>
    (s.setFn p f { x with aer := setBit x.aer 12 }).modPort p (fun w => { w with aerLog := some (w.aerLog.getD f) })

/-- HOST_READ_ERROR: a host read for a Drawer ends in timeout, UR or poison. Of the fetch of an entry (`seq` none): the entry
is consumed as a command with no known body, in error HOST_READ. Of a running command: it ends with HOST_READ (R159). -/
def execHostReadError (d : DrawerId) (q : QueueId) (seq : Option Nat) (how : HostReadEnd) (s : State) : Host.Outcome State Fault Refusal :=
  .next (match seq with
    | none =>
      if !s.canFetch d q then s
      else if s.jnlFree d < 8 then s.setStall d q none true
      else
        let k := s.get F.DRW_Q_POS_HEAD (qIx d q)
        (((s.portRead (d / 32) (s.ringSlot d q k) 128).aerError (d / 32) (d % 32 + 1) how).takeEntry d q
          (List.replicate 128 0) false).endCmd d q k 4 5
    | some k => match s.cmd? d q k with
      | none => s
      | some c => if c.stage = .running then (s.aerError (d / 32) (d % 32 + 1) how).endCmd d q k 4 5 else s)

/-! ### Dispatch and progress (R210, R220 to R223) -/

/-- How far sequence number `k` lies ahead of the queue's next record to release: the order of the commands in it, whose numbers wrap. -/
def State.seqAge (s : State) (d q k : Nat) : Nat := (k + 2 ^ 32 - s.qWritten d q) % 2 ^ 32

/-- May the command be dispatched (R210)? -/
def State.dispatchable (s : State) (d : Nat) (c : Cmd) : Bool :=
  c.stage = .fetched && s.waitsMet d c &&
    (if c.unordered then
       decide (((s.cmds d).filter (fun x => x.queue = c.queue && x.unordered && x.started && !x.visible)).length < 16)
     else (s.cmds d).all (fun x => !(x.queue = c.queue && decide (s.seqAge d c.queue x.seq < s.seqAge d c.queue c.seq)) || x.visible))

/-- Write the status word of a command that has not ended (R221), and note when and with which count. -/
def State.postRunning (s : State) (d : Nat) (c : Cmd) : State :=
  (s.postStatus d c).modCmd d c.queue c.seq (fun c => { c with postedAt := s.now, postedCommitted := c.committed })

/-- Dispatch a command: it takes the rest of its records (R233), runs, has TOTAL, and its first status word is written (R223). -/
def State.startCmd (s : State) (d : Nat) (c : Cmd) (total recs source : Nat) : State :=
  let n := recs + b2n c.signal
  let a := s.jnlFromCtx d n
  let c' := { c with stage := .running, state := 1, total := total, started := true, startedAt := s.now,
                     rsvCtx := c.rsvCtx + a, rsvShared := c.rsvShared + (n - a), source := source }
  let s := if c.opcode = 0x10 || c.opcode = 0x11 then s.pmuEvent 7 1 0 1 none (!(ctxOrigin d).cab) else s
  (((s.jnlTake d n).setStall d c.queue (some c.seq) false).modCmd d c.queue c.seq (fun _ => c')).postRunning d c'

/-- A command of context `d` that may be dispatched with opcode `op`, with `recs` further records; FETCH_STALL while the
records cannot be had (R233). -/
def State.dispatch (s : State) (d q k op : Nat) (recs : Cmd → Nat) (go : Cmd → State) : State :=
  match s.cmd? d q k with
  | none => s
  | some c =>
    if c.opcode ≠ op || !s.dispatchable d c then s
    else if s.jnlFree d < recs c + b2n c.signal then s.setStall d q (some k) true
    else go c

/-- While COMMITTED rises the status word is rewritten at least once per 200 us (R221): a count that rises that long after the last write
writes it. -/
def State.statusDue (s : State) (d q k : Nat) : State :=
  match s.cmd? d q k with
  | none => s
  | some c => if c.postedAt + 200000 ≤ s.now then s.postRunning d c else s

/-- Count units up to `upTo` and write the UNITS record (R222, R234). -/
def State.unitDone (s : State) (d : Nat) (c : Cmd) (upTo off : Nat) : State :=
  ((s.modCmd d c.queue c.seq (fun c => { c with committed := upTo })).jnlWrite d c.queue c.seq 5 0
    (leBytes 8 upTo ++ leBytes 8 off ++ leBytes 4 c.total)).statusDue d c.queue c.seq

/-- Finish a command: it will write nothing more and every write is visible; an unordered one signals now (R211, R214). A
replay that succeeded is recorded as a corrected error (R236). `engine` is the engine's block for SOURCE. -/
def State.finishCmd (s : State) (d : Nat) (c : Cmd) (engine : Nat) : State :=
  let c' := { c with state := 3, stage := .finished, visible := true, signalled := c.unordered && c.signal, source := s.reportSource d c 0,
                     pass := { c.pass with inTile := [], content := [], prims := [] } }
  let s := ((s.trayEnd c).dropWork d c.queue c.seq).modCmd d c.queue c.seq (fun _ => c')
  let s := if c.unordered && c.signal then s.signalCmd d c' else s
  if 0 < c.attempt then
    s.recordError { domain := 6, code := 0x22, source := engine, drawer := ctxDrawer d, origin := (ctxOrigin d).word,
                    action := 3, detail := c.seq + c.queue * 2 ^ 32 }
  else s

/-- Block of the engine an opcode runs on. -/
def engineBlk (op : Nat) : Nat :=
  match engineOf op with
  | some 0 => 7 | some 1 => 0xD | some 2 => 0xC | some 3 => 0x1F | _ => 7

/-- NOP: completes, signals and reports in queue order on any engine (R207, R210). -/
def execNop (d : CtxId) (q : QueueId) (seq : Nat) (s : State) : Host.Outcome State Fault Refusal :=
  .next (s.dispatch d q seq 0 (fun _ => 1) (fun c =>
    let s := (s.startCmd d c 1 1 17).unitDone d { c with total := 1 } 1 0
    match s.cmd? d q seq with
    | none => s
    | some c => s.finishCmd d c 7))

/-- STATUS_WORD_UPDATE: the status word of a running command whose count rose is rewritten, at most once per 20 us (R218, R220, R221,
R223). -/
def execStatusWordUpdate (d : CtxId) (q : QueueId) (seq : Nat) (s : State) : Host.Outcome State Fault Refusal :=
  .next (match s.cmd? d q seq with
    | none => s
    | some c =>
      if c.stage = .running && c.committed ≠ c.postedCommitted && decide (c.postedAt + 20000 ≤ s.now) then s.postRunning d c else s)

/-! ### The Completion Collector (R229, R230) -/

/-- Input entries of source `x` beyond its 64 guaranteed ones use the shared 2,816. -/
def State.ccShared (s : State) : Nat := s.jnl.ccHeld.foldl (fun a p => a + (p.2 - 64)) 0

/-- A count of JNL_COUNT rises: the Open-world one for Drawers and CX-COMP, the Cabinet-world one, by `cab`, for CX-SAFE (R242). -/
def State.jnlCount (s : State) (d : Nat) (f : Fld) (cab : JnlState → JnlState) (n : Nat := 1) : State :=
  if d = 65 then { s with jnl := cab s.jnl } else s.incSat f 0 n

/-- REPORT_ACCEPT: a finished command's report enters the collector's input buffer; a source with no free entry stalls
(R229, R231). -/
def execReportAccept (d : CtxId) (q : QueueId) (seq : Nat) (s : State) : Host.Outcome State Fault Refusal :=
  .next (match s.cmd? d q seq with
    | none => s
    | some c =>
      if c.stage ≠ .finished then s
      else
        let n := tget 0 s.jnl.ccHeld c.source
        if 64 ≤ n && 2816 ≤ s.ccShared then
          s.jnlCount d F.JNL_COUNT_CC_STALL (fun j => { j with cabStall := min 65535 (j.cabStall + 1) })
        else
          let s := { s with jnl := { s.jnl with ccHeld := tset 0 s.jnl.ccHeld c.source (n + 1) } }
          let s := s.put F.JNL_STATUS_CC_OCC 0 (s.get F.JNL_STATUS_CC_OCC + 1)
          let s := s.maxTo F.JNL_STATUS_CC_HWM 0 (s.get F.JNL_STATUS_CC_OCC)
          s.modCmd d q seq (fun c => { c with stage := .reported }))

/-- An entry of the Drawer error log of the Drawer's port (R672): vector 2 fires when the log goes non-empty, and an entry that
finds it full is dropped and counted. -/
def State.drawerError (s : State) (d : Nat) (c : Cmd) : State :=
  let p := d / 32
  let log := tget [] s.err.drawerLog p
  if 64 ≤ log.length then
    { s with err := { s.err with drawerLogDropped := tset 0 s.err.drawerLogDropped p (tget 0 s.err.drawerLogDropped p + 1) } }
  else
    let r : ErrRec := { domain := 0x1A + p, code := c.code, cls := 1, drawer := some d, action := 2,
                        origin := (Origin.ofDrawer d).word, firstSt := s.st % 2 ^ 62, firstState := s.stState,
                        lastSt := s.st % 2 ^ 62, lastState := s.stState, detail := c.seq + c.queue * 2 ^ 32 }
    let s := { s with err := { s.err with drawerLog := tset [] s.err.drawerLog p (log ++ [r]) } }
    if log.isEmpty then s.pfEvent p 2 else s

/-- CLOSING clears when the last command fetched from the queue has released its record (R739). -/
def State.closeCheck (s : State) (d q : Nat) : State :=
  if s.on F.DRW_Q_CTRL_CLOSING (qIx d q) && !(s.cmds d).any (fun c => c.queue = q) then s.put F.DRW_Q_CTRL_CLOSING (qIx d q) 0
  else s

/-- A report of queue `q` is released: WRITTEN counts it, and for an internal queue its command is retired. -/
def State.released (s : State) (d q k : Nat) : State :=
  if d < 64 then (s.incWrap F.DRW_Q_CPOS_WRITTEN (qIx d q)).closeCheck d q
  else
    let s := s.modIq d q (fun w => { w with written := (w.written + 1) % 2 ^ 32 })
    { s with gpu := { s.gpu with cx := s.gpu.cx.filter (fun x => !(x.ctx = d && x.q = q && x.seq = k)) } }

/-- The completion interrupt of queue `q`: its MSI-X vector, or the source of an internal queue (Table 18.2). -/
def State.cplEvent (s : State) (d q : Nat) : State :=
  if d < 64 then s.msixEvent d (s.get F.DRW_Q_CTRL_VECTOR (qIx d q)) else s.icuRaise (128 + q % 8)

/-- Release the report of a command: status word, record, signal, RETIRE, MSI-X, in this order (R230). -/
def State.release (s : State) (d : Nat) (c : Cmd) : State :=
  let q := c.queue
  let slot := s.cplSlot d q c.seq
  let tail := s.recordTail c
  let s := s.postStatus d c
  let s := s.hostWrite d (slot + 8) tail
  let s := s.hostWrite d slot (recordHead c (s.cplLog d q))
  let s := if c.signals && !c.unordered then s.signalCmd d c else s
  let s := ((s.jnlWrite d q c.seq 8 0 (leBytes 8 c.status)).jnlDrop d q c.seq).jnlGive d c.rsvCtx c.rsvShared
  let s := if c.state = 4 && decide (d < 64) then s.drawerError d c else s
  let s := { s with jnl := { s.jnl with ccHeld := tset 0 s.jnl.ccHeld c.source (tget 0 s.jnl.ccHeld c.source - 1) } }
  let s := s.put F.JNL_STATUS_CC_OCC 0 (s.get F.JNL_STATUS_CC_OCC - 1)
  let s := s.modDrw d (fun w => { w with cmds := w.cmds.filter (fun x => !(x.queue = q && x.seq = c.seq)),
                                         fetchStall := w.fetchStall.filter (fun x => x != (q, some c.seq)) })
  let s := s.stallBit.released d q c.seq
  if c.noIrq then s else s.cplEvent d q

/-- COMPLETION_RELEASE: the queue's next report in sequence order, once its data is visible (R225 to R230, R672). -/
def execCompletionRelease (d : CtxId) (q : QueueId) (s : State) : Host.Outcome State Fault Refusal :=
  .next (match s.cmd? d q (s.qWritten d q) with
    | none => s
    | some c => if c.stage = .reported && c.visible then s.release d c else s)

/-! ### Bench groups of a pass (R268, R269) -/

/-- Is Bench group `g` in service (R246)? In DIM, PARK and HOLD the GPU is gated (R295). -/
def State.bgIn (s : State) (g : Nat) : Bool :=
  s.get F.BGn_STATUS_STATE g = 1 && s.blkOn (8 + g) && decide (s.get F.PWR_STATUS_STATE = 0)
/-- Groups in service. -/
def State.groupsIn (s : State) : List Nat := (List.range 4).filter s.bgIn

/-- BG_MASK of a PASS or COMPUTE. -/
def Cmd.bgMask (c : Cmd) : Nat := if c.opcode = 0x10 then c.body 0x25 1 else c.body 0x1F 1

/-- Does the command's mask allow group `g` (Tables 7.3, 7.10, R321)? -/
def State.maskOk (s : State) (c : Cmd) (g : Nat) : Bool :=
  (c.bgMask % 16 = 0 || bit c.bgMask g) && (!c.nonpreempt || bit (s.get F.GFE_DL_CFG_NP_MASK) g)

/-- Bench groups in service that BG_MASK allows, in increasing order: G of R268. -/
def State.immGroups (s : State) (c : Cmd) : List Nat := s.groupsIn.filter (s.maskOk c)

/-- The group that tile `t` of an immediate pass belongs to (R268). -/
def PassRun.groupOf (p : PassRun) (t : Nat) : Option Nat := p.groups[(t % p.tilesX + 2 * (t / p.tilesX)) % p.groups.length]?

/-- The tile of a pixel of the target, in a pass whose render area begins at (x0, y0). -/
def tileAt (x0 y0 tilesX x y : Nat) : Nat := (y - y0) / 32 * tilesX + (x - x0) / 32

/-- The 8 x 8 block of a quad (R271). -/
def Quad.block (q : Quad) : Nat × Nat := (q.x / 8, q.y / 8)

/-- Groups that an immediate pass occupies: those that its tiles belong to, and those whose Benches take quads of a rasteriser with more than
32 waiting (R269). CX-SAFE work uses no Bench 4 (R245). -/
def PassRun.occupies (p : PassRun) (d x0 y0 : Nat) : List Nat :=
  let own := (List.range (p.tilesX * p.tilesY)).filterMap p.groupOf
  let quads := p.prims.flatMap (fun r => r.quads)
  let spill := p.groups.filter (fun g =>
    decide (32 < (quads.filter (fun q => p.groupOf (tileAt x0 y0 p.tilesX q.x q.y) = some g)).length))
  let taken := (quads.filter (fun q => (d ≠ 65 || q.bench % 5 ≠ 4)
    && spill.any (fun g => p.groupOf (tileAt x0 y0 p.tilesX q.x q.y) = some g))).map (fun q => q.bench / 5)
  p.groups.filter (fun g => own.contains g || taken.contains g)

/-- The mapping of an immediate pass over the groups in service now (R268); a tiled pass has none. -/
def State.mapPass (s : State) (d : Nat) (c : Cmd) (p : PassRun) : PassRun :=
  if p.tiled then p
  else
    let p := { p with groups := s.immGroups c }
    { p with occ := p.occupies d (c.body 0x1C 2) (c.body 0x1E 2) }

/-! ### Faults and replay (R235 to R240) -/

/-- A replayed CAPTURE takes the next whole frame (R364). -/
def State.dropCapture (s : State) (d : Nat) (c : Cmd) : State :=
  { s with heads := s.heads.map (fun p => (p.1, { p.2 with captures := p.2.captures.filter (fun x =>
      !(x.d = d && x.q = c.queue && x.seq = c.seq)) })) }

/-- Start a replay, or end the command where it may not be replayed: an attempt past the third ends it with REPLAY_LIMIT, and a
command whose SIGNAL or RETIRE record exists is not replayed (R236, R237). `blk` is the faulting block. Tiles whose write-back is visible
are not rendered again: each is written to its destination once (R238); an immediate pass is mapped anew (R268). -/
def State.replay (s : State) (d : Nat) (c : Cmd) (blk : Nat) : State :=
  if s.jnlHas d c.queue c.seq 6 || c.stage ≠ .running then s
  else
    let s := s.jnlWrite d c.queue c.seq 7 0 (leBytes 4 c.attempt ++ leBytes 4 blk ++ leBytes 8 0 ++ leBytes 8 s.st)
    if !c.replayable then s.endCmd d c.queue c.seq 4 7
    else if 3 ≤ c.attempt then
      (s.endCmd d c.queue c.seq 4 6).jnlCount d F.JNL_COUNT_LIMIT (fun j => { j with cabLimit := min 65535 (j.cabLimit + 1) })
    else
      let pass : PassRun := { c.pass with inTile := [], content := [], retake := c.pass.retake ++ c.pass.inTile.map (fun p => p.2) }
      let c' : Cmd := { c with state := 2, attempt := c.attempt + 1, pass := s.mapPass d c pass }
      let s := ((s.dropReqs d c).dropCapture d c).dropWork d c.queue c.seq
      let s := (s.modCmd d c.queue c.seq (fun _ => c')).postRunning d c'
      (s.jnlCount d F.JNL_COUNT_REPLAYS (fun j => { j with cabReplays := min 65535 (j.cabReplays + 1) })).pmuEvent 6 2 0 1 (ctxDrawer d) (!(ctxOrigin d).cab)

/-- Codes of Table 6.7 with which a fault of Table 6.13 ends a command without replay: HOST_READ, DATA_UNCORRECTABLE, JOURNAL, TIMEOUT,
REMOTE and SHADER. -/
def faultCode (x : Nat) : Bool := x = 5 || x = 8 || x = 9 || x = 0xA || x = 0xC || x = 0xD

/-- COMMAND_FAULT: a fault strikes a running command (Table 6.13). A code of Table 6.7 names a fault that is never replayed;
none is a replayable one of block `blk`. -/
def execCommandFault (d : CtxId) (q : QueueId) (seq : Nat) (blk : Nat) (code : Option (Fin 16)) (s : State) :
    Host.Outcome State Fault Refusal :=
  .next (match s.cmd? d q seq with
    | none => s
    | some c =>
      if c.stage ≠ .running then s
      else match code with
        | some x => if !faultCode x then s else
          (s.jnlWrite d q seq 7 0 (leBytes 4 c.attempt ++ leBytes 4 blk ++ leBytes 8 x ++ leBytes 8 s.st)).endCmd d q seq 4 x
        | none => s.replay d c blk)

/-! ### Doorbells and queue enables (R177, R178, R228, R738, R739) -/

/-- A doorbell of value `t` at queue `q` (R177, R178). -/
def State.doorbell (s : State) (d q t : Nat) : State :=
  let st := s.drwState d
  if st = 3 || st = 0 then s
  else if !s.on F.DRW_Q_CTRL_ENABLE (qIx d q) then s.guestError d 2 q
  else
    let n := 2 ^ s.get F.DRW_Q_RING_SIZE_LOG2 (qIx d q)
    if (t + 2 ^ 32 - s.get F.DRW_Q_POS_HEAD (qIx d q)) % 2 ^ 32 ≤ n ∧
       (t + 2 ^ 32 - s.get F.DRW_Q_POS_TAIL (qIx d q)) % 2 ^ 32 ≤ n then s.put F.DRW_Q_POS_TAIL (qIx d q) t
    else s.guestError d 1 q

/-- DOORBELL. -/
def execDoorbell (d : DrawerId) (q : QueueId) (value : Fin 4294967296) (s : State) : Host.Outcome State Fault Refusal :=
  .next (s.doorbell d q value)

/-- A completion doorbell of value `c` (R228); accepted while the queue closes as well (R739). -/
def State.completionDoorbell (s : State) (d q c : Nat) : State :=
  let st := s.drwState d
  if st = 3 || st = 0 then s
  else if !(s.on F.DRW_Q_CTRL_ENABLE (qIx d q) || s.on F.DRW_Q_CTRL_CLOSING (qIx d q)) then s.guestError d 2 q
  else
    let m := 2 ^ s.get F.DRW_Q_CPL_SIZE_LOG2 (qIx d q)
    if (c + 2 ^ 32 - s.get F.DRW_Q_CPOS_CONSUMED (qIx d q)) % 2 ^ 32 ≤ m ∧
       (s.get F.DRW_Q_CPOS_WRITTEN (qIx d q) + 2 ^ 32 - c) % 2 ^ 32 ≤ m then s.put F.DRW_Q_CPOS_CONSUMED (qIx d q) c
    else s.guestError d 1 q

/-- COMPLETION_DOORBELL. -/
def execCompletionDoorbell (d : DrawerId) (q : QueueId) (value : Fin 4294967296) (s : State) :
    Host.Outcome State Fault Refusal := .next (s.completionDoorbell d q value)

/-- Does setting ENABLE of queue `q` fail with FORMAT (R738, Tables 5.15 and 6.9)? -/
def State.enableBad (s : State) (d q : Nat) : Bool :=
  let n := s.get F.DRW_Q_RING_SIZE_LOG2 (qIx d q)
  let m := s.get F.DRW_Q_CPL_SIZE_LOG2 (qIx d q)
  s.get F.DRW_INFO_QUEUES d ≤ q || n < 4 || 16 < n || m < n || 16 < m || s.on F.DRW_Q_CTRL_CLOSING (qIx d q)

/-- A write of DRW_Q_CTRL(q) with ENABLE 1 while it is 0: ENGINE and VECTOR are written with it, and the positions are
zeroed (R738, Table 5.16, Table 6.10); or nothing but guest error FORMAT. -/
def State.queueEnable (s : State) (d q engine vector : Nat) : State :=
  let i := qIx d q
  if s.enableBad d q then s.guestError d 6 q
  else
    let s := ((s.put F.DRW_Q_CTRL_ENABLE i 1).put F.DRW_Q_CTRL_ENGINE i engine).put F.DRW_Q_CTRL_VECTOR i vector
    let s := (s.put F.DRW_Q_POS_HEAD i 0).put F.DRW_Q_POS_TAIL i 0
    let s := (s.put F.DRW_Q_CPOS_WRITTEN i 0).put F.DRW_Q_CPOS_CONSUMED i 0
    s.modDrw d (fun w => { w with everEnabled := true })

/-- QUEUE_ENABLE (R738). A queue of a Drawer that is not bound has no effect (R160); one that is enabled already keeps its
positions, and only VECTOR is written (ENGINE is written only while ENABLE is 0). -/
def execQueueEnable (d : DrawerId) (q : QueueId) (engine : Fin 4) (vector : VecId) (s : State) :
    Host.Outcome State Fault Refusal :=
  .next (if s.drwState d = 0 then s
    else if s.on F.DRW_Q_CTRL_ENABLE (qIx d q) then s.put F.DRW_Q_CTRL_VECTOR (qIx d q) vector
    else s.queueEnable d q engine vector)

/-- ENABLE written to 0: fetch stops at once, CLOSING holds while fetched commands have not released their records (R739). -/
def State.queueDisable (s : State) (d q : Nat) : State :=
  let i := qIx d q
  if !s.on F.DRW_Q_CTRL_ENABLE i then s
  else (s.put F.DRW_Q_CTRL_ENABLE i 0).putB F.DRW_Q_CTRL_CLOSING i ((s.cmds d).any (fun c => c.queue = q))

/-- QUEUE_DISABLE (R739). -/
def execQueueDisable (d : DrawerId) (q : QueueId) (s : State) : Host.Outcome State Fault Refusal :=
  .next (s.queueDisable d q)

end Sys2Proof.Machine
end

