-- ==== Sys2Proof/Machine/Layers.lean ====
section
/-! DEFINITION. Layers and flips: ownership, commits, fence samples and the flip decisions of a latch point (chapter 9). -/

namespace Sys2Proof.Machine

/-- Device address of a register of block `b` (R124). -/
def blkAddr (b off : Nat) : Nat := 0x00F000000000 + b * 2 ^ 20 + off

/-- Head `h` beside its registers. -/
def State.headOf (s : State) (h : Nat) : HeadRt := tget {} s.heads h
/-- Change head `h`. -/
def State.modHead (s : State) (h : Nat) (g : HeadRt → HeadRt) : State := { s with heads := tset {} s.heads h (g (s.headOf h)) }
/-- Display port `h` beside its registers. -/
def State.dpOf (s : State) (h : Nat) : PortRt := tget {} s.dps h
/-- Change display port `h`. -/
def State.modDp (s : State) (h : Nat) (g : PortRt → PortRt) : State := { s with dps := tset {} s.dps h (g (s.dpOf h)) }
/-- Layer `l` of head `h`. -/
def State.layer (s : State) (h l : Nat) : Layer := tget {} s.layers (h * 9 + l)
/-- Change layer `l` of head `h`. -/
def State.modLayer (s : State) (h l : Nat) (g : Layer → Layer) : State :=
  { s with layers := tset {} s.layers (h * 9 + l) (g (s.layer h l)) }

/-- OWNER of layer or capture port `l` (8) of head `h`. -/
def State.ownerOf (s : State) (h l : Nat) : Nat := s.get F.HDn_LOWN_OWNER (h * 9 + l)

/-- Every head layer. -/
def allLayers : List (Nat × Nat) := (List.range 8).flatMap (fun h => (List.range 8).map (fun l => (h, l)))

/-- The head layer to which slot `sl` of owner `who` (Drawer number, or 0x40 firmware) is bound. -/
def State.bindOf (s : State) (who sl : Nat) : Option (Nat × Nat) :=
  allLayers.find? (fun p => s.ownerOf p.1 p.2 = who && s.get F.HDn_LOWN_SLOT (p.1 * 9 + p.2) = sl)

/-- Index of the DRW_LS registers of the slot bound to a head layer, if a Drawer owns it. -/
def State.lsIx (s : State) (h l : Nat) : Option Nat :=
  let o := s.ownerOf h l
  if o < 64 then some (o * 64 + s.get F.HDn_LOWN_SLOT (h * 9 + l)) else none

/-- Change the DRW_LS registers of the Drawer slot bound to a head layer. -/
def State.onLs (s : State) (h l : Nat) (g : State → Nat → State) : State :=
  match s.lsIx h l with
  | none => s
  | some i => g s i

/-- Exact line time of a head in ns times KHZ is HTOTAL times 10^6; `n` lines in ns, rounded down (R367). -/
def State.linesNs (s : State) (h n : Nat) : Nat := n * s.get F.HDn_H_HTOTAL h * 1000000 / s.get F.HDn_PCLK_KHZ h
/-- Frame period in ns (R367). -/
def State.periodNs (s : State) (h : Nat) : Nat := s.linesNs h (s.get F.HDn_V_VTOTAL h)

/-- Take the pending flip off a head layer. -/
def State.dropFlip (s : State) (h l : Nat) : State :=
  (s.modLayer h l (fun y => { y with pend := none })).onLs h l (fun s i => s.put F.DRW_LS_STATUS_PENDING i 0)

/-- Head layers whose pending flip belongs to group `g`. -/
def State.groupOf (s : State) (g : Nat) : List (Nat × Nat) :=
  allLayers.filter (fun p => match (s.layer p.1 p.2).pend with | none => false | some f => f.gid = g)

/-- Discard the pending flip of a head layer and with it its whole group; the other members are CANCELLED at their next latch
point, so that no frame shows part of a group (R326, R153). DEDUCED, log entry 12. -/
def State.discardGroup (s : State) (h l : Nat) : State :=
  match (s.layer h l).pend with
  | none => s
  | some f => (s.groupOf f.gid).foldl (fun s p =>
      let s := s.dropFlip p.1 p.2
      if p = (h, l) then s else s.modLayer p.1 p.2 (fun y => { y with cancelled := true })) s

/-- A head layer loses its binding (R326, R328): its pending flip is discarded, and it is switched off at the next latch point. -/
def State.unbind (s : State) (h l : Nat) : State :=
  if l = 8 then s.put F.HDn_LOWN_OWNER (h * 9 + l) 0x7F
  else
    let s := (s.discardGroup h l).onLs h l (fun s i => (s.put F.DRW_LS_STATUS_OWNED i 0).put F.DRW_LS_STATUS_ON i 0)
    (s.modLayer h l (fun y => { y with switchOff := true, placeNext := none })).put F.HDn_LOWN_OWNER (h * 9 + l) 0x7F

/-- A write of OWNER and SLOT takes effect (R326); reserved owners have no effect (R7). -/
def State.lownWrite (s : State) (o : Origin) (h l owner slot : Nat) : State :=
  let i := h * 9 + l
  if 0x41 ≤ owner ∧ owner ≤ 0x7E then s.cfgError o (0x10 + h) (0x800 + 4 * l)
  else if s.get F.HDn_LOWN_OWNER i = owner ∧ s.get F.HDn_LOWN_SLOT i = slot then s
  else if l = 8 then (s.put F.HDn_LOWN_OWNER i owner).put F.HDn_LOWN_SLOT i slot
  else
    let prev := if owner = 0x7F then none else s.bindOf owner slot
    let s := s.unbind h l
    let s := match prev with
      | some p => if p = (h, l) then s else s.unbind p.1 p.2
      | none => s
    let s := (s.put F.HDn_LOWN_OWNER i owner).put F.HDn_LOWN_SLOT i slot
    s.onLs h l (fun s i => ((s.put F.DRW_LS_STATUS_OWNED i 1).put F.DRW_LS_STATUS_HEAD i h).put F.DRW_LS_STATUS_LAYER i l)

/-- LAYER_OWNER_WRITE (R326): an audited write of HDn_LOWN(l). -/
def execLayerOwnerWrite (o : Origin) (h : HeadId) (l : Fin 9) (owner : Fin 128) (slot : Fin 64) (s : State) :
    Host.Outcome State Fault Refusal :=
  let i := (h : Nat) * 9 + l
  .next (s.guarded o { addr := blkAddr (0x10 + h) (0x800 + 4 * l), blk := 0x10 + h,
                       old := s.get F.HDn_LOWN_OWNER i + 128 * s.get F.HDn_LOWN_SLOT i, new := (owner : Nat) + 128 * slot }
    0 (fun s => s.lownWrite o h l owner slot))

/-! ### Committing flips (R331, R333, R341 to R344, R348) -/

/-- The fence of a descriptor of Drawer `d` (or firmware): none, a module timeline, or undefined. -/
def State.flipFence (s : State) (who : Nat) (d : Desc) : Option (Option Nat) :=
  if bit d.fenceTl 14 then some none
  else if who = 0x40 then some (some (d.fenceTl % 4096))
  else (s.waitTl who d.fenceTl).map some

/-- R331 for a descriptor on layer `l` of head `h`: 0, 2 FORMAT or 3 RANGE. -/
def State.descCheck (s : State) (who h l : Nat) (d : Desc) : Nat :=
  if layerBpp d.format = 0 || (isYuv d.format && decide (2 ≤ l)) || 8 ≤ d.flags || 16 ≤ d.transform || d.resv ≠ 0
      || (isYuv d.format && (8 ≤ d.csc || d.csc % 4 = 3)) || (s.flipFence who d).isNone then 2
  else if !d.enable then 0
  else
    let ha := s.get F.HDn_H_HACTIVE h
    let va := s.get F.HDn_V_VACTIVE h
    if d.addr % 64 ≠ 0 || d.pitch = 0 || d.pitch % 64 ≠ 0 || 262144 < d.pitch || d.srcW = 0 || d.srcH = 0
        || d.pitch < (d.srcX + d.srcW) * layerBpp d.format || d.dstW = 0 || d.dstH = 0 || ha < d.dstX + d.dstW
        || va < d.dstY + d.dstH || (d.format = 0x20 && (d.srcX % 2 = 1 || d.srcW % 2 = 1 || d.transform % 2 = 1)) then 2
    else if 2 ≤ l && !(d.tw = d.dstW && d.th = d.dstH) then 2
    else if l < 2 && !(d.dstW ≤ 16 * d.tw && d.tw ≤ 4 * d.dstW && d.dstH ≤ 16 * d.th && d.th ≤ 4 * d.dstH) then 2
    else if who < 64 && !s.inHeap who d.addr (d.pitch * (d.srcY + d.srcH)) then 3
    else 0

/-- R333 for the layers of head `h` with the new descriptors `new` (layer and descriptor). -/
def State.xformOk (s : State) (h : Nat) (new : List (Nat × Desc)) : Bool :=
  let uses := fun (d : Desc) => d.enable && d.transform % 16 ≠ 0
  let cnt := (List.range 8).filter (fun l =>
    let y := s.layer h l
    ((y.active.map uses).getD false) ||
      (match new.find? (fun p => p.1 = l) with
       | some p => uses p.2
       | none => (y.pend.map (fun f => uses f.desc)).getD false))
  cnt.length ≤ 2 && new.all (fun p => !uses p.2 ||
    2 * p.2.tw * max p.2.th p.2.dstH ≤ s.get F.HDn_H_HTOTAL h * p.2.dstH)

/-- Same frame period, compared exactly (R348). -/
def State.samePeriod (s : State) (a b : Nat) : Bool :=
  s.get F.HDn_H_HTOTAL a * s.get F.HDn_V_VTOTAL a * s.get F.HDn_PCLK_KHZ b
    = s.get F.HDn_H_HTOTAL b * s.get F.HDn_V_VTOTAL b * s.get F.HDn_PCLK_KHZ a

/-- R348 for the heads of a cross-head group. -/
def State.crossOk (s : State) (hs : List Nat) : Bool :=
  hs.all (fun a => hs.all (s.samePeriod a)) &&
    (hs.all (fun h => if h = 0 then s.get F.HDn_CTRL_MODE 0 = 0 else s.get F.HDn_CTRL_MODE h = 1)
      || hs.all (fun h => s.get F.HDn_CTRL_MODE h = 2))

/-- Is the CX-COMP command that a firmware flip waits on retired (R353)? -/
def State.cxDone (s : State) (c : Option Nat) : Bool :=
  match c with
  | none => true
  | some i => !s.gpu.cx.any (fun x => x.id = i)

/-- A flip is ready when its fence is NONE or reached (R345). -/
def State.flipReady (s : State) (f : Flip) : Bool :=
  s.cxDone f.cx && (match f.tl with | none => true | some id => decide (f.desc.fenceVal ≤ (s.tl id).value))

/-- The flip's fence timeline is abandoned. -/
def State.flipAbandoned (s : State) (f : Flip) : Bool :=
  match f.tl with | none => false | some id => (s.tl id).abandoned

/-- Windows of HDn_SFLIP written before the cutoff of a latch point at `t` (R344, R356). -/
def HeadRt.sflipBy (r : HeadRt) (t : Nat) : Nat := r.sflips.foldl (fun a p => if p.1 + 2000 ≤ t then a ||| p.2 else a) 0

/-- Last line at which an Adaptive-Sync frame may end, and so VTOTAL_MAX as it applies (R378, Table 10.10). -/
def State.vtMax (s : State) (h : Nat) : Nat :=
  let vmin := s.get F.HDn_V_VTOTAL h
  let vm := s.get F.HDn_AS_VTOTAL_MAX h
  if (s.dpOf h).msaIgnore then (if vm = 0 then min 8191 (2 * vmin) else vm) else vmin

/-- In Adaptive-Sync mode a candidate at `t` is taken only at the last line, or when something would change there (R378); what came
after its cutoff does not count (R344). -/
def State.candTaken (s : State) (h t : Nat) : Bool :=
  let r := s.headOf h
  r.first || decide (r.startAt + s.linesNs h (s.vtMax h - s.get F.HDn_CTRL_PREFETCH_LINES h) ≤ t)
    || r.sflipBy t ≠ 0 || (r.swapAt.map (fun x => decide (x + 2000 ≤ t))).getD false || s.on F.WIT_HCTRL_RESTORE h
    || decide (tget 0 s.wit.state h < s.get F.WIT_HCTRL_FORCE h % 3) || s.wit.proofFail.contains h
    || (List.range 16).any (fun i => let g := tget {} s.wit.regions (h * 16 + i); g.en && g.tripped)
    || (List.range 8).any (fun l => let y := s.layer h l
        y.switchOff || y.cancelled || ((y.producer.map (fun id => (s.tl id).abandoned)).getD false)
          || ((y.pend.map (fun f => decide (f.since + 2000 ≤ t) && (s.flipReady f || s.flipAbandoned f))).getD false))

/-- Has the cutoff of the head's next frame passed (R344)? A head that is not running has none (R350). In Adaptive-Sync mode it has if
a candidate within 2 us is taken (R378). -/
def State.lateFor (s : State) (h : Nat) : Bool :=
  let r := s.headOf h
  if !r.running then false
  else if s.get F.HDn_CTRL_MODE h = 4 then
    let pf := s.get F.HDn_CTRL_PREFETCH_LINES h
    let k := (s.now - r.startAt) * s.get F.HDn_PCLK_KHZ h / (s.get F.HDn_H_HTOTAL h * 1000000)
    !r.latched && (List.range 8).any (fun i =>
      let t := r.startAt + s.linesNs h (k + i)
      s.get F.HDn_V_VTOTAL h ≤ k + i + pf && k + i + pf ≤ s.vtMax h && s.now ≤ t && t < s.now + 2000 && s.candTaken h t)
  else decide (r.latchAt < s.now + 2000)

/-- Has a cross-head group on these heads passed its cutoff, the earliest among them (R344)? Also between the latch points of its heads. -/
def State.groupLate (s : State) (hs : List Nat) : Bool :=
  hs.any s.lateFor || (hs.any (fun h => (s.headOf h).latched) && hs.any (fun h => !(s.headOf h).latched))

/-- Heads on which the selected slots of `who` lie. -/
def State.commitHeads (s : State) (who : Nat) (sel : List (Nat × Desc)) : List Nat :=
  (List.range 8).filter (fun h => sel.any (fun p => ((s.bindOf who p.1).map (fun b => b.1)) = some h))

/-- Is a commit late on head `h` (R344)? A cross-head group is late on each head whose latch point is still ahead. -/
def State.commitLate (s : State) (who : Nat) (sel : List (Nat × Desc)) (group : Bool) (h : Nat) : Bool :=
  let hs := s.commitHeads who sel
  if group && decide (1 < hs.length) then s.groupLate hs && !(s.headOf h).latched else s.lateFor h

/-- Result and slot of a commit of `who`: Table 9.5, the checks in the order of the mask, each slot from the lowest, the group,
the cross-head rule and R333. DEDUCED, log entry 12. -/
def State.commitCheck (s : State) (who : Nat) (sel : List (Nat × Desc)) (group : Bool) : Nat × Nat :=
  if sel.isEmpty then (2, 0)
  else
    let one := fun (p : Nat × Desc) => match s.bindOf who p.1 with
      | none => 4
      | some b => s.descCheck who b.1 b.2 p.2
    match sel.find? (fun p => one p ≠ 0) with
    | some p => (one p, p.1)
    | none =>
      let bs := sel.filterMap (fun p => (s.bindOf who p.1).map (fun b => (p.1, b, p.2)))
      let locs := bs.map (fun q => q.2.1)
      let split := fun (q : Nat × (Nat × Nat) × Desc) => match (s.layer q.2.1.1 q.2.1.2).pend with
        | none => false
        | some f => let g := s.groupOf f.gid; decide (2 ≤ g.length) && g.any (fun m => !locs.contains m)
      match bs.find? split with
      | some q => (5, q.1)
      | none =>
        let hs := (List.range 8).filter (fun h => locs.any (fun p => p.1 = h))
        if group && 1 < hs.length && !s.crossOk hs then (6, (sel.map (fun p => p.1)).headD 0)
        else match bs.find? (fun q => !s.xformOk q.2.1.1
            ((bs.filter (fun r => r.2.1.1 = q.2.1.1)).map (fun r => (r.2.1.2, r.2.2)))) with
          | some q => (7, q.1)
          | none => (0, 0)

/-- Make the selected descriptors pending flips: one group, or each a group of one (R341, R343). -/
def State.commitApply (s : State) (who : Nat) (sel : List (Nat × Desc)) (group : Bool) (seq : Nat) (cx : Option Nat) : State :=
  let cross := group && decide (1 < (s.commitHeads who sel).length)
  let lateOn := s.commitLate who sel group
  sel.foldl (fun s p => match s.bindOf who p.1 with
    | none => s
    | some b =>
      let gid := if group then s.flipCtr else s.flipCtr + p.1
      let late := lateOn b.1
      let f : Flip := { desc := p.2, base := if who < 64 then (s.drwOf who).heapBase else 0, seq := seq,
                        tl := (s.flipFence who p.2).getD none, cx := cx, gid := gid, since := s.now, late := late, cross := cross }
      let s := s.modLayer b.1 b.2 (fun y => { y with pend := some f })
      s.onLs b.1 b.2 (fun s i => (s.put F.DRW_LS_STATUS_PENDING i 1).put F.DRW_LS_STATUS_PENDING_SEQ i seq)) s
    |> fun s => { s with flipCtr := s.flipCtr + 64 }

/-- The staged descriptor of slot `sl` of Drawer `d`. -/
def State.staged (s : State) (d sl : Nat) : Desc :=
  Desc.parse ((List.range 16).flatMap (fun w => leBytes 4 (s.get F.DRW_LS_DESC_WORD ((d * 64 + sl) * 16 + w))))

/-- A write of DRW_FLIP_GO with GO 1 (R341 to R344): ignored while the Drawer is not ACTIVE. -/
def State.flipGo (s : State) (d : Nat) (group : Bool) : State :=
  if s.drwState d ≠ 1 then s
  else
    let sel := ((List.range 64).filter (fun sl => bit (s.get F.DRW_FLIP_SEL_SLOTS d) sl)).map (fun sl => (sl, s.staged d sl))
    let r := s.commitCheck d sel group
    if r.1 ≠ 0 then
      ((s.put F.DRW_FLIP_STATUS_RESULT d r.1).put F.DRW_FLIP_STATUS_SLOT d r.2).guestError d (if r.1 = 3 then 3 else 6) 0
    else
      let late := (s.commitHeads d sel).any (s.commitLate d sel group)
      let s := s.incWrap F.DRW_FLIP_STATUS_SEQ d
      let s := (s.put F.DRW_FLIP_STATUS_RESULT d (b2n late)).put F.DRW_FLIP_STATUS_SLOT d 0
      s.commitApply d sel group (s.get F.DRW_FLIP_STATUS_SEQ d) none

/-- FLIP_COMMIT (R341). -/
def execFlipCommit (who : FlipSource) (group : Bool) (s : State) : Host.Outcome State Fault Refusal :=
  .next (match who with
    | .drawer d => s.flipGo d group
    | .firmware descs cx =>
      let sel := descs.map (fun p => (p.1, Desc.parse p.2))
      if (s.commitCheck 0x40 sel group).1 = 0 then s.commitApply 0x40 sel group 0 cx else s)

/-! ### Safety plane and pipe (R340, R356) -/

/-- A write of HDn_SFLIP: the windows flip at the next latch point; after the cutoff, at the one after (R344, R356). -/
def State.sflipWrite (s : State) (h w : Nat) : State :=
  let new := w &&& (65535 ^^^ s.get F.HDn_SFLIP_WINDOWS h)
  (s.modHead h (fun r => { r with sflips := r.sflips ++ [(s.now, new)] })).put F.HDn_SFLIP_WINDOWS h (s.get F.HDn_SFLIP_WINDOWS h ||| w)

/-- SAFETY_FLIP: an RWC field, refused from the Open world (R136). -/
def execSafetyFlip (o : Origin) (h : HeadId) (w : Fin 65536) (s : State) : Host.Outcome State Fault Refusal :=
  .next (s.guarded o { addr := blkAddr (0x10 + h) 0x910, blk := 0x10 + h, old := s.get F.HDn_SFLIP_WINDOWS h, new := w }
    (if !o.cab && (w : Nat) ≠ s.get F.HDn_SFLIP_WINDOWS h then 2 else 0) (fun s => s.sflipWrite h w))

/-- SWAP set: the banks swap at the next latch point, after the cutoff at the one after (R340). -/
def State.swapRequest (s : State) (h : Nat) : State :=
  if s.on F.HDn_PIPE_SWAP h then s else (s.put F.HDn_PIPE_SWAP h 1).modHead h (fun r => { r with swapAt := some s.now })

/-- PIPE_SWAP_REQUEST. -/
def execPipeSwapRequest (o : Origin) (h : HeadId) (s : State) : Host.Outcome State Fault Refusal :=
  let low := s.get F.HDn_PIPE_MTX_EN h + 2 * s.get F.HDn_PIPE_LUT_EN h + 4 * s.get F.HDn_PIPE_DITHER_EN h
    + 8 * s.get F.HDn_PIPE_BANK h
  .next (s.guarded o { addr := blkAddr (0x10 + h) 0x900, blk := 0x10 + h, old := low + 16 * s.get F.HDn_PIPE_SWAP h,
                       new := low + 16 } 0 (fun s => s.swapRequest h))

/-- Elements `lo` to `lo + n - 1` of a field as listed in the register store, with their number from `lo`. -/
def State.extract (s : State) (f : Fld) (lo n : Nat) : List (Nat × Nat) :=
  (s.regs.filter (fun p => f.key lo ≤ p.1 && p.1 < f.key lo + n)).map (fun p => (p.1 - f.key lo, p.2))

/-- Replace elements `lo` to `lo + n - 1` of a field by a list as `extract` gives. -/
def State.implant (s : State) (f : Fld) (lo n : Nat) (xs : List (Nat × Nat)) : State :=
  xs.foldl (fun s p => s.put f (lo + p.1) p.2)
    { s with regs := s.regs.filter (fun p => !(f.key lo ≤ p.1 && p.1 < f.key lo + n)) }

/-- Swap the banks of matrix and gamma table (R340): the registers always show the inactive bank. -/
def State.swapBanks (s : State) (h : Nat) : State :=
  let mtx := s.extract F.HDn_MTX_COEF (h * 9) 9
  let lut := s.extract F.HDn_LUT_VALUE (h * 3072) 3072
  let old := (s.headOf h).bank
  let s := s.implant F.HDn_MTX_COEF (h * 9) 9 (old.filter (fun p => p.1 < 16))
  let s := s.implant F.HDn_LUT_VALUE (h * 3072) 3072 ((old.filter (fun p => 16 ≤ p.1)).map (fun p => (p.1 - 16, p.2)))
  let s := s.modHead h (fun r => { r with bank := mtx ++ lut.map (fun p => (p.1 + 16, p.2)) })
  s.put F.HDn_PIPE_BANK h (1 - s.get F.HDn_PIPE_BANK h)

/-! ### Fence sample and flip decisions (R345 to R350) -/

/-- Does head `h` start a frame on the tick (R349, R375)? -/
def State.onTick (s : State) (h : Nat) : Bool :=
  s.get F.HDn_STATUS_STATE h = 2 &&
    ((s.get F.HDn_CTRL_MODE h ≠ 1 && s.get F.HDn_CTRL_MODE h ≠ 2) || s.on F.HDn_STATUS_LOCKED h)

/-- FENCE_SAMPLE (R345): the head reads the timeline of every pending flip; a cross-head group of which it is the earliest
member is decided here (R346): 1 FLIPPED, 2 HELD, 5 discarded because a fence is abandoned. -/
def execFenceSample (h : HeadId) (s : State) : Host.Outcome State Fault Refusal :=
  .next (
    let sample := fun (s : State) (h l : Nat) => s.modLayer h l (fun y =>
      { y with pend := y.pend.map (fun f => { f with ready := some (s.flipReady f) }) })
    let s := (List.range 8).foldl (fun s l => sample s h l) s
    (List.range 8).foldl (fun s l => match (s.layer h l).pend with
      | none => s
      | some f =>
        if !f.cross || f.decided.isSome || f.late then s
        else
          let ms := s.groupOf f.gid
          let fs := ms.filterMap (fun p => (s.layer p.1 p.2).pend)
          if fs.any (fun g => g.late) then s
          else
            let code := if fs.any s.flipAbandoned then 5
              else if fs.all s.flipReady && ms.all (fun p => s.onTick p.1) then 1 else 2
            ms.foldl (fun s p => s.modLayer p.1 p.2 (fun y => { y with pend := y.pend.map (fun g => { g with decided := some code }) })) s) s)

/-- Note an outcome of layer `l` at the head's latch point: 1 FLIPPED, 2 HELD, 3 LATE, 4 OFF, 5 CANCELLED (Tables 9.6, 9.16). -/
def State.outcome (s : State) (h l code : Nat) : State :=
  let s := s.modHead h (fun r => { r with outNext :=
    let o := r.outNext
    if code = 1 then { o with flipped := setBit o.flipped l } else if code = 2 then { o with held := setBit o.held l }
    else if code = 3 then { o with late := setBit o.late l } else if code = 4 then { o with off := setBit o.off l }
    else { o with cancelled := setBit o.cancelled l } })
  s.onLs h l (fun s i => s.put F.DRW_LS_STATUS_LAST_OUTCOME i code)

/-- Switch a layer off, showing a placeholder in its last rectangle where one is due (R198, R357). -/
def State.layerOff (s : State) (h l : Nat) : State :=
  (s.modLayer h l (fun y => { y with active := none, producer := none, switchOff := false,
                                     place := if y.lastDst.isSome then y.placeNext else none, placeNext := none })).onLs h l
    (fun s i => s.put F.DRW_LS_STATUS_ON i 0)

/-- Apply a pending flip (R346); ENABLE 0 switches the layer off. -/
def State.layerApply (s : State) (h l : Nat) (f : Flip) : State :=
  let s := if f.desc.enable then
      s.modLayer h l (fun y => { y with active := some f.desc, base := f.base, producer := f.tl, pend := none, place := none,
                                        lastDst := some (f.desc.dstX, f.desc.dstY, f.desc.dstW, f.desc.dstH) })
    else s.modLayer h l (fun y => { y with active := none, producer := none, pend := none, place := none })
  s.onLs h l (fun s i => ((s.put F.DRW_LS_STATUS_APPLIED_SEQ i f.seq).put F.DRW_LS_STATUS_PENDING i 0).putB
    F.DRW_LS_STATUS_ON i f.desc.enable)

/-- What befalls a member of a decided group: 1 applied, 2 held, 5 group discarded. -/
def State.memberAct (s : State) (h l : Nat) (f : Flip) (code : Nat) : State :=
  if code = 1 then (s.layerApply h l f).outcome h l 1
  else if code = 2 then
    ((s.onLs h l (fun s i => s.incWrap F.DRW_LS_STATUS_HELD i)).outcome h l 2).modLayer h l (fun y =>
      { y with pend := some { f with decided := none } })
  else if s.flipAbandoned f then ((s.dropFlip h l).layerOff h l).outcome h l 4
  else (s.dropFlip h l).outcome h l 5

/-- Decide the pending flip of layer `l` at the latch point of head `h` (R344, R346): a late one is passed over once. -/
def State.decideLayer (s : State) (h l : Nat) : State :=
  match (s.layer h l).pend with
  | none => s
  | some f =>
    if (if s.get F.HDn_CTRL_MODE h = 4 then decide (s.now < f.since + 2000) else f.late) then
      (s.modLayer h l (fun y => { y with pend := some { f with late := false, ready := none } })).outcome h l 3
    else if f.cross then s.memberAct h l f (f.decided.getD 2)
    else
      let ms := (s.groupOf f.gid).filter (fun p => p.1 = h)
      if ms.headD (h, l) ≠ (h, l) then s
      else
        let fs := ms.filterMap (fun p => (s.layer p.1 p.2).pend)
        let code := if fs.any s.flipAbandoned then 5 else if fs.all (fun g => g.ready = some true) then 1 else 2
        ms.foldl (fun s p => match (s.layer p.1 p.2).pend with | none => s | some g => s.memberAct p.1 p.2 g code) s

/-- The flip part of a latch point: layers cancelled or switched off under R326, R328, R347 and R355, then the decision of
each pending group (R346). Events of R352 follow, once per Drawer. -/
def State.layersLatch (s : State) (h : Nat) : State :=
  let s := (List.range 8).foldl (fun s l =>
    let y := s.layer h l
    let s := if y.cancelled then (s.modLayer h l (fun y => { y with cancelled := false })).outcome h l 5 else s
    if y.switchOff then (s.layerOff h l).outcome h l 4
    else match y.producer with
      | some id => if (s.tl id).abandoned then (s.layerOff h l).outcome h l 4 else s
      | none => s) s
  let s := (List.range 8).foldl (fun s l => s.decideLayer h l) s
  let o := (s.headOf h).outNext
  let hit := fun (l : Nat) => bit o.flipped l || bit o.off l || bit o.cancelled l
  let ds := (List.range 64).filter (fun d => (List.range 8).any (fun l => hit l && (match s.lsIx h l with
    | none => false
    | some i => i / 64 = d && s.on F.DRW_LS_CTRL_EVT i)))
  ds.foldl (fun s d => if s.on F.DRW_EVT_EN d then s.msixEvent d (s.get F.DRW_EVT_VECTOR d) else s) s

/-! ### Resets, power and heaps (R198, R328, R354, R355) -/

/-- A Drawer reset removes its layers: off at the next latch point of each head, the placeholder in their place if the
template has one; pending flips are discarded (R195, R198). -/
def State.drawerLayersOff (s : State) (d : Nat) (place : Option Nat) : State :=
  allLayers.foldl (fun s p =>
    if s.ownerOf p.1 p.2 = d then
      (s.discardGroup p.1 p.2).modLayer p.1 p.2 (fun y => { y with switchOff := true, placeNext := place })
    else s) s

/-- A reset that ends FREE sets OWNER to none for every binding of the Drawer, capture ports included (R328). -/
def State.drawerUnbind (s : State) (d : Nat) : State :=
  (List.range 8).foldl (fun s h => (List.range 9).foldl (fun s l => if s.ownerOf h l = d then s.unbind h l else s) s) s

/-- Entry to DIM, PARK or HOLD: every pending flip is discarded and every layer is off; bindings stay (R354). -/
def State.layersDown (s : State) : State :=
  allLayers.foldl (fun s p =>
    let s := s.modLayer p.1 p.2 (fun y => { y with pend := none, active := none, producer := none, place := none,
                                                   switchOff := false, cancelled := false })
    s.onLs p.1 p.2 (fun s i => ((s.put F.DRW_LS_STATUS_PENDING i 0).put F.DRW_LS_STATUS_ON i 0).put
      F.DRW_LS_STATUS_LAST_OUTCOME i 4)) s

/-- RESIZE below the source of a descriptor: the layer is switched off at the next latch point and its flip discarded (R355). -/
def State.layersShrunk (s : State) (d size : Nat) : State :=
  let outside := fun (x : Desc) => x.enable && decide (size < x.addr + x.pitch * (x.srcY + x.srcH))
  allLayers.foldl (fun s p =>
    let y := s.layer p.1 p.2
    if s.ownerOf p.1 p.2 = d && (((y.active.map outside).getD false) || ((y.pend.map (fun f => outside f.desc)).getD false)) then
      (s.discardGroup p.1 p.2).modLayer p.1 p.2 (fun y => { y with switchOff := true, placeNext := none })
    else s) s

end Sys2Proof.Machine
end

