-- ==== Sys2Proof/Machine/Time.lean ====
section
/-! DEFINITION. System time (chapter 20, R67, R68, R648 to R655): setting, stepping and slewing ST, PPS and the ST alarm. -/

namespace Sys2Proof.Machine

/-- Is this module time master, or without a master (R460, R651, R652)? -/
def State.masterOrNone (s : State) : Bool := s.get F.PLK_STATUS_MASTER_HOPS = 0 || s.get F.PLK_STATUS_MASTER_HOPS = 63

/-- TIME_REF includes PPS_IN (Table 20.14). -/
def State.refPps (s : State) : Bool := bit (s.get F.TIM_CFG_TIME_REF) 0

/-- Put the state of ST; INVALID after commit may drive FAULT_N (FAULT_ADD bit 4, Table 21.5). The count of good edges restarts when it is not FINE. -/
def State.putStState (s : State) (v : Nat) : State :=
  let s := s.put F.TIM_STATUS_STATE 0 v
  if v = 0 then s.put F.TIM_STATUS_UNC 0 0
  else if v = 2 then
    let s : State := { s with pins := { s.pins with ppsOut := false } }
    if s.committed && bit s.err.faultAdd 4 then s.faultN (.policy 4) else s
  else s

/-- Crystal count: 32.768 kHz since power-on. -/
def State.crystal (s : State) : Nat := s.now * 32768 / 10 ^ 9

/-- ST after `n` crystal ticks from `st0` (R654): RATIO is 32.32 fixed point. -/
def State.crystalSt (s : State) (st0 n : Nat) : Nat := st0 + n * s.get F.TIM_CAL_RATIO / 2 ^ 32

/-- ST, or while PD01 is off the ST that the crystal count gives (R599, R654). -/
def State.stNow (s : State) : Nat := if s.pdOnB 1 then s.st else s.crystalSt s.pm.st0 (s.crystal - s.pm.c0)

/-- Is the ST alarm due (Table 20.18, R599)? -/
def State.alarmDue (s : State) : Bool := s.on F.TIM_ALARM_EN && decide (s.get F.TIM_ALARM_ST ≤ s.stNow)

/-- The ST alarm fires: Hutch ICU source 8, and source 58 of the main ICU while PD01 is on (R599, R600). DEDUCED: the line of
source 58 is high while an armed alarm is due. -/
def State.fireAlarm (s : State) : State := if s.alarmDue then (if s.pdOnB 1 then (s.hutchRaise 8).icuLine 58 true else s.hutchRaise 8) else s

/-- ST moves forward to `v` at once: every compare and alarm that it passes fires (R582, R652). The second of the calibration begins again
(log entry 39), and the windows of the port monitors are cut short (R718). -/
def State.stStep (s : State) (v : Nat) : State :=
  let a := s.get F.TIM_ALARM_ST
  let passes := s.on F.TIM_ALARM_EN && decide (s.st < a) && decide (a ≤ v)
  let s := { s with pm := { s.pm with calN := 0, calSt := v }, pmu := { s.pmu with bwCut := if s.st < v then List.range 24 else s.pmu.bwCut } }
  let s := (s.put F.TIM_ST_ST 0 v).fireAllTimers
  if passes then s.fireAlarm else s

/-- Slew ST by `e` ns (R648, R652). -/
def State.stSlew (s : State) (e : Int) : State :=
  { (s.putB F.TIM_STATUS_SLEWING 0 (e ≠ 0)).put F.TIM_STATUS_BEHIND 0 0 with pm := { s.pm with slew := e, behind := 0 } }

/-- A set of ST to `v` (R650): a step forward, or a slew down during which ST is COARSE and BEHIND. -/
def State.stSet (s : State) (v : Nat) : State :=
  if s.st ≤ v then (s.stSlew 0).stStep v
  else
    let d := s.st - v
    let s := (((s.stSlew (-(d : Int))).put F.TIM_STATUS_BEHIND 0 1).putStState 1).maxTo F.TIM_STATUS_UNC 0 (min d (2 ^ 32 - 1))
    { s with pm := { s.pm with behind := d } }

/-- A second of the calibration ends (R654): RATIO is the ST of 32,768 crystal ticks, over them, in 32.32 fixed point. -/
def State.calibrate (s : State) : State :=
  if s.pm.calN + 1 < 10 ^ 9 then { s with pm := { s.pm with calN := s.pm.calN + 1 } }
  else { s.put F.TIM_CAL_RATIO 0 ((s.st - s.pm.calSt) * 2 ^ 32 / 32768) with pm := { s.pm with calN := 0, calSt := s.st } }

/-- One CD02 clock of the time base (R648, R653): ST counts 1 ns; while it slews, one count in 2,000 is inserted or skipped; UNC
of a COARSE ST grows at DRIFT_PPB; the high pulses of PPS_OUT and FRAME_SYNC end at their widths (R68, R69). -/
def State.stTick (s : State) : State :=
  let now := s.now + 1
  let s := { s with now := now }
  let s := if s.pins.padsHeldEmergency then s else if s.pins.ppsOut && decide (s.pins.ppsOutFall ≤ now) then { s with pins := { s.pins with ppsOut := false } } else s
  let s := if s.pins.padsHeldEmergency then s else if s.pins.frameSync && decide (s.pins.frameSyncFall ≤ now) then { s with pins := { s.pins with frameSync := false } } else s
  if !s.pdOnB 1 then s
  else
    let ph := (s.pm.slewPhase + 1) % 2000
    let mv := ph = 0 && decide (s.pm.slew ≠ 0)
    let up := decide (0 < s.pm.slew)
    let s := s.put F.TIM_ST_ST 0 (if mv then (if up then s.st + 2 else s.st) else s.st + 1)
    let left := if mv then (if up then s.pm.slew - 1 else s.pm.slew + 1) else s.pm.slew
    let s := { s with pm := { s.pm with slewPhase := ph, slew := left } }
    let s := s.calibrate
    if s.stState ≠ 1 then s
    else
      let f := s.pm.uncFrac + s.get F.TIM_CFG_DRIFT_PPB
      let s := { s with pm := { s.pm with uncFrac := f % 10 ^ 9 } }
      if f < 10 ^ 9 then s else s.incSat F.TIM_STATUS_UNC 0 (f / 10 ^ 9)

/-- ST_SLEW_DONE (R650): the difference is fully absorbed by slewing; SLEWING and BEHIND clear. -/
def execStSlewDone (s : State) : Host.Outcome State Fault Refusal := .next (if s.pm.slew = 0 then s.stSlew 0 else s)

/-- The count of edges or exchanges in a row within 20 ns. -/
def goodCount (n : Nat) (e : Int) : Nat := if e.natAbs ≤ 20 then min 8 (n + 1) else 0

/-- Discipline of ST by a PPS_IN edge with phase error `e` (R652, R653). -/
def State.ppsDiscipline (s : State) (e : Int) : State :=
  let n := goodCount s.pm.ppsEdges e
  let s := (if 1000000 < e then (s.stSlew 0).stStep (s.st + e.toNat) else s.stSlew e).put F.TIM_STATUS_UNC 0 (e.natAbs + 4)
  let s := { s with pm := { s.pm with ppsEdges := n } }
  if 8 ≤ n then s.putStState 0
  else if s.stState = 0 && decide (100 < e.natAbs) then s.putStState 1 else s

/-- PPS_IN_EDGE (R67, R652, R653): the edge is captured in ST and, where this module disciplines ST from PPS_IN, sets, steps or
slews it. -/
def execPpsInEdge (s : State) : Host.Outcome State Fault Refusal :=
  .next (
    let s := s.hutchRaise 7
    if !s.pdOnB 1 then s
    else
      let s := { s.put F.TIM_PPS_EDGE_ST 0 (s.st % 2 ^ 62) with pm := { s.pm with ppsAt := s.now } }
      if !(s.refPps && s.masterOrNone) then s
      else if s.stState = 2 then
        if s.on F.TIM_PPS_ARM_ARMED then
          let v := s.get F.TIM_PPS_ARM_SEC * 10 ^ 9
          let s := ((s.put F.TIM_PPS_ARM_ARMED 0 0).put F.TIM_STATUS_SOURCE 0 1)
          let s := { s with pm := { s.pm with secRun := true, ppsEdges := 0 } }
          (((s.putStState 1).put F.TIM_STATUS_UNC 0 4).stSet v)
        else s
      else
        let s := s.put F.TIM_STATUS_SOURCE 0 1
        let s := if s.pm.secRun then s.incWrap F.TIM_PPS_ARM_SEC else s
        let near : Nat := (s.st + 500000000) / 10 ^ 9 * 10 ^ 9
        s.ppsDiscipline ((near : Int) - (s.st : Int)))

/-- PPS_TIMEOUT (R652): no edge for 1.5 s; a FINE ST that PPS_IN disciplines becomes COARSE. -/
def execPpsTimeout (s : State) : Host.Outcome State Fault Refusal :=
  .next (if s.refPps && s.masterOrNone && s.stState = 0 && decide (s.pm.ppsAt + 1500000000 ≤ s.now) then
      { s.putStState 1 with pm := { s.pm with ppsEdges := 0 } }
    else s)

/-- Is PPS_OUT held low for an entry to PARK or HOLD: from its SAVE on, until ST is restored on the way out (R68) and its pad, at the edge of
PD01, is released (R643)? -/
def State.ppsLow (s : State) : Bool :=
  let ph := s.get F.PWR_STATUS_PHASE
  bit (s.get F.PWR_PADREL_HELD) 1 || (decide (2 ≤ s.get F.PWR_STATUS_STATE) && decide (ph < 6))
    || ((ph = 2 || ph = 3) && (s.pm.inProgress.map (fun r => decide (2 ≤ r.target))).getD false)

/-- Distance of ST from its nearest whole second, in ns. -/
def State.offSecond (s : State) : Nat := min (s.st % 10 ^ 9) (10 ^ 9 - s.st % 10 ^ 9)

/-- PPS_OUT_PULSE (R68): PPS_OUT rises within 10 ns of a whole second of ST, or within UNC while ST is COARSE. -/
def execPpsOutPulse (s : State) : Host.Outcome State Fault Refusal :=
  .next (if s.stState = 2 || s.ppsLow || s.pins.padsHeldEmergency || !s.pdOnB 1
      || decide ((if s.stState = 0 then 10 else s.get F.TIM_STATUS_UNC) < s.offSecond) then s
    else { s with pins := { s.pins with ppsOut := true, ppsOutFall := s.now + s.pm.ppsOutUs * 1000 } })

/-- ST_SELF_FINE (R651): no usable neighbour time came within 10 ms; without a PPS reference ST becomes FINE at its own value. -/
def execStSelfFine (s : State) : Host.Outcome State Fault Refusal :=
  .next (if s.stState = 2 && s.masterOrNone && !s.refPps && (s.plk.selfFrom.map (fun t => decide (t + 10000000 ≤ s.now))).getD false then s.putStState 0 else s)

/-- ST_ALARM (R599, R600): the armed alarm is due and fires. -/
def execStAlarm (s : State) : Host.Outcome State Fault Refusal := .next s.fireAlarm

/-- A write of TIM_PPS_ARM.SEC arms it; a second past 4,611,686,017 is out of range (Table 20.16). -/
def State.armPps (s : State) (v : Nat) : State :=
  { (s.put F.TIM_PPS_ARM_SEC 0 v).put F.TIM_PPS_ARM_ARMED 0 1 with pm := { s.pm with secRun := false } }

/-- A write of TIM_ALARM: an armed alarm in the past fires at once. -/
def State.alarmWrite (s : State) (st : Nat) (en : Bool) : State :=
  (((s.put F.TIM_ALARM_ST 0 st).putB F.TIM_ALARM_EN 0 en).icuLine 58 false).fireAlarm

end Sys2Proof.Machine
end

