-- ==== Sys2Proof/Machine/PlkLink.lean ====
section
/-! DEFINITION. PlynLink: flits, messages and their sending, routes, ports, system time and the frame tick (R443 to R465). -/

namespace Sys2Proof.Machine

/-- Change PlynLink's internal state. -/
def State.modPlk (s : State) (g : Plk → Plk) : State := { s with plk := g s.plk }
/-- PlynLink port `p` beside its registers. -/
def State.pport (s : State) (p : Nat) : PlkPortRt := tget {} s.plk.ports p
/-- Change port `p`. -/
def State.modPport (s : State) (p : Nat) (g : PlkPortRt → PlkPortRt) : State :=
  s.modPlk (fun k => { k with ports := tset {} k.ports p (g (s.pport p)) })
/-- Is port `p` up? -/
def State.plkUp (s : State) (p : Nat) : Bool := s.get F.PLK_PORT_STATUS_STATE p = 2
/-- This module's ID (R452). -/
def State.ownId (s : State) : Nat := s.get F.PLK_ID_MODULE_ID

/-! ### Messages and flits (Tables 13.2 to 13.4) -/

/-- Class of a message type; none for a reserved one. -/
def msgClass (t : Nat) : Option Nat :=
  if t = 8 ∨ t = 9 then some 0
  else if t = 1 ∨ t = 2 ∨ t = 3 ∨ t = 0x24 then some 1
  else if t = 0x18 ∨ t = 0x19 ∨ t = 0x1A ∨ t = 0x23 ∨ t = 0x25 ∨ t = 0x31 then some 2
  else if t = 0x10 ∨ t = 0x11 ∨ t = 0x12 ∨ t = 0x13 ∨ t = 0x30 then some 3
  else if t = 0x28 ∨ t = 0x29 then some 4
  else if t = 0x20 ∨ t = 0x21 ∨ t = 0x22 then some 5
  else none

/-- The bytes of a message (Table 13.3). -/
def Msg.bytes (m : Msg) : List Byte :=
  leBytes 1 m.type ++ leBytes 1 m.dlen ++ leBytes 2 (m.dest % 2 ^ 14 + b2n m.toLocal * 2 ^ 14) ++ leBytes 2 (m.src % 2 ^ 14)
    ++ leBytes 1 (m.hops % 64) ++ leBytes 1 m.aux ++ leBytes 8 m.arg ++ (m.data ++ List.replicate (16 * m.dlen) 0).take (16 * m.dlen)

/-- A message from its bytes. -/
def Msg.parse (b : List Byte) : Msg :=
  { type := fieldLE b 0 1, dlen := fieldLE b 1 1, dest := fieldLE b 2 2 % 2 ^ 14, toLocal := bit (fieldLE b 2 2) 14,
    src := fieldLE b 4 2 % 2 ^ 14, hops := fieldLE b 6 1 % 64, aux := fieldLE b 7 1, arg := fieldLE b 8 8,
    data := (b.drop 16).take (16 * fieldLE b 1 1) }

/-- The messages of a flit's payload: whole messages back to back, ended by TYPE 0 (R449). -/
def parseMsgs : Nat → List Byte → List Msg
  | 0, _ => []
  | n + 1, b =>
    let len := 16 * (1 + fieldLE b 1 1)
    if fieldLE b 0 1 = 0 || 14 < fieldLE b 1 1 || b.length < len then [] else Msg.parse b :: parseMsgs n (b.drop len)

/-- The first 248 bytes of a flit. -/
def Flit.head (f : Flit) : List Byte :=
  leBytes 8 (f.kind + f.seq * 2 ^ 2 + f.ack * 2 ^ 14 + b2n f.ackValid * 2 ^ 26 + b2n f.nak * 2 ^ 27 + f.crClass * 2 ^ 28
      + f.crCount * 2 ^ 31)
    ++ (f.msgs.flatMap Msg.bytes ++ List.replicate 240 0).take 240

/-- The 256 bytes of a flit, with its CRC (R446). -/
def Flit.bytes (f : Flit) : List Byte := f.head ++ leBytes 8 (crc64 f.head)

/-- A flit from its bytes. -/
def Flit.parse (b : List Byte) : Flit :=
  let h := fieldLE b 0 8
  { kind := bits h 0 2, seq := bits h 2 12, ack := bits h 14 12, ackValid := bit h 26, nak := bit h 27, crClass := bits h 28 3,
    crCount := bits h 31 13, msgs := if bits h 0 2 = 1 then parseMsgs 15 ((b.drop 8).take 240) else [] }

/-- Does the CRC of a received flit pass? -/
def flitCrcOk (b : List Byte) : Bool := b.length = 256 && fieldLE b 0xF8 8 = crc64 (b.take 0xF8)

/-! ### Sending (R447, R450) -/

/-- Put a flit on the lanes of port `p`. -/
def State.flitOut (s : State) (p : Nat) (f : Flit) : State :=
  let s := if f.kind = 1 then s.pmuEvent 0x1C 1 p 1 none true else s
  let s := if f.nak then s.pmuEvent 0x1C 3 p 1 none true else s
  s.modPlk (fun k => { k with out := k.out ++ [(p, f)] })

/-- Granules that a message takes. -/
def Msg.units (m : Msg) : Nat := 1 + m.dlen

/-- The first message that waits in class `c`, if the next hop's credit covers it. -/
def PlkPortRt.offer (r : PlkPortRt) (c : Nat) : Option (Nat × Msg) :=
  match r.waiting.find? (fun m => msgClass m.type = some c) with
  | none => none
  | some m => if m.units ≤ tget 0 r.credit c then some (c, m) else none

/-- The message sent next: classes 0, 1 and 2 in strict priority, then 3 to 5 round robin (R450). -/
def PlkPortRt.pick (r : PlkPortRt) : Option (Nat × Msg) :=
  let rr := if r.lastClass = 3 then [4, 5, 3] else if r.lastClass = 4 then [5, 3, 4] else [3, 4, 5]
  ([0, 1, 2] ++ rr).findSome? r.offer

/-- Take the first occurrence of a message off a list. -/
def dropMsg (m : Msg) : List Msg → List Msg
  | [] => []
  | x :: xs => if x = m then xs else x :: dropMsg m xs

/-- Send what may be sent on port `p`, each message in a DATA flit of its own; none while 1,024 flits wait for their
acknowledgement (R447). -/
def State.pump (s : State) (p : Nat) : Nat → State
  | 0 => s
  | n + 1 =>
    let r := s.pport p
    if !s.plkUp p || 1024 ≤ r.unacked.length then s
    else match r.pick with
      | none => s
      | some (c, m) =>
        let f : Flit := { kind := 1, seq := r.txSeq, ack := (r.rxNext + 4095) % 4096, ackValid := true, msgs := [m] }
        let s := s.flitOut p f
        (s.modPport p (fun r =>
          { r with txSeq := (r.txSeq + 1) % 4096, unacked := r.unacked ++ [(r.txSeq, [m])],
                   credit := tset 0 r.credit c (tget 0 r.credit c - m.units), waiting := dropMsg m r.waiting,
                   lastClass := if 3 ≤ c then c else r.lastClass })).pump p n

/-- Send a message on port `p`. -/
def State.sendOn (s : State) (p : Nat) (m : Msg) : State :=
  if !s.plkUp p then s
  else
    let s := s.modPport p (fun r => { r with waiting := r.waiting ++ [m] })
    s.pump p (s.pport p).waiting.length

/-- A message to the neighbour of port `p`. -/
def State.sendLocal (s : State) (p : Nat) (m : Msg) : State := s.sendOn p { m with toLocal := true, src := s.ownId }

/-- The stored route to module `id`; unreachable where none is stored. -/
def State.route (s : State) (id : Nat) : Route := tget {} s.plk.routes id
/-- Is module `id` reachable? -/
def State.reachable (s : State) (id : Nat) : Bool := id = s.ownId || decide ((s.route id).hops < 63)

/-- Count a dropped message (R451, R458). -/
def State.plkDrop (s : State) : State := s.incSat F.PLK_STATUS_DROPS

/-- Send a message of this module toward its DEST; with no route it is dropped and counted (R458). -/
def State.sendTo (s : State) (m : Msg) : State :=
  let m := { m with src := s.ownId }
  if s.reachable m.dest && m.dest ≠ s.ownId then s.sendOn (s.route m.dest).port m else s.plkDrop

/-- Line of source 44: link and route events that software has not cleared. DESIGN CHOICE. -/
def State.plkLine (s : State) : State :=
  s.icuLine 44 (s.on F.PLK_STATUS_TICK_MISMATCH || s.on F.PLK_STATUS_DUP_ID
    || (List.range 4).any (fun p => s.get F.PLK_PORT_CNT_LINK_DOWNS p ≠ 0))

/-! ### Routes (R453 to R457) -/

/-- This module's own entry. -/
def State.ownRoute (s : State) : Nat × Route := (s.ownId, { hops := 0, seq := s.plk.ownSeq, prio := s.get F.PLK_ID_TIME_PRIO })

/-- Entry bytes (Table 13.5). -/
def routeBytes (e : Nat × Route) : List Byte :=
  leBytes 8 (e.1 % 2 ^ 14 + e.2.hops * 2 ^ 14 + e.2.seq * 2 ^ 20 + e.2.prio * 2 ^ 36)

/-- Entries in ROUTE messages of at most 28 entries each. -/
def routeMsgs : Nat → List (Nat × Route) → List Msg
  | 0, _ => []
  | n + 1, es =>
    if es.isEmpty then []
    else
      let now := es.take 28
      { type := 2, dlen := (now.length + 1) / 2, arg := now.length, data := now.flatMap routeBytes } :: routeMsgs n (es.drop 28)

/-- Ports that are up. -/
def State.upPorts (s : State) : List Nat := (List.range 4).filter s.plkUp

/-- Send entries on the ports given, as LOCAL ROUTE messages (R453). -/
def State.advertise (s : State) (ports : List Nat) (es : List (Nat × Route)) : State :=
  ports.foldl (fun s p => (routeMsgs es.length es).foldl (fun s m => s.sendLocal p m) s) s

/-- Every entry of the table, this module's own first. -/
def State.allRoutes (s : State) : List (Nat × Route) := s.ownRoute :: s.plk.routes

/-- The time master: the reachable module with the highest PRIO above 0, the lowest ID among equals (R460). -/
def State.masterOf (s : State) : Option (Nat × Route) :=
  (s.allRoutes.filter (fun e => decide (e.2.hops < 63) && decide (0 < e.2.prio))).foldl (fun best e =>
    match best with
    | none => some e
    | some b => if b.2.prio < e.2.prio ∨ (b.2.prio = e.2.prio ∧ e.1 < b.1) then some e else some b) none

/-- TICK_OK (R465). -/
def State.tickOk (s : State) : Bool :=
  s.plk.started && s.stState ≠ 2 && (s.get F.PLK_STATUS_MASTER_HOPS = 0 || s.plk.parentOk)

/-- Bring TICK_OK and source 44 up to date. -/
def State.plkTickOk (s : State) : State := (s.putB F.PLK_STATUS_TICK_OK 0 s.tickOk).plkLine

/-- Bring master, count of reachable modules and TICK_OK up to date after a change of the table (R460). A module that becomes master
uses its own image's tick period. -/
def State.plkStatus (s : State) : State :=
  let n := (s.allRoutes.filter (fun e => decide (e.2.hops < 63))).length
  let was := s.get F.PLK_STATUS_MASTER_ID
  let s := s.put F.PLK_STATUS_REACHABLE 0 n
  let s := match s.masterOf with
    | none => (s.put F.PLK_STATUS_MASTER_ID 0 0).put F.PLK_STATUS_MASTER_HOPS 0 63
    | some (id, r) =>
      let s := (s.put F.PLK_STATUS_MASTER_ID 0 id).put F.PLK_STATUS_MASTER_HOPS 0 r.hops
      let s := if id = was then s else s.modPlk (fun k => { k with parentOk := false, goodEx := 0 })
      if id = s.ownId then s.put F.PLK_TICK_PERIOD_Q 0 (tget 0 s.shadow (F.PLK_TICK_PERIOD_Q.key 0)) else s
  s.plkTickOk

/-- Is sequence number `a` newer than `b` on 16 bits (R454)? -/
def seqNewer (a b : Nat) : Bool := a ≠ b && decide ((a + 65536 - b) % 65536 < 32768)

/-! ### Remote layers: the two sides of a route change (R472, R481, R482) -/

/-- Import `i` beside its registers. -/
def State.imp (s : State) (i : Nat) : ImportRt := tget {} s.plk.imports i
/-- Change import `i`. -/
def State.modImp (s : State) (i : Nat) (g : ImportRt → ImportRt) : State :=
  s.modPlk (fun k => { k with imports := tset {} k.imports i (g (s.imp i)) })
/-- Export `e` beside its registers. -/
def State.exp_ (s : State) (e : Nat) : ExportRt := tget {} s.plk.exports e
/-- Change export `e`; SUBS follows. -/
def State.modExp (s : State) (e : Nat) (g : ExportRt → ExportRt) : State :=
  let x := g (s.exp_ e)
  (s.modPlk (fun k => { k with exports := tset {} k.exports e x })).put F.PLK_EXP_STATUS_SUBS e x.subs.length

/-- Field of an import descriptor (Table 13.9): byte offset and bytes. -/
def State.impField (s : State) (i off n : Nat) : Nat := bits (s.get F.PLK_IMP_WORD (i * 6 + off / 8)) (off % 8 * 8) (n * 8)
/-- Field of an export descriptor (Table 13.8). -/
def State.expField (s : State) (e off n : Nat) : Nat := bits (s.get F.PLK_EXP_WORD (e * 5 + off / 8)) (off % 8 * 8) (n * 8)
/-- Is import `i` enabled? -/
def State.impEn (s : State) (i : Nat) : Bool := bit (s.impField i 0x1F 1) 0
/-- Is export `e` enabled? -/
def State.expEn (s : State) (e : Nat) : Bool := bit (s.expField e 0x21 1) 0
/-- PEER of an import. -/
def State.impPeer (s : State) (i : Nat) : Nat := s.impField i 0x1C 2 % 2 ^ 14

/-- Credit for class 5 that was withheld is returned on every up port (R477). -/
def State.returnHeld (s : State) : State :=
  s.upPorts.foldl (fun s p =>
    let n := (s.pport p).heldCredit
    if n = 0 then s
    else (s.modPport p (fun r => { r with heldCredit := 0 })).flitOut p
      { ack := ((s.pport p).rxNext + 4095) % 4096, ackValid := true, crClass := 5, crCount := n }) s

/-- Send SUBSCRIBE for import `i` and discard its staging; `st` is the STATE it then has (R481). -/
def State.subscribe (s : State) (i st : Nat) : State :=
  let s := s.modImp i (fun x => { x with v16 := none, staged := [], complete := [], ended := none, retry := false, stopped := false,
                                         sentAt := s.now })
  let s := (s.put F.PLK_IMP_STATUS_STATE i st).returnHeld
  s.sendTo { type := 0x20, dlen := 1, dest := s.impPeer i, aux := s.impField i 0x1E 1 % 16,
             data := leBytes 8 (s.impField i 0x20 8) ++ leBytes 8 0 }

/-- Modules whose reachability changed between two states: apertures and subscribers of a lost one, imports of one that is back. -/
def State.reachChange (s : State) (id : Nat) (now : Bool) : State :=
  if now then
    (List.range 16).foldl (fun s i => if s.impEn i && s.impPeer i = id && !(s.imp i).stopped then s.subscribe i 1 else s) s
  else
    let s := (List.range 64).foldl (fun s k =>
      if s.on F.PLK_AP_CTRL_EN k && s.get F.PLK_AP_CTRL_PEER k = id then s.put F.PLK_AP_CTRL_STATE k 4 else s) s
    (List.range 16).foldl (fun s e =>
      if (s.exp_ e).subs.any (fun x => x.peer = id) then
        s.modExp e (fun x => { x with subs := x.subs.filter (fun y => y.peer ≠ id) })
      else s) s

/-- Store routes; the changed entries are advertised on every up port, and what depends on them follows (R453, R460, R472). -/
def State.setRoutes (s : State) (es : List (Nat × Route)) : State :=
  if es.isEmpty then s
  else
    let s' := es.foldl (fun s e => s.modPlk (fun k => { k with routes := tset {} k.routes e.1 e.2 })) s
    let lost := es.filter (fun e => s.reachable e.1 && !s'.reachable e.1)
    let back := es.filter (fun e => !s.reachable e.1 && s'.reachable e.1)
    let s' := (s'.advertise s'.upPorts es).plkStatus
    let s' := lost.foldl (fun s e => s.reachChange e.1 false) s'
    back.foldl (fun s e => s.reachChange e.1 true) s'

/-- Does a received entry replace the stored route (R454, R455)? -/
def routeBetter (old : Route) (known : Bool) (seq dist port : Nat) : Bool :=
  if !known then decide (dist < 63)
  else if old.hops = 63 && old.seq % 2 = 1 then seqNewer seq old.seq
  else seqNewer seq old.seq || (seq = old.seq && (decide (dist < old.hops) || (dist = old.hops && decide (port < old.port))))

/-- This module's own entry is heard (R455, R456). -/
def State.ownHeard (s : State) (seq : Nat) : State :=
  if seq % 2 = 1 then
    if seqNewer seq s.plk.ownSeq then s.modPlk (fun k => { k with ownSeq := (seq + 1) % 65536 }) else s
  else if seqNewer seq s.plk.ownSeq then
    ((s.put F.PLK_STATUS_DUP_ID 0 1).recordError { domain := 0x1C, code := 0x34 }).plkLine
  else s

/-- Entries of a ROUTE message received on port `p` (R454). -/
def State.routeIn (s : State) (p : Nat) (m : Msg) : State :=
  let es := (List.range (m.arg % 64)).map (fun i => fieldLE m.data (8 * i) 8)
  let (s, ch) := es.foldl (fun (acc : State × List (Nat × Route)) e =>
    let s := acc.1
    let id := bits e 0 14
    let seq := bits e 20 16
    let dist := if 62 < bits e 14 6 + 1 then 63 else bits e 14 6 + 1
    if id = s.ownId then (s.ownHeard seq, acc.2)
    else
      let known := s.plk.routes.any (fun r => r.1 = id)
      if routeBetter (s.route id) known seq dist p then
        (s, acc.2.filter (fun r => r.1 ≠ id) ++ [(id, { port := p, hops := dist, seq := seq, prio := bits e 36 8, freshAt := s.now })])
      else acc) (s, [])
  s.setRoutes ch

/-- ROUTE_ORIGINATE: this module raises its own SEQ by 2 and advertises its entry (R453). -/
def State.originate (s : State) : State :=
  let s := s.modPlk (fun k => { k with ownSeq := (k.ownSeq / 2 * 2 + 2) % 65536, origAt := s.now })
  (s.advertise s.upPorts [s.ownRoute]).plkStatus

/-- ROUTE_ORIGINATE (R453): ORIG_US have passed since the last origination. -/
def execRouteOriginate (s : State) : Host.Outcome State Fault Refusal :=
  .next (if s.plk.started && decide (s.plk.origAt + s.get F.PLK_CFG_ORIG_US * 1000 ≤ s.now) then s.originate else s)

/-- ROUTE_REFRESH (R453): 100 ms have passed; the whole table goes out on every up port. -/
def execRouteRefresh (s : State) : Host.Outcome State Fault Refusal :=
  .next (if s.plk.started && decide (s.plk.tableAt + 100000000 ≤ s.now) then
      (s.modPlk (fun k => { k with tableAt := s.now })).advertise s.upPorts s.allRoutes
    else s)

/-- ROUTE_EXPIRE (R456): the route to `id` was not refreshed for 4 x ORIG_US. DEDUCED (log entry 29): a route is refreshed by an entry that
replaces it, since each origination carries a newer SEQ. -/
def execRouteExpire (id : Fin 16384) (s : State) : Host.Outcome State Fault Refusal :=
  .next (if (id : Nat) = s.ownId || !s.reachable id || decide (s.now < (s.route id).freshAt + 4 * s.get F.PLK_CFG_ORIG_US * 1000) then s
    else s.setRoutes [((id : Nat), { s.route id with hops := 63 })])

/-! ### Ports (R443, R447, R448, R459) -/

/-- A port that goes down discards its retry and receive buffers; every route through it becomes unreachable with SEQ + 1 (R448,
R455); an import that a generation was coming to by it is resynchronised (R481). -/
def State.plkDown (s : State) (p st : Nat) : State :=
  let up := s.plkUp p
  let s := (s.put F.PLK_PORT_STATUS_STATE p st).put F.PLK_PORT_STATUS_PAM4 p 0
  let s := s.modPport p (fun _ => { nrz := s.on F.PLK_PORT_CTRL_NRZ_ONLY p })
  if !up then s
  else
    let s := s.incSat F.PLK_PORT_CNT_LINK_DOWNS p
    let via := s.plk.routes.filter (fun e => e.2.port = p && decide (e.2.hops < 63))
    let hit := (List.range 16).filter (fun i => s.impEn i && !(s.imp i).staged.isEmpty && via.any (fun e => e.1 = s.impPeer i))
    let s := (s.setRoutes (via.map (fun e => (e.1, { e.2 with hops := 63, seq := (e.2.seq + 1) % 65536 })))).plkLine
    hit.foldl (fun s i => s.subscribe i 3) s

/-- Start training an enabled port (R443). -/
def State.plkTrain (s : State) (p : Nat) : State :=
  if s.on F.PLK_PORT_CTRL_EN p && !s.boot.recovery then
    (s.put F.PLK_PORT_STATUS_STATE p 1).modPport p (fun r => { r with nrz := s.on F.PLK_PORT_CTRL_NRZ_ONLY p, trainAt := s.now })
  else s.put F.PLK_PORT_STATUS_STATE p 0

/-- PLK_LINK_UP (R443, R451, R453): the link is up; HELLO goes out and SEQ is raised. `credits` are what the neighbour's receive
buffers grant per class. -/
def execPlkLinkUp (p : PlkPort) (credits : List Nat) (s : State) : Host.Outcome State Fault Refusal :=
  .next (
    if s.get F.PLK_PORT_STATUS_STATE p ≠ 1 || !s.on F.PLK_PORT_CTRL_EN p then s
    else
      let s := (s.put F.PLK_PORT_STATUS_STATE p 2).putB F.PLK_PORT_STATUS_PAM4 p (!(s.pport p).nrz)
      let s := s.modPport p (fun r => { r with credit := ((List.range 6).map (fun c => (c, credits.getD c 0))).filter (fun x => x.2 ≠ 0) })
      let hello := leBytes 2 s.ownId ++ leBytes 1 p ++ leBytes 1 (s.get F.PLK_ID_TIME_PRIO) ++ leBytes 4 s.nv.startCount
      (s.sendLocal p { type := 1, dlen := 1, data := hello }).originate)

/-- NRZ_FALLBACK (R443): PAM4 training missed the error ratio for 100 ms; the port trains in NRZ and stays in it. -/
def execNrzFallback (p : PlkPort) (s : State) : Host.Outcome State Fault Refusal :=
  .next (if s.get F.PLK_PORT_STATUS_STATE p ≠ 1 || (s.pport p).nrz || decide (s.now < (s.pport p).trainAt + 100000000) then s
    else (s.modPport p (fun r => { r with nrz := true })).incSat F.PLK_PORT_CNT_FALLBACKS p)

/-- PLK_LINK_DOWN (R448): the link goes down and the port retrains. -/
def execPlkLinkDown (p : PlkPort) (s : State) : Host.Outcome State Fault Refusal :=
  .next (if s.plkUp p then (s.plkDown p 1).plkTrain p else s)

/-- PORT_TRAIN_RETRY (R443): a port that could not bring up both lanes tries again after 1 s, in PAM4 unless NRZ_ONLY. -/
def execPortTrainRetry (p : PlkPort) (s : State) : Host.Outcome State Fault Refusal :=
  .next (if (s.get F.PLK_PORT_STATUS_STATE p = 1 || s.get F.PLK_PORT_STATUS_STATE p = 3)
        && decide ((s.pport p).trainAt + 1000000000 ≤ s.now) then s.plkTrain p else s)

/-- Address of a PLK register. -/
def plkAddr (off : Nat) : Nat := 0x00F001C00000 + off

/-- RETRAIN written 1 (R443): the link goes down and trains again, in PAM4 unless NRZ_ONLY. -/
def State.portRetrain (s : State) (p : Nat) : State :=
  if s.get F.PLK_PORT_STATUS_STATE p = 4 || s.get F.PLK_PORT_STATUS_STATE p = 5 then s else (s.plkDown p 1).plkTrain p

/-- PORT_RETRAIN. -/
def execPortRetrain (o : Origin) (p : PlkPort) (s : State) : Host.Outcome State Fault Refusal :=
  .next (
    let v := s.get F.PLK_PORT_CTRL_EN p + 2 * s.get F.PLK_PORT_CTRL_NRZ_ONLY p
    s.guarded o { addr := plkAddr (0x100 + 0x40 * p), blk := 0x1C, old := v, new := v + 4 } 0 (fun s => s.portRetrain p))

/-- Send LEAVE with its reason and take the port off (R459). -/
def State.leavePort (s : State) (p reason : Nat) : State :=
  let s := s.sendLocal p { type := 3, arg := reason }
  s.plkDown p 0

/-- Is a remote request of this module outstanding? -/
def State.remoteBusy (s : State) : Bool := s.plk.reqs.any (fun r => !r.done)

/-- Ports whose LEAVE waited for outstanding requests send it once none is outstanding, or after 2 ms (R459). -/
def State.leaveCheck (s : State) : State :=
  (List.range 4).foldl (fun s p => match (s.pport p).leaving with
    | none => s
    | some (t, why) => if s.remoteBusy && decide (s.now < t + 2000000) then s else s.leavePort p why) s

/-- An up port is to leave for the reason given (R459). -/
def State.leaveSoon (s : State) (p why : Nat) : State :=
  (s.modPport p (fun r => { r with leaving := some (s.now, why) })).leaveCheck

/-- A clock with no command: the time base counts (R648), and a LEAVE that has waited 2 ms goes out (R459). -/
def State.idle (s : State) : State := s.stTick.leaveCheck

/-- EN written 0 (R459): LEAVE goes out once outstanding remote requests have completed. -/
def State.portDisable (s : State) (p : Nat) : State :=
  let s := s.putImg F.PLK_PORT_CTRL_EN p 0
  if s.plkUp p then s.leaveSoon p 3 else s.plkDown p 0

/-- PORT_DISABLE. -/
def execPortDisable (o : Origin) (p : PlkPort) (s : State) : Host.Outcome State Fault Refusal :=
  .next (
    let n := 2 * s.get F.PLK_PORT_CTRL_NRZ_ONLY p
    s.guarded o { addr := plkAddr (0x100 + 0x40 * p), blk := 0x1C, old := s.get F.PLK_PORT_CTRL_EN p + n, new := n, img := 1 } 0
      (fun s => s.portDisable p))

/-! ### System time over PlynLink (R460 to R465, R651) -/

/-- The port of the parent, if the module has one (R460). -/
def State.parentPort (s : State) : Option Nat :=
  match s.masterOf with
  | none => none
  | some (id, r) => if id = s.ownId then none else some r.port

/-- SYNC_TICK (R461, R651), 1 ms after the last: a SYNC_REQ with T1 goes to the parent; a module whose ST is INVALID and that is master or has none asks
every neighbour. -/
def execSyncTick (s : State) : Host.Outcome State Fault Refusal :=
  .next (
    if !s.plk.started || decide (s.now < s.plk.syncAt + 1000000) then s
    else
      let s := s.modPlk (fun k => { k with syncAt := s.now })
      let req : Msg := { type := 8, arg := s.st }
      match s.parentPort with
      | some p => s.sendLocal p req
      | none =>
        if s.stState = 2 then
          s.upPorts.foldl (fun s p => s.sendLocal p req) (s.modPlk (fun k => { k with selfFrom := some (k.selfFrom.getD s.now) }))
        else s)

/-- SYNC_REQ received on port `p`: every one is answered (R461, R651). -/
def State.syncReq (s : State) (p : Nat) (m : Msg) : State :=
  s.sendLocal p { type := 9, dlen := 2, arg := m.arg,
                  data := leBytes 8 s.st ++ leBytes 8 s.st ++ leBytes 2 (s.get F.PLK_STATUS_MASTER_ID) ++ leBytes 1 s.stState ++ leBytes 1 0
                    ++ leBytes 6 (s.get F.PLK_TICK_PERIOD_Q) ++ leBytes 6 0 }

/-- Steer ST by the parent's time (R462, R653), `off` being its offset ahead. -/
def State.syncSteer (s : State) (off : Int) (parentState : Nat) : State :=
  let n := goodCount s.plk.goodEx off
  let s := s.modPlk (fun k => { k with goodEx := n })
  if s.stState = 2 then ((s.putStState 1).put F.TIM_STATUS_UNC 0 (off.natAbs + 2)).stSet ((s.st : Int) + off).toNat
  else
    let s := (if 1000000 < off then (s.stSlew 0).stStep (s.st + off.toNat) else s.stSlew off).put F.TIM_STATUS_UNC 0 (off.natAbs + 2)
    s.putStState (if 8 ≤ n && parentState = 0 then 0 else 1)

/-- SYNC_RSP received on port `p` (R461, R462, R464, R465, R651). T4 is ST at its arrival. A module whose TIME_REF leaves out
PlynLink is not steered; a parent whose ST is INVALID gives no time (DEDUCED). -/
def State.syncRsp (s : State) (p : Nat) (m : Msg) : State :=
  let t1 := m.arg
  let t2 := fieldLE m.data 0 8
  let t3 := fieldLE m.data 8 8
  let st := fieldLE m.data 18 1
  let pq := fieldLE m.data 20 6
  let t4 := s.st
  let off : Int := (((t2 : Int) - t1) - ((t4 : Int) - t3)) / 2
  let delay : Int := (((t4 : Int) - t1) - ((t3 : Int) - t2)) / 2
  let s := s.put F.PLK_PORT_STATUS_DELAY_NS p (min 65535 delay.toNat)
  match s.parentPort with
  | some q =>
    if q ≠ p then s
    else
      let own := tget 0 s.shadow (F.PLK_TICK_PERIOD_Q.key 0)
      let s := s.put F.PLK_TICK_PERIOD_Q 0 pq
      let s := if own ≠ pq then s.put F.PLK_STATUS_TICK_MISMATCH 0 1 else s
      let s := s.modPlk (fun k => { k with parentOk := true, rspAt := s.now })
      let s := if bit (s.get F.TIM_CFG_TIME_REF) 1 && st ≠ 2 then (s.put F.TIM_STATUS_SOURCE 0 2).syncSteer off st else s
      s.plkTickOk
  | none =>
    match s.plk.selfFrom with
    | none => s
    | some t =>
      let v := ((s.st : Int) + off).toNat
      if st = 2 || decide (t + 10000000 ≤ s.now) then s
      else if s.stState = 2 then
        (((s.put F.TIM_STATUS_SOURCE 0 2).putStState 1).put F.TIM_STATUS_UNC 0 (off.natAbs + 2)).stSet v |>.plkTickOk
      else if s.st < v then s.stStep v
      else s

/-- Number of the last tick: the greatest k with floor(k x PERIOD_Q / 65,536) at most ST (R464). -/
def State.tickNum (s : State) : Nat := ((s.st + 1) * 65536 - 1) / s.get F.PLK_TICK_PERIOD_Q
/-- ST of tick `k` (R464). -/
def State.tickSt (s : State) (k : Nat) : Nat := k * s.get F.PLK_TICK_PERIOD_Q / 65536

/-- FRAME_TICK (R464, R465, R69): while TICK_OK is 1, ST has reached a tick that has not occurred yet. -/
def execFrameTick (s : State) : Host.Outcome State Fault Refusal :=
  .next (if !s.on F.PLK_STATUS_TICK_OK || s.get F.PLK_TICK_PERIOD_Q = 0
        || (s.plk.ticked && s.get F.PLK_TICK_NUM_K = s.tickNum) then s
    else
      let s := (s.put F.PLK_TICK_NUM_K 0 s.tickNum).modPlk (fun k => { k with ticked := true })
      if s.pm.frameSyncPlyn then { s with pins := { s.pins with frameSync := true, frameSyncFall := s.now + 1000 } } else s)

/-- TICK_LOST (R465): no SYNC_RSP came for 10 ms, or ST is INVALID; FRAME_SYNC that follows the tick is held low. -/
def execTickLost (s : State) : Host.Outcome State Fault Refusal :=
  .next (
    let s := (if decide (s.plk.rspAt + 10000000 ≤ s.now) then s.modPlk (fun k => { k with parentOk := false, goodEx := 0 }) else s).plkTickOk
    if s.pm.frameSyncPlyn && !s.on F.PLK_STATUS_TICK_OK then { s with pins := { s.pins with frameSync := false } } else s)

end Sys2Proof.Machine
end

