-- ==== Sys2Proof/Machine/Audio.lean ====
section
/-! DEFINITION. The audio graph (chapter 17). -/

namespace Sys2Proof.Machine

/-- Saturation of a stage (R555). -/
def sat32 (x : Int) : Int := clampI x (-2147483648) 2147483647

/-- `num / den` rounded to nearest; a tie as the free rounding says (log entry 16). -/
def roundNear (num : Int) (den : Nat) : Int :=
  let q := num / (den : Int)
  let r := num % (den : Int)
  if 2 * r < den then q else if (den : Int) < 2 * r then q + 1 else q + (if Config.roundUp num den then 1 else 0)

/-- Bytes of a sample in FORMAT `f` of DRW_AUD_CFG. -/
def sampleSize (f : Nat) : Nat := if f = 0 then 2 else 4
/-- A sample of FORMAT `f` enters left-aligned (R555); S24 stands in the low 24 bits. -/
def sampleIn (f : Nat) (raw : Nat) : Int :=
  if f = 0 then sx (raw % 2 ^ 16) 16 * 65536 else if f = 1 then sx (raw % 2 ^ 24) 24 * 256 else sx (raw % 2 ^ 32) 32
/-- The top `n` bits of a signal, rounded as the spec leaves open. -/
def narrow (n : Nat) (v : Int) : Int := min (roundOpen v (2 ^ (32 - n))) ((2 : Int) ^ (n - 1) - 1)
/-- A signal in FORMAT `f`. -/
def sampleOut (f : Nat) (v : Int) : List Byte :=
  if f = 0 then leBytes 2 (ux (narrow 16 v) 16) else if f = 1 then leBytes 4 (ux (narrow 24 v) 32) else leBytes 4 (ux v 32)

/-- Signals of a frame by the sources of Table 17.1. -/
structure AudVals where
  voice : List Int := []
  play : List Int := []
  tdm : List Int := []
  recv : List Int := []
  bus : List Int := []
  out : List Int := []
  deriving DecidableEq, Repr

/-- The signal of a source code; silence for 0x00 and the reserved codes. -/
def AudVals.src (v : AudVals) (code : Nat) : Int :=
  if code < 0x08 then 0
  else if code < 0x10 then v.voice.getD (code - 0x08) 0
  else if code < 0x90 then v.play.getD (code - 0x10) 0
  else if code < 0xB0 then v.tdm.getD (code - 0x90) 0
  else if code < 0xD0 then v.recv.getD (code - 0xB0) 0
  else if code < 0xD8 then v.bus.getD (code - 0xD0) 0
  else if code < 0xE0 then 0
  else v.out.getD (code - 0xE0) 0

/-- Selectors: mix, output, capture or send. -/
inductive Sel where
  | mix | out | cap
  deriving DecidableEq, Repr

/-- Is the code allowed in the selector (Table 17.1, R556)? -/
def Sel.allows (k : Sel) (code : Nat) : Bool :=
  !(1 ≤ code && code < 8) && !(0xD8 ≤ code && code < 0xE0)
    && (match k with | .mix => decide (code < 0xD0) | .out => decide (code < 0xD8) | .cap => true)

/-- What a selector takes: silence for a code it does not allow (R556). -/
def AudVals.pick (v : AudVals) (k : Sel) (code : Nat) : Int := if k.allows code then v.src code else 0

/-- Change the audio graph. -/
def State.modAud (s : State) (g : Aud → Aud) : State := { s with aud := g s.aud }
/-- Voice `v`. -/
def State.voice (s : State) (v : Nat) : Voice := tget {} s.aud.voices v
/-- Change voice `v`. -/
def State.modVoice (s : State) (v : Nat) (g : Voice → Voice) : State :=
  s.modAud (fun a => { a with voices := tset {} a.voices v (g (s.voice v)) })
/-- Stream `k`, Drawer x 32 + local index. -/
def State.stream (s : State) (k : Nat) : StreamRt := tget {} s.aud.streams k
/-- Change stream `k`. -/
def State.modStream (s : State) (k : Nat) (g : StreamRt → StreamRt) : State :=
  s.modAud (fun a => { a with streams := tset {} a.streams k (g (s.stream k)) })
/-- Output `o`. -/
def State.audOut (s : State) (o : Nat) : OutRt := tget {} s.aud.outs o
/-- Change output `o`. -/
def State.modOut (s : State) (o : Nat) (g : OutRt → OutRt) : State :=
  s.modAud (fun a => { a with outs := tset {} a.outs o (g (s.audOut o)) })

/-- Frames in a millisecond (R554). -/
def State.audKhz (s : State) : Nat := if s.on F.AUD_CFG_RATE then 96 else 48
/-- Does the graph run: its section is loaded and its island has power (R569, R579)? -/
def State.audRuns (s : State) : Bool := s.aud.present && s.blkOn 0x1F

/-! ### Ramps and volumes (R560, R572) -/

/-- Gain of a volume code in units of 2^-30 (R560). -/
def volG (v : Nat) : Int := if v = 0 then 2 ^ 30 else if 255 ≤ v then 0 else (Config.volGain v : Nat)
/-- The volumes of the outputs stand at their VOL, and both coefficient banks hold the values of AUD_BQ: after the image's section is loaded
(R579), and after a reset of the island (DESIGN CHOICE, log entry 45). -/
def State.audFresh (s : State) : State :=
  let act := (List.range 1600).foldl (fun m i => tset (F.AUD_BQ_COEF.rstv i) m i (s.get F.AUD_BQ_COEF i)) []
  let outs := (List.range 32).foldl (fun m o =>
    let v := s.get F.AUD_OUT_VOL o
    tset {} m o { volOf := v, vol := { cur := volG v, target := volG v } }) []
  s.modAud (fun a => { a with active := act, outs := outs })

/-- Go to `g` in `n` frames from the gain reached. -/
def Ramp.go (r : Ramp) (g : Int) (n : Nat) : Ramp := if n = 0 then ⟨g, g, 0⟩ else ⟨r.cur, g, n⟩
/-- One frame of a linear ramp. -/
def Ramp.step (r : Ramp) : Ramp :=
  if r.left = 0 then r else if r.left = 1 then ⟨r.target, r.target, 0⟩
  else ⟨r.cur + roundOpen (r.target - r.cur) r.left, r.target, r.left - 1⟩

/-! ### Chime voices (R570, R571) -/

/-- Samples of a voice's asset and their size: 2 for S16, 4 for S24 (R570). -/
def State.voiceAsset (s : State) (v : Nat) : Nat × Nat × Nat :=
  match s.shelf.assets[s.get F.AUD_VOICE_ASSET v]? with
  | none => (0, 0, 2)
  | some a => if a.kind = 3 then (a.addr, a.len / (if a.format = 1 then 2 else 4), if a.format = 1 then 2 else 4) else (0, 0, 2)

/-- PLAY (R571). -/
def State.voicePlay (s : State) (v : Nat) : State := if s.boot.recovery then s else (s.put F.AUD_VOICE_PLAYING v 1).modVoice v (fun _ => {})
/-- STOP: a ramp to zero over 5 ms (R571). -/
def State.voiceStop (s : State) (v : Nat) : State :=
  if s.on F.AUD_VOICE_PLAYING v && (s.voice v).stopLeft.isNone then
    s.modVoice v (fun x => { x with stopLeft := some (5 * s.audKhz) })
  else s
/-- A voice ends. -/
def State.voiceEnd (s : State) (v : Nat) : State := (s.put F.AUD_VOICE_PLAYING v 0).modVoice v (fun _ => {})
/-- Every voice stops before PD11 turns off (R569). -/
def State.voicesStop (s : State) : State := (List.range 8).foldl State.voiceStop s

/-- One frame of a voice: its sample. -/
def State.voiceStep (s : State) (v : Nat) : State × Int :=
  if !s.on F.AUD_VOICE_PLAYING v then (s, 0)
  else
    let (base, n, size) := s.voiceAsset v
    let x := s.voice v
    let pos := if n ≤ x.pos && s.on F.AUD_VOICE_LOOP v then 0 else x.pos
    if n ≤ pos || x.stopLeft = some 0 then (s.voiceEnd v, 0)
    else
      let raw := s.readLE (base + pos * size) size
      let smp := if size = 2 then sampleIn 0 raw else sampleIn 1 raw
      let smp := match x.stopLeft with
        | none => smp
        | some k => roundOpen (smp * (k : Int)) (5 * s.audKhz)
      (s.modVoice v (fun _ => { pos := pos + 1, stopLeft := x.stopLeft.map (fun k => k - 1) }), smp)

/-! ### Guest streams (R562 to R568) -/

/-- The running command of a stream, if it still runs. -/
def State.streamCmd (s : State) (k : Nat) : Option Cmd :=
  ((s.stream k).cmd.bind (fun c => s.cmd? (k / 32) c.1 c.2)).bind (fun c => if c.stage = .running then some c else none)

/-- Bytes of a frame of a stream. -/
def State.frameBytes (s : State) (k : Nat) : Nat := s.get F.DRW_AUD_CFG_CHANNELS k * sampleSize (s.get F.DRW_AUD_CFG_FORMAT k)

/-- A command that ended before its end leaves its stream silent to the end of the period; a capture stream writes zeros there (R567). -/
def State.streamSettle (s : State) (k : Nat) : State :=
  let r := s.stream k
  if r.cmd.isNone || (s.streamCmd k).isSome then s
  else
    let left := if r.frames % r.period = 0 then 0 else r.period - r.frames % r.period
    let s := if k % 32 < 16 || left = 0 then s
      else s.hostData (k / 32) (r.addr + r.frames * s.frameBytes k) (List.replicate (left * s.frameBytes k) 0)
    s.modStream k (fun r => { r with cmd := none, frames := 0, silence := left })

/-- Count frames in XRUN. -/
def State.xrun (s : State) (k : Nat) : State := (s.incSat F.DRW_AUD_STATUS_XRUN k).pmuEvent 0x1F 2 0 1 none true

/-- Does the command still wait for START_ST (R563)? -/
def State.streamWaits (s : State) (k : Nat) (c : Cmd) : Bool :=
  bit (c.body 0x0F 1) 0 && (s.stream k).frames = 0 && decide (s.st < c.body 0x10 8)

/-- FIRST_ST of the current command, in units of 4 ns. -/
def State.firstSt (s : State) (k st : Nat) : State := if (s.stream k).frames = 0 then s.put F.DRW_AUD_STATUS_FIRST_ST k (st / 4) else s

/-- A playback period has entered the graph: it is committed (R565), and the last one ends the command. -/
def State.periodPlayed (s : State) (k : Nat) (c : Cmd) : State :=
  let d := k / 32
  let n := c.committed + 1
  let s := (s.modCmd d c.queue c.seq (fun c => { c with committed := n })).jnlWrite d c.queue c.seq 5 0
    (leBytes 8 n ++ leBytes 8 (n * (s.stream k).period * s.frameBytes k) ++ leBytes 4 c.total)
  if n < c.total then s
  else (s.finishCmd d { c with committed := n } 0x1F).modStream k (fun r => { r with cmd := none, frames := 0 })

/-- One frame of a playback stream: its channels (R565 to R568). The reads of a period are shown as it begins (log entry 45). -/
def State.playStep (s : State) (x : AudioIn) (k : Nat) : State × List Int :=
  let s := s.streamSettle k
  let r := s.stream k
  let raw := (x.play.find? (fun p => p.1 = k)).map (fun p =>
    (p.2.take (s.get F.DRW_AUD_CFG_CHANNELS k)).map (fun b => sampleIn (s.get F.DRW_AUD_CFG_FORMAT k) b.toNat))
  match r.squash with
  | some n => (s.modStream k (fun r => { r with squash := some (n - 1) }), (raw.getD []).map (fun v => roundOpen (v * (n : Int)) 64))
  | none =>
    if !s.on F.DRW_AUD_CFG_EN k then (s, [])
    else if 0 < r.silence then (s.modStream k (fun r => { r with silence := r.silence - 1 }), [])
    else match s.streamCmd k with
      | none => (s.xrun k, [])
      | some c =>
        if s.streamWaits k c then (s, [])
        else match raw with
          | none => (s.xrun k, [])
          | some vs =>
            let s := if r.frames % r.period = 0 then
                s.portRead (k / 1024) (r.addr + r.frames * s.frameBytes k) (r.period * s.frameBytes k)
              else s
            let s := (s.firstSt k s.st).modStream k (fun r => { r with frames := r.frames + 1 })
            (if (r.frames + 1) % r.period = 0 then s.periodPlayed k c else s, vs)

/-- One frame of a capture stream (R566): the frame is buffered, and `x.drain` of the buffered frames are written to the host. -/
def State.captureStep (s : State) (x : AudioIn) (v : AudVals) (k : Nat) : State :=
  let s := s.streamSettle k
  let r := s.stream k
  if r.squash.isSome || !s.on F.DRW_AUD_CFG_EN k then s
  else if 0 < r.silence then s.modStream k (fun r => { r with silence := r.silence - 1 })
  else
    let m := s.get F.DRW_AUD_CFG_MODULE k
    let smp := (List.range (s.get F.DRW_AUD_CFG_CHANNELS k)).map (fun c => v.pick .cap (s.get F.AUD_CAP_SRC m / 2 ^ (8 * c) % 256))
    let waits := ((s.streamCmd k).map (s.streamWaits k)).getD false
    let s := if waits then s
      else
        let full := decide (32768 < (r.buf.length + 1) * s.frameBytes k)
        let s := if full then s.xrun k else s
        s.modStream k (fun r => { r with buf := (if full then r.buf.drop 1 else r.buf) ++ [(s.st, smp)], lost := r.lost || full })
    match s.streamCmd k with
    | none => s
    | some c =>
      let r := s.stream k
      let n := min (min (tget 0 x.drain k) r.buf.length) (c.total * r.period - r.frames)
      match r.buf.take n with
      | [] => s
      | f :: fs =>
        let bytes := (f :: fs).flatMap (fun p => p.2.flatMap (sampleOut (s.get F.DRW_AUD_CFG_FORMAT k)))
        let s := (s.firstSt k f.1).hostData (k / 32) (r.addr + r.frames * s.frameBytes k) bytes
        s.modStream k (fun r => { r with frames := r.frames + n, buf := r.buf.drop n })

/-- Streams that Drawers hold, as Drawer x 32 + local index: playback (`lo` 0) or capture (`lo` 16). -/
def State.streamsHeld (s : State) (lo : Nat) : List Nat :=
  s.drw.flatMap (fun p => (p.2.streams.filter (fun j => lo ≤ j && j < lo + 16)).map (fun j => p.1 * 32 + j))

/-- SQUASH of a Drawer (R568): playback ramps to zero over 64 frames, capture discards its buffer. -/
def State.audSquash (s : State) (d : Nat) : State :=
  (s.drwOf d).streams.foldl (fun s j => s.modStream (d * 32 + j) (fun r => { r with squash := some 64, buf := [], silence := 0 })) s

/-- The reset of a Drawer completes: EN of every stream is 0 (R568). -/
def State.audReset (s : State) (d : Nat) : State :=
  (List.range 32).foldl (fun s j => (s.put F.DRW_AUD_CFG_EN (d * 32 + j) 0).modStream (d * 32 + j) (fun _ => {})) s

/-- Set EN of a stream (R562): only where QUEUE names an enabled queue with ENGINE 3, else guest error FORMAT. -/
def State.streamEnable (s : State) (d j : Nat) : State :=
  let k := d * 32 + j
  let q := s.get F.DRW_AUD_CFG_QUEUE k
  if s.on F.DRW_AUD_CFG_EN k then s
  else if s.on F.DRW_Q_CTRL_ENABLE (qIx d q) && s.get F.DRW_Q_CTRL_ENGINE (qIx d q) = 3 && (s.drwOf d).streams.contains j then
    (s.put F.DRW_AUD_CFG_EN k 1).modStream k (fun _ => {})
  else s.guestError d 6 q

/-- STREAM_ENABLE (R562). -/
def execStreamEnable (d : DrawerId) (j : Fin 32) (s : State) : Host.Outcome State Fault Refusal := .next (s.streamEnable d j)

/-- Code of an AUDIO command that may not run (R564, R579), else 0. DEDUCED (log entry 58): a stream index beyond the streams that the
template gave the Drawer exceeds a quota (R224, code 2); the other cases of R564 are FORMAT. -/
def State.audioCheck (s : State) (d : Nat) (c : Cmd) : Nat :=
  let j := c.body 0x0E 1
  let k := d * 32 + j % 32
  if c.unordered || !s.aud.present || 32 ≤ j then 1
  else if !(s.drwOf d).streams.contains j then 2
  else if !s.on F.DRW_AUD_CFG_EN k || s.get F.DRW_AUD_CFG_QUEUE k ≠ c.queue then 1
  else if c.body 0x00 8 % 64 ≠ 0 || c.body 0x08 4 < 16 || 8192 < c.body 0x08 4 || c.body 0x0C 2 < 1 || 4096 < c.body 0x0C 2
      || 2 ≤ c.body 0x0F 1 || c.body 0x18 40 ≠ 0 then 1
  else 0

/-- AUDIO: an audio command is dispatched (R563, R564); playing, capturing and its commits happen frame by frame. -/
def execAudio (d : DrawerId) (q : QueueId) (seq : Nat) (s : State) : Host.Outcome State Fault Refusal :=
  .next (s.dispatch d q seq 0x30 (fun _ => 1) (fun c =>
    let e := s.audioCheck d c
    if e = 2 then (s.guestError d 4 q).endCmd d q seq 4 e
    else if e ≠ 0 then s.endCmd d q seq 4 e
    else
      let k := d * 32 + c.body 0x0E 1
      let s := ((s.streamSettle k).startCmd d c (c.body 0x0C 2) 1 16).modCmd d q seq (fun c => { c with replayable := false })
      s.modStream k (fun r =>
        { r with cmd := some (q, seq), period := c.body 0x08 4, addr := c.body 0x00 8, frames := 0,
                 buf := if bit (c.body 0x0F 1) 0 then r.buf.filter (fun p => c.body 0x10 8 ≤ p.1) else r.buf })))

/-! ### Chime rows -/

/-- Address of an AUD register. -/
def audAddr (off : Nat) : Nat := 0x00F001F00000 + off

/-- A write of PLAY or STOP of voice `v`, Cabinet only (R571). -/
def State.voiceWrite (s : State) (o : Origin) (v b : Nat) (k : State → State) : State :=
  let old := s.regWord 145 v
  s.guarded o { addr := audAddr (0xC00 + 0x10 * v), blk := 0x1F, wide := true, old := old, new := old + 2 ^ b } (if o.cab then 0 else 2) k

/-- PLAY (R571): the voice starts its asset at the first sample in the next frame. -/
def execPlay (o : Origin) (v : Fin 8) (s : State) : Host.Outcome State Fault Refusal :=
  .next (s.voiceWrite o v 42 (fun s => s.voicePlay v))

/-- STOP (R571): the voice ramps to zero over 5 ms and ends. -/
def execStop (o : Origin) (v : Fin 8) (s : State) : Host.Outcome State Fault Refusal :=
  .next (s.voiceWrite o v 43 (fun s => s.voiceStop v))

/-! ### Equalisers (R559, R561) -/

/-- Coefficient `j` of section `k` of output `o` in the active bank. -/
def State.coef (s : State) (o k j : Nat) : Int :=
  let i := o * 50 + k * 5 + j
  sx (tget (F.AUD_BQ_COEF.rstv i) s.aud.active i) 32

/-- A 64-bit accumulator. -/
def acc64 (x : Int) : Int := if -(2 : Int) ^ 63 ≤ x ∧ x < (2 : Int) ^ 63 then x else Config.accOverflow x

/-- One section: its new state and output. -/
def biquad (b0 b1 b2 a1 a2 : Int) (q : Int × Int × Int × Int) (x : Int) : (Int × Int × Int × Int) × Int :=
  let (x1, x2, y1, y2) := q
  let y := sat32 (roundNear (acc64 (b0 * x + b1 * x1 + b2 * x2 - a1 * y1 - a2 * y2)) (2 ^ 30))
  ((x, x1, y, y1), y)

/-- Ten sections in series (R558). -/
def State.eqRun (s : State) (o : Nat) (x : Int) : List (Int × Int × Int × Int) × Int :=
  let st := (s.audOut o).eq
  (List.range 10).foldl (fun (a : List (Int × Int × Int × Int) × Int) k =>
    let r := biquad (s.coef o k 0) (s.coef o k 1) (s.coef o k 2) (s.coef o k 3) (s.coef o k 4) (st.getD k (0, 0, 0, 0)) a.2
    (a.1 ++ [r.1], r.2)) ([], x)

/-- A write of AUD_BQ: held while a swap is pending (R561). -/
def State.bqWrite (s : State) (i v : Nat) : State :=
  if s.get F.AUD_BQ_SWAP_MASK ≠ 0 then s.modAud (fun a => { a with bqHeld := a.bqHeld ++ [(i, v)] }) else s.putImg F.AUD_BQ_COEF i v

/-- The pending swap falls here, between two frames; held AUD_BQ writes follow it (R561). -/
def State.bankSwap (s : State) : State :=
  let m := s.get F.AUD_BQ_SWAP_MASK
  if m = 0 then s
  else
    let is := ((List.range 32).filter (bit m)).flatMap (fun o => (List.range 50).map (fun i => o * 50 + i))
    let s := is.foldl (fun s i =>
      let a := tget (F.AUD_BQ_COEF.rstv i) s.aud.active i
      let b := s.get F.AUD_BQ_COEF i
      (s.put F.AUD_BQ_COEF i a).modAud (fun x => { x with active := tset (F.AUD_BQ_COEF.rstv i) x.active i b })) s
    let h := s.aud.bqHeld
    let s := (s.put F.AUD_BQ_SWAP_MASK 0 0).modAud (fun x => { x with bqHeld := [] })
    h.foldl (fun s p => s.putImg F.AUD_BQ_COEF p.1 p.2) s

/-- Outputs whose LOCK is 1, as a mask (R574). -/
def State.locked (s : State) : Nat := (List.range 32).foldl (fun a o => if s.on F.AUD_OUT_LOCK o then a + 2 ^ o else a) 0

/-- BANK_SWAP: a write of AUD_BQ_SWAP (R561); bits of locked outputs of an Open-world write are ignored and the write is logged as
refused (R574). -/
def execBankSwap (o : Origin) (mask : Fin 4294967296) (s : State) : Host.Outcome State Fault Refusal :=
  let m := s.get F.AUD_BQ_SWAP_MASK
  let ok := fun (b : Nat) => bit mask b && (o.cab || !s.on F.AUD_OUT_LOCK b)
  let eff := fun (s : State) => ((List.range 32).filter ok).foldl (fun s b => s.putBit F.AUD_BQ_SWAP_MASK 0 b true) s
  .next (s.guarded o { addr := audAddr 0xE00, blk := 0x1F, old := m, new := mask }
    (if (List.range 32).all (fun b => !bit mask b || ok b) then 0 else 7) eff eff)

/-! ### PlynLink streams (R577, R578, Table 13.6) -/

/-- A frame of a send stream: after eight frames an AUDIO message goes out (R577). -/
def State.sendStep (s : State) (v : AudVals) (t : Nat) : State :=
  if !s.on F.AUD_SEND_EN t then s.modAud (fun a => { a with send := terase a.send t })
  else
    let ch := s.get F.AUD_SEND_CHANNELS t
    let smp := (List.range 8).map (fun c =>
      if c < ch then v.pick .cap (s.get F.AUD_SEND_SEL_SRC t / 2 ^ (8 * c) % 256) else 0)
    let (st, fs) := tget (s.st, []) s.aud.send t
    let st := if fs.isEmpty then s.st else st
    let fs := fs ++ [smp]
    if fs.length < 8 then s.modAud (fun a => { a with send := tset (0, []) a.send t (st, fs) })
    else
      let data := leBytes 8 st ++ fs.flatMap (fun f => f.flatMap (fun x => leBytes 3 (ux (narrow 24 x) 24)))
      (s.modAud (fun a => { a with send := terase a.send t })).sendTo
        { type := 0x29, dlen := 13, dest := s.get F.AUD_SEND_DEST_ID t, arg := s.get F.AUD_SEND_RSTREAM t, data := data ++ List.replicate 8 0 }

/-- An AUDIO message arrives (R578): its samples get their target ST (Table 13.6). -/
def State.audioIn (s : State) (m : Msg) : State :=
  let r := m.arg % 4
  if !s.on F.AUD_RECV_EN r || !(s.on F.AUD_RECV_ANY r || s.get F.AUD_RECV_SRC_ID r = m.src) then s
  else
    let x : RecvRt := tget {} s.aud.recv r
    let t0 := fieldLE m.data 0 8 + s.get F.PLK_CFG_AUDIO_LAT_US * 1000
    let new := (List.range 8).map (fun n =>
      (t0 + (roundOpen ((n * 1000000 : Nat) : Int) s.audKhz).toNat,
       (List.range 8).map (fun c => sx (fieldLE m.data (8 + n * 24 + c * 3) 3) 24 * 256)))
    let fresh := new.filter (fun p => (x.last.map (fun l => decide (l.1 < p.1))).getD true)
    s.modAud (fun a => { a with recv := tset {} a.recv r { x with due := fresh.foldl (fun d p => tset [] d p.1 p.2) x.due } })

/-- One frame of a receive stream: its channels (R578). -/
def State.recvStep (s : State) (r : Nat) : State × List Int :=
  if !s.on F.AUD_RECV_EN r then (s, [])
  else
    let x : RecvRt := tget {} s.aud.recv r
    let keep := fun (s : State) (y : RecvRt) => s.modAud (fun a => { a with recv := tset {} a.recv r y })
    match (x.due.filter (fun p => p.1 ≤ s.st)).reverse with
    | p :: rest =>
      ((keep s { due := x.due.filter (fun q => s.st < q.1), last := some p }).incSat F.AUD_RECV_SLIPS r rest.length, p.2)
    | [] => match x.last with
      | none => (s, [])
      | some l =>
        if s.st * s.audKhz < l.1 * s.audKhz + 1000000 then (s.incSat F.AUD_RECV_SLIPS r, l.2)
        else (s.incSat F.AUD_RECV_LATE r, [])

/-! ### The frame (R554 to R560, R572, R573) -/

/-- A mix bus (R557). -/
def State.mixBus (s : State) (v : AudVals) (b : Nat) : Int :=
  sat32 ((List.range 16).foldl (fun (a : Int) i =>
    a + sat32 (roundOpen (v.pick .mix (s.get F.AUD_MIX_SRC (b * 16 + i)) * (s.get F.AUD_MIX_GAIN (b * 16 + i) : Int)) 16384)) 0)

/-- Voices that force output `o` (R572). -/
def State.forcing (s : State) (o : Nat) : List Nat :=
  (List.range 8).filter (fun v => s.on F.AUD_VOICE_PLAYING v && s.on F.AUD_VOICE_FORCE v && bit (s.get F.AUD_VOICE_MASK_OUT_MASK v) o)

/-- The deepest DUCK_DB and the loudest override volume on an output (R573). -/
def State.forcedBy (s : State) (o : Nat) : Option (Nat × Nat) :=
  match s.forcing o with
  | [] => none
  | vs => some (vs.foldl (fun a v => max a (s.get F.AUD_VOICE_DUCK_DB v)) 0, vs.foldl (fun a v => min a (s.get F.AUD_VOICE_OUT_VOL v)) 255)

/-- Where the gains of output `o` go from this frame on (R560, R572). -/
def State.outGains (s : State) (o : Nat) : State :=
  let f := s.forcedBy o
  let r := s.audOut o
  let vol := s.get F.AUD_OUT_VOL o
  let ms := s.audKhz
  if f ≠ r.forced then match f with
    | some (db, ov) =>
      s.modOut o (fun r => { r with forced := f, vol := r.vol.go (volG ov) (5 * ms), duck := r.duck.go (volG (2 * db)) (5 * ms) })
    | none =>
      s.modOut o (fun r =>
        { r with forced := none, vol := r.vol.go (volG vol) (5 * ms), volOf := vol, duck := r.duck.go (2 ^ 30) (250 * ms) })
  else if f.isNone && vol ≠ r.volOf then
    s.modOut o (fun r => { r with vol := r.vol.go (volG vol) (s.get F.AUD_OUT_RAMP_MS o * ms), volOf := vol })
  else s

/-- One frame of output `o`: the stages of R558. -/
def State.outStep (s : State) (v : AudVals) (o : Nat) : State × Int :=
  let s := s.outGains o
  let x := v.pick .out (s.get F.AUD_OUT_SRC o)
  let (eq, x) := if s.on F.AUD_OUT_EQ_EN o then s.eqRun o x else ((s.audOut o).eq, x)
  let r := s.audOut o
  let ducked := sat32 (roundOpen (x * r.duck.cur) (2 ^ 30))
  let chime := (s.forcing o).foldl (fun (a : Int) c =>
    sat32 (a + sat32 (roundOpen (v.voice.getD c 0 * (s.get F.AUD_VOICE_GAIN c : Int)) 16384))) ducked
  (s.modOut o (fun r => { r with eq := eq, vol := r.vol.step, duck := r.duck.step }), sat32 (roundOpen (chime * r.vol.cur) (2 ^ 30)))

/-- Run a step for each of a list of things, keeping what each gives. -/
def State.eachOf {α β : Type} (s : State) (g : State → α → State × β) : List α → State × List β
  | [] => (s, [])
  | x :: xs =>
    let (s, y) := g s x
    let (s, ys) := s.eachOf g xs
    (s, y :: ys)

/-- Is a frame due: with the internal clock, one sample period after the last (R554); an outside clock gives its own (R576)? -/
def State.frameDue (s : State) : Bool :=
  s.get F.AUD_CFG_CLK_SRC ≠ 0 || decide (s.aud.frameAt + 1000000 / s.audKhz ≤ s.now)

/-- AUDIO_FRAME (R554): every node computes one sample; streams, voices and PlynLink streams move on by one frame. -/
def execAudioFrame (x : AudioIn) (s : State) : Host.Outcome State Fault Refusal :=
  .next (
    if !s.audRuns || !s.frameDue then s
    else
      let s := s.modAud (fun a => { a with frameAt := s.now })
      let s := ((s.put F.AUD_STATUS_FRAME_ST 0 s.st).put F.AUD_STATUS_ST_STATE 0 s.stState).bankSwap.pmuEvent 0x1F 1 0 1 none true
      let s := x.slips.foldl (fun s p => if s.on F.AUD_PORT_MASTER p then s else s.incSat F.AUD_PORT_SLIPS p) s
      let tdm := (List.range 32).map (fun i => if s.on F.AUD_PORT_EN (i / 8) then ((x.tdm[i]?).map BitVec.toInt).getD 0 else 0)
      let (s, voice) := s.eachOf State.voiceStep (List.range 8)
      let ks := s.streamsHeld 0
      let (s, ps) := s.eachOf (fun s k => s.playStep x k) ks
      let at_ := fun (m c : Nat) => (((ks.zip ps).find? (fun p => s.get F.DRW_AUD_CFG_MODULE p.1 = m)).bind (fun p => p.2[c]?)).getD 0
      let play := (List.range 128).map (fun i => at_ (i / 8) (i % 8))
      let (s, rs) := s.eachOf State.recvStep (List.range 4)
      let recv := rs.flatMap (fun r => (r ++ List.replicate 8 0).take 8)
      let v : AudVals := { voice := voice, play := play, tdm := tdm, recv := recv }
      let v := { v with bus := (List.range 8).map (s.mixBus v) }
      let (s, outs) := s.eachOf (fun s o => s.outStep v o) (List.range 32)
      let v := { v with out := outs, tdm := s.aud.inPipe.getD 1 [] }
      let s := (s.streamsHeld 16).foldl (fun s k => s.captureStep x v k) s
      let s := (List.range 4).foldl (fun s t => s.sendStep v t) s
      s.modAud (fun a =>
        { a with sdo := (List.range 32).map (fun i => if s.on F.AUD_PORT_EN (i / 8) then (a.outPipe.getD 1 []).getD i 0 else 0),
                 outPipe := (outs :: a.outPipe).take 2, inPipe := (tdm :: a.inPipe).take 2 }))

end Sys2Proof.Machine
end

