-- ==== Sys2Proof/Machine/Audit.lean ====
section
/-! DEFINITION. The audit log of chapter 22 behind the on-die buffer: the MRAM ring, sealing and the read mark. -/

namespace Sys2Proof.Machine

/-- FLAGS byte of an entry (Table 22.1). -/
def AuditEntry.flags (e : AuditEntry) : Nat :=
  b2n e.refused + 2 * b2n e.high + 4 * (e.copy % 4) + 16 * (e.reason % 8)

/-- The 32 bytes of an entry (Table 22.1). -/
def AuditEntry.bytes (e : AuditEntry) : List Byte :=
  leBytes 8 (e.st + e.stState * 2 ^ 62) ++ leBytes 4 e.seq ++ leBytes 4 e.origin ++ leBytes 4 e.addr
    ++ leBytes 4 e.old ++ leBytes 4 e.new ++ leBytes 2 e.start ++ leBytes 1 e.type ++ leBytes 1 e.flags

/-- Bytes 0x00 to 0x17 of a seal record (Table 22.3). -/
def Seal.headBytes (r : Seal) : List Byte :=
  leBytes 4 r.block ++ leBytes 4 r.firstSeq ++ leBytes 2 r.start ++ leBytes 1 r.count ++ leBytes 1 r.cause
    ++ leBytes 4 r.handle ++ leBytes 8 r.prevTag

/-- The MAC of a seal: over bytes 0x00 to 0x17 and the entries in SEQ order (R689). -/
def sealMacOf (r : Seal) (es : List AuditEntry) : Nat := Config.sealMac r.handle (r.headBytes ++ es.flatMap AuditEntry.bytes)

/-- VERDICT of a block, recomputed on each read (R690): 4 OPEN, 3 KEY, 1 MAC, 2 CHAIN, 0 VALID. `prev` is the held block
before it, none for the oldest. -/
def verdict (handle : Nat) (prev : Option Block) (b : Block) : Nat :=
  match b.sealRec with
  | none => 4
  | some r =>
    if r.handle ≠ handle then 3
    else if sealMacOf r b.entries ≠ r.mac then 1
    else match prev with
      | none => 0
      | some p => match p.sealRec with
        | none => 2
        | some q => if r.prevTag = q.mac % 2 ^ 64 then 0 else 2

/-- Position of an entry: START above SEQ (R691). -/
def auditPos (start seq : Nat) : Nat := start * 2 ^ 32 + seq

/-- Position of an entry. -/
def AuditEntry.pos (e : AuditEntry) : Nat := auditPos e.start e.seq

/-- Is position `x` at or before `y`? START wraps (Table 22.1), so it is compared in 16-bit serial order (DEDUCED, log entry 35). -/
def posLe (x y : Nat) : Bool :=
  let d := (y / 2 ^ 32 + 65536 - x / 2 ^ 32 % 65536) % 65536
  if d = 0 then decide (x % 2 ^ 32 ≤ y % 2 ^ 32) else decide (d < 32768)

/-- Every held entry, oldest first: the ring's, then the buffer's. -/
def State.auditHeld (s : State) : List AuditEntry := s.nv.ring.flatMap (fun b => b.entries) ++ s.adl.buf

/-- The read mark as a position (R693). -/
def State.auditMark (s : State) : Nat := auditPos (s.get F.ADL_MARK_START) (s.get F.ADL_MARK_SEQ)

/-- NEAR_WRAP and source 56 follow the number of held entries after the mark (R693). -/
def State.auditWrapCheck (s : State) : State :=
  let unread := (s.auditHeld.filter (fun e => posLe s.auditMark e.pos)).length
  let near := decide (s.get F.ADL_CFG_WARN_PCT * (s.nv.ringSlots * 64) < unread * 100)
  (s.putB F.ADL_RING_NEAR_WRAP 0 near).icuLine 56 near

/-- HELD counts the held entries, saturating at 1,048,576 (Table of ADL_RING). -/
def State.auditCountHeld (s : State) : State := s.put F.ADL_RING_HELD 0 (min s.auditHeld.length 1048576)

/-- The last sealed block's MAC, low 8 bytes; 0 for the first block (Table 22.3). -/
def lastTag (bs : List Block) : Nat :=
  bs.foldl (fun t b => match b.sealRec with | some r => r.mac % 2 ^ 64 | none => t) 0

/-- Seal the open block with a cause (R688, R689); nothing where no block is open. Where no sealing key is derived the
block closes unsealed. -/
def State.sealOpen (s : State) (cause : Nat) : State :=
  if !s.adl.blockOpen then s
  else match s.nv.ring.reverse with
    | [] => s
    | b :: older =>
      let s := { s with adl := { s.adl with blockOpen := false } }
      if !s.adl.keyDerived then s
      else match b.entries with
        | [] => s
        | e :: _ =>
          let r : Seal := { block := s.nv.sealedBlocks + 1, firstSeq := e.seq, start := e.start,
                            count := b.entries.length, cause := cause, handle := s.adl.handle,
                            prevTag := lastTag older.reverse, mac := 0 }
          let r := { r with mac := sealMacOf r b.entries }
          { s with nv := { s.nv with ring := older.reverse ++ [{ b with sealRec := some r }],
                                     sealedBlocks := s.nv.sealedBlocks + 1 } }

/-- Seal, at a new start, a block of an earlier start that was found open, with CAUSE 5 (R688). -/
def State.sealFound (s : State) : State :=
  match s.nv.ring.reverse with
  | [] => s
  | b :: _ => match b.sealRec with
    | some _ => s
    | none => ({ s with adl := { s.adl with blockOpen := true } }).sealOpen 5

/-- Lose the oldest block of the ring, counted when the mark had not passed it (R686, R693). -/
def State.loseOldest (s : State) : State :=
  match s.nv.ring with
  | [] => s
  | b :: rest =>
    let s := { s with nv := { s.nv with ring := rest } }
    if b.entries.any (fun e => posLe s.auditMark e.pos) then s.incSat F.ADL_RING_OVERWRITTEN else s

/-- Open a block for the next entry; a full ring loses its oldest block (R686). -/
def State.openBlock (s : State) : State :=
  let s := if s.nv.ring.length < s.nv.ringSlots then s else s.loseOldest
  { s with nv := { s.nv with ring := s.nv.ring ++ [{}] }, adl := { s.adl with blockOpen := true } }

/-- Add an entry to the open block. -/
def addToLast : List Block → AuditEntry → List Block
  | [], e => [{ entries := [e] }]
  | [b], e => [{ b with entries := b.entries ++ [e] }]
  | b :: c :: bs, e => b :: addToLast (c :: bs) e

/-- Copy one durable entry to the ring, in log order (R684, R686): an entry 2^46 ns or more after the block's first opens
a new block, and a block's 64th entry seals it (R688). -/
def State.flushOne (s : State) : State :=
  match s.adl.buf with
  | [] => s
  | e :: rest =>
    let first := (s.nv.ring.getLast?.bind (fun b => b.entries.head?)).map (fun x => x.st)
    let s : State := if s.adl.blockOpen && decide (first.getD e.st + 2 ^ 46 ≤ e.st) then s.sealOpen 4 else s
    let s : State := if s.adl.blockOpen then s else s.openBlock
    let s : State := { s with adl := { s.adl with buf := rest }, nv := { s.nv with ring := addToLast s.nv.ring e } }
    let n : Nat := (s.nv.ring.getLast?.map (fun b => b.entries.length)).getD 0
    let s : State := if 64 ≤ n then s.sealOpen 0 else s
    let s : State := if s.get F.ADL_CFG_FLUSH_MARK < s.adl.buf.length then s else s.putBit F.HUT_ICU_PEND_PENDING 0 6 false
    s.auditCountHeld.auditWrapCheck

/-- Copy `n` entries. -/
def State.flushN (s : State) : Nat → State
  | 0 => s
  | n + 1 => s.flushOne.flushN n

/-- Flush the whole buffer and seal the open block (R52 step 5, R59, R688). -/
def State.flushAndSeal (s : State) (cause : Nat) : State := (s.flushN s.adl.buf.length).sealOpen cause

/-- A slot whose write does not verify: MRAM_UE against HUT, the slot is skipped and the capacity falls by 64 (R687);
a ring without a free slot loses its oldest block to it (R686). -/
def State.slotFails (s : State) : State :=
  let s := { s with nv := { s.nv with ringSlots := s.nv.ringSlots - 1 } }
  let s := if s.nv.ringSlots < s.nv.ring.length then s.loseOldest else s
  s.recordError
    { domain := 1, code := 0x37, origin := Origin.hw.word, action := 0 }

/-- AUDIT_FLUSH: one entry is copied, 1 µs after the last (R684); `verified` is false where a write of the block's slot did not verify. -/
def execAuditFlush (verified : Bool) (s : State) : Host.Outcome State Fault Refusal :=
  .next (if s.adl.buf.isEmpty || (s.adl.flushAt.map (fun t => decide (s.now < t + 1000))).getD false then s
    else
      let s := { s with adl := { s.adl with flushAt := some s.now } }
      if verified then s.flushOne else s.slotFails.flushOne)

/-- Advance the read mark, never back; MRAM keeps it (R693). -/
def State.markTo (s : State) (start seq : Nat) : State :=
  if !posLe s.auditMark (auditPos start seq) then s
  else
    let s := (s.put F.ADL_MARK_START 0 start).put F.ADL_MARK_SEQ 0 seq
    ({ s with nv := { s.nv with markSeq := seq, markStart := start } }).auditWrapCheck

/-- ADL_MARK: an audited write of the RWC mark (R693). -/
def execAdlMark (o : Origin) (start : Fin 65536) (seq : Fin 4294967296) (s : State) : Host.Outcome State Fault Refusal :=
  .next (s.guarded o { addr := 0x00F002300018, blk := 0x23, old := s.auditMark, new := auditPos start seq, wide := true }
    (if o.cab then 0 else 2) (fun s => s.markTo start seq))

/-- Acknowledge the records of domain `d` up to `n` in 16-bit serial order from the oldest (R666). -/
def State.ackTo (s : State) (d n : Nat) : State :=
  let q := s.errq d
  match q.recs with
  | [] => s
  | r :: _ =>
    let dist := fun (x : Nat) => (x + 65536 - r.seq) % 65536
    if 32768 ≤ dist n then s
    else
      let left := q.recs.filter (fun x => dist n < dist x.seq)
      s.setErrq d { head := (q.head + (q.recs.length - left.length)) % 16, recs := left }

/-- ERROR_ACK: a write of FAB_ERR_ACK(d); from the Open world it is refused where block d is Cabinet-owned (R658, R666). -/
def execErrorAck (o : Origin) (d : DomainId) (n : Fin 65536) (s : State) : Host.Outcome State Fault Refusal :=
  .next (if s.cabOwned d && !o.cab then s.accessError o 0 0x29 (0x00F000580008 + 0x10 * d) else s.ackTo d n)

/-- A write of FAB_ERR_SWREP takes effect (R742, Table 21.11). -/
def State.swrepEffect (s : State) (o : Origin) (v : Nat) : State :=
  let domain := bits v 0 8
  let code := bits v 8 8
  let cls := bits v 16 2
  let bad : ErrIn := { domain := 5, code := 0x33, cls := some 1, source := 0xFF, origin := o.word }
  if !bit v 26 then s
  else if !((code = 0x38 || 0xE0 ≤ code) && hasQueue domain) then s.recordError bad
  else if 2 ≤ cls && !o.cab then s.recordError { bad with code := 0x2C }
  else s.recordError { domain := domain, code := code, cls := some cls, source := bits v 18 8, origin := o.word }

/-- SWREP (R742): an audited write of a register of the error window, which any world may write (R658). -/
def execSwrep (o : Origin) (v : Nat) (s : State) : Host.Outcome State Fault Refusal :=
  .next (s.guarded o { addr := 0x00F0005A0200, blk := 5, new := v, wide := true, free := true } 0
    (fun s => s.swrepEffect o v))

/-- A fault that hardware detects is recorded or merged and acted on by its class (R659 to R665). In OFF nothing is powered that could
detect one (R48). -/
def State.detected (s : State) (e : ErrIn) : State := if s.phase = .off then s else s.recordError e

/-- HARDWARE_ERROR (R659 to R665). -/
def execHardwareError (e : ErrIn) (s : State) : Host.Outcome State Fault Refusal := .next (s.detected e)

/-- HANG: a transaction to or from the block is not completed within 1 ms (Table 21.2, code 0x45). -/
def execHang (blk : DomainId) (source : Nat) (s : State) : Host.Outcome State Fault Refusal :=
  .next (s.detected { domain := blk, code := 0x45, source := source, origin := Origin.hw.word })

end Sys2Proof.Machine
end

