-- ==== Sys2Proof/Machine/Witness.lean ====
section
/-! DEFINITION. The Witness: protected regions, results, states, proofs and events (chapter 11). -/

namespace Sys2Proof.Machine

/-- Region `r` of head `h` as it is in force. -/
def State.region (s : State) (h r : Nat) : Region := tget {} s.wit.regions (h * 16 + r)
/-- Change region `r` of head `h`. -/
def State.modRegion (s : State) (h r : Nat) (g : Region → Region) : State :=
  { s with wit := { s.wit with regions := tset {} s.wit.regions (h * 16 + r) (g (s.region h r)) } }
/-- Witness state of head `h`: 0 NORMAL, 1 FALLBACK, 2 BLANK (R409). -/
def State.witState (s : State) (h : Nat) : Nat := tget 0 s.wit.state h

/-- A RUNNING head compares (R412). -/
def State.comparing (s : State) (h : Nat) : Bool := s.get F.HDn_STATUS_STATE h = 2

/-- The Witness source of the main ICU follows the queue (R415, Table 18.2). -/
def State.witLine (s : State) : State := s.icuLine 32 (!s.wit.events.isEmpty)

/-- Queue an event record (Table 11.2), or drop and count it (R415). -/
def State.witEvent (s : State) (h frame kind regions newState : Nat) : State :=
  if 64 ≤ s.wit.events.length then (s.put F.WIT_EVT_STATUS_OVERFLOW 0 1).incSat F.WIT_EVT_STATUS_LOST
  else
    let w0 := frame % 2 ^ 32 + h * 2 ^ 32 + kind * 2 ^ 35 + regions * 2 ^ 39 + newState * 2 ^ 55
    let w1 := s.st % 2 ^ 62 + s.stState * 2 ^ 62
    { s with wit := { s.wit with events := s.wit.events ++ [(w0, w1)] } }.witLine

/-- Enabled, non-rejected regions of a head. -/
def State.liveRegions (s : State) (h : Nat) : List Nat := (List.range 16).filter (fun r => (s.region h r).en)

/-- The protected rate of a rectangle on head `h`, in pixels per second (R401). -/
def State.rectRate (s : State) (h area : Nat) : Nat :=
  area * s.get F.HDn_PCLK_KHZ h * 1000 / (s.get F.HDn_H_HTOTAL h * s.get F.HDn_V_VTOTAL h)

/-- The protected rate of the module in pixels per second: the enabled regions of the running heads (R401). -/
def State.protectedRate (s : State) : Nat :=
  (List.range 8).foldl (fun a h => if s.comparing h then
    a + s.rectRate h ((s.liveRegions h).foldl (fun b r => b + (s.region h r).w * (s.region h r).h) 0) else a) 0

/-- Is an enabled region with these settings rejected (R401)? `others` is the protected rate without it. -/
def State.regionBad (s : State) (h : Nat) (q : Region) (others : Nat) : Bool :=
  q.en && (q.w = 0 || q.h = 0 || decide (s.get F.HDn_H_HACTIVE h < q.x + q.w) || decide (s.get F.HDn_V_VACTIVE h < q.y + q.h)
    || decide (2400000000 < others + s.rectRate h (q.w * q.h)))

/-- The staged settings of WIT_RGN and WIT_RCFG as a region. -/
def State.stagedRegion (s : State) (h r : Nat) : Region :=
  let i := h * 16 + r
  { x := s.get F.WIT_RGN_X i, y := s.get F.WIT_RGN_Y i, w := s.get F.WIT_RGN_W i, h := s.get F.WIT_RGN_H i,
    en := s.on F.WIT_RCFG_EN i, action := s.get F.WIT_RCFG_ACTION i, thresh := s.get F.WIT_RCFG_THRESH i,
    clip := s.on F.WIT_RCFG_CLIP i, cls := s.get F.WIT_RCFG_CLASS i }

/-- Put settings in force, or reject them with REJ and a CFG_REJ event (R401); the count of failing frames starts at 0 (R408). -/
def State.regionSet (s : State) (h r : Nat) (frame : Nat) : State :=
  let q := s.stagedRegion h r
  let s0 := s.modRegion h r (fun q => { q with en := false })
  let bad := s0.regionBad h q s0.protectedRate
  let s := (s0.modRegion h r (fun _ => { q with en := q.en && !bad })).put F.WIT_RCFG_PENDING (h * 16 + r) 0
  let s := s.putB F.WIT_RCFG_REJ (h * 16 + r) bad
  if bad then s.witEvent h frame 7 (2 ^ r) 0 else s

/-- A write of WIT_RGN or WIT_RCFG is staged (R400). -/
def State.regionStaged (s : State) (h r : Nat) : State :=
  (s.put F.WIT_RCFG_PENDING (h * 16 + r) 1).modRegion h r (fun q => { q with stagedAt := some s.now })

/-- Settings staged before the cutoff of this latch point take effect (R400, R344). -/
def State.regionsLatch (s : State) (h frame : Nat) : State :=
  (List.range 16).foldl (fun s r => match (s.region h r).stagedAt with
    | none => s
    | some t => if t + 2000 ≤ s.now then s.regionSet h r frame else s) s

/-- A head that starts re-checks its regions (R401). -/
def State.regionsRecheck (s : State) (h : Nat) : State :=
  (List.range 16).foldl (fun s r =>
    if (s.stagedRegion h r).en && (s.region h r).stagedAt.isNone then s.regionSet h r 0 else s) s

/-- The state that Table 11.1 gives, and whether RESTORE is applied: `cur` the state, `trips` the ACTIONs of the tripped
regions, `worst` the most severe ACTION of the head's regions. A RESTORE in NORMAL is applied at once (log entry 13). -/
def witNext (cur : Nat) (trips : List Nat) (proofFail : Bool) (worst force : Nat) (restore : Bool) : Nat × Bool :=
  let a := if trips.contains 2 then 2 else if trips.contains 1 then (if cur = 0 then 1 else 2) else cur
  let b := if proofFail then max a (max worst cur) else a
  let force := if force = 3 then 0 else force
  if restore && trips.isEmpty && !proofFail && (force = 0 || cur = 0) then (force, true) else (max b force, false)

/-- The Witness part of a latch point (R409): the state for the new frame, with its events; failing counts restart when the
state changes (R408). Leaving NORMAL drives FAULT_N where POLICY says so (R677, Table 21.5). -/
def State.witLatch (s : State) (h frame : Nat) : State :=
  let s := s.regionsLatch h frame
  let cur := s.witState h
  let live := s.liveRegions h
  let trips := (live.filter (fun r => (s.region h r).tripped)).map (fun r => (s.region h r).action)
  let worst := live.foldl (fun a r => max a ((s.region h r).action % 3)) 0
  let r := witNext cur trips (s.wit.proofFail.contains h) worst (s.get F.WIT_HCTRL_FORCE h) (s.on F.WIT_HCTRL_RESTORE h)
  let s := { s with wit := { s.wit with state := tset 0 s.wit.state h r.1, proofFail := s.wit.proofFail.filter (fun x => x != h) } }
  let s := live.foldl (fun s q => s.modRegion h q (fun g =>
    { g with tripped := false, fails := if r.1 = cur then g.fails else 0 })) s
  let s := if r.1 ≠ cur ∧ cur = 0 ∧ bit s.err.faultAdd 2 then s.faultN (.policy 2) else s
  if r.2 then (s.put F.WIT_HCTRL_RESTORE h 0).witEvent h frame 6 0 r.1
  else if r.1 ≠ cur then s.witEvent h frame 5 0 r.1
  else s

/-- Comparison ends on a head (R412): the state returns to NORMAL and reads 3; FORCE and the settings stay. -/
def State.witLeave (s : State) (h : Nat) : State :=
  let s := { s with wit := { s.wit with state := tset 0 s.wit.state h 0, proofFail := s.wit.proofFail.filter (fun x => x != h) } }
  let s := (List.range 16).foldl (fun s r => s.modRegion h r (fun g => { g with tripped := false, fails := 0 })) s
  s.put F.WIT_HSTATUS_STATE h 3

/-- Does the port of head `h` transmit (R398, R430)? -/
def State.transmitting (s : State) (h : Nat) : Bool := s.get F.HDn_PORT_STATUS_LINK h = 2 && !(s.dpOf h).resume

/-- Result of one region: 0 MATCH, 1 MISMATCH, 2 NO_REF, 3 DECODE (R407), the last three numbered as the event kinds. -/
def regionResult (decode noRef : Bool) (actual expected : Nat) : Nat :=
  if decode then 3 else if noRef then 2 else if actual = expected then 0 else 1

/-- The proof compare of frame `f` (R413, R414): no difference, or none made in time, is PROOF_FAIL. -/
def State.proofCompare (s : State) (h f : Nat) (made : Bool) : State :=
  let live := s.liveRegions h
  let k := f / 64
  let inv := 2 ^ (k % 64)
  let r := (live[k % live.length]?).getD 0
  let ok := made && (live.isEmpty || s.get F.WIT_SIG_ACTUAL (h * 16 + r) ≠ s.get F.WIT_EXP_EXPECTED (h * 16 + r) ^^^ inv)
  if ok then s.incWrap F.WIT_HSTATUS_PROOF_CNT h
  else
    let s := s.put F.WIT_HSTATUS_PROOF_FAIL h 1
    let s := { s with wit := { s.wit with proofFail := s.wit.proofFail ++ [h] } }
    s.witEvent h f 4 (if live.isEmpty then 0 else 2 ^ r) 0

/-- A region's result with its two signatures. -/
structure RegionRes where
  r : Nat
  actual : Nat
  expected : Nat
  res : Nat
  deriving DecidableEq, Repr

/-- What one region's result does (R407, R408). -/
def State.regionDone (s : State) (h : Nat) (x : RegionRes) : State :=
  let i := h * 16 + x.r
  let s := if x.res < 2 then (s.put F.WIT_SIG_ACTUAL i x.actual).put F.WIT_EXP_EXPECTED i x.expected else s
  let s := s.modRegion h x.r (fun g =>
    let n := if x.res = 0 then 0 else g.fails + 1
    { g with fails := n, tripped := g.tripped || decide (x.res ≠ 0 ∧ g.thresh + 1 ≤ n) })
  if x.res = 2 then (s.put F.WIT_HSTATUS_NO_REF h 1).incSat F.WIT_LOAD_NO_REF_CNT
  else if x.res = 3 then s.put F.WIT_HSTATUS_DECODE h 1 else s

/-- Regions with result `k` as a mask. -/
def resMask (xs : List RegionRes) (k : Nat) : Nat := xs.foldl (fun a x => if x.res = k then a + 2 ^ x.r else a) 0

/-- Results of the live regions of a frame: `actual` are the signatures read back where they differ from those expected, `decode` and
`noRef` the regions whose read-back failed to decode or had no reference (R409). -/
def State.witResults (s : State) (h : Nat) (actual : List (Nat × Nat)) (decode noRef : Nat) : List RegionRes :=
  (s.liveRegions h).map (fun r =>
    let q := s.region h r
    let e := s.regionSig (s.headOf h).snap (q.x, q.y, q.w, q.h)
    let a := ((actual.find? (fun x => x.1 = r)).map (fun x => x.2 % 2 ^ 64)).getD e
    ⟨r, a, e, regionResult (!s.transmitting h || bit decode r) (bit noRef r) a e⟩)

/-- WITNESS_RESULT (R407, R408, R413 to R415): one line after the frame end. `actual` lists the signatures of regions whose
pins differed from the picture composed, `decode` and `noRef` the regions with a decoding error or an incomplete expected
signature; `proofMade` is false if the proof compare was not made in time. -/
def execWitnessResult (h : HeadId) (actual : List (Nat × Nat)) (decode noRef : Nat) (proofMade : Bool) (s : State) :
    Host.Outcome State Fault Refusal :=
  .next (if !s.comparing h then s
    else
      let f := s.get F.HDn_FRAME_NUMBER h
      let xs := s.witResults h actual decode noRef
      let s := xs.foldl (fun s x => s.regionDone h x) s
      let s := s.pmuEvent 0x18 1 h xs.length none false
      let s := s.pmuEvent 0x18 2 h (xs.filter (fun x => x.res ≠ 0)).length none false
      let s := s.put F.WIT_HSTATUS_FAIL h (resMask xs 1 + resMask xs 2 + resMask xs 3)
      let s := [1, 2, 3].foldl (fun s k => if resMask xs k = 0 then s else s.witEvent h f k (resMask xs k) 0) s
      if f % 64 = 63 then s.proofCompare h f proofMade else s)

/-- WITNESS_RESTORE (R409): an RWC field, refused from the Open world. -/
def execWitnessRestore (o : Origin) (h : HeadId) (s : State) : Host.Outcome State Fault Refusal :=
  let old := s.get F.WIT_HCTRL_FORCE h + 4 * s.get F.WIT_HCTRL_RESTORE h
  .next (s.guarded o { addr := blkAddr 0x18 (0x100 + 0x10 * h), blk := 0x18, old := old,
                       new := s.get F.WIT_HCTRL_FORCE h + 4 }
    (if !o.cab && !s.on F.WIT_HCTRL_RESTORE h then 2 else 0) (fun s => s.put F.WIT_HCTRL_RESTORE h 1))

/-- Remove the oldest event record (Table 11.10). -/
def State.witPop (s : State) : State := { s with wit := { s.wit with events := s.wit.events.drop 1 } }.witLine

/-- WITNESS_EVENT_POP (R415). -/
def execWitnessEventPop (o : Origin) (s : State) : Host.Outcome State Fault Refusal :=
  .next (s.guarded o { addr := blkAddr 0x18 0x30, blk := 0x18, new := 1, audited := false } 0 State.witPop)

end Sys2Proof.Machine
end

