-- ==== Sys2Proof/Machine/Heads.lean ====
section
/-! DEFINITION. Heads, timing and scan-out (chapter 10), with the operations on their display links (chapter 12). -/

namespace Sys2Proof.Machine

/-! ### Interrupts of a head and of its port -/

/-- A head event: its PEND bit sets if it is enabled, and PEND raises source 16 + h (Table 10.16). -/
def State.headIrq (s : State) (h b : Nat) : State :=
  if bit (s.get F.HDn_IRQ_EN h) b then (s.putBit F.HDn_IRQ_PEND h b true).icuRaise (16 + h) else s

/-- Source 24 + h follows the port's event flags while EVT_EN is 1 (Table 12.5). -/
def State.portLine (s : State) (h : Nat) : State :=
  s.icuLine (24 + h) (s.on F.HDn_PORT_CFG_EVT_EN h && (s.on F.HDn_PORT_STATUS_UNPLUG h || s.on F.HDn_PORT_STATUS_IRQ_HPD h
    || s.on F.HDn_PORT_STATUS_RETRAIN h || s.on F.HDn_PORT_STATUS_TRAIN_FAIL h || s.on F.HDn_SB_STATUS_DONE h))

/-! ### Links (R419 to R432) -/

/-- Rate codes of DisplayPort and eDP with their payload per lane in kb/s (Table 12.1). -/
def dpRates : List (Nat × Nat) :=
  [(1, 1296000), (2, 2160000), (3, 4320000), (4, 6480000), (0x10, 9670000), (0x11, 13060000), (0x12, 19340000)]

/-- Lanes of a LANES code. -/
def lanesOf (c : Nat) : Nat := if c = 0 then 1 else if c = 1 then 2 else 4
/-- Bits per component of a BPC code. -/
def bpcOf (c : Nat) : Nat := if c = 0 then 6 else if c = 1 then 8 else 10

/-- Does the head's stream fit rate code `rate` (R421)? -/
def State.fits (s : State) (h rate : Nat) : Bool :=
  let m := s.get F.HDn_PORT_CFG_MODE h
  let lanes := lanesOf (s.get F.HDn_PORT_CFG_LANES h)
  let bits3 := 3 * bpcOf (s.get F.HDn_PCLK_BPC h)
  let khz := s.get F.HDn_PCLK_KHZ h
  if m = 2 then 10 * khz * bits3 ≤ 9 * lanes * rate * 10000
  else if m = 3 then
    10 * s.get F.HDn_H_HACTIVE h * s.get F.HDn_V_VACTIVE h * bits3 * khz
      ≤ 8 * lanes * rate * 10000 * (s.get F.HDn_H_HTOTAL h * s.get F.HDn_V_VTOTAL h)
  else match dpRates.find? (fun p => p.1 = rate) with
    | none => false
    | some p => khz * bits3 ≤ lanes * p.2

/-- The rates a port may try, in order: the fixed one, or with AUTO every rate that carries the stream up to the sink's
maximum, lowest first (Table 12.1, R427). -/
def State.rateLadder (s : State) (h : Nat) : List Nat :=
  let c := s.get F.HDn_PORT_CFG_RATE h
  if c ≠ 0 ∨ 2 ≤ s.get F.HDn_PORT_CFG_MODE h then (if s.fits h c then [c] else [])
  else (dpRates.map (fun p => p.1)).filter (fun r => r ≤ (s.dpOf h).sinkMax && s.fits h r)

/-- Put the sink's EDID in HDn_EDID, up to 4 blocks (Table 12.12). -/
def State.holdEdid (s : State) (h : Nat) (e : List Byte) : State :=
  let n := min 4 (e.length / 128)
  let s := (List.range 128).foldl (fun s i => s.put F.HDn_EDID_BYTES (h * 128 + i) (if 4 * i < 128 * n then fieldLE e (4 * i) 4 else 0)) s
  s.put F.HDn_PORT_STATUS_EDID_BLOCKS h n

/-- Read the sink: maximum rate, MSA_TIMING_PAR_IGNORED and EDID (R425). -/
def State.readSink (s : State) (h : Nat) (k : Sink) : State :=
  (s.modDp h (fun p => { p with sinkMax := k.maxRate, msaIgnore := k.msaIgnored })).holdEdid h k.edid

/-- No configuration remains: TRAIN_FAIL, START_ERR 4 unless it was a retrain; the procedure is repeated after 1 s (R427, R432). -/
def State.trainFailed (s : State) (h : Nat) : State :=
  let re := (s.dpOf h).retrain
  let s := (s.put F.HDn_PORT_STATUS_TRAIN_FAIL h 1).put F.HDn_PORT_STATUS_LINK h 0
  let s := if re || s.get F.HDn_STATUS_STATE h ≠ 1 then s else s.put F.HDn_STATUS_START_ERR h 4
  (s.modDp h (fun p => { p with training := false, retryWait := true, retryFrom := s.now })).portLine h

/-- Begin training at the first configuration, or at the rate in use for a retrain (R425, R427, R432). -/
def State.trainBegin (s : State) (h : Nat) (retrain : Bool) : State :=
  let ladder := if retrain then [s.get F.HDn_PORT_STATUS_RATE_ACT h] else s.rateLadder h
  let s := s.modDp h (fun p => { p with retrain := retrain, retryWait := false, attempts := 0, linkStarted := true })
  let s := if retrain then (s.put F.HDn_PORT_STATUS_RETRAIN h 1).incSat F.HDn_PORT_STATUS_RETRAINS h else s
  match ladder with
  | [] => s.trainFailed h
  | r :: _ => ((s.modDp h (fun p => { p with training := true, rateTry := r })).put F.HDn_PORT_STATUS_LINK h 1).portLine h

/-- Link start (R425): a DisplayPort port waits for HPD first; every other port trains, reading its sink. -/
def State.linkStart (s : State) (h : Nat) (k : Sink) : State :=
  if s.get F.HDn_PORT_CFG_MODE h = 0 && !s.on F.HDn_PORT_STATUS_HPD h then
    s.modDp h (fun p => { p with waitHpd := true, linkStarted := true })
  else (s.readSink h k).trainBegin h false

/-- The link goes down (R428): transmitters off; a DSI port leaves its lanes in LP-11. -/
def State.linkDown (s : State) (h : Nat) : State :=
  let s := s.modDp h (fun p => { p with training := false, waitHpd := false, retryWait := false, linkStarted := false, resume := false })
  let s := (s.put F.HDn_PORT_STATUS_LANES_ACT h 0).put F.HDn_PORT_STATUS_RATE_ACT h 0
  s.put F.HDn_PORT_STATUS_LINK h (if 2 ≤ s.get F.HDn_PORT_CFG_MODE h then 3 else 0)

/-- BL_EN and BL_PWM of head `h`: high only when it is asked for, permitted and driven by pins (R433, R436). -/
def State.blDrive (s : State) (h : Nat) : State :=
  let want := s.on F.HDn_PANEL_BL h && (s.dpOf h).blPermitted
  { s with pins := { s.pins with
      blEn := if want then s.pins.blEn ||| (1#8 <<< h) else s.pins.blEn &&& ~~~(1#8 <<< h),
      blPwmDuty := tset 0 s.pins.blPwmDuty h (if want ∧ s.get F.HDn_PANEL_BL_MODE h = 0 then (s.headOf h).dutyNow else 0) } }

/-- Backlight off: BL_EN falls, BL_PWM stops low (R434). -/
def State.blOff (s : State) (h : Nat) : State := (s.modDp h (fun p => { p with blPermitted := false })).blDrive h

/-- PANEL_PWR_EN of head `h`. -/
def State.panelPin (s : State) (h : Nat) (v : Bool) : State :=
  { s with pins := { s.pins with panelPwrEn := if v then s.pins.panelPwrEn ||| (1#8 <<< h) else s.pins.panelPwrEn &&& ~~~(1#8 <<< h) } }

/-- AGG_DEMAND is the sum of the heads' demands (Table 10.19). -/
def State.aggDemand (s : State) : State :=
  s.put F.CMP_FETCH_STATUS_AGG_DEMAND 0 (((List.range 8).map (fun h => s.get F.HDn_FETCH_DEMAND h)).foldl (· + ·) 0)

/-- A head stops: backlight off, link down, STOPPED; comparison ends; pending flips stay (R381, R412, R437). -/
def State.headStopped (s : State) (h : Nat) : State :=
  let s := ((s.blOff h).linkDown h).witLeave h
  let s := ((s.put F.HDn_STATUS_STATE h 0).put F.HDn_STATUS_LOCKED h 0).put F.HDn_STATUS_HOLDOVER h 0
  let s := ((s.put F.HDn_STATUS_FALLBACK h 0).put F.HDn_FETCH_DEMAND h 0).aggDemand
  s.modHead h (fun r => { r with running := false, latched := false, stopReq := false, synthLocked := false, imageStart := false })

/-! ### Telltales shown (R108, R111 to R114) -/

/-- State of a telltale at a latch point: the last one received at least 2 ms before it (R112). -/
def Telltale.stateAt (t : Telltale) (now : Nat) : Nat :=
  if t.timedOut then t.timeoutState
  else ((t.history.find? (fun p => decide (p.1 + 2000000 ≤ now))).map (fun p => p.2)).getD t.dflt

/-- Is a telltale in state `v` lit at `st` (R108)? -/
def telltaleLit (v st : Nat) : Bool :=
  let half := st % 1000000000
  v = 1 || (v = 2 && decide (half < 500000000)) || (v = 3 && decide (half % 500000000 < 250000000))

/-- Does head `h` show telltales? -/
def State.showsTelltales (s : State) (h : Nat) : Bool := s.tell.entries.any (fun t => bit t.headMask h)

/-- Telltale states for the new frame (R112). -/
def State.telltaleLatch (s : State) (h : Nat) : State :=
  { s with tell := { s.tell with next := tset [] s.tell.next h (s.tell.entries.map (fun t => t.stateAt s.now)) } }

/-- Telltales at a frame start: L is the first such start; each telltale of the head is lit on every frame that starts in [L, L + 2 s)
(R113, R114), and else shows the state latched, flashing by ST at the frame start (R108; log entry 27). -/
def State.telltaleStart (s : State) (h : Nat) : State :=
  if !s.showsTelltales h then s
  else
    let s := match s.tell.lampFrom with
      | some _ => s
      | none => { s.putB F.CFG_STATUS_LAMP_ACTIVE 0 (!s.tell.lampOff) with tell := { s.tell with lampFrom := some s.now } }
    let lamp := !s.tell.lampOff && decide (s.now < s.tell.lampFrom.getD s.now + 2000000000)
    let latched := tget [] s.tell.next h
    let es := s.tell.entries
    let states := (List.range es.length).map (fun i =>
      if !bit (es.getD i {}).headMask h then 0 else if lamp then 1 else latched.getD i 0)
    let lit := (List.range es.length).filter (fun i => telltaleLit (states.getD i 0) s.st)
    let s := s.modHead h (fun r => { r with snap := { r.snap with
      glyphs := lit.map (fun i => ((es.getD i {}).glyph, (es.getD i {}).x, (es.getD i {}).y)) } })
    { s with tell := { s.tell with shown := tset [] s.tell.shown h states } }

/-! ### Latch point (R346, R385, R403) -/

/-- Bytes per line time that a layer demands, doubled for a transform (R384). -/
def Desc.demand (d : Desc) : Nat :=
  if d.dstH = 0 then 0
  else d.tw * layerBpp d.format * ((d.th + d.dstH - 1) / d.dstH) * (if d.transform % 16 = 0 then 1 else 2)

/-- Is layer `l` of head `h` bound to a Drawer of class GENERAL (R20)? Its fetch is of class NORMAL; that of firmware-owned layers and of
ASSURED Drawers' is HIGH (R386). -/
def State.generalLayer (s : State) (h l : Nat) : Bool := decide (s.ownerOf h l < 64) && !s.assured (s.ownerOf h l)

/-- Enabled layers of head `h` with their demand; none is fetched off NORMAL (R357), nor are GENERAL layers while throttle level 4 switches
them off (R78). -/
def State.demands (s : State) (h : Nat) : List (Nat × Nat) :=
  if s.witState h ≠ 0 then []
  else (List.range 8).filterMap (fun l =>
    if decide (4 ≤ s.effThrottle) && s.generalLayer h l then none else (s.layer h l).active.map (fun d => (l, d.demand)))

/-- A rate of `b` bytes per line time in units of 10 MB/s. -/
def State.rate10 (s : State) (h b : Nat) : Nat := b * s.get F.HDn_PCLK_KHZ h / (s.get F.HDn_H_HTOTAL h * 10000)

/-- The layers that a share in proportion to demand would leave below 16 KiB, and that take 16 KiB instead (R385), after `n` rounds. -/
def bufFloor (ds : List (Nat × Nat)) : Nat → List (Nat × Nat)
  | 0 => []
  | n + 1 =>
    let small := bufFloor ds n
    let rest : Nat := (ds.filter (fun p => !small.contains p)).foldl (fun a p => a + p.2) 0
    ds.filter (fun p => small.contains p || decide (p.2 * (2 ^ 20 - 16384 * small.length) < 16384 * rest))

/-- Line-buffer shares (R385): in proportion to demand, at least 16 KiB each. DEDUCED where the minimum binds, log entry 14. -/
def bufShares (ds : List (Nat × Nat)) : List (Nat × Nat) :=
  let small := bufFloor ds ds.length
  let rest : Nat := (ds.filter (fun p => !small.contains p)).foldl (fun a p => a + p.2) 0
  ds.map (fun p => (p.1, if small.contains p || rest = 0 then 16384 else p.2 * (2 ^ 20 - 16384 * small.length) / rest))

/-- Fetch set up for the new frame (R384, R385). -/
def State.fetchLatch (s : State) (h : Nat) : State :=
  let ds := s.demands h
  let s := s.put F.HDn_FETCH_DEMAND h (s.rate10 h (ds.foldl (fun a p => a + p.2) 0))
  let s := s.modHead h (fun r => { r with fetchShares := bufShares ds })
  s.aggDemand

/-- The snapshot that the new frame is composed from (R403). DESIGN CHOICE (log entry 55): GENERAL layers that throttle level 4 switches off
(R78) are hidden frame by frame, and show again with the first frame latched below level 4. -/
def State.takeSnap (s : State) (h frame : Nat) : Snap :=
  let r := s.headOf h
  let e := r.entry
  let layers := (List.range 8).filterMap (fun l =>
    let y := s.layer h l
    match y.active, y.place, y.lastDst with
    | some d, _, _ => some ({ l := l, desc := some d, base := y.base, general := s.generalLayer h l } : SnapLayer)
    | none, some a, some q => some { l := l, place := some a, rect := q, general := s.generalLayer h l }
    | _, _, _ => none)
  let ws := tget [] s.shelf.windows h
  let windows := (List.range ws.length).filterMap (fun w => (ws[w]?).map (fun p =>
    if bit r.sbuf w then { p.1 with buf := p.2 } else p.1))
  { witState := s.witState h, layers := layers, windows := windows, bank := r.bank, mtxEn := s.on F.HDn_PIPE_MTX_EN h,
    lutEn := s.on F.HDn_PIPE_LUT_EN h, dither := s.on F.HDn_PIPE_DITHER_EN h, bpc := bpcOf (s.get F.HDn_PCLK_BPC h),
    frame := frame % 2 ^ 32, bgColour := e.bgColour, bgAsset := e.bgAsset, fallbackAsset := e.fallbackAsset,
    clips := (s.liveRegions h).filterMap (fun i => let q := s.region h i; if q.clip then some (q.x, q.y, q.w, q.h) else none),
    noGeneral := decide (4 ≤ s.effThrottle) }

/-- Matrix and gamma banks swap if SWAP was set before this latch point's cutoff (R340). -/
def State.pipeLatch (s : State) (h : Nat) : State :=
  match (s.headOf h).swapAt with
  | none => s
  | some t =>
    if t + 2000 ≤ s.now then
      ((s.swapBanks h).put F.HDn_PIPE_SWAP h 0).modHead h (fun r => { r with swapAt := none, outNext := { r.outNext with pipeSwap := true } })
    else s

/-- Safety-plane windows flip (R356); those written after the cutoff stay for the next latch point (R344). -/
def State.sflipLatch (s : State) (h : Nat) : State :=
  let now := (s.headOf h).sflipBy s.now
  (s.put F.HDn_SFLIP_WINDOWS h (s.get F.HDn_SFLIP_WINDOWS h &&& (65535 ^^^ now))).modHead h (fun r =>
    { r with sflips := r.sflips.filter (fun p => decide (s.now < p.1 + 2000)), sbuf := r.sbuf ^^^ now,
             outNext := { r.outNext with sflipped := now } })

/-- LATCH_POINT: the head decides its pending flips, swaps banks and safety windows, sets the Witness and telltale states, takes
the snapshot of the new frame and divides its line buffers (R340, R346, R356, R385, R400, R403, R409). -/
def execLatchPoint (h : HeadId) (s : State) : Host.Outcome State Fault Refusal :=
  .next (if s.get F.HDn_STATUS_STATE h ≠ 2 || (s.headOf h).latched || (s.get F.HDn_CTRL_MODE h = 4 && !s.candTaken h s.now) then s
    else
      let f := if (s.headOf h).first then 0 else s.get F.HDn_FRAME_NUMBER h + 1
      let s := s.modHead h (fun r => { r with outNext := {}, latched := true, latchedAt := s.now, latchAt := s.now + s.periodNs h })
      let s := (((s.layersLatch h).pipeLatch h).sflipLatch h).witLatch h f
      let s := (s.telltaleLatch h).fetchLatch h
      s.modHead h (fun r => { r with next := s.takeSnap h f, nextWit := s.witState h }))

/-! ### Frame start and end (R374 to R376, R392 to R394) -/

/-- Reference of a head in mode 1 or 2 present (R376). -/
def State.refPresent (s : State) (h : Nat) : Bool :=
  if s.get F.HDn_CTRL_MODE h = 1 then s.get F.HDn_STATUS_STATE 0 = 2 else s.on F.PLK_STATUS_TICK_OK

/-- Interval between ticks of a head in mode 1 or 2, in ns (Table 10.2, R464). -/
def State.tickNs (s : State) (h : Nat) : Nat :=
  (if s.get F.HDn_CTRL_MODE h = 1 then s.periodNs 0 else s.get F.PLK_TICK_PERIOD_Q / 65536) / 2 ^ s.get F.HDn_CTRL_DIV h

/-- R373: nominal period times DIV within 0.4 % of the reference period. -/
def State.ratioOk (s : State) (h : Nat) : Bool :=
  let p := s.periodNs h
  let t := s.tickNs h
  decide (1000 * p ≤ 1004 * t ∧ 996 * t ≤ 1000 * p)

/-- Largest move of the trim over one frame, in units of 0.1 ppm: 50 ppm per ms (R370). -/
def State.trimStep (s : State) (h : Nat) : Nat := s.periodNs h * 500 / 1000000

/-- A measured phase error `e` in ns at a frame start of a head in mode 1 or 2 (R374, R375): PHASE_ERR, slip or trim, LOCKED. The
trim moves toward reducing `e` by a free amount within R370's bounds. -/
def State.phaseErr (s : State) (h : Nat) (e : Int) : State :=
  let big := decide (2 * s.linesNs h 1 < e.natAbs)
  let s := s.put F.HDn_TRIM_PHASE_ERR h (ux (clampI (e / 10) (-8192) 8191) 14)
  let was := s.on F.HDn_STATUS_LOCKED h
  let s := if big then
      let t := s.tickNs h
      let n := if s.linesNs h 1 = 0 ∨ t = 0 then 0 else ((-e) % (t : Int)).toNat / s.linesNs h 1
      (s.put F.HDn_STATUS_SLIP h 1).modHead h (fun r => { r with slipLines := n, lockCount := 0 })
    else
      let step := Config.freeValue s.freeCtr % (s.trimStep h + 1)
      let old := sx (s.get F.HDn_TRIM_TRIM h) 18
      let new := clampI (if 0 < e then old - step else if e < 0 then old + step else old) (-50000) 50000
      (s.fresh.put F.HDn_TRIM_TRIM h (ux new 18)).modHead h (fun r =>
        { r with slipLines := 0, lockCount := if e.natAbs ≤ 100 then min 8 (r.lockCount + 1) else 0 })
  let n := (s.headOf h).lockCount
  let lock := if big || decide (1000 < e.natAbs) then false else was || decide (8 ≤ n)
  let s := (s.putB F.HDn_STATUS_LOCKED h lock).put F.HDn_STATUS_HOLDOVER h 0
  if big || was != lock then s.headIrq h 3 else s

/-- Enter holdover: the last trim stays, LOCKED clears (R375, R376). -/
def State.holdover (s : State) (h : Nat) : State :=
  let was := s.on F.HDn_STATUS_LOCKED h
  let s := (s.put F.HDn_STATUS_HOLDOVER h 1).put F.HDn_STATUS_LOCKED h 0
  let s := s.modHead h (fun r => { r with lockCount := 0 })
  if was then s.headIrq h 3 else s

/-- FRAME_SYNC rises and stays high for 1 us (R69). -/
def State.frameSync (s : State) : State := { s with pins := { s.pins with frameSync := true, frameSyncFall := s.now + 1000 } }

/-- Timing part of a frame start: phase error and lock in modes 1 and 2 (R373 to R376). -/
def State.frameTiming (s : State) (h : Nat) (e : Int) : State :=
  let m := s.get F.HDn_CTRL_MODE h
  if m ≠ 1 ∧ m ≠ 2 then s
  else if !s.refPresent h then (if s.on F.HDn_STATUS_HOLDOVER h then s else s.holdover h)
  else if m = 2 && !s.ratioOk h then
    let was := s.on F.HDn_STATUS_LOCKED h
    let s := (((s.put F.HDn_STATUS_LOCK_RANGE h 1).put F.HDn_STATUS_LOCKED h 0).put F.HDn_TRIM_TRIM h 0).modHead h (fun r => { r with lockCount := 0 })
    if was then s.headIrq h 3 else s
  else (s.put F.HDn_STATUS_LOCK_RANGE h 0).phaseErr h e

/-- The first row of a layer that the head may not fetch, with its error code (R125, R126). -/
def State.rowRefused (s : State) (base : Nat) (d : Desc) : Option (Nat × Nat) :=
  let bpp := layerBpp d.format
  (List.range d.srcH).findSome? (fun y =>
    let a := base + d.addr + d.pitch * (d.srcY + y) + d.srcX * bpp
    let e := s.dramErr Origin.hw false a (d.srcW * bpp)
    if e = 0 then none else some (e, a))

/-- Refused fetches of the frame's layers are recorded against the head (R735), one of each layer and frame (log entry 43). -/
def State.fetchErrors (s : State) (h : Nat) : State :=
  let p := (s.headOf h).snap
  if p.witState ≠ 0 then s
  else p.layers.foldl (fun s e =>
    match (e.desc.filter Desc.enable).bind (s.rowRefused e.base) with
    | none => s
    | some (c, a) => s.accessError Origin.hw (0x10 + h) c a) s

/-- Capture commands of head `h` that run: Drawer, queue and entry number. -/
def State.capturing (s : State) (h : Nat) : List (Nat × Cmd) :=
  (List.range 64).flatMap (fun d => ((s.cmds d).filter (fun c =>
    c.stage = .running && c.opcode = 0x20 && c.body 0 1 = 1 && c.body 2 1 = h)).map (fun c => (d, c)))

/-- The frame that starts is the one that a waiting CAPTURE takes: the first that starts at least 20 us after its dispatch (R363). -/
def State.captureFrame (s : State) (h : Nat) : State :=
  let cs := s.capturing h
  s.modHead h (fun r =>
    let is := fun (x : Capture) (p : Nat × Cmd) => x.d = p.1 && x.q = p.2.queue && x.seq = p.2.seq
    let old := r.captures.filter (fun x => cs.any (is x))
    let new := cs.filter (fun p => p.2.startedAt + 20000 ≤ s.now && !old.any (fun x => is x p))
    { r with captures := old ++ new.map (fun p => { d := p.1, q := p.2.queue, seq := p.2.seq, snap := r.snap }) })

/-- A frame starts (R383, R392, R393): frame number, ST, snapshot, Witness state, telltales, transmission after a retrain. -/
def State.frameStart (s : State) (h : Nat) (minLeadUs : Nat) (e : Int) : State :=
  let r := s.headOf h
  if s.get F.HDn_STATUS_STATE h ≠ 2 || !r.latched then s
  else
    let f := if r.first then 0 else s.get F.HDn_FRAME_NUMBER h + 1
    let lines := if r.first || s.linesNs h 1 = 0 then 0 else (s.now - r.startAt + s.linesNs h 1 / 2) / s.linesNs h 1
    let slip := decide (0 < r.slipLines)
    let s := (s.put F.HDn_FRAME_NUMBER h f).put F.HDn_FSTART_ST h (s.st % 2 ^ 62)
    let s := s.put F.HDn_FSTART_ST_STATE h s.stState
    let s := s.frameTiming h e
    let snap := { r.next with blank := s.on F.HDn_CTRL_BLANK h, frame := f % 2 ^ 32 }
    let vt := s.get F.HDn_V_VTOTAL h + (s.headOf h).slipLines
    let s := s.modHead h (fun q =>
      { q with first := false, running := true, latched := false, startAt := s.now, snap := snap, out := r.outNext,
               underrun := 0, cxNow := r.cxMiss, cxMiss := false, slipNow := slip, lockedAtStart := s.on F.HDn_STATUS_LOCKED h, linesPrev := lines,
               latchAt := s.now + s.linesNs h (vt - s.get F.HDn_CTRL_PREFETCH_LINES h),
               dutyNow := s.get F.HDn_PANEL_DUTY h })
    let s := s.fetchErrors h
    let s := (s.put F.WIT_HSTATUS_STATE h r.nextWit).putB F.HDn_STATUS_FALLBACK h (decide (r.nextWit = 1))
    let s := s.put F.HDn_FETCH_MIN_LEAD_US h (if r.underrun ≠ 0 then 0 else min minLeadUs 65535)
    let s := (s.modDp h (fun p => { p with resume := false })).blDrive h
    let s := if r.first then s.modHead h (fun q => { q with firstAt := s.now }) else s
    let s := (if s.boot.firstFrame then s else { s with boot := { s.boot with firstFrame := true, firstFrameAt := s.now } } : State).telltaleStart h
    let s := if s.get F.GFE_WINDOW_REF_HEAD = h && !s.pm.frameSyncPlyn then s.frameSync else s
    (s.captureFrame h).headIrq h 0

/-- FRAME_START (R393), with the lowest lead of the previous frame and the measured phase error in ns. -/
def execFrameStart (h : HeadId) (minLeadUs : Nat) (e : Int) (s : State) : Host.Outcome State Fault Refusal :=
  .next (s.frameStart h minLeadUs e)

/-- The four words of a frame report (Table 10.3). -/
def State.report (s : State) (h : Nat) : List Nat :=
  let r := s.headOf h
  let o := r.out
  let blanked := r.snap.blank || r.snap.witState = 2
  [s.get F.HDn_FRAME_NUMBER h,
   s.get F.HDn_FSTART_ST h + s.get F.HDn_FSTART_ST_STATE h * 2 ^ 62,
   o.flipped + o.held * 2 ^ 8 + o.late * 2 ^ 16 + o.off * 2 ^ 24 + o.cancelled * 2 ^ 32 + r.underrun * 2 ^ 40
     + o.sflipped * 2 ^ 48,
   b2n o.pipeSwap + 2 * b2n (r.snap.witState = 1) + 4 * b2n blanked + 8 * b2n r.teMissNow + 16 * b2n r.slipNow
     + 32 * b2n r.lockedAtStart + 64 * b2n r.cxNow + (r.linesPrev % 2 ^ 13) * 2 ^ 16]

/-- FRAME_END (R394): the report goes into entry (frame number mod 8); a head whose RUN was cleared stops here (R381). -/
def execFrameEnd (h : HeadId) (s : State) : Host.Outcome State Fault Refusal :=
  .next (let r := s.headOf h
    if s.get F.HDn_STATUS_STATE h ≠ 2 || !r.running then s
    else
      let k := s.get F.HDn_FRAME_NUMBER h % 8
      let ws := s.report h
      let s := (List.range 4).foldl (fun s w => s.put F.HDn_FRPT_WORD (((h : Nat) * 8 + k) * 4 + w) (ws.getD w 0)) s
      let s := s.modHead h (fun q => { q with teMissNow := false })
      let s := s.headIrq h 1
      if r.stopReq then s.headStopped h else s)

/-! ### Start and stop (R379 to R382) -/

/-- Table 10.1 for the timing registers of head `h`, but for the aggregate. -/
def State.timingOk (s : State) (h : Nat) : Bool :=
  let ha := s.get F.HDn_H_HACTIVE h
  let ht := s.get F.HDn_H_HTOTAL h
  let hf := s.get F.HDn_H_HFP h
  let hs := s.get F.HDn_H_HSYNC h
  let va := s.get F.HDn_V_VACTIVE h
  let vt := s.get F.HDn_V_VTOTAL h
  let vf := s.get F.HDn_V_VFP h
  let vs := s.get F.HDn_V_VSYNC h
  let k := s.get F.HDn_PCLK_KHZ h
  let pf := s.get F.HDn_CTRL_PREFETCH_LINES h
  320 ≤ ha && ha ≤ 7680 && ha % 2 = 0 && ha + 64 ≤ ht && ht ≤ 16384 && ht % 2 = 0
    && 4 ≤ hf && hf ≤ 1024 && hf % 2 = 0 && 4 ≤ hs && hs ≤ 1024 && hs % 2 = 0 && ha + hf + hs + 16 ≤ ht
    && 200 ≤ va && va ≤ 4320 && va + 4 ≤ vt && vt ≤ 8191 && 1 ≤ vf && 1 ≤ vs && va + vf + vs + 1 ≤ vt
    && 25000 ≤ k && k ≤ 2400000 && k * 1000 ≤ ht * vt * 240 && ht * vt * 24 ≤ k * 1000
    && ha * va * k ≤ 2000000 * (ht * vt) && 2 ≤ pf && pf ≤ 64 && pf + va + 1 ≤ vt

/-- Active pixel rate of a head in pixels per second. -/
def State.activeRate (s : State) (h : Nat) : Nat :=
  s.get F.HDn_H_HACTIVE h * s.get F.HDn_V_VACTIVE h * s.get F.HDn_PCLK_KHZ h * 1000
    / (s.get F.HDn_H_HTOTAL h * s.get F.HDn_V_VTOTAL h)

/-- START_ERR of a start, 0 for none (Table 10.5, R373, R380). -/
def State.startErr (s : State) (h : Nat) : Nat :=
  let live := (List.range 8).filter (fun g => g = h || s.get F.HDn_STATUS_STATE g = 1 || s.get F.HDn_STATUS_STATE g = 2)
  let m := s.get F.HDn_CTRL_MODE h
  let m0 := s.get F.HDn_CTRL_MODE 0
  if !s.timingOk h then 1
  else if 12000000000 < (live.map s.activeRate).foldl (· + ·) 0 then 2
  else if (h = 0 && m = 1) || (m = 1 && (m0 = 1 || m0 = 3 || m0 = 4))
      || (h = 0 && (m = 3 || m = 4) && live.any (fun g => g ≠ 0 && s.get F.HDn_CTRL_MODE g = 1)) then 3
  else 0

/-- RUN written 0 to 1 takes effect (R380): a STOPPED head checks its timing and locks its synthesiser. In a recovery start every head stays
dark (R101). -/
def State.headStart (s : State) (h : Nat) (image : Bool) : State :=
  let s := s.putImg F.HDn_CTRL_RUN h 1
  if s.get F.HDn_STATUS_STATE h ≠ 0 || s.boot.recovery then s
  else
    let e := s.startErr h
    if e ≠ 0 then s.put F.HDn_STATUS_START_ERR h e
    else (s.put F.HDn_STATUS_STATE h 1).modHead h (fun r => { r with synthLocked := false, imageStart := image, first := true })

/-- RUN written to 0 takes effect (R381, R431). -/
def State.headStop (s : State) (h : Nat) : State :=
  let s := s.putImg F.HDn_CTRL_RUN h 0
  let st := s.get F.HDn_STATUS_STATE h
  if st = 2 then (if (s.headOf h).running then s.modHead h (fun r => { r with stopReq := true }) else s.headStopped h)
  else if st = 1 then s.headStopped h
  else s

/-- Word of HDn_CTRL with RUN set to `v`. -/
def State.ctrlWord (s : State) (h v : Nat) : Nat :=
  v + 2 * s.get F.HDn_CTRL_MODE h + 16 * s.get F.HDn_CTRL_DIV h + 64 * s.get F.HDn_CTRL_BLANK h
    + 256 * s.get F.HDn_CTRL_PREFETCH_LINES h

/-- A write of HDn_CTRL that changes RUN alone. -/
def State.runWrite (s : State) (o : Origin) (h v : Nat) (k : State → State) : State :=
  if s.get F.HDn_CTRL_RUN h = v && !s.behindHeld (blkAddr (0x10 + h) 0) then s
  else s.guarded o { addr := blkAddr (0x10 + h) 0, blk := 0x10 + h, old := s.ctrlWord h (1 - v), new := s.ctrlWord h v, img := 1 } 0 k

/-- HEAD_START (R380): an audited write of HDn_CTRL with RUN 1. -/
def execHeadStart (o : Origin) (h : HeadId) (s : State) : Host.Outcome State Fault Refusal :=
  .next (s.runWrite o h 1 (fun s => s.headStart h false))

/-- HEAD_STOP (R381): an audited write of HDn_CTRL with RUN 0. -/
def execHeadStop (o : Origin) (h : HeadId) (s : State) : Host.Outcome State Fault Refusal :=
  .next (s.runWrite o h 0 (fun s => s.headStop h))

/-- SYNTHESISER_LOCK (R380): a starting head's synthesiser locks, or fails with START_ERR 5; link start of a runtime start
follows, with what the sink answers. -/
def execSynthesiserLock (h : HeadId) (ok : Bool) (sink : Sink) (s : State) : Host.Outcome State Fault Refusal :=
  .next (if s.get F.HDn_STATUS_STATE h ≠ 1 || (s.headOf h).synthLocked then s
    else if !ok then (s.put F.HDn_STATUS_START_ERR h 5).put F.HDn_STATUS_STATE h 0
    else
      let s' := s.modHead h (fun r => { r with synthLocked := true })
      if (s.headOf h).imageStart then s' else s'.linkStart h sink)

/-- HOLDOVER_ENTRY (R376): a head in mode 1 or 2 has lost its reference. -/
def execHoldoverEntry (h : HeadId) (s : State) : Host.Outcome State Fault Refusal :=
  .next (let m := s.get F.HDn_CTRL_MODE h
    if (m = 1 || m = 2) && s.get F.HDn_STATUS_STATE h = 2 && !s.refPresent h && !s.on F.HDn_STATUS_HOLDOVER h then s.holdover h
    else s)

/-- TE period in ns: the mean of the last four intervals, or the nominal frame period (R377). -/
def State.tePeriod (s : State) (h : Nat) : Nat :=
  match (s.headOf h).teEdges with
  | [a, _, _, _, b] => (b - a) / 4
  | _ => s.periodNs h

/-- TE_EDGE (R377): the period is measured, a latched frame starts if the latch point is PREFETCH_LINES behind, and the next
latch point follows from the edge. -/
def execTeEdge (h : HeadId) (minLeadUs : Nat) (s : State) : Host.Outcome State Fault Refusal :=
  .next (if s.get F.HDn_CTRL_MODE h ≠ 3 || s.get F.HDn_STATUS_STATE h ≠ 2 then s
    else
      let s := s.modHead h (fun r =>
        let e := r.teEdges ++ [s.now]
        { r with teEdges := e.drop (e.length - 5) })
      let s := s.put F.HDn_TE_PERIOD_US h (s.tePeriod h / 1000)
      let r := s.headOf h
      let pf := s.linesNs h (s.get F.HDn_CTRL_PREFETCH_LINES h)
      let s := if r.latched && decide (r.latchedAt + pf ≤ s.now) then s.frameStart h minLeadUs 0 else s
      s.modHead h (fun r => { r with latchAt := s.now + s.tePeriod h - pf - 20000 }))

/-- TE_MISS (R377 step 3): no edge within half a nominal frame period; the frame starts and TE_MISS is set and counted. -/
def execTeMiss (h : HeadId) (minLeadUs : Nat) (s : State) : Host.Outcome State Fault Refusal :=
  .next (if s.get F.HDn_CTRL_MODE h ≠ 3 || s.get F.HDn_STATUS_STATE h ≠ 2 || !(s.headOf h).latched
      || decide (s.now < (s.headOf h).latchedAt + s.linesNs h (s.get F.HDn_CTRL_PREFETCH_LINES h) + s.periodNs h / 2) then s
    else
      let s := (s.put F.HDn_STATUS_TE_MISS h 1).incSat F.HDn_TE_MISSES h
      let s := (s.frameStart h minLeadUs 0).modHead h (fun r => { r with teMissNow := true })
      s.headIrq h 3)

/-- Is (x, y) a pixel of layer `l` as the frame scans it: in its destination rectangle, and not switched off (R78, R389)? -/
def Snap.scans (p : Snap) (l x y : Nat) : Bool :=
  p.layers.any (fun e => e.l = l && !(e.general && p.noGeneral)
    && (e.desc.any (fun d => d.enable && inRect (d.dstX, d.dstY, d.dstW, d.dstH) x y)))

/-- LAYER_UNDERRUN (R389): from pixel `x` of line `y` the layer is composed as disabled; reported, counted, interrupt. -/
def execLayerUnderrun (h : HeadId) (l : Fin 8) (y x : Nat) (s : State) : Host.Outcome State Fault Refusal :=
  .next (let r := s.headOf h
    if !r.running || r.snap.witState ≠ 0 || !r.snap.scans l x y || bit r.underrun l then s
    else
      let ur := fun (p : Snap) => { p with underruns := p.underruns ++ [((l : Nat), y, x)] }
      let s := s.modHead h (fun r =>
        { r with underrun := setBit r.underrun l, snap := ur r.snap,
                 captures := r.captures.map (fun k => if k.snap.frame = r.snap.frame then { k with snap := ur k.snap } else k) })
      let s := s.put F.HDn_STATUS_UNDERRUN h 1
      let c := s.get F.HDn_URCNT_COUNT h
      let n := bits c (8 * l) 8
      let own := s.ownerOf h l
      let s := s.pmuEvent (0x10 + h) 3 l 1 (if own < 64 then some own else none) (decide (own < 64))
      let s := s.put F.HDn_URCNT_COUNT h (c + (min 255 (n + 1) - n) * 2 ^ (8 * (l : Nat)))
      s.headIrq h 2)

end Sys2Proof.Machine
end

