-- ==== Sys2Proof/Machine/Gpu.lean ====
section
/-! DEFINITION. The GPU: passes, tiles, compute, contexts, the share ledger, preemption and deadlines (chapters 7 and 8). -/

namespace Sys2Proof.Machine

/-! ### Bench groups and the ledger -/

/-- Bench group `g` beside BGn_STATUS. -/
def State.bgOf (s : State) (g : Nat) : BenchGrp := tget {} s.gpu.groups g
/-- Change Bench group `g`. -/
def State.modBg (s : State) (g : Nat) (k : BenchGrp → BenchGrp) : State :=
  { s with gpu := { s.gpu with groups := tset {} s.gpu.groups g (k (s.bgOf g)) } }
/-- Put Bench group `g` in a state of R246: 0 off, 1 in service, 2 testing, 3 retired. -/
def State.setBg (s : State) (g st : Nat) : State :=
  let s := (s.put F.BGn_STATUS_STATE g st).putBit F.GFE_BG_SERVICE_IN_SERVICE 0 g (st = 1)
  (s.putBit F.GFE_BG_SERVICE_TESTING 0 g (st = 2)).putBit F.GFE_BG_SERVICE_RETIRED 0 g (st = 3)
/-- Commands that hold a Bench group, each once. -/
def State.holding (s : State) : List Hold := (s.gpu.groups.flatMap (fun p => p.2.holds)).eraseDups

/-- Credit of a context in the window, before R300. -/
def State.credit (s : State) (c : Nat) : Nat := tget 0 s.gpu.credits c

/-- Time that CX-SAFE and CX-COMP used beyond their credit (R300). -/
def State.overUse (s : State) : Nat :=
  (s.get F.GFE_CTX_LEDGER_USED 64 - s.credit 64) + (s.get F.GFE_CTX_LEDGER_USED 65 - s.credit 65)

/-- Sum of the credits of the contexts of one class. -/
def State.creditSum (s : State) (assured : Bool) : Nat :=
  s.gpu.credits.foldl (fun a p => if p.1 < 64 ∧ s.assured p.1 = assured then a + p.2 else a) 0

/-- Credit after R300: over-use comes first from GENERAL credits in proportion, then from ASSURED ones. -/
def State.effCredit (s : State) (c : Nat) : Nat :=
  let ovr := s.overUse
  let g := s.creditSum false
  let a := s.creditSum true
  let cr := s.credit c
  if s.assured c then (if ovr ≤ g ∨ a = 0 then cr else cr - (ovr - g) * cr / a)
  else if g = 0 then 0 else cr - min ovr g * cr / g

/-- ASSURED_SHORT sets in a window in which an ASSURED credit was reduced (R300). -/
def State.shortCheck (s : State) : State :=
  if s.creditSum false < s.overUse ∧ 0 < s.creditSum true then s.put F.GFE_DL_STATUS_ASSURED_SHORT 0 1 else s

/-- Dispatch tier of a context on group `g` (Table 8.2); none where it is not offered. -/
def State.tierOf (s : State) (g c : Nat) : Option Nat :=
  if c = 65 then some 1 else if c = 64 then some 2
  else
    let b := s.bgOf g
    let used := s.get F.GFE_CTX_LEDGER_USED c
    if b.resumeFirst.any (fun h => h.ctx = c) && !b.holds.any (fun h => 64 ≤ h.ctx) then some 3
    else if s.get F.GFE_CTX_SHARE_ACTIVE c = 0 then none
    else if s.assured c && decide (used < s.effCredit c) then some 4
    else if 3 ≤ s.effThrottle then none
    else if !s.assured c && decide (used < s.effCredit c) then some 5
    else if s.gpu.capacity ≠ 0 && decide (used * 1000 < s.get F.GFE_CTX_SHARE_CAP c * s.gpu.capacity) then some 6
    else none

/-- May context `c` be given work on group `g` (R246, R299, R310, R321)? A group that a CX context holds is its own until it releases it,
and one that is being restored is not offered to Drawers (R310). -/
def State.mayServe (s : State) (g c : Nat) : Bool :=
  let b := s.bgOf g
  s.bgIn g && (b.preemptFor.isNone || b.preemptFor = some c) && !b.holds.any (fun h => h.np && h.ctx ≠ c)
    && (64 ≤ c || ((b.resumeFirst.isEmpty || b.resumeFirst.any (fun h => h.ctx = c)) && b.restoreFor.isNone
        && !b.holds.any (fun h => 64 ≤ h.ctx)))
    && (s.tierOf g c).isSome

/-- The next tile of a pass: discarded ones first, then in row-major order (R266, R308). -/
def PassRun.next? (p : PassRun) : Option Nat :=
  match p.retake with
  | [] => if p.nextTile < p.tilesX * p.tilesY then some p.nextTile else none
  | t :: ts => some (ts.foldl min t)

/-- Has a dispatched PASS or COMPUTE work that group `g` can take: units of a COMPUTE, a tile to render, or tiles of an immediate pass that are
the group's? -/
def Cmd.offers (c : Cmd) (g : Nat) : Bool :=
  c.stage = .running && c.committed < c.total &&
    (c.opcode = 0x11 || (c.opcode = 0x10 && (if c.pass.tiled then c.pass.next?.isSome else c.pass.occ.contains g)))

/-- A command of context `d` with GPU work ready for group `g`. -/
def State.gpuReady (s : State) (d g : Nat) : Option Cmd := (s.cmds d).find? (fun c => c.offers g && s.maskOk c g)

/-- Contexts with work ready for group `g`. -/
def State.readyCtxs (s : State) (g : Nat) : List Nat := (List.range 66).filter (fun d => (s.gpuReady d g).isSome)

/-- The context that group `g` is offered to: the lowest tier, round robin after the context last served in it (R299). -/
def State.offerPick (s : State) (g : Nat) : Option (Nat × Nat) :=
  let cs := (s.readyCtxs g).filter (s.mayServe g)
  let tiers := cs.filterMap (s.tierOf g)
  match tiers with
  | [] => none
  | t :: ts =>
    let m := ts.foldl min t
    let xs := cs.filter (fun c => s.tierOf g c = some m)
    let last := tget 65 s.gpu.lastServed m
    ((xs.find? (fun c => last < c)).or xs.head?).map (fun c => (m, c))

/-- Give group `g` work. -/
def State.giveHold (s : State) (g : Nat) (h : Hold) : State :=
  s.modBg g (fun b => if b.holds.contains h then b else { b with holds := b.holds ++ [h] })

/-- The work that a CX context displaced from group `g` is on it again (R310). -/
def State.resumeGroup (s : State) (g : Nat) : State :=
  s.modBg g (fun b => { b with holds := b.holds ++ b.resumeFirst, resumeFirst := [], restoreFor := none })

/-- A CX command runs on a group. -/
def State.cxStarted (s : State) (c q seq : Nat) : State :=
  { s with gpu := { s.gpu with cx := s.gpu.cx.map (fun y =>
      if y.ctx = c && y.q = q && y.seq = seq then { y with started := true } else y) } }

/-- BENCH_OFFER (R299, R301, R302, R305, R310): group `g` is offered and takes work of the context picked. -/
def execBenchOffer (g : GroupId) (s : State) : Host.Outcome State Fault Refusal :=
  .next (
    let s := s.charge.shortCheck
    match s.offerPick g with
    | none => s
    | some (m, c) =>
      let s := { s with gpu := { s.gpu with lastServed := tset 65 s.gpu.lastServed m c } }
      if m = 3 then s.resumeGroup g
      else match s.gpuReady c g with
        | none => s
        | some x => (s.giveHold g { ctx := c, q := x.queue, seq := x.seq, np := x.nonpreempt }).cxStarted c x.queue x.seq)

/-! ### The budget window (R293 to R305) -/

/-- Shares of the next window (R296). -/
def State.nextActive (s : State) (c : Nat) : Nat :=
  if c = 64 then s.get F.GFE_PLAN_COMP_MIN
  else if c = 65 then s.get F.GFE_PLAN_SAFE_MIN
  else
    let sh := s.get F.GFE_CTX_SHARE_SHARE c
    if s.assured c then sh
    else
      let u := 1000 - s.get F.GFE_PLAN_SAFE_MIN - s.get F.GFE_PLAN_COMP_MIN - s.get F.GFE_PLAN_ASSURED_MIN
      let sum := (List.range 64).foldl (fun a d => if s.drwState d = 0 || s.assured d then a else a + s.get F.GFE_CTX_SHARE_SHARE d) 0
      if sum ≤ u then sh else sh * u / sum

/-- Has the reference head, running, started a frame since the window in progress opened (R293)? -/
def State.frameOpens (s : State) : Bool :=
  let h := s.get F.GFE_WINDOW_REF_HEAD
  s.get F.HDn_STATUS_STATE h = 2 && decide (s.gpu.windowAt < (s.headOf h).startAt)

/-- May a window open (R293, R294): at a frame start of the reference head, 2 x WN after the last one opened, or WN after it while the head
is not running? -/
def State.windowDue (s : State) : Bool :=
  let wn := s.get F.GFE_WINDOW_NOMINAL * 10
  s.frameOpens || decide (s.gpu.windowAt + 2 * wn ≤ s.now)
    || (s.get F.HDn_STATUS_STATE (s.get F.GFE_WINDOW_REF_HEAD) ≠ 2 && decide (s.gpu.windowAt + wn ≤ s.now))

/-- Open a budget window (R294, R296, R304). -/
def State.windowStart (s : State) : State :=
  let s := s.charge.shortCheck
  let n := s.groupsIn.length
  let wn := s.get F.GFE_WINDOW_NOMINAL * 10
  let act := (List.range 66).map (fun c => (c, s.nextActive c))
  let s := act.foldl (fun s p =>
    let c := p.1
    let s := (s.put F.GFE_CTX_LEDGER_LAST c (s.get F.GFE_CTX_LEDGER_USED c)).put F.GFE_CTX_LEDGER_USED c 0
    (s.put F.GFE_CTX_SHARE_ACTIVE c p.2).put F.GFE_CTX_SHARE_PENDING c 0) s
  let s := (s.incWrap F.GFE_WINDOW_NUMBER).putB F.GFE_WINDOW_FREE_RUN 0 (!s.frameOpens)
  let s := s.put F.GFE_WINDOW_GROUPS 0 (s.groupsIn.foldl setBit 0)
  { s with gpu := { s.gpu with windowAt := s.now, windowUse := 0, capacity := n * wn,
                               credits := (act.map (fun p => (p.1, p.2 * n * wn / 1000))).filter (fun p => p.2 ≠ 0),
                               rawShare := ((List.range 64).map (fun d => (d, s.get F.GFE_CTX_SHARE_SHARE d))).filter (fun p => p.2 ≠ 0) } }

/-- WINDOW_START (R293 to R295): not while the GPU is gated in DIM, PARK or HOLD. -/
def execWindowStart (s : State) : Host.Outcome State Fault Refusal :=
  .next (if s.get F.PWR_STATUS_STATE ≠ 0 || !s.pdOnB 4 || !s.windowDue then s else s.windowStart)

/-- A SHARE written (R304): pending until the next window start. For contexts 64 and 65 writes are ignored (Table 8.9). -/
def State.shareWrite (s : State) (c v : Nat) : State :=
  if 64 ≤ c then s
  else (s.put F.GFE_CTX_SHARE_SHARE c v).putB F.GFE_CTX_SHARE_PENDING c (v ≠ tget 0 s.gpu.rawShare c)

/-! ### CX commands, preemption and the deadline monitor (R307 to R318) -/

/-- Groups that a CX context can take at once: free, being restored, or holding only its own work (R315). -/
def State.cxTakeable (s : State) (ctx : Nat) : List Nat :=
  s.groupsIn.filter (fun g => let b := s.bgOf g
    b.preemptFor.isNone && b.holds.all (fun h => h.ctx = ctx))

/-- Groups the monitor may preempt, in the order of R315: GENERAL only, then with ASSURED work, lowest first. -/
def State.preemptible (s : State) : List Nat :=
  let ok := s.groupsIn.filter (fun g => let b := s.bgOf g
    b.preemptFor.isNone && !b.holds.isEmpty && b.holds.all (fun h => h.ctx < 64 && !h.np))
  let gen := ok.filter (fun g => (s.bgOf g).holds.all (fun h => !s.assured h.ctx))
  gen ++ ok.filter (fun g => !gen.contains g)

/-- Is a preemption under way, so that no other begins (R311)? -/
def State.saving (s : State) : Bool := s.gpu.groups.any (fun p => p.2.preemptFor.isSome)

/-- Request the preemption of group `g` for a CX context (R307): counted for the module and for each context that suffers it. -/
def State.preempt (s : State) (ctx g : Nat) : State :=
  let cs := (s.bgOf g).ctxs
  let s := s.modBg g (fun b => { b with preemptFor := some ctx, preemptAt := s.now })
  cs.foldl (fun s c => s.incSat F.GFE_CTX_STATUS_PREEMPTED c) ((s.incSat F.GFE_DL_STATUS_PREEMPTS).pmuEvent 7 2 0 1 none (!(ctxOrigin ctx).cab))

/-- Change a CX command's deadline record. -/
def State.modCx (s : State) (id : Nat) (k : CxCmd → CxCmd) : State :=
  { s with gpu := { s.gpu with cx := s.gpu.cx.map (fun x => if x.id = id then k x else x) } }

/-- A CX command takes every group that it can, and the monitor preempts the missing ones (R315, R316); none while a previous save is being
staged (R311). -/
def State.cxTake (s : State) (x : CxCmd) : State :=
  let take := s.cxTakeable x.ctx
  let miss := if s.saving then [] else s.preemptible.take (x.need - take.length)
  let s := s.modCx x.id (fun y => { y with started := !take.isEmpty })
  let s := take.foldl (fun s g => (s.giveHold g { ctx := x.ctx, q := x.q, seq := x.seq }).modBg g (fun b => { b with restoreFor := none })) s
  miss.foldl (fun s g => s.preempt x.ctx g) s

/-- CX_COMMAND_RELEASE (R290, R313 to R316): firmware releases entry `entry` on internal queue `q` of CX-COMP or CX-SAFE. It is taken as a
command with its deadline fields (Table 8.4). `ring` is the completion ring that firmware named for the queue, address and records as
a power of two, taken while the queue is empty. Without Journal records for it the queue waits (R233). -/
def execCxCommandRelease (ctx : Fin 2) (q : QueueId) (entry : List Byte) (ring : Nat × Fin 17) (s : State) :
    Host.Outcome State Fault Refusal :=
  .next (
    let s := s.charge
    let c := 64 + (ctx : Nat)
    if s.jnlFree c < 8 then s.setStall c q none true
    else
      let e := (entry ++ List.replicate 128 0).take 128
      let k := (s.iqOf c q).next
      let s := s.modIq c q (fun w => { w with next := (k + 1) % 2 ^ 32, base := if (s.cmds c).any (fun x => x.queue = q) then w.base else ring.1,
                                              log := if (s.cmds c).any (fun x => x.queue = q) then w.log else ring.2 })
      let s := (s.takeCmd c q k e true).screenCmd c q k
      match s.cmd? c q k with
      | none => s
      | some y =>
        let head := fieldLE e 0x30 1 % 8
        let x : CxCmd := { id := s.gpu.cxCtr, ctx := c, q := q, seq := k, head := head, need := max 1 (fieldLE e 0x31 1),
                           estUs := fieldLE e 0x32 2, cutoff := (s.headOf head).latchAt - s.get F.GFE_DL_CFG_GUARD_US * 1000 }
        let s := { s with gpu := { s.gpu with cxCtr := s.gpu.cxCtr + 1, cx := s.gpu.cx ++ [x] } }
        if y.stage = .fetched then s.cxTake x else s)

/-- Tiles of Drawer work that group `g` holds and a preemption discards: they are rendered again (R307, R308). -/
def State.discardTiles (s : State) (g : Nat) : State :=
  (List.range 66).foldl (fun s d => (s.cmds d).foldl (fun s c =>
    let mine := (c.pass.inTile.filter (fun p => p.1 = g)).map (fun p => p.2)
    if mine.isEmpty then s
    else (s.modCmd d c.queue c.seq (fun c =>
      { c with pass := { c.pass with inTile := c.pass.inTile.filter (fun p => p.1 ≠ g), retake := c.pass.retake ++ mine } })).incSat
        F.GFE_DL_STATUS_DISCARDED 0 mine.length |>.pmuEvent 7 3 0 mine.length none (!(ctxOrigin d).cab)) s) s

/-- The CX command of context `c` that waits for a group or runs. -/
def State.cxWork (s : State) (c : Nat) : Option CxCmd :=
  s.gpu.cx.find? (fun x => x.ctx = c && ((s.cmd? c x.q x.seq).any (fun y => y.stage = .fetched || y.stage = .running)))

/-- PREEMPTION_POINT (R307 to R310): the group's Drawer work is saved or discarded and the group is given to the preempting
context, or goes under test (66, Table 25.3) while its work resumes elsewhere. -/
def execPreemptionPoint (g : GroupId) (s : State) : Host.Outcome State Fault Refusal :=
  .next (match (s.bgOf g).preemptFor with
    | none => s
    | some c =>
      if 66 ≤ c && (s.bgOf g).holds.any (fun h => h.np) then s
      else
      let s := s.charge.discardTiles g
      if 66 ≤ c then (s.modBg g (fun b => { b with preemptFor := none, preemptAt := 0, holds := [], resumeFirst := [], restoreFor := none })).setBg g 2
      else match s.cxWork c with
      | none => s.modBg g (fun b => { b with preemptFor := none, preemptAt := 0 })
      | some x =>
        (s.modBg g (fun b => { b with preemptFor := none, preemptAt := 0, resumeFirst := b.resumeFirst ++ b.holds, restoreFor := none,
                                      holds := [{ ctx := c, q := x.q, seq := x.seq }] })).modCx x.id (fun y => { y with started := true }))

/-- PREEMPT_TIMEOUT (R312): the bound of Table 8.3 is missed; the group's island reset is called for. -/
def execPreemptTimeout (g : GroupId) (s : State) : Host.Outcome State Fault Refusal :=
  .next (match (s.bgOf g).preemptFor with
    | none => s
    | some _ => if s.now < (s.bgOf g).preemptAt + 60000 then s else s.recordError { domain := 8 + g, code := 0x42, source := 0 })

/-- PREEMPT_RESUME (R310): the preempting context releases group `g`, or, once it has, the restore of the preempted work, which is charged to
that context (R298), ends and the work is on the group again. -/
def execPreemptResume (g : GroupId) (s : State) : Host.Outcome State Fault Refusal :=
  .next (
    let s := s.charge
    if (s.bgOf g).holds.any (fun h => 64 ≤ h.ctx) then s.modBg g (fun b => b.drop (fun h => 64 ≤ h.ctx)) else s.resumeGroup g)

/-- Groups that a CX command holds or for which a preemption is under way. -/
def State.cxHeld (s : State) (x : CxCmd) : Nat :=
  ((List.range 4).filter (fun g => (s.bgOf g).holds.any (fun h => h.ctx = x.ctx && h.q = x.q && h.seq = x.seq))).length
    + ((List.range 4).filter (fun g => (s.bgOf g).preemptFor = some x.ctx)).length

/-- Would the command, by the estimate of R317, finish after its cutoff? -/
def State.cxLate (s : State) (x : CxCmd) (c : Cmd) : Bool :=
  s.cxHeld x = 0 || decide (x.cutoff < s.now + (if x.started then 0 else 100000)
    + x.estUs * 1000 * (c.total - c.committed) / c.total * x.need / s.cxHeld x)

/-- DEADLINE_EVAL (R317): the finish estimate of a CX command that is not retired; every group that can still be taken is preempted if it
would miss its cutoff. -/
def execDeadlineEval (id : Nat) (s : State) : Host.Outcome State Fault Refusal :=
  .next (
    let s := s.charge
    match s.gpu.cx.find? (fun x => x.id = id) with
    | none => s
    | some x => match s.cmd? x.ctx x.q x.seq with
      | none => s
      | some c =>
        if s.cxLate x c && !s.preemptible.isEmpty && !s.saving then
          (s.preemptible.foldl (fun s g => s.preempt x.ctx g) s).incSat F.GFE_DL_STATUS_ESCALATIONS
        else s)

/-- CX_CUTOFF_MISS (R318). -/
def execCxCutoffMiss (id : Nat) (s : State) : Host.Outcome State Fault Refusal :=
  .next (match s.gpu.cx.find? (fun x => x.id = id) with
    | none => s
    | some x =>
      if x.missed || decide (s.now < x.cutoff) then s
      else
        let s := (s.modCx id (fun y => { y with missed := true })).putBit F.GFE_DL_STATUS_MISS_HEADS 0 x.head true
        let s := (s.incSat F.GFE_DL_STATUS_MISSES).icuRaise 37
        s.modHead x.head (fun r => { r with cxMiss := true }))

/-! ### Program headers (R740) -/

/-- A program header at heap offset `p` for `stage`: its VARYINGS and ATOMICS, or the error code it ends the command with. -/
def State.program (s : State) (d p stage : Nat) : Nat ⊕ (Nat × Bool) :=
  if !s.inHeap d p 64 then .inl 4
  else
    let b := s.heapRead d p 64
    let code := fieldLE b 0xC 4
    let entry := fieldLE b 0x10 4
    let v := fieldLE b 8 1
    let sh := fieldLE b 0xA 2
    if fieldLE b 0 4 ≠ 0x50485452 || fieldLE b 4 2 ≠ 1 || fieldLE b 6 1 ≠ stage || 2 ≤ fieldLE b 7 1 || 16 < v
        || (stage = 2 && v ≠ 0) || fieldLE b 9 1 = 0 || 256 < sh || (stage ≠ 2 && sh ≠ 0) || code % 4 ≠ 0 || code < 4
        || entry % 4 ≠ 0 || code ≤ entry || fieldLE b 0x14 44 ≠ 0 then .inl 1
    else if !s.inHeap d (p + 64) code then .inl 4
    else .inr (v, bit (fieldLE b 7 1) 0)

/-! ### Passes (R248 to R283) -/

/-- A colour target (Table 7.5). -/
structure Target5 where
  addr : Nat
  pitch : Nat
  fmt : Nat
  ops : Nat
  clear : Nat
  sig : Nat
  deriving DecidableEq, Repr

/-- A pass descriptor (Table 7.4). -/
structure PassDesc where
  count : Nat
  samples : Nat
  depthFmt : Nat
  depthOps : Nat
  clearDepth : Nat
  clearStencil : Nat
  depthAddr : Nat
  depthPitch : Nat
  stream : Nat
  len : Nat
  resv : Nat
  cols : List Target5
  colResv : Nat
  deriving DecidableEq, Repr

/-- The descriptor that a PASS names. -/
def State.passDesc (s : State) (d : Nat) (c : Cmd) : PassDesc :=
  let b := s.heapRead d (c.body 0 8) 0x140
  let n := fieldLE b 0 1
  let ts := (List.range (min 8 n)).map (fun i =>
    let o := 0x40 + 32 * i
    ({ addr := fieldLE b o 8, pitch := fieldLE b (o + 8) 4, fmt := fieldLE b (o + 0xC) 1, ops := fieldLE b (o + 0xD) 1,
       clear := fieldLE b (o + 0x10) 8, sig := fieldLE b (o + 0x18) 8 } : Target5))
  { count := n, samples := fieldLE b 1 1, depthFmt := fieldLE b 2 1, depthOps := fieldLE b 3 1, clearDepth := fieldLE b 4 4,
    clearStencil := fieldLE b 8 1, depthAddr := fieldLE b 0x10 8, depthPitch := fieldLE b 0x18 4, stream := fieldLE b 0x20 8,
    len := fieldLE b 0x28 4, resv := fieldLE b 9 7 + fieldLE b 0x1C 4 + fieldLE b 0x2C 20, cols := ts,
    colResv := (List.range (min 8 n)).foldl (fun a i => a + fieldLE b (0x40 + 32 * i + 0xE) 2) 0 }

/-- Bytes per pixel of a render target (Table 7.6), 0 for an undefined format. -/
def targetBpp (f : Nat) : Nat :=
  if f = 1 then 2 else if f = 2 then 3 else if f = 3 ∨ f = 4 ∨ f = 5 ∨ f = 0x11 ∨ f = 0x12 then 4 else if f = 0x10 then 8 else 0
/-- Bytes per sample of a depth format. -/
def depthBpp (f : Nat) : Nat := if f = 0 then 0 else if f = 1 then 2 else 4

/-- LOAD_OP, STORE, RESOLVE and SIG of a target. -/
def Target5.load (t : Target5) : Nat := t.ops % 4
/-- STORE. -/
def Target5.store (t : Target5) : Bool := bit t.ops 2
/-- RESOLVE. -/
def Target5.resolve (t : Target5) : Bool := bit t.ops 3
/-- SIG. -/
def Target5.hasSig (t : Target5) : Bool := bit t.ops 4
/-- Bytes per pixel as stored at the target (R254). -/
def Target5.stored (t : Target5) (samples : Nat) : Nat := targetBpp t.fmt * (if t.resolve then 1 else samples)

/-- Render area of a PASS: X0, Y0, WIDTH, HEIGHT. -/
def Cmd.area (c : Cmd) : Nat × Nat × Nat × Nat := (c.body 0x1C 2, c.body 0x1E 2, c.body 0x20 2, c.body 0x22 2)
/-- TX. -/
def Cmd.tilesX (c : Cmd) : Nat := (c.area.2.2.1 + 31) / 32
/-- TY. -/
def Cmd.tilesY (c : Cmd) : Nat := (c.area.2.2.2 + 31) / 32
/-- TOTAL of a PASS (R249). -/
def Cmd.tileTotal (c : Cmd) : Nat := c.tilesX * c.tilesY

/-- Footprint of a tile (R260). -/
def PassDesc.footprint (p : PassDesc) : Nat :=
  1024 * p.samples * ((p.cols.map (fun t => targetBpp t.fmt)).foldl (· + ·) 0 + depthBpp p.depthFmt)
/-- FB (R262). -/
def flushBytes (total footprint : Nat) : Nat := (total * footprint + 65535) / 65536 * 65536
/-- The bin area of a Tray of `size` bytes (R262). -/
def binArea (size total footprint : Nat) : Nat := size - (65536 + 2 * flushBytes total footprint)
/-- Bytes that binning a primitive takes (R263). -/
def binCost (v touched : Nat) : Nat := 48 + 16 * v + (if 256 < touched then 16 else 8 * touched)

/-- Does a pass read its destination (R258)? -/
def PassDesc.readsDst (p : PassDesc) (c : Cmd) : Bool :=
  p.cols.any (fun t => t.load = 1) || (p.depthFmt ≠ 0 && p.depthOps % 4 = 1) || bit (c.body 0x24 1) 3

/-- Has context `d` replay protection (R238)? -/
def State.replayProt (s : State) (d : Nat) : Bool := decide (d < 64) && s.on F.DRW_INFO_REPLAY d

/-- The mode of a pass: true for tiled (R258). -/
def State.passTiled (s : State) (d : Nat) (c : Cmd) (p : PassDesc) : Bool :=
  let m := c.body 0x24 1 % 4
  let force := s.get F.GFE_PASS_CFG_FORCE
  let tray := c.body 0x18 3
  if s.replayProt d && p.readsDst c then true
  else if m = 1 then true
  else if m = 2 || tray = 0 then false
  else if force = 1 then true
  else if force = 2 then false
  else if c.tileTotal < s.get F.GFE_PASS_CFG_MIN_TILED_TILES then false
  else if c.body 0x28 4 ≠ 0 && decide (binArea (tray * 65536) c.tileTotal p.footprint
      < c.body 0x28 4 * 4 * s.get F.GFE_PASS_CFG_BIN_EST) then false
  else true

/-- Header of a signature table at heap offset `o` (Table 7.9): VALID, WIDTH, HEIGHT, FORMAT, PITCH, SURFACE, SERIAL. -/
structure SigHead where
  valid : Bool
  w : Nat
  h : Nat
  fmt : Nat
  pitch : Nat
  surface : Nat
  serial : Nat
  deriving DecidableEq, Repr

/-- Read a signature-table header. -/
def State.sigHead (s : State) (d o : Nat) : SigHead :=
  let b := s.heapRead d o 64
  { valid := bit (fieldLE b 0 4) 0, w := fieldLE b 4 2, h := fieldLE b 6 2, fmt := fieldLE b 8 1, pitch := fieldLE b 0xC 4,
    surface := fieldLE b 0x10 8, serial := fieldLE b 0x18 8 }

/-- The header matches a target and the render area (R279). -/
def SigHead.fits (x : SigHead) (t : Target5) (a : Nat × Nat × Nat × Nat) : Bool :=
  x.surface = t.addr && x.pitch = t.pitch && x.fmt = t.fmt && a.1 + a.2.2.1 ≤ x.w && a.2.1 + a.2.2.2 ≤ x.h

/-- Bytes of the table: header and one entry per tile of the surface (R279). -/
def SigHead.bytes (x : SigHead) : Nat := 64 + 8 * ((x.w + 31) / 32 * ((x.h + 31) / 32))

/-- Every command of a draw stream has an opcode of Table 7.7; END ends it early (R255). -/
def streamOk (b : List Byte) : Nat → Bool
  | 0 => true
  | n + 1 =>
    let op := fieldLE b 0 1
    if op = 0x1F then true
    else ((1 ≤ op && op ≤ 7) || op = 0x10 || op = 0x11) && streamOk (b.drop 32) n

/-- Check of a PASS body and descriptor (R248 to R257): 0, FORMAT or HEAP_RANGE. -/
def State.passCheck (s : State) (d : Nat) (c : Cmd) : Nat :=
  let a := c.area
  let mode := c.body 0x24 1
  let tray := c.body 0x18 3 * 65536
  if c.body 0x1B 1 ≠ 0 || c.body 0x26 2 ≠ 0 || c.body 0x2C 20 ≠ 0 || mode % 4 = 3 || 16 ≤ mode || 16 ≤ c.body 0x25 1
      || a.1 % 32 ≠ 0 || a.2.1 % 32 ≠ 0 || a.2.2.1 = 0 || 16384 < a.2.2.1 || a.2.2.2 = 0 || 16384 < a.2.2.2
      || c.body 0 8 % 256 ≠ 0 || c.body 0x10 8 % 65536 ≠ 0 then 1
  else if !s.inHeap d (c.body 0 8) 0x140 then 4
  else
    let p := s.passDesc d c
    let tiled := s.passTiled d c p
    let badCol := fun (t : Target5) => targetBpp t.fmt = 0 || t.load = 3 || 32 ≤ t.ops || (t.hasSig && t.sig % 64 ≠ 0)
    if 8 < p.count || !(p.samples = 1 || p.samples = 2 || p.samples = 4) || 3 < p.depthFmt || p.depthOps % 4 = 3
        || 8 ≤ p.depthOps || p.resv ≠ 0 || p.colResv ≠ 0 || p.cols.any badCol || p.stream % 32 ≠ 0 || p.len % 32 ≠ 0 then 1
    else if tiled && tray = 0 then 1
    else if tray ≠ 0 && tray < 65536 + 2 * flushBytes c.tileTotal p.footprint + 2 ^ 20 then 1
    else
      let ext := fun (addr pitch bpp : Nat) => s.inHeap d addr (pitch * (a.2.1 + a.2.2.2 - 1) + (a.1 + a.2.2.1) * bpp)
      let sigBad := fun (t : Target5) => t.hasSig && (let x := s.sigHead d t.sig
        !((a.2.2.1 % 32 = 0 || a.1 + a.2.2.1 = x.w) && (a.2.2.2 % 32 = 0 || a.2.1 + a.2.2.2 = x.h)))
      if p.cols.any (fun t => !ext t.addr t.pitch (t.stored p.samples)) then 4
      else if p.depthFmt ≠ 0 && !ext p.depthAddr p.depthPitch (depthBpp p.depthFmt * p.samples) then 4
      else if p.cols.any (fun t => t.hasSig && (!s.inHeap d t.sig 64 || !s.inHeap d t.sig (s.sigHead d t.sig).bytes)) then 4
      else if tray ≠ 0 && !s.inHeap d (c.body 0x10 8) tray then 4
      else if c.body 8 8 ≠ 0 && bit mode 2 && !s.inHeap d (c.body 8 8) ((c.tileTotal + 7) / 8) then 4
      else if !s.inHeap d p.stream p.len then 4
      else if p.cols.any sigBad then 1
      else if !streamOk (s.heapRead d p.stream p.len) (p.len / 32) then 1
      else 0

/-- Opcodes of the draw stream up to END (R255). -/
def streamOps (b : List Byte) : Nat → List Nat
  | 0 => []
  | n + 1 => if fieldLE b 0 1 = 0x1F then [] else fieldLE b 0 1 :: streamOps (b.drop 32) n

/-- What is bound as the stream runs: V of the vertex and of the fragment program, and the draws so far, each with its place in the stream and
the V of its vertex program (R263, R740). -/
structure Bound where
  vtx : Option Nat := none
  frag : Option Nat := none
  draws : List (Nat × Nat) := []
  deriving DecidableEq, Repr

/-- Run the binds and draws of a draw stream (R255, R740): `binds` are the stage and heap offset of each BIND_PROGRAM. A fragment program must
have the VARYINGS of the vertex program bound with it at a draw. Answers an error code of Table 6.7, or what was bound. -/
def State.streamRun (s : State) (d : Nat) : List Nat → List (Nat × Nat) → Nat → Bound → Nat ⊕ Bound
  | [], _, _, w => .inr w
  | op :: ops, binds, i, w =>
    if op = 1 then match binds with
      | [] => .inl 1
      | (st, off) :: rest =>
        if 2 ≤ st then .inl 1
        else match s.program d off st with
          | .inl e => .inl e
          | .inr (v, _) => s.streamRun d ops rest (i + 1) (if st = 0 then { w with vtx := some v } else { w with frag := some v })
    else if op = 0x10 || op = 0x11 then
      if w.vtx.isSome && w.frag.isSome && w.vtx ≠ w.frag then .inl 1
      else s.streamRun d ops binds (i + 1) { w with draws := w.draws ++ [(i, w.vtx.getD 0)] }
    else s.streamRun d ops binds (i + 1) w

/-- Ranges (address, size) overlap. -/
def rangesMeet (a b : Nat × Nat) : Bool := 0 < a.2 && 0 < b.2 && a.1 < b.1 + b.2 && b.1 < a.1 + a.2

/-- Is the pass held because a dispatched, unretired pass uses an overlapping Tray or signature table (R267)? -/
def State.passHeld (s : State) (mine : List (Nat × Nat)) : Bool :=
  (List.range 66).any (fun d => (s.cmds d).any (fun c =>
    c.opcode = 0x10 && c.started && ((c.pass.trayBase, c.pass.traySize) :: c.pass.sigs).any (fun r => mine.any (rangesMeet r))))

/-- Journal records of a PASS beyond the first eight, without SIGNAL (R233). -/
def passRecs (c : Cmd) : Nat := 3 + (c.tileTotal + 127) / 128

/-- A count of the GPU front end rises: the Cabinet world's for CX-SAFE (R289). -/
def State.gfeCount (s : State) (d : Nat) (f : Fld) : State :=
  if d = 65 then { s with gpu := { s.gpu with
    cabCounts := tset 0 s.gpu.cabCounts f.num (min (2 ^ f.width - 1) (tget 0 s.gpu.cabCounts f.num + 1)) } }
  else s.incSat f

/-- Blend partition of a block that group `g` renders (R271). -/
def blendPartition (g : Nat) (b : Nat × Nat) : Nat := 4 * g + b.1 % 2 + 2 * (b.2 % 2)

/-- The announcements of a primitive: each block that it touches, with its count of quads there (R272). -/
def Prim.announced (p : Prim) : List ((Nat × Nat) × Nat) :=
  (p.quads.map Quad.block).eraseDups.map (fun b => (b, (p.quads.filter (fun q => q.block = b)).length))

/-- Could a partition of group `g` reach a limit of R274 in an immediate pass: more than 64 primitives announced for a block, or more than 512
blocks announced? -/
def PassRun.boardFull (p : PassRun) (x0 y0 g : Nat) : Bool :=
  let mine := p.prims.flatMap (fun r => (r.announced.map (fun x => x.1)).filter (fun b =>
    p.groupOf (tileAt x0 y0 p.tilesX (8 * b.1) (8 * b.2)) = some g))
  let blocks := mine.eraseDups
  blocks.any (fun b => decide (64 < (mine.filter (fun x => x = b)).length))
    || (List.range 4).any (fun k => decide (512 < (blocks.filter (fun b => blendPartition g b = 4 * g + k)).length))

/-- The save area of context `d` (Table 8.1). -/
def State.saveOf (s : State) (d : Nat) : Nat := if d < 64 then (s.drwOf d).saveBase else (s.cxSaves[d - 64]?).getD 0

/-- The colour targets of a pass with a signature table (R257). -/
def PassDesc.sigCols (p : PassDesc) : List Nat := (List.range p.cols.length).filter (fun i => ((p.cols[i]?).map Target5.hasSig).getD false)

/-- Places and sizes of the signature tables that a pass uses. -/
def State.passSigs (s : State) (d : Nat) (p : PassDesc) : List (Nat × Nat) :=
  p.sigCols.filterMap (fun i => (p.cols[i]?).map (fun t => ((s.drwOf d).heapBase + t.sig, (s.sigHead d t.sig).bytes)))

/-- Place and size of a command's Tray. -/
def State.passTray (s : State) (d : Nat) (c : Cmd) : Nat × Nat := ((s.drwOf d).heapBase + c.body 0x10 8, c.body 0x18 3 * 65536)

/-- The targets whose signature tables are valid and fit as the pass begins (R281). -/
def State.passValid (s : State) (d : Nat) (c : Cmd) (p : PassDesc) : List Nat :=
  p.sigCols.filter (fun i => match p.cols[i]? with
    | none => false
    | some t => let x := s.sigHead d t.sig; x.valid && x.fits t c.area)

/-- What a pass holds as it starts. `draws` are the draws of its stream and `prims` their primitives. -/
def State.passRun (s : State) (d : Nat) (c : Cmd) (p : PassDesc) (draws : List (Nat × Nat)) (prims : List Prim) : PassRun :=
  let tiled := s.passTiled d c p
  s.mapPass d c { tiled := tiled, tilesX := c.tilesX, tilesY := c.tilesY, footprint := p.footprint, stream := s.heapRead d p.stream p.len,
                  draws := draws, prims := prims.take (if draws.isEmpty then 0 else prims.length), trayBase := (s.passTray d c).1,
                  traySize := if tiled then (s.passTray d c).2 else 0, sigs := s.passSigs d p, sigValid := s.passValid d c p }

/-- A pass starts in the mode that is fixed for it (R259): its records are written and counted, the Tray of a tiled pass holds nothing
defined (R263), rasterisers stall where R274 can make them, and every signature table that is not kept becomes invalid. -/
def State.passGo (s : State) (d : Nat) (c : Cmd) (p : PassDesc) (draws : List (Nat × Nat)) (prims : List Prim)
    (stalls : List (GroupId × Nat)) : State :=
  let run := s.passRun d c p draws prims
  let forced := c.body 0x24 1 % 4 = 2 && run.tiled
  let tray := s.passTray d c
  let s := s.startCmd d c c.tileTotal (passRecs c) 17
  let s := s.modCmd d c.queue c.seq (fun c => { c with pass := run, replayable := run.tiled || s.replayProt d || !p.readsDst c })
  let s := s.jnlWrite d c.queue c.seq 2 0 (leBytes 8 (s.saveOf d) ++ leBytes 8 (c.body 0x10 8) ++ leBytes 4 (c.body 0x18 3) ++ leBytes 4 0)
  let s := if run.tiled then s.gfeCount d F.GFE_PASS_COUNT_TILED else s.gfeCount d F.GFE_PASS_COUNT_IMMEDIATE
  let s := if forced then s.gfeCount d F.GFE_PASS_COUNT_FORCED else s
  let s := if run.tiled then s.undefBytes tray.1 tray.2
    else stalls.foldl (fun s x => if run.boardFull c.area.1 c.area.2.1 x.1 then s.incSat F.BGn_STATUS_SB_STALL x.1 x.2 else s) s
  p.sigCols.foldl (fun s i => match p.cols[i]? with
    | none => s
    | some t => if run.sigValid.contains i && run.tiled then s else s.heapWrite d 7 t.sig (leBytes 4 0)) s

/-- PASS (R248 to R259, R267, R280, R281): the mode is fixed and the pass starts, or ends with FORMAT or HEAP_RANGE. `binds` lists the stage
and heap offset of each BIND_PROGRAM of the stream, and `fieldsOk` says that bytes 1 to 31 of its commands are well formed: the spec
does not give their places. `prims` are the primitives that the draws make, in API order, with what their programs put out. `stalls`
are the units of 1,024 clocks that rasterisers stalled, where R274 can make them. Log entry 15. -/
def execPass (d : CtxId) (q : QueueId) (seq : Nat) (binds : List (Nat × Nat)) (fieldsOk : Bool) (prims : List Prim)
    (stalls : List (GroupId × Nat)) (s : State) : Host.Outcome State Fault Refusal :=
  .next (s.dispatch d q seq 0x10 passRecs (fun c =>
    let e := s.passCheck d c
    let p := s.passDesc d c
    if e ≠ 0 then (if s.inHeap d (c.body 0 8) 0x140 then s.heapReadErr d 7 (c.body 0 8) 0x140 else s).endCmd d q seq 4 e
    else if !fieldsOk then s.endCmd d q seq 4 1
    else match s.streamRun d (streamOps (s.heapRead d p.stream p.len) (p.len / 32)) binds 0 {} with
      | .inl e => s.endCmd d q seq 4 e
      | .inr w => if s.passHeld (s.passTray d c :: s.passSigs d p) then s else s.passGo d c p w.draws prims stalls))

/-- Columns and rows of tile `i` inside the render area. -/
def Cmd.tileRect (c : Cmd) (i : Nat) : Nat × Nat × Nat × Nat :=
  let tx := i % c.tilesX
  let ty := i / c.tilesX
  (c.area.1 + 32 * tx, c.area.2.1 + 32 * ty, min 32 (c.area.2.2.1 - 32 * tx), min 32 (c.area.2.2.2 - 32 * ty))

/-- Bytes of a free value, for contents that the spec leaves undefined. -/
def freeBytes (seed n : Nat) : List Byte := (List.range n).map (fun i => BitVec.ofNat 8 (Config.freeValue ((seed + 1) * 2 ^ 32 + i)))

/-- Rows of a surface rectangle as bytes. -/
def State.surfaceRows (s : State) (d addr pitch bpp : Nat) (q : Nat × Nat × Nat × Nat) : List Byte :=
  (List.range q.2.2.2).flatMap (fun r =>
    s.heapRead d (addr + pitch * (q.2.1 + r) + q.1 * bpp) (q.2.2.1 * bpp))

/-- Contents of an attachment at the start of a tile: cleared, loaded or undefined (R261). Each pixel holds `samples` samples of `clear`'s
length; a resolved target holds one, which all samples of the pixel take (DEDUCED, log entry 15). -/
def State.tileInit (s : State) (k d : Nat) (q : Nat × Nat × Nat × Nat) (load addr pitch samples : Nat) (one : Bool) (clear : List Byte) : List Byte :=
  let n := q.2.2.1 * q.2.2.2
  let bpp := clear.length
  if load = 0 then (List.range (n * samples)).flatMap (fun _ => clear)
  else if load = 1 then
    if one then
      let px := s.surfaceRows d addr pitch bpp q
      (List.range n).flatMap (fun i => (List.range samples).flatMap (fun _ => (px.drop (i * bpp)).take bpp))
    else s.surfaceRows d addr pitch (bpp * samples) q
  else freeBytes (s.freeCtr * 16 + k) (n * bpp * samples)

/-- The clear value of a depth attachment: the single itself for D32F; how it is written in D16 or D24S8 the spec does not
state, a free value. -/
def PassDesc.depthClear (p : PassDesc) : List Byte :=
  if p.depthFmt = 3 then leBytes 4 p.clearDepth
  else freeBytes (2 ^ 80 + (p.depthFmt * 256 + p.clearStencil) * 2 ^ 32 + p.clearDepth) (depthBpp p.depthFmt)

/-- Contents of every attachment at the start of a tile, all samples: the colour targets, then depth. -/
def State.tileStart (s : State) (d : Nat) (c : Cmd) (p : PassDesc) (i : Nat) : List (List Byte) :=
  let q := c.tileRect i
  p.cols.zipIdx.map (fun (t, k) => s.tileInit k d q t.load t.addr t.pitch p.samples t.resolve (leBytes (targetBpp t.fmt) t.clear))
    ++ (if p.depthFmt = 0 then [] else
      [s.tileInit 8 d q (p.depthOps % 4) p.depthAddr p.depthPitch p.samples false p.depthClear])

/-- Bytes per pixel of each attachment with all its samples. -/
def PassDesc.pixelBytes (p : PassDesc) : List Nat :=
  p.cols.map (fun t => targetBpp t.fmt * p.samples) ++ (if p.depthFmt = 0 then [] else [depthBpp p.depthFmt * p.samples])

/-! ### Blending in API order (R271 to R275) -/

/-- Bytes of pixel `i`. -/
def pixelAt (bs : List Byte) (bpp i : Nat) : List Byte := (bs.drop (i * bpp)).take bpp
/-- Replace pixel `i`, whose length stays. -/
def pixelSet (bs : List Byte) (bpp i : Nat) (v : List Byte) : List Byte :=
  bs.take (i * bpp) ++ (v ++ (pixelAt bs bpp i).drop v.length).take bpp ++ bs.drop ((i + 1) * bpp)

/-- Blend pixel `j` of a quad into a tile's attachments under the draw state `st`: depth test, stencil test and blending. -/
def blendPixelAt (st : List Byte) (bpps : List Nat) (r : Nat × Nat × Nat × Nat) (q : Quad) (con : List (List Byte)) (j : Nat) : List (List Byte) :=
  let x := q.x + j % 2
  let y := q.y + j / 2
  if x < r.1 || r.1 + r.2.2.1 ≤ x || y < r.2.1 || r.2.1 + r.2.2.2 ≤ y then con
  else
    let i := (y - r.2.1) * r.2.2.1 + (x - r.1)
    let new := Config.blendPixel st q.out j ((con.zip bpps).map (fun a => pixelAt a.1 a.2 i))
    (con.zip bpps).zipIdx.map (fun (a, k) => pixelSet a.1 a.2 i (new.getD k []))

/-- Blend primitives into a tile. A partition blends a quad only after every primitive announced earlier for its block has blended all of
its quads there (R273), and announcements come in increasing primitive number (R272); so whatever order the Benches finish in, each
block takes its primitives in API order (R275), and the quads of one primitive in the order in which they come. -/
def blendPrims (stream : List Byte) (draws : List (Nat × Nat)) (bpps : List Nat) (r : Nat × Nat × Nat × Nat) (ps : List Prim)
    (con : List (List Byte)) : List (List Byte) :=
  ps.foldl (fun con p => p.quads.foldl (fun con q =>
    [0, 1, 2, 3].foldl (blendPixelAt (stream.take (32 * ((draws[p.draw]?).map (fun x => x.1)).getD 0)) bpps r q) con) con) con

/-- A tile of a pass after the primitives from `lo` up to `hi`. -/
def Cmd.renderTile (c : Cmd) (p : PassDesc) (i lo hi : Nat) (con : List (List Byte)) : List (List Byte) :=
  blendPrims c.pass.stream c.pass.draws p.pixelBytes (c.tileRect i) ((c.pass.prims.take hi).drop lo) con

/-! ### Bins and flush buffers (R262 to R264) -/

/-- Bytes of bin area that a primitive of the pass takes (R263). -/
def PassRun.primCost (p : PassRun) (x : Prim) : Nat := binCost (((p.draws[x.draw]?).map (fun y => y.2)).getD 0) x.tiles.length

/-- How many of the primitives fit into `room` bytes of bin area, in order. -/
def PassRun.fitting (p : PassRun) : List Prim → Nat → Nat
  | [], _ => 0
  | x :: xs, room => if p.primCost x ≤ room then 1 + p.fitting xs (room - p.primCost x) else 0

/-- The first primitive that does not fit into the bins since the last flush; all of them once binning is over. -/
def Cmd.binEnd (c : Cmd) : Nat :=
  c.pass.binned + c.pass.fitting (c.pass.prims.drop c.pass.binned) (binArea c.pass.traySize c.tileTotal c.pass.footprint)

/-- Heap offset of tile `i` in flush buffer `k mod 2` (Table 7.8). The layout inside is the device's (DESIGN CHOICE, log entry 15): tiles in
order, a footprint each, the attachments one after another. -/
def Cmd.flushAt (c : Cmd) (k i : Nat) : Nat :=
  c.body 0x10 8 + 65536 + k % 2 * flushBytes c.tileTotal c.pass.footprint + i * c.pass.footprint

/-- A tile's contents in flush buffer `k mod 2`. -/
def State.flushLoad (s : State) (d : Nat) (c : Cmd) (p : PassDesc) (k i : Nat) : List (List Byte) :=
  let q := c.tileRect i
  let ns := p.pixelBytes.map (fun b => q.2.2.1 * q.2.2.2 * b)
  (ns.zipIdx).map (fun (n, j) => s.heapRead d (c.flushAt k i + (ns.take j).sum) n)

/-- Contents of a tile when a segment of the pass begins with it: what the last flush stored, or what LOAD_OP gives (R264). -/
def State.tileBegin (s : State) (d : Nat) (c : Cmd) (p : PassDesc) (i : Nat) : List (List Byte) :=
  if c.pass.flushes = 0 then s.tileStart d c p i else s.flushLoad d c p c.pass.flushes i

/-- Does a surface that a tile is loaded from hold an uncorrectable error (R493)? -/
def State.tilePoisoned (s : State) (d : Nat) (c : Cmd) (p : PassDesc) (i : Nat) : Bool :=
  let q := c.tileRect i
  let rows := fun (addr pitch bpp : Nat) => (List.range q.2.2.2).any (fun r =>
    s.poisoned ((s.drwOf d).heapBase + addr + pitch * (q.2.1 + r) + q.1 * bpp) (q.2.2.1 * bpp))
  !s.dmc.bad.isEmpty && (p.cols.any (fun t => t.load = 1 && rows t.addr t.pitch (t.stored p.samples))
    || (p.depthFmt ≠ 0 && p.depthOps % 4 = 1 && rows p.depthAddr p.depthPitch (depthBpp p.depthFmt * p.samples)))

/-- Tiles that group `g` holds. -/
def State.resident (s : State) (g : Nat) : Nat :=
  (List.range 66).foldl (fun a d => (s.cmds d).foldl (fun a c => a + (c.pass.inTile.filter (fun p => p.1 = g)).length) a) 0

/-- Tile slots of a group for a footprint (R260); a pass without attachments takes no tile memory. -/
def tileSlots (footprint : Nat) : Nat := if footprint = 0 then 64 else min 64 (4194304 / footprint)

/-- Records of the reads of a tile's loaded rows that are refused, in the domain of block `blk`, the Bench group that loads it (R735). -/
def State.tileReadErr (s : State) (d : Nat) (c : Cmd) (p : PassDesc) (blk i : Nat) : State :=
  let q := c.tileRect i
  let rows := fun (s : State) (addr pitch bpp : Nat) =>
    (List.range q.2.2.2).foldl (fun s r => s.heapReadErr d blk (addr + pitch * (q.2.1 + r) + q.1 * bpp) (q.2.2.1 * bpp)) s
  let s := p.cols.foldl (fun s t => if t.load = 1 then rows s t.addr t.pitch (t.stored p.samples) else s) s
  if p.depthFmt ≠ 0 && p.depthOps % 4 = 1 then rows s p.depthAddr p.depthPitch (depthBpp p.depthFmt * p.samples) else s

/-- Block of the lowest Bench group that holds the command (R735). -/
def State.groupBlk (s : State) (d : Nat) (c : Cmd) : Nat :=
  8 + (((List.range 4).find? (fun g => (s.bgOf g).holds.any (fun h => h.ctx = d && h.q = c.queue && h.seq = c.seq))).getD 0)

/-- Take tile `i` of a pass on group `g`: it is cleared or loaded (R261, R264). -/
def State.takeTile (s : State) (d : Nat) (c : Cmd) (p : PassDesc) (g i : Nat) : State :=
  let con := s.tileBegin d c p i
  let s := if c.pass.flushes = 0 then s.tileReadErr d c p (8 + g) i else s
  let s := ((s.giveHold g { ctx := d, q := c.queue, seq := c.seq }).cxStarted d c.queue c.seq).fresh
  s.modCmd d c.queue c.seq (fun c =>
    { c with pass := { c.pass with inTile := c.pass.inTile ++ [(g, i)], retake := c.pass.retake.filter (fun t => t ≠ i),
                                   nextTile := if i = c.pass.nextTile then i + 1 else c.pass.nextTile,
                                   content := c.pass.content.filter (fun x => x.1 ≠ i) ++ [(i, con)] } })

/-- TILE_START (R260, R261, R266, R299, R301): group `g` is offered, context `d` is picked, and it takes the next tile of a tiled pass whose
primitives are all binned. -/
def execTileStart (d : CtxId) (q : QueueId) (seq : Nat) (g : GroupId) (s : State) : Host.Outcome State Fault Refusal :=
  .next (
    let s := s.charge.shortCheck
    match s.cmd? d q seq, s.offerPick g with
    | some c, some (m, x) =>
      if x ≠ d || !c.offers g || c.opcode ≠ 0x10 || !c.pass.tiled || !s.maskOk c g || c.binEnd < c.pass.prims.length
          || tileSlots c.pass.footprint ≤ s.resident g then s
      else match c.pass.next? with
        | none => s
        | some i =>
          let p := s.passDesc d c
          if c.pass.flushes = 0 && s.tilePoisoned d c p i then s.endCmd d q seq 4 8
          else
            let s := { s with gpu := { s.gpu with lastServed := tset 65 s.gpu.lastServed m x } }
            (if m = 3 then s.resumeGroup g else s).takeTile d c p g i
    | _, _ => s)

/-- Write a tile's rows to a surface, from Bench group block `blk`. -/
def State.storeRows (s : State) (d blk addr pitch bpp : Nat) (q : Nat × Nat × Nat × Nat) (bs : List Byte) : State :=
  (List.range q.2.2.2).foldl (fun s r =>
    s.heapWrite d blk (addr + pitch * (q.2.1 + r) + q.1 * bpp) ((bs.drop (r * q.2.2.1 * bpp)).take (q.2.2.1 * bpp))) s

/-- The signature of a tile (R278): only pixels inside the surface recorded in the header. -/
def tileSig (bs : List Byte) (q : Nat × Nat × Nat × Nat) (bpp : Nat) (x : SigHead) : Nat :=
  crc64 ((List.range (min q.2.2.2 (x.h - q.2.1))).flatMap (fun r =>
    ((bs.drop (r * q.2.2.1 * bpp)).take (min q.2.2.1 (x.w - q.1) * bpp))))

/-- Widths of the channels of a render-target format, lowest bits first; none where Table 7.6 names a floating-point format. -/
def targetChannels (f : Nat) : List Nat :=
  if f = 1 then [5, 6, 5] else if f = 2 then [8, 8, 8] else if f = 3 ∨ f = 4 then [8, 8, 8, 8] else if f = 5 then [10, 10, 10, 2] else []

/-- Mean of one channel's samples: their sum divided by their number where that is a whole number, or left open in its rounding (R254). -/
def boxMean (f k : Nat) (xs : List Nat) : Nat := if xs.sum % xs.length = 0 then xs.sum / xs.length else Config.resolveChannel f k xs

/-- The box average of a pixel's samples, each of them the bytes of one pixel (R254). -/
def resolvePixel (f : Nat) (samples : List (List Byte)) : List Byte :=
  let bpp := targetBpp f
  match targetChannels f with
  | [] =>
    let w := if f = 0x11 then 4 else 2
    (List.range (bpp / w)).flatMap (fun k =>
      let xs := samples.map (fun b => fieldLE b (k * w) w)
      leBytes w (match xs with
        | [] => 0
        | x :: rest => if rest.all (fun y => y = x) then x else Config.resolveChannel f k xs))
  | ws => leBytes bpp ((ws.zipIdx).map (fun (n, k) =>
      let lo := (ws.take k).sum
      boxMean f k (samples.map (fun b => leNat b / 2 ^ lo % 2 ^ n)) % 2 ^ n * 2 ^ lo)).sum

/-- The bytes that the write-back unit stores of a colour target: all samples of each pixel, or their box average (R254). -/
def Target5.storedBytes (t : Target5) (samples : Nat) (bs : List Byte) : List Byte :=
  let bpp := targetBpp t.fmt
  if !t.resolve || samples ≤ 1 then bs
  else (List.range (bs.length / (bpp * samples))).flatMap (fun i =>
    resolvePixel t.fmt ((List.range samples).map (fun j => pixelAt bs bpp (i * samples + j))))

/-- A tiled pass writes its first entry of a table: SERIAL counts the passes that write it (R279). -/
def State.sigSerial (s : State) (d : Nat) (c : Cmd) (k : Nat) (t : Target5) : State :=
  if c.pass.sigWritten.contains k then s
  else (s.heapWrite d 7 (t.sig + 0x18) (leBytes 8 ((s.sigHead d t.sig).serial + 1))).modCmd d c.queue c.seq (fun c =>
    { c with pass := { c.pass with sigWritten := c.pass.sigWritten ++ [k] } })

/-- Final write-back of one colour target of a tile (R261, R277): written, or skipped by signature match. -/
def State.storeTarget (s : State) (d : Nat) (c : Cmd) (blk samples k : Nat) (t : Target5) (i : Nat) (con : List Byte) : State :=
  let q := c.tileRect i
  let bpp := t.stored samples
  let bs := t.storedBytes samples con
  if !t.store then s
  else if !(t.hasSig && c.pass.tiled) then s.storeRows d blk t.addr t.pitch bpp q bs
  else
    let x := s.sigHead d t.sig
    let e := t.sig + 64 + 8 * (q.2.1 / 32 * ((x.w + 31) / 32) + q.1 / 32)
    let sig := tileSig bs q bpp x
    if c.pass.sigValid.contains k && leNat (s.heapRead d e 8) = sig then s.gfeCount d F.GFE_SIG_COUNT_SKIPPED
    else
      (((s.storeRows d blk t.addr t.pitch bpp q bs).heapWrite d blk e (leBytes 8 sig)).gfeCount d F.GFE_SIG_COUNT_WRITTEN).sigSerial d c k t

/-- Store every attachment of a tile and set its tile-done bit (R249, R250, R261). -/
def State.storeTile (s : State) (d : Nat) (c : Cmd) (blk i : Nat) (con : List (List Byte)) : State :=
  let p := s.passDesc d c
  let s := (List.range p.cols.length).foldl (fun s k => match p.cols[k]? with
    | none => s
    | some t => s.storeTarget d c blk p.samples k t i (con.getD k [])) s
  let s := if p.depthFmt ≠ 0 && bit p.depthOps 2 then
      s.storeRows d blk p.depthAddr p.depthPitch (depthBpp p.depthFmt * p.samples) (c.tileRect i) (con.getD p.cols.length [])
    else s
  let map := c.body 8 8
  if map = 0 then s
  else
    let set := (c.pass.mapped ++ [i]).filter (fun t => t / 8 = i / 8)
    let v := set.foldl (fun a t => setBit a (t % 8)) 0
    let s := s.modCmd d c.queue c.seq (fun c => { c with pass := { c.pass with mapped := c.pass.mapped.filter (fun t => t ≠ i) ++ [i] } })
    if bit (c.body 0x24 1) 2 then s.heapWrite d 7 (map + i / 8) (leBytes 1 (Nat.lor (leNat (s.heapRead d (map + i / 8) 1)) v))
    else s.hostData d (map + i / 8) (leBytes 1 v)

/-- A tile with every binned primitive rendered on it. -/
def Cmd.tileContent (c : Cmd) (p : PassDesc) (tile : Nat) : List (List Byte) :=
  c.renderTile p tile c.pass.binned c.pass.prims.length (((c.pass.content.find? (fun x => x.1 = tile)).map (fun x => x.2)).getD [])

/-- Write-backs of a tile of group `g` that were refused and repeated: counted, and recorded as corrected (Table 6.13). -/
def State.tileRetries (s : State) (d g n : Nat) : State :=
  let s := s.charge.jnlCount d F.JNL_COUNT_WB_RETRY (fun j => { j with cabRetry := min 65535 (j.cabRetry + n) }) n
  (List.range n).foldl (fun s _ => s.recordError { domain := 8 + g, code := 0x23, drawer := ctxDrawer d, origin := (ctxOrigin d).word }) s

/-- A tile that is written back leaves tile memory, and group `g` leaves the command where it has no other tile of it. -/
def State.tileLeft (s : State) (d q seq tile g : Nat) : State :=
  let s := s.modCmd d q seq (fun c =>
    { c with pass := { c.pass with inTile := c.pass.inTile.filter (fun p => p.2 ≠ tile), written := c.pass.written ++ [tile],
                                   wroteBy := tset 0 c.pass.wroteBy tile g, content := c.pass.content.filter (fun x => x.1 ≠ tile) } })
  match s.cmd? d q seq with
  | none => s
  | some c => if c.pass.inTile.any (fun p => p.1 = g) || c.pass.next?.isSome then s
    else s.modBg g (fun b => b.drop (fun h => h.ctx = d && h.q = q && h.seq = seq))

/-- TILE_WRITEBACK (R254, R261, R265, R277, R283, Table 6.13): a tile on which every binned primitive is rendered is written back. `refused`
counts write-backs that were refused and repeated from tile memory; a fourth refusal is a replayable fault. -/
def execTileWriteback (d : CtxId) (q : QueueId) (seq tile : Nat) (refused : Nat) (s : State) : Host.Outcome State Fault Refusal :=
  .next (match s.cmd? d q seq with
    | none => s
    | some c => match c.pass.inTile.find? (fun p => p.2 = tile) with
      | none => s
      | some (g, _) =>
        let s := s.tileRetries d g (min 3 refused)
        if 3 < refused then s.replay d c (8 + g)
        else (s.storeTile d c (8 + g) tile (c.tileContent (s.passDesc d c) tile)).tileLeft d q seq tile g)

/-- Every tile is rendered from the bins, every attachment of every tile stored into flush buffer c mod 2 of the Tray, and binning resumes
(R264). -/
def State.flushTiles (s : State) (d : Nat) (c : Cmd) : State :=
  let p := s.passDesc d c
  let k := c.pass.flushes + 1
  let s := (List.range c.tileTotal).foldl (fun s i =>
    s.heapWrite d (s.groupBlk d c) (c.flushAt k i) (c.renderTile p i c.pass.binned c.binEnd (s.tileBegin d c p i)).flatten) s
  let s := s.fresh.modCmd d c.queue c.seq (fun x =>
    { x with pass := { x.pass with flushes := k, binned := c.binEnd, inTile := [], content := [], retake := [], nextTile := 0 } })
  (s.jnlWrite d c.queue c.seq 3 (k % 2) (leBytes 8 k ++ leBytes 4 (k % 2) ++ leBytes 8 c.binEnd)).gfeCount d F.GFE_PASS_COUNT_FLUSHES

/-- PARTIAL_RENDER_FLUSH (R264): the next primitive does not fit into the bin area. -/
def execPartialRenderFlush (d : CtxId) (q : QueueId) (seq : Nat) (s : State) : Host.Outcome State Fault Refusal :=
  .next (match s.cmd? d q seq with
    | none => s
    | some c =>
      if c.stage ≠ .running || c.opcode ≠ 0x10 || !c.pass.tiled || c.pass.prims.length ≤ c.binEnd || c.binEnd ≤ c.pass.binned then s
      else if c.pass.flushes = 0 && (List.range c.tileTotal).any (s.tilePoisoned d c (s.passDesc d c)) then s.endCmd d q seq 4 8
      else s.flushTiles d c)

/-- A program fault ends a PASS or COMPUTE with SHADER (R288, Table 6.13). -/
def State.shaderEnd (s : State) (d : Nat) (c : Cmd) : State :=
  (s.jnlWrite d c.queue c.seq 7 0 (leBytes 4 c.attempt ++ leBytes 4 7 ++ leBytes 8 0xD ++ leBytes 8 s.st)).endCmd d c.queue c.seq 4 0xD

/-- Stores of programs, in order: those up to the first one outside the heap are made; did one lie outside (R288)? -/
def State.progStores (s : State) (d blk : Nat) : List (Nat × List Byte) → State × Bool
  | [] => (s, false)
  | w :: ws => if s.inHeap d w.1 w.2.length then (s.heapWrite d blk w.1 w.2).progStores d blk ws else (s, true)

/-- SHADER_FAULT (R288): `writes` are the stores that the programs made before the fault. -/
def execShaderFault (d : CtxId) (q : QueueId) (seq : Nat) (writes : List (Nat × List Byte)) (s : State) : Host.Outcome State Fault Refusal :=
  .next (match s.cmd? d q seq with
    | none => s
    | some c => if c.stage = .running && (c.opcode = 0x10 || c.opcode = 0x11) then (s.progStores d (s.groupBlk d c) writes).1.shaderEnd d c else s)

/-- The signature-table header at the end of a tiled pass (R280): VALID is set, the last write before its data-visible point, where it was not
VALID and the render area covers the whole surface. -/
def State.passSigEnd (s : State) (d : Nat) (c : Cmd) : State :=
  let p := s.passDesc d c
  (List.range p.cols.length).foldl (fun s k => match p.cols[k]? with
    | none => s
    | some t =>
      if !t.hasSig || !c.pass.tiled || !c.pass.sigWritten.contains k || c.pass.sigValid.contains k then s
      else
        let x := s.sigHead d t.sig
        if c.area.1 = 0 && c.area.2.1 = 0 && x.w ≤ c.area.2.2.1 && x.h ≤ c.area.2.2.2 then
          (((s.heapWrite d 7 (t.sig + 8) (leBytes 1 t.fmt)).heapWrite d 7 (t.sig + 0xC) (leBytes 4 t.pitch)).heapWrite d 7
            (t.sig + 0x10) (leBytes 8 t.addr)).heapWrite d 7 t.sig (leBytes 4 1)
        else s) s

/-! ### COMPUTE (R284 to R287, R319 to R323) -/

/-- Counts X, Y, Z of a COMPUTE. -/
def State.gridOf (s : State) (d : Nat) (c : Cmd) : Nat × Nat × Nat :=
  if bit (c.body 0x1E 1) 0 then
    let b := s.heapRead d (c.body 0x20 8) 12
    (fieldLE b 0 4, fieldLE b 4 4, fieldLE b 8 4)
  else (c.body 0x10 4, c.body 0x14 4, c.body 0x18 4)

/-- Check of a COMPUTE (R284, R285, R321, R740): 0 or an error code, with ATOMICS. -/
def State.computeCheck (s : State) (d : Nat) (c : Cmd) : Nat × Bool :=
  let ind := bit (c.body 0x1E 1) 0
  let wg := c.body 0x1C 2
  if c.body 0 8 % 256 ≠ 0 || wg < 32 || 1024 < wg || wg % 32 ≠ 0 || 2 ≤ c.body 0x1E 1 || 16 ≤ c.body 0x1F 1
      || c.body 0x28 24 ≠ 0 then (1, false)
  else if !s.inHeap d (c.body 8 8) 0 || (ind && !s.inHeap d (c.body 0x20 8) 12) then (4, false)
  else
    let g := s.gridOf d c
    if 2 ^ 31 - 1 < g.1 || 65535 < g.2.1 || 65535 < g.2.2 || 0xFFFFFE * 256 < g.1 * g.2.1 * g.2.2
        || (!ind && (g.1 = 0 || g.2.1 = 0 || g.2.2 = 0)) then (1, false)
    else match s.program d (c.body 0 8) 2 with
      | .inl e => (e, false)
      | .inr (_, at_) =>
        if c.nonpreempt && !((List.range 4).any (s.maskOk c)) then (0xB, at_) else (0, at_)

/-- COMPUTE (R223, R284 to R287): starts, or ends with an error; an indirect one writes its TOTAL once the counts are read. -/
def execCompute (d : CtxId) (q : QueueId) (seq : Nat) (s : State) : Host.Outcome State Fault Refusal :=
  .next (s.dispatch d q seq 0x11 (fun _ => 1) (fun c =>
    let e := s.computeCheck d c
    if e.1 ≠ 0 then s.endCmd d q seq 4 e.1
    else
      let g := s.gridOf d c
      let total := (g.1 * g.2.1 * g.2.2 + 255) / 256
      let ind := bit (c.body 0x1E 1) 0
      let s := (if ind then s.heapReadErr d 7 (c.body 0x20 8) 12 else s).startCmd d c (if ind then 0xFFFFFF else total) 1 17
      let s := s.modCmd d q seq (fun c => { c with total := total, replayable := !e.2 || c.idempotent })
      match s.cmd? d q seq with
      | none => s
      | some c =>
        let s := if ind then s.postRunning d c else s
        if total = 0 then s.finishCmd d c 7 else s))

/-- A command of a context ends by timeout (R324): no replay, TIMEOUTS counts. -/
def State.ctxTimeout (s : State) (d q seq : Nat) : State :=
  ((s.jnlWrite d q seq 7 0 (leBytes 4 0 ++ leBytes 4 7 ++ leBytes 8 0xA ++ leBytes 8 s.st)).endCmd d q seq 4 0xA).incSat
    F.GFE_CTX_STATUS_TIMEOUTS d

/-- NP_LIMIT_TIMEOUT (R322): a NONPREEMPT command has executed for longer than NP_LIMIT_US. -/
def execNpLimitTimeout (d : DrawerId) (q : QueueId) (seq : Nat) (s : State) : Host.Outcome State Fault Refusal :=
  .next (let s := s.charge
    match s.cmd? d q seq with
    | none => s
    | some c =>
      if c.stage = .running && c.nonpreempt && decide (s.get F.GFE_DL_CFG_NP_LIMIT_US * 1000 < c.runNs) then s.ctxTimeout d q seq else s)

/-- RUN_LIMIT_TIMEOUT (R323, R324): the run time of a PASS or COMPUTE of context `c` exceeds RUN_LIMIT_MS; 0 disables. The record of a CX
command reports it to firmware of the RT pairs. -/
def execRunLimitTimeout (c : CtxId) (q : QueueId) (seq : Nat) (s : State) : Host.Outcome State Fault Refusal :=
  .next (let s := s.charge
    if s.get F.GFE_CTX_LIMIT_RUN_LIMIT_MS c = 0 then s
    else match s.cmd? c q seq with
      | none => s
      | some x => if x.stage = .running && (x.opcode = 0x10 || x.opcode = 0x11)
          && decide (s.get F.GFE_CTX_LIMIT_RUN_LIMIT_MS c * 1000000 < x.runNs) then s.ctxTimeout c q seq else s)

/-- STATE of GFE_CTX_STATUS (Table 8.11): 0 idle, 1 ready, 2 running, 3 preempted, 4 at tier limit, 5 share 0, 6 throttle. -/
def State.ctxState (s : State) (c : Nat) : Nat :=
  let holds := s.gpu.groups.any (fun p => p.2.holds.any (fun h => h.ctx = c))
  let ready := (List.range 4).any (fun g => (s.gpuReady c g).isSome) || (s.cxWork c).isSome
  if holds then 2
  else if s.gpu.groups.any (fun p => p.2.resumeFirst.any (fun h => h.ctx = c)) then 3
  else if !ready then 0
  else if 64 ≤ c then 1
  else if s.get F.GFE_CTX_SHARE_ACTIVE c = 0 then 5
  else if (List.range 4).any (fun g => (s.tierOf g c).isSome) then 1
  else if 3 ≤ s.effThrottle then 6 else 4

/-- GROUPS of GFE_CTX_STATUS. -/
def State.ctxGroups (s : State) (c : Nat) : Nat :=
  s.gpu.groups.foldl (fun a p => if p.2.holds.any (fun h => h.ctx = c) then setBit a p.1 else a) 0
/-- NP of GFE_CTX_STATUS. -/
def State.ctxNp (s : State) (c : Nat) : Bool := s.gpu.groups.any (fun p => p.2.holds.any (fun h => h.ctx = c && h.np))

end Sys2Proof.Machine
end

