-- ==== Sys2Proof/Machine/Links.lean ====
section
/-! DEFINITION. Display output ports: the commands of chapter 12. -/

namespace Sys2Proof.Machine

/-- LINK_START (R85, R425, R434): 5 ms and the panel delay of an image-started head have passed since its panel was switched on, at start or
after a wake. -/
def execLinkStart (h : HeadId) (sink : Sink) (s : State) : Host.Outcome State Fault Refusal :=
  .next (let st := s.get F.HDn_STATUS_STATE h
    if s.pins.panelPwrEn.getLsbD h && decide ((s.dpOf h).panelOnAt + 5000000 + (s.headOf h).entry.panelDelayMs * 1000000 ≤ s.now)
        && !(s.dpOf h).linkStarted && s.on F.HDn_CTRL_RUN h
        && ((st = 1 && (s.headOf h).synthLocked && (s.headOf h).imageStart) || st = 2) then
      (if s.get F.CFG_STATUS_STAGE = 7 then s.put F.CFG_STATUS_STAGE 0 8 else s).linkStart h sink
    else s)

/-- The main or data lane that contact ML`k` of port `h` carries (R420, Table 12.2); none where the lane is powered off. -/
def State.laneOn (s : State) (h k : Nat) : Option Nat :=
  let l := if s.on F.HDn_PORT_CFG_LANE_REV h then 3 - k else k
  if s.get F.HDn_PORT_STATUS_LINK h ≠ 0 && decide (k < 4) && decide (l < lanesOf (s.get F.HDn_PORT_CFG_LANES h)) then some l else none

/-- Is HPD used on this port (R429)? -/
def State.hpdUsed (s : State) (h : Nat) : Bool := s.get F.HDn_PORT_CFG_MODE h < 2 || s.on F.HDn_PORT_CFG_DSI_HPD h

/-- HPD_ASSERT (R86): HPD rises; a DisplayPort port that waits for its sink reads it and trains. -/
def execHpdAssert (h : HeadId) (sink : Sink) (s : State) : Host.Outcome State Fault Refusal :=
  .next (if !s.hpdUsed h then s
    else
      let s := s.put F.HDn_PORT_STATUS_HPD h 1
      if (s.dpOf h).waitHpd then
        ((s.modDp h (fun p => { p with waitHpd := false })).readSink h sink).trainBegin h false
      else s)

/-- IRQ_HPD is serviced: with loss of lock the link is retrained at the current configuration (Table 12.4). -/
def State.hpdIrq (s : State) (h : Nat) (lockLost : Bool) : State :=
  let s := (s.put F.HDn_PORT_STATUS_IRQ_HPD h 1).portLine h
  if lockLost && s.get F.HDn_PORT_STATUS_LINK h = 2 then s.trainBegin h true else s

/-- HPD_IRQ (R429, R431): during a training it is serviced when the training ends. -/
def execHpdIrq (h : HeadId) (lockLost : Bool) (s : State) : Host.Outcome State Fault Refusal :=
  .next (if 2 ≤ s.get F.HDn_PORT_CFG_MODE h then s
    else if (s.dpOf h).training then s.modDp h (fun p => { p with irqLater := some lockLost })
    else s.hpdIrq h lockLost)

/-- A sideband request ends (R438). -/
def State.sbEnd (s : State) (h result : Nat) : State :=
  let s := ((s.put F.HDn_SB_STATUS_BUSY h 0).put F.HDn_SB_STATUS_DONE h 1).put F.HDn_SB_STATUS_RESULT h result
  (s.modDp h (fun p => { p with sb := none })).portLine h

/-- HPD_UNPLUG (R429, R431): transmitters off, EDID cleared, a sideband request ends with NO_SINK, a training is abandoned; the
head's state and timing do not change (R430). -/
def execHpdUnplug (h : HeadId) (s : State) : Host.Outcome State Fault Refusal :=
  .next (if !s.hpdUsed h then s
    else
      let s := (s.put F.HDn_PORT_STATUS_HPD h 0).put F.HDn_PORT_STATUS_UNPLUG h 1
      let s := (s.put F.HDn_PORT_STATUS_LINK h 0).put F.HDn_PORT_STATUS_EDID_BLOCKS h 0
      let s := s.modDp h (fun p => { p with training := false, retryWait := false, unplugged := true, irqLater := none })
      let s := if (s.dpOf h).sb.isSome then s.sbEnd h 4 else s
      s.portLine h)

/-- HPD_REPLUG (R429, R431): the EDID is read, and a RUNNING or STARTING head's port trains. -/
def execHpdReplug (h : HeadId) (sink : Sink) (s : State) : Host.Outcome State Fault Refusal :=
  .next (if !s.hpdUsed h || !(s.dpOf h).unplugged then s
    else
      let s := (s.put F.HDn_PORT_STATUS_HPD h 1).modDp h (fun p => { p with unplugged := false, waitHpd := false })
      let s := s.readSink h sink
      let st := s.get F.HDn_STATUS_STATE h
      if st = 1 || st = 2 then s.trainBegin h false else s)

/-- The head of a trained port becomes RUNNING and compares from its first frame (R106, R380, R412). Its trim starts from 0 (R370, R373). -/
def State.headBegin (s : State) (h : Nat) : State :=
  let s := (s.put F.HDn_STATUS_STATE h 2).modHead h (fun r =>
    { r with first := true, running := false, latched := false, teEdges := [], lockCount := 0, stopReq := false })
  let s := (s.put F.HDn_TE_PERIOD_US h (s.periodNs h / 1000)).put F.HDn_TRIM_TRIM h 0
  let m := s.get F.HDn_CTRL_MODE h
  let s := if (m = 1 || m = 2) && !s.refPresent h then s.holdover h else s
  (s.regionsRecheck h).put F.WIT_HSTATUS_STATE h 0

/-- LINK_TRAINING_DONE (R426, R427, R430): an attempt ends. Success brings the link up and begins the head's frames, or for a
running head transmission resumes at the next frame start; after three failures the next higher rate is tried, if any. -/
def execLinkTrainingDone (h : HeadId) (ok : Bool) (s : State) : Host.Outcome State Fault Refusal :=
  .next (let p := s.dpOf h
    if !p.training then s
    else if ok then
      let s := s.modDp h (fun p => { p with training := false })
      let s := ((s.put F.HDn_PORT_STATUS_LINK h 2).put F.HDn_PORT_STATUS_RATE_ACT h p.rateTry).put
        F.HDn_PORT_STATUS_LANES_ACT h (lanesOf (s.get F.HDn_PORT_CFG_LANES h))
      let s := s.putB F.HDn_PORT_STATUS_CODING h (s.get F.HDn_PORT_CFG_MODE h < 2 && 0x10 ≤ p.rateTry)
      let s := if s.get F.HDn_STATUS_STATE h = 1 then s.headBegin h else s.modDp h (fun p => { p with resume := true })
      match p.irqLater with
      | none => s
      | some lost => (s.modDp h (fun p => { p with irqLater := none })).hpdIrq h lost
    else if p.attempts < 2 then s.modDp h (fun p => { p with attempts := p.attempts + 1 })
    else match (if p.retrain then [] else s.rateLadder h).filter (fun r => p.rateTry < r) with
      | r :: _ => s.modDp h (fun p => { p with attempts := 0, rateTry := r })
      | [] => s.trainFailed h)

/-- TRAINING_RETRY (R427, R432): 1 s after it failed the procedure is repeated while RUN is 1 and, for DisplayPort, HPD is high. -/
def execTrainingRetry (h : HeadId) (s : State) : Host.Outcome State Fault Refusal :=
  .next (let p := s.dpOf h
    if p.retryWait && decide (p.retryFrom + 1000000000 ≤ s.now) && s.on F.HDn_CTRL_RUN h && (s.get F.HDn_PORT_CFG_MODE h ≠ 0 || s.on F.HDn_PORT_STATUS_HPD h) then
      s.trainBegin h p.retrain
    else s)

/-- BACKLIGHT_ON (R433): BL_DELAY_MS after the first frame of an enabled head BL_EN rises. -/
def execBacklightOn (h : HeadId) (s : State) : Host.Outcome State Fault Refusal :=
  .next (let r := s.headOf h
    if r.entry.enable && r.running && !r.first && decide (r.firstAt + r.entry.blDelayMs * 1000000 ≤ s.now) then (s.modDp h (fun p => { p with blPermitted := true })).blDrive h else s)

/-- The panel of head `h` goes down in the order of R434. -/
def State.panelDown (s : State) (h : Nat) : State :=
  ((((s.blOff h).linkDown h).panelPin h false).modDp h (fun p => { p with panelOffAt := s.now, downPending := false }))

/-- PANEL_POWER_DOWN (R434): asked for by PWR 0 or by an entry that turns PD10 off; BL_OFF_MS after BL_EN fell. -/
def execPanelPowerDown (h : HeadId) (s : State) : Host.Outcome State Fault Refusal :=
  .next (if s.pins.panelPwrEn.getLsbD h && decide ((s.dpOf h).blOffAt + s.get F.HDn_PANEL_T_BL_OFF_MS h * 1000000 ≤ s.now) && (!s.on F.HDn_PANEL_PWR h || (s.dpOf h).downPending) then s.panelDown h else s)

/-- Raise PANEL_PWR_EN, or let the raise wait until OFF_MIN_MS have passed since it fell (R433, R434). -/
def State.panelRaise (s : State) (h : Nat) : State :=
  let p := s.dpOf h
  if p.panelOffAt = 0 || decide (p.panelOffAt + s.get F.HDn_PANEL_T_OFF_MIN_MS h * 1000000 ≤ s.now) then
    (s.panelPin h true).modDp h (fun p => { p with panelWant := false, panelOnAt := s.now })
  else s.modDp h (fun p => { p with panelWant := true })

/-- PANEL_POWER_UP (R434): a raise that was requested earlier is carried out. -/
def execPanelPowerUp (h : HeadId) (s : State) : Host.Outcome State Fault Refusal :=
  .next (if (s.dpOf h).panelWant then s.panelRaise h else s)

/-- A write of HDn_PANEL changes PWR or BL: a power-down starts with the backlight (R434), a power-up raises the panel. -/
def State.panelWrite (s : State) (h : Nat) : State :=
  let s := if s.on F.HDn_PANEL_PWR h then (if s.pins.panelPwrEn.getLsbD h then s else s.panelRaise h)
    else (s.blOff h).modDp h (fun p => { p with downPending := true, blOffAt := s.now, panelWant := false })
  s.blDrive h

/-- A write of HDn_SB_CMD starts a request (R438, R439): ignored while BUSY; a native AUX write to an address the port owns
ends with DENIED. -/
def State.sbStart (s : State) (h : Nat) (r : SbReq) : State :=
  if s.on F.HDn_SB_STATUS_BUSY h then s
  else if r.target = 0 && r.write && ((r.addr ≤ 0x1FF && 0x100 ≤ r.addr + r.len) || (r.addr ≤ 0x600 && 0x600 ≤ r.addr + r.len)) then
    s.sbEnd h 3
  else (s.put F.HDn_SB_STATUS_BUSY h 1).modDp h (fun p => { p with sb := some r })

/-- The request that a word of HDn_SB_CMD spells (Table 12.9), with the data held in HDn_SB_DATA. -/
def State.sbOf (s : State) (h w : Nat) : SbReq :=
  { target := bits w 0 2, write := bit w 2, fast := bit w 3, len := bits w 4 4, addr := bits w 8 20,
    data := (List.range 4).map (fun i => s.get F.HDn_SB_DATA_DATA (h * 4 + i)), at_ := s.now }

/-- SIDEBAND_REQUEST (R438): an audited write of HDn_SB_CMD. -/
def execSidebandRequest (o : Origin) (h : HeadId) (w : Fin 4294967296) (s : State) : Host.Outcome State Fault Refusal :=
  .next (s.guarded o { addr := blkAddr (0x10 + h) 0x2020, blk := 0x10 + h, new := w } 0 (fun s => s.sbStart h (s.sbOf h w)))

/-- SIDEBAND_DONE (R438): the request ends with OK, NACK, TIMEOUT or NO_SINK; a read leaves its bytes in HDn_SB_DATA. -/
def execSidebandDone (h : HeadId) (result : Fin 5) (reply : List (Fin 4294967296)) (s : State) :
    Host.Outcome State Fault Refusal :=
  .next (match (s.dpOf h).sb with
    | none => s
    | some r =>
      if (result : Nat) = 2 && decide (s.now < r.at_ + 50000000) then s
      else
      let s := if (result : Nat) = 0 ∧ r.write = false then
          (List.range 4).foldl (fun s i => match reply[i]? with
            | none => s
            | some v => s.put F.HDn_SB_DATA_DATA ((h : Nat) * 4 + i) v) s
        else s
      s.sbEnd h result)

end Sys2Proof.Machine
end

