-- ==== Sys2Proof/Machine/Touch.lean ====
section
/-! DEFINITION. Touch sensing (chapter 15): gate windows, baselines, touches, regions and the delivery of records. -/

namespace Sys2Proof.Machine

/-! ### Panels and nodes -/

/-- Panel `p` beside its registers. -/
def State.panel (s : State) (p : Nat) : Panel := tget {} s.tch.panels p
/-- Change panel `p`. -/
def State.modPanel (s : State) (p : Nat) (g : Panel → Panel) : State :=
  { s with tch := { s.tch with panels := tset {} s.tch.panels p (g (s.panel p)) } }
/-- STATE of a panel: 0 off, 1 ABSENT, 2 starting, 3 RUNNING, 4 SUSPECT. -/
def State.panelState (s : State) (p : Nat) : Nat := s.get F.TCH_PNL_STATUS_STATE p
/-- Drive lines in use (R511). -/
def State.drives (s : State) (p : Nat) : Nat := s.get F.TCH_PNL_CFG_DRIVES p
/-- Sense lines in use. -/
def State.senses (s : State) (p : Nat) : Nat := s.get F.TCH_PNL_CFG_SENSES p
/-- Number of node (d, s) among a panel's nodes. -/
def nodeNum (d sl : Nat) : Nat := d * 72 + sl
/-- The nodes in use, in node index order. -/
def State.nodes (s : State) (p : Nat) : List Nat :=
  (List.range (s.drives p)).flatMap (fun d => (List.range (s.senses p)).map (nodeNum d))
/-- Index of a node's registers. -/
def nodeIx (p n : Nat) : Nat := p * 2880 + n
/-- Is the sense line retired (R523)? -/
def State.lineRetired (s : State) (p sl : Nat) : Bool := bit (s.get F.TCH_LINE_RET_RETIRED (p * 2 + sl / 64)) (sl % 64)

/-- Raw value of a gate window; none for an invalid node: N below 16, or an oscillator above 20 MHz (R513). -/
def Gate.raw (g : Gate) : Option Nat := if g.n < 16 || g.m < 20 * g.n then none else some (min 65535 ((128 * g.m + g.n) / (2 * g.n)))

/-- Raw value of a node in this scan, none where it is invalid. Values are kept plus 1. -/
def Panel.rawOf (q : Panel) (n : Nat) : Option Nat := match tget 0 q.raw n with | 0 => none | k + 1 => some k

/-- Is the node valid in this scan and on a line in service? -/
def State.nodeValid (s : State) (p n : Nat) : Bool := ((s.panel p).rawOf n).isSome && !s.lineRetired p (n % 72)

/-- Baseline of a node. -/
def State.baseOf (s : State) (p n : Nat) : Nat := s.get F.TCH_NODE_BASE (nodeIx p n)

/-- B - R of a valid node (R515). -/
def State.ownSignal (s : State) (p n : Nat) : Int := (s.baseOf p n : Int) - ((((s.panel p).rawOf n).getD 0 : Nat) : Int)

/-- Signal of a node; an invalid or retired one takes the mean of its valid neighbours on the same drive line (R523). -/
def State.signal (s : State) (p n : Nat) : Int :=
  if s.nodeValid p n then s.ownSignal p n
  else
    let nb := (if n % 72 = 0 then [] else [n - 1]) ++ (if n % 72 + 1 < s.senses p then [n + 1] else [])
    let ok := nb.filter (s.nodeValid p)
    if ok.isEmpty then 0 else roundOpen ((ok.map (s.ownSignal p)).foldl (· + ·) 0) ok.length

/-- Signal of a self group: R - B (R515). Invalid groups, and those without a baseline yet, give 0. -/
def selfSignal (raw base : List (Nat × Nat)) (g : Nat) : Int :=
  match tget 0 raw g, tget 0 base g with
  | 0, _ => 0
  | _, 0 => 0
  | k + 1, b => (k : Int) - (b : Int)

/-- Baselines of self groups that have none yet are this scan's raw values (R515: the engine holds them; DESIGN CHOICE, log entry
44). -/
def groupsSeen (raw base : List (Nat × Nat)) : List (Nat × Nat) :=
  base ++ (raw.filter (fun x => tget 0 base x.1 = 0)).map (fun x => (x.1, x.2 - 1))

/-- Contact threshold of the panel's mode (Table 15.1). -/
def State.contactThr (s : State) (p : Nat) : Int :=
  if s.get F.TCH_PNL_CFG_MODE p = 3 then (s.get F.TCH_PNL_THR_GLOVE_THR p : Nat) else (s.get F.TCH_PNL_THR_TOUCH_THR p : Nat)
/-- Release threshold of the panel's mode. -/
def State.releaseThr (s : State) (p : Nat) : Int :=
  if s.get F.TCH_PNL_CFG_MODE p = 3 then ((s.get F.TCH_PNL_THR_GLOVE_THR p / 2 : Nat) : Int) else (s.get F.TCH_PNL_THR_RELEASE_THR p : Nat)

/-- Square of the distance of two positions in 1/256 pitch. -/
def dist2 (ax ay bx by_ : Int) : Int := (ax - bx) ^ 2 + (ay - by_) ^ 2

/-- Does a touch of the previous scan lie within 1 pitch of the node? -/
def Panel.nearTouch (q : Panel) (n : Nat) : Bool :=
  q.touches.any (fun t => decide (dist2 t.tx t.ty (256 * (n % 72 : Nat)) (256 * (n / 72 : Nat)) ≤ 256 ^ 2))

/-- Head pixels of a position (R524). -/
def State.toPixels (s : State) (p : Nat) (x y : Int) : Nat × Nat :=
  let x := if s.on F.TCH_PNL_MAP_XFLIP p then 256 * ((s.senses p : Int) - 1) - x else x
  let y := if s.on F.TCH_PNL_MAP_YFLIP p then 256 * ((s.drives p : Int) - 1) - y else y
  let (x, y) := if s.on F.TCH_PNL_MAP_SWAP p then (y, x) else (x, y)
  let ax := (s.get F.TCH_PNL_MAP_XOFF p : Int) + x * (s.get F.TCH_PNL_MAP_XSCALE p : Int) / 4096
  let ay := (s.get F.TCH_PNL_MAP_YOFF p : Int) + y * (s.get F.TCH_PNL_MAP_YSCALE p : Int) / 4096
  ((clampI ax 0 ((s.get F.HDn_H_HACTIVE p : Int) - 1)).toNat, (clampI ay 0 ((s.get F.HDn_V_VACTIVE p : Int) - 1)).toNat)

/-! ### Regions and delivery (R528 to R533) -/

/-- The enabled region of panel `p` with the highest PRIO that contains a pixel, the lowest index among equals (R528). -/
def State.regionAt (s : State) (p x y : Nat) (ok : Nat → Bool) : Option Nat :=
  ((List.range 256).filter (fun r => s.on F.TCH_RCFG_EN r && s.get F.TCH_RCFG_PANEL r = p && ok r
      && inRect (s.get F.TCH_RGN_X r, s.get F.TCH_RGN_Y r, s.get F.TCH_RGN_W r, s.get F.TCH_RGN_H r) x y)).foldl (fun best r =>
    match best with
    | none => some r
    | some b => if s.get F.TCH_RCFG_PRIO b < s.get F.TCH_RCFG_PRIO r then some r else some b) none

/-- A touch record without its PHASE bit (Table 15.2). -/
structure TchRec where
  event : Nat
  id : Nat
  panel : Nat
  flags : Nat
  region : Nat := 0
  z : Nat := 0
  src : Nat := 0
  st : Nat := 0
  x : Nat := 0
  y : Nat := 0
  signal : Nat := 0
  area : Nat := 0
  scan : Nat := 0
  deriving DecidableEq, Repr

/-- The 32 bytes of a record. -/
def TchRec.bytes (r : TchRec) (phase : Bool) : List Byte :=
  leBytes 1 r.event ++ leBytes 1 (r.id % 16 + r.panel * 16 + b2n phase * 128) ++ leBytes 2 r.flags ++ leBytes 1 r.region ++ leBytes 1 r.z
    ++ leBytes 2 r.src ++ leBytes 8 r.st ++ leBytes 2 r.x ++ leBytes 2 r.y ++ leBytes 2 r.signal ++ leBytes 2 r.area
    ++ leBytes 4 r.scan ++ leBytes 4 0

/-- A record from the data of a TOUCH message. -/
def TchRec.parse (b : List Byte) : TchRec :=
  { event := fieldLE b 0 1, id := fieldLE b 1 1 % 16, panel := fieldLE b 1 1 / 16 % 8, flags := fieldLE b 2 2, region := fieldLE b 4 1,
    z := fieldLE b 5 1, src := fieldLE b 6 2, st := fieldLE b 8 8, x := fieldLE b 0x10 2, y := fieldLE b 0x12 2,
    signal := fieldLE b 0x14 2, area := fieldLE b 0x16 2, scan := fieldLE b 0x18 4 }

/-- Write a record to Drawer `d`'s touch ring (R531, R533). -/
def State.tchRing (s : State) (d : Nat) (r : TchRec) : State :=
  if !s.on F.DRW_TCH_CTRL_EN d || s.drwState d ≠ 1 then s
  else
    let n := s.get F.DRW_TCH_POS_WRITTEN d
    let size := 2 ^ s.get F.DRW_TCH_RING_SIZE_LOG2 d
    if size ≤ (n + 2 ^ 32 - s.get F.DRW_TCH_POS_CONSUMED d) % 2 ^ 32 then
      (s.incSat F.DRW_TCH_STAT_LOST d).put F.DRW_TCH_STAT_RESYNC d 1
    else
      let again := s.on F.DRW_TCH_STAT_RESYNC d
      let b := { r with flags := if again then setBit r.flags 5 else r.flags }.bytes (n / size % 2 = 0)
      let slot := s.get F.DRW_TCH_RING_BASE d * 64 + n % size * 32
      let s := ((s.hostWrite d (slot + 8) (b.drop 8)).hostWrite d slot (b.take 8)).incWrap F.DRW_TCH_POS_WRITTEN d
      let s := s.put F.DRW_TCH_STAT_RESYNC d 0
      if again then { s with tch := { s.tch with resync := s.tch.resync.filter (fun x => x ≠ d) ++ [d] } } else s

/-- Lines of sources 47 and 48: panel events that EVT_EN lets through, and a firmware queue that is not empty. -/
def State.tchLines (s : State) : State :=
  let evt := (List.range 8).any (fun p => s.on F.TCH_PNL_CMD_EVT_EN p &&
    (s.on F.TCH_PNL_STATUS_ABSENT_EVT p || s.on F.TCH_PNL_STATUS_SUSPECT_EVT p || s.on F.TCH_PNL_STATUS_PERSIST_EVT p
      || s.on F.TCH_PNL_STATUS_OVERFLOW p))
  (s.icuLine 47 evt).icuLine 48 (!s.tch.fwq.isEmpty)

/-- Deliver a record to one owner: a Drawer's ring with the region's SLOT, the firmware queue with its index (R529). -/
def State.tchOwner (s : State) (owner r : Nat) (x : TchRec) : State :=
  if owner < 64 then s.tchRing owner { x with region := s.get F.TCH_RCFG_SLOT r }
  else if owner = 0x40 then
    if 64 ≤ s.tch.fwq.length then s.incSat F.TCH_FWQ_STATUS_LOST
    else { s with tch := { s.tch with fwq := s.tch.fwq ++ [{ x with region := r }.bytes false] } }
  else s

/-- Deliver a record of region `r`: to its owner, and a copy to a peer if FWD is set (R529). -/
def State.tchDeliver (s : State) (r : Nat) (x : TchRec) : State :=
  let s := if x.event = 1 then s.pmuEvent 0x1D 2 x.panel 1 none true else s
  let s := s.tchOwner (s.get F.TCH_RCFG_OWNER r) r x
  if s.on F.TCH_RCFG_FWD r then
    let y : TchRec := { x with region := s.get F.TCH_RCFG_FWD_RGN r, src := s.ownId, flags := setBit x.flags 6 }
    s.sendTo { type := 0x28, dlen := 2, dest := s.get F.TCH_RCFG_FWD_ID r, data := y.bytes false }
  else s

/-- Fire the touch vectors of the Drawers that got records since `old` (R532). -/
def State.tchVectors (s old : State) : State :=
  ((List.range 64).filter (fun d => s.get F.DRW_TCH_POS_WRITTEN d ≠ old.get F.DRW_TCH_POS_WRITTEN d)).foldl (fun s d =>
    s.msixEvent d (s.get F.DRW_TCH_CTRL_VECTOR d)) s

/-- The record of a touch at this scan of its panel. -/
def State.touchRec (s : State) (p event : Nat) (t : Touch) (flags : Nat) : TchRec :=
  { event := event, id := t.id, panel := p, flags := flags ||| t.flags ||| (if s.panelState p = 4 then 16 else 0), src := s.ownId,
    st := (s.panel p).st, x := t.px, y := t.py, signal := t.signal, area := t.area, scan := s.get F.TCH_PNL_STATUS_SCAN_SEQ p }

/-- Deliver the record of a touch to its region; a touch in no region is not delivered (R528). -/
def State.touchOut (s : State) (p event : Nat) (t : Touch) (flags : Nat := 0) : State :=
  match t.region with | none => s | some r => s.tchDeliver r (s.touchRec p event t flags)

/-- ST and its state as a record carries them. -/
def State.stWord (s : State) : Nat := s.st % 2 ^ 62 + s.stState * 2 ^ 62

/-- Every live touch of a panel ends with CANCEL, and its hover with HOVER_END. -/
def State.cancelTouches (s : State) (p : Nat) : State :=
  let s := (s.panel p).touches.foldl (fun s t => s.touchOut p 6 t) s
  let s := match (s.panel p).hover with
    | some (some r) => s.tchDeliver r (s.touchRec p 5 {} 0)
    | _ => s
  (s.modPanel p (fun q => { q with touches := [], hover := none })).put F.TCH_PNL_STATUS_TOUCHES p 0

/-! ### Baselines (R519 to R521) -/

/-- Plate temperature now, in degrees (PWR_SUPPLY.PLATE_T). -/
def State.plateT (s : State) : Int := sx (s.get F.PWR_SUPPLY_PLATE_T) 8

/-- Start a panel (R519): baselines from its MRAM record, or fresh ones from the first four scans. -/
def State.panelStart (s : State) (p : Nat) : State :=
  if s.boot.recovery then s
  else
  let s := (s.put F.TCH_PNL_STATUS_STATE p 2).put F.TCH_PNL_STATUS_SCAN_SEQ p 0
  match s.nv.baselines.find? (fun x => x.1 = p && x.2.valid) with
  | some (_, rec_) =>
    let k := sx (s.get F.TCH_PNL_TEMP_TEMPCO p) 16 * (s.plateT - rec_.temp)
    let s := rec_.base.foldl (fun s (n, b) =>
      s.put F.TCH_NODE_BASE (nodeIx p n) (clampI ((2 * (b : Int) * (1000000 + k) + 1000000) / 2000000) 0 65535).toNat) s
    (s.put F.TCH_PNL_STATUS_BASE_FRESH p 0).modPanel p (fun q => { fresh := 4, first := true, scanAt := q.scanAt, savedAt := s.now })
  | none => s.modPanel p (fun q => { fresh := 0, first := true, scanAt := q.scanAt, savedAt := s.now })

/-- Every baseline takes the raw value of this scan; the groups' too. -/
def State.rebaseNow (s : State) (p : Nat) : State :=
  let q := s.panel p
  let s := (s.nodes p).foldl (fun s n => match q.rawOf n with
    | none => s
    | some r => s.put F.TCH_NODE_BASE (nodeIx p n) r) s
  s.modPanel p (fun q => { q with groupS := q.selfS.map (fun x => (x.1, x.2 - 1)), groupD := q.selfD.map (fun x => (x.1, x.2 - 1)), neg := [] })

/-- One of the first four scans of a panel without a record (R519): sums, and after the fourth the means. -/
def State.freshScan (s : State) (p : Nat) : State :=
  let q := s.panel p
  let sums := (s.nodes p).map (fun n =>
    let old := (q.sums.find? (fun x => x.1 = n)).map (fun x => x.2) |>.getD (0, 0)
    match q.rawOf n with | none => (n, old) | some r => (n, (old.1 + r, old.2 + 1)))
  let s := s.modPanel p (fun q => { q with sums := sums, fresh := q.fresh + 1 })
  if q.fresh + 1 < 4 then s
  else
    let s := sums.foldl (fun s (n, (t, c)) => if c = 0 then s else s.put F.TCH_NODE_BASE (nodeIx p n) ((2 * t + c) / (2 * c))) s
    (s.put F.TCH_PNL_STATUS_BASE_FRESH p 1).modPanel p (fun q =>
      { q with sums := [], groupS := q.selfS.map (fun x => (x.1, x.2 - 1)), groupD := q.selfD.map (fun x => (x.1, x.2 - 1)) })

/-- Write a panel's baselines to MRAM (R520); a SUSPECT panel writes none. -/
def State.baselineWrite (s : State) (p : Nat) : State :=
  if s.panelState p ≠ 3 then s
  else
    let base := ((s.nodes p).map (fun n => (n, s.baseOf p n))).filter (fun x => x.2 ≠ 0)
    { s.modPanel p (fun q => { q with savedAt := s.now }) with
        nv := { s.nv with baselines := tset {} s.nv.baselines p { temp := s.plateT, base := base } } }

/-- BASELINE_SAVE (R520): 600 s after the last, with no touch. -/
def execBaselineSave (p : PanelId) (s : State) : Host.Outcome State Fault Refusal :=
  .next (if (s.panel p).touches.isEmpty && decide ((s.panel p).savedAt + 600000000000 ≤ s.now) then s.baselineWrite p else s)

/-- A step of (R - B) / 64 rounded away from zero (R521). -/
def track64 (x : Int) : Int := if 0 ≤ x then (x + 63) / 64 else -((-x + 63) / 64)

/-- Tracking and negative correction after a scan (R521). -/
def State.trackBaselines (s : State) (p : Nat) (quiet noContact : Bool) : State :=
  let q := s.panel p
  let thr : Int := (s.get F.TCH_PNL_THR_TOUCH_THR p : Nat)
  let rel : Int := (s.get F.TCH_PNL_THR_RELEASE_THR p : Nat)
  (s.nodes p).foldl (fun s n => match q.rawOf n with
    | none => s
    | some r =>
      let sg := s.ownSignal p n
      let k := if noContact && decide (sg ≤ -thr) then tget 0 q.neg n + 1 else 0
      let s := s.modPanel p (fun q => { q with neg := tset 0 q.neg n (if k = 8 then 0 else k) })
      if k = 8 then s.put F.TCH_NODE_BASE (nodeIx p n) r
      else if quiet && decide (sg.natAbs < rel) then s.put F.TCH_NODE_BASE (nodeIx p n) ((s.baseOf p n : Int) + track64 (-sg)).toNat
      else s) s

/-! ### Finding and tracking touches (R522 to R527) -/

/-- The eight neighbours of a node. -/
def State.neighbours (s : State) (p n : Nat) : List Nat :=
  ([-1, 0, 1] : List Int).flatMap (fun dy => ([-1, 0, 1] : List Int).filterMap (fun dx =>
    let y : Int := (n / 72 : Nat) + dy
    let x : Int := (n % 72 : Nat) + dx
    if (dy = 0 ∧ dx = 0) ∨ y < 0 ∨ x < 0 ∨ (s.drives p : Int) ≤ y ∨ (s.senses p : Int) ≤ x then none
    else some (nodeNum y.toNat x.toNat)))

/-- Candidates of this scan (R522, step 1). -/
def State.candidates (s : State) (p : Nat) : List Nat :=
  (s.nodes p).filter (fun n => s.nodeValid p n &&
    decide ((if (s.panel p).nearTouch n then s.releaseThr p else s.contactThr p) ≤ s.signal p n))

/-- Is the candidate a peak (step 2)? -/
def State.isPeak (s : State) (p n : Nat) : Bool :=
  (s.neighbours p n).all (fun m => decide (s.signal p m < s.signal p n) || (s.signal p m = s.signal p n && decide (n < m)))

/-- Sum of the positive signals of three nodes. -/
def State.posSum (s : State) (p : Nat) (ns : List (Int × Int)) : Int :=
  ns.foldl (fun a (d, sl) =>
    if d < 0 ∨ sl < 0 ∨ (s.drives p : Int) ≤ d ∨ (s.senses p : Int) ≤ sl then a
    else a + max 0 (s.signal p (nodeNum d.toNat sl.toNat))) 0

/-- 256 x c + floor(256 x (hi - lo) / (lo + mid + hi)). -/
def centroid (c : Int) (lo mid hi : Int) : Int := if lo + mid + hi = 0 then 256 * c else 256 * c + 256 * (hi - lo) / (lo + mid + hi)

/-- Position of a peak in 1/256 pitch on the sense and drive axes (step 3). -/
def State.peakPos (s : State) (p n : Nat) : Int × Int :=
  let d : Int := (n / 72 : Nat)
  let sl : Int := (n % 72 : Nat)
  let col := fun x => s.posSum p [(d - 1, x), (d, x), (d + 1, x)]
  let row := fun y => s.posSum p [(y, sl - 1), (y, sl), (y, sl + 1)]
  (centroid sl (col (sl - 1)) (col sl) (col (sl + 1)), centroid d (row (d - 1)) (row d) (row (d + 1)))

/-- Candidates joined to a set through neighbours, after `n` rounds. -/
def State.joined (s : State) (p : Nat) (cs : List Nat) : Nat → List Nat → List Nat
  | 0, got => got
  | n + 1, got =>
    let more := cs.filter (fun c => !got.contains c && (s.neighbours p c).any got.contains)
    if more.isEmpty then got else s.joined p cs n (got ++ more)

/-- Insert by decreasing signal, then increasing node number. -/
def insPeak (sig : Nat → Int) (n : Nat) : List Nat → List Nat
  | [] => [n]
  | m :: r => if sig m < sig n then n :: m :: r else m :: insPeak sig n r

/-- A peak as a touch without ID and region; none where glove mode does not accept it (R518). -/
def State.peakTouch (s : State) (p : Nat) (cs : List Nat) (n : Nat) : Option Touch :=
  let sg := s.signal p n
  let low := s.get F.TCH_PNL_CFG_MODE p = 3 && decide (sg < (s.get F.TCH_PNL_THR_TOUCH_THR p : Nat))
  let q := s.panel p
  if low && decide (selfSignal q.selfS q.groupS (n % 72 / 4) < (s.get F.TCH_PNL_THR_HOVER_THR p : Nat)) then none
  else
    let pos := s.peakPos p n
    let px := s.toPixels p pos.1 pos.2
    let ns := s.joined p cs cs.length [n]
    some { tx := pos.1, ty := pos.2, px := px.1, py := px.2, signal := sg.toNat, area := ns.length, flags := if low then 8 else 0, nodes := ns }

/-- Insert a pair by increasing distance. -/
def insPair (x : Int × Nat × Nat) : List (Int × Nat × Nat) → List (Int × Nat × Nat)
  | [] => [x]
  | y :: r => if x.1 < y.1 then x :: y :: r else y :: insPair x r

/-- Greedy matching of previous touches (by place in the list) with peaks, in increasing distance up to 8 pitches (R525). -/
def matchPairs (ts ps : List Touch) : List (Nat × Nat) :=
  let all := ts.zipIdx.flatMap (fun (t, i) => ps.zipIdx.map (fun (q, j) => (dist2 t.tx t.ty q.tx q.ty, i, j)))
  let srt := (all.filter (fun x => decide (x.1 ≤ 2048 ^ 2))).foldl (fun acc x => insPair x acc) []
  srt.foldl (fun got x => if got.any (fun g => g.1 = x.2.1 || g.2 = x.2.2) then got else got ++ [(x.2.1, x.2.2)]) []

/-- Insert an event (0 for UP, 1 otherwise; ID) in the order of R532. -/
def insEvent (x : Nat × Nat × Nat × Touch) : List (Nat × Nat × Nat × Touch) → List (Nat × Nat × Nat × Touch)
  | [] => [x]
  | y :: r => if x.1 < y.1 || (x.1 = y.1 && decide (x.2.1 < y.2.1)) then x :: y :: r else y :: insEvent x r

/-- Track the peaks of a scan: the events in order and the live touches after it (R525 to R527). -/
def State.trackTouches (s : State) (p : Nat) (peaks : List Touch) : List (Nat × Nat × Nat × Touch) × List Touch :=
  let q := s.panel p
  let ms := matchPairs q.touches peaks
  let kept := ms.filterMap (fun (i, j) => match q.touches[i]?, peaks[j]? with
    | some t, some k => some { k with id := t.id, region := t.region, since := t.since, flags := t.flags }
    | _, _ => none)
  let ups := (q.touches.zipIdx.filter (fun (_, i) => !ms.any (fun m => m.1 = i))).map (fun x => x.1)
  let news := (peaks.zipIdx.filter (fun (_, j) => !ms.any (fun m => m.2 = j))).map (fun x => x.1)
  let used := q.touches.map (fun t => t.id)
  let downs := news.foldl (fun (acc : List Touch) t =>
    match (List.range 16).find? (fun i => !used.contains i && !acc.any (fun x => x.id = i)) with
    | none => acc
    | some i =>
      let start := if q.first then 1 else 0
      let wake := if q.wake && acc.isEmpty then 128 else 0
      acc ++ [{ t with id := i, region := s.regionAt p t.px t.py (fun _ => true), since := q.st % 2 ^ 62, flags := t.flags + start + wake }]) []
  let ev := ups.map (fun t => (0, t.id, 3, t)) ++ kept.map (fun t => (1, t.id, 2, t)) ++ downs.map (fun t => (1, t.id, 1, t))
  (ev.foldl (fun acc x => insEvent x acc) [], kept ++ downs.map (fun t => { t with flags := t.flags % 128 }))

/-- The haptic trigger of a region for UP or DOWN (R534); none while the panel is SUSPECT (R550). -/
def State.touchTrigger (s : State) (p r : Nat) (down : Bool) : State :=
  let t := s.get F.TCH_RCFG_TRIGGER r
  if s.panelState p = 4 || !(t = 3 || t = (if down then 1 else 2)) then s else s.hapTrigger p (s.get F.TCH_RCFG_EFFECT r)

/-- Has the contact lasted PERSIST_S, and is that new (R527)? -/
def State.persists (s : State) (p : Nat) (x : Touch) : Bool :=
  !bit x.flags 1 && decide (x.since + s.get F.TCH_PNL_CFG_PERSIST_S p * 10 ^ 9 ≤ (s.panel p).st % 2 ^ 62)

/-- The events and live touches of a scan once contacts that persist are flagged or, with ABSORB, ended by UP flagged ABSORBED (R527). -/
def State.persistEvents (s : State) (p : Nat) (ev : List (Nat × Nat × Nat × Touch)) (live : List Touch) :
    List (Nat × Nat × Nat × Touch) × List Touch :=
  if s.on F.TCH_PNL_CFG_ABSORB p then
    (ev.foldl (fun acc x => insEvent (if x.2.2.1 = 2 && s.persists p x.2.2.2 then
        (0, x.2.1, 3, { x.2.2.2 with flags := setBit x.2.2.2.flags 2 }) else x) acc) [],
      live.filter (fun x => !s.persists p x))
  else (ev, live.map (fun x => if s.persists p x then { x with flags := setBit x.flags 1 } else x))

/-- PERSIST_EVT, and the baselines of an absorbed contact's nodes (R527). -/
def State.persist (s : State) (p : Nat) (live : List Touch) : State :=
  let q := s.panel p
  (live.filter (s.persists p)).foldl (fun s x =>
    let s := s.put F.TCH_PNL_STATUS_PERSIST_EVT p 1
    if !s.on F.TCH_PNL_CFG_ABSORB p then s
    else x.nodes.foldl (fun s n => match q.rawOf n with
      | none => s
      | some r => s.put F.TCH_NODE_BASE (nodeIx p n) r) s) s

/-- Hover of a mode 2 panel without contact (R517): D, and its position from the self groups. DEDUCED: a group stands at the
middle of its four lines. -/
def State.hoverAt (s : State) (p : Nat) : Option (Nat × Nat × Nat) :=
  let q := s.panel p
  let gs := (List.range ((s.senses p + 3) / 4))
  let gd := (List.range ((s.drives p + 3) / 4))
  let sg := fun g => selfSignal q.selfS q.groupS g
  let dg := fun g => selfSignal q.selfD q.groupD g
  let best := fun (f : Nat → Int) (l : List Nat) => l.foldl (fun b g => if f b < f g then g else b) 0
  let bs := best sg gs
  let bd := best dg gd
  let d := (sg bs).toNat
  let thr := s.get F.TCH_PNL_THR_HOVER_THR p
  let at_ := fun (f : Nat → Int) (n g : Nat) =>
    4 * centroid (g : Nat) (if g = 0 then 0 else max 0 (f (g - 1))) (max 0 (f g)) (if g + 1 < n then max 0 (f (g + 1)) else 0) + 384
  if d = 0 || d < thr then none
  else
    let px := s.toPixels p (at_ sg gs.length bs) (at_ dg gd.length bd)
    some (px.1, px.2, min 25 (25 * thr / d))

/-- Deliver the hover of this scan, or the end of the last one (R517, R528). -/
def State.hoverScan (s : State) (p : Nat) : State :=
  let h := if s.get F.TCH_PNL_CFG_MODE p = 2 && (s.panel p).touches.isEmpty then s.hoverAt p else none
  match h with
  | some (x, y, z) =>
    let r := (s.regionAt p x y (fun _ => true)).filter (fun r => s.on F.TCH_RCFG_HOVER r)
    let s := match r with
      | some r => s.tchDeliver r { s.touchRec p 4 { px := x, py := y } 0 with z := z }
      | none => s
    s.modPanel p (fun q => { q with hover := some r })
  | none =>
    let s := match (s.panel p).hover with
      | some (some r) => s.tchDeliver r (s.touchRec p 5 {} 0)
      | _ => s
    s.modPanel p (fun q => { q with hover := none })

/-- Live touches of regions that Drawer `d` owns, with their panels. -/
def State.touchesOf (s : State) (d : Nat) : List (Nat × Touch) :=
  (List.range 8).flatMap (fun p => ((s.panel p).touches.filter (fun t =>
    (t.region.map (fun r => decide (s.get F.TCH_RCFG_OWNER r = d))).getD false)).map (fun t => (p, t)))

/-- Resend every live touch of the Drawers `ds`, whose rings had run full before this scan, as MOVE with RESYNC (R533). -/
def State.tchResend (s : State) (ds : List Nat) : State :=
  ds.foldl (fun s d => (s.touchesOf d).foldl (fun s (p, t) => match t.region with
    | none => s
    | some r => s.tchRing d { s.touchRec p 2 t 32 with region := s.get F.TCH_RCFG_SLOT r }) s)
    { s with tch := { s.tch with resync := s.tch.resync.filter (fun d => !ds.contains d) } }

/-- Touches of a scan: found, tracked, delivered; then persistence, hover and baselines (R521 to R528). -/
def State.scanTouches (s : State) (p : Nat) : State :=
  let cs := s.candidates p
  let peaks := ((cs.filter (s.isPeak p)).foldl (fun acc n => insPeak (s.signal p) n acc) []).filterMap (s.peakTouch p cs)
  let s := s.put F.TCH_PNL_STATUS_ABOVE p cs.length
  let s := if 16 < peaks.length then s.put F.TCH_PNL_STATUS_OVERFLOW p 1 else s
  let q := s.panel p
  let valid := ((s.nodes p).filter (s.nodeValid p)).length
  let s := if !q.first then s
    else if valid < 4 * cs.length then (s.put F.TCH_PNL_STATUS_STATE p 4).put F.TCH_PNL_STATUS_SUSPECT_EVT p 1
    else s.put F.TCH_PNL_STATUS_STATE p 3
  let (ev0, live0) := s.trackTouches p (peaks.take 16)
  let (ev, live) := s.persistEvents p ev0 live0
  let s := s.persist p live0
  let downs := ev.any (fun x => x.2.2.1 = 1)
  let s := ev.foldl (fun s x =>
    let s := s.touchOut p x.2.2.1 x.2.2.2
    match x.2.2.2.region with
    | some r => if x.2.2.1 = 3 then s.touchTrigger p r false else s
    | none => s) s
  let s := s.modPanel p (fun q => { q with touches := live, cands := cs, first := false, wake := q.wake && !downs,
                                           candAt := if cs.isEmpty then q.candAt else s.now })
  let s := s.hoverScan p
  let noContact := (s.panel p).touches.isEmpty
  let s := s.trackBaselines p (noContact && (s.panel p).hover.isNone) noContact
  s.put F.TCH_PNL_STATUS_TOUCHES p (s.panel p).touches.length

/-! ### Scans -/

/-- Time between the scans of panel `p` in ns (R516); RATE_HZ is at least 30. -/
def State.scanNs (s : State) (p : Nat) : Nat := 1000000000 / s.get F.TCH_PNL_CFG_RATE_HZ p

/-- SCAN_START (R511, R512, R516): a panel that is off and has a mode starts; each scan begins afresh, at RATE_HZ. -/
def execScanStart (p : PanelId) (s : State) : Host.Outcome State Fault Refusal :=
  .next (
    if s.get F.TCH_PNL_CFG_MODE p = 0 || !s.pdOnB 14 || decide (2 ≤ s.get F.PWR_STATUS_STATE) then s
    else
      let s := if s.panelState p = 0 then s.panelStart p else s
      if s.panelState p ≤ 1 || decide (s.now < (s.panel p).scanAt + s.scanNs p) then s
      else (s.pmuEvent 0x1D 1 p 1 none true).modPanel p (fun q =>
        { q with scanning := true, raw := [], selfS := [], selfD := [], fired := [], gates := 0, scanAt := s.now }))

/-- Gate windows of a scan (R512): one for each drive line and, in modes 2 and 3, the two of the self scan. -/
def State.gatesOf (s : State) (p : Nat) : Nat := s.drives p + (if 2 ≤ s.get F.TCH_PNL_CFG_MODE p then 2 else 0)

/-- The step that the scan is at (R512): drive lines in increasing order, then the sense groups and the drive groups. -/
def State.stepNow (s : State) (p : Nat) (x : ScanStep) : Bool :=
  let g := (s.panel p).gates
  decide (g < s.gatesOf p) && (match x with
    | .mutualSense d => decide ((d : Nat) = g) && decide (g < s.drives p)
    | .selfSense => g = s.drives p
    | .selfDrive => g = s.drives p + 1)

/-- Values of a step's gate window, listed plus 1. -/
def gateVals (key : Nat → Nat) (gs : List Gate) : List (Nat × Nat) :=
  gs.zipIdx.filterMap (fun (g, i) => g.raw.map (fun r => (key i, r + 1)))

/-- DOWN triggers of a drive line at the end of its gate window (R534). -/
def State.gateTriggers (s : State) (p d : Nat) : State :=
  if s.panelState p ≠ 3 || (s.panel p).first then s
  else (List.range (s.senses p)).foldl (fun s sl =>
    let n := nodeNum d sl
    let q := s.panel p
    if !s.nodeValid p n || decide (s.signal p n < s.contactThr p) || q.cands.contains n || q.nearTouch n then s
    else
      let px := s.toPixels p (256 * (sl : Int)) (256 * (d : Int))
      match s.regionAt p px.1 px.2 (fun _ => true) with
      | none => s
      | some r => if q.fired.contains r then s
        else (s.touchTrigger p r true).modPanel p (fun q => { q with fired := q.fired ++ [r] })) s

/-- GATE_WINDOW_END (R512, R513, R534): the raw values of the step that the scan is at, `counts` being those of its sense lines or groups in
order. -/
def execGateWindowEnd (p : PanelId) (step : ScanStep) (counts : List Gate) (s : State) : Host.Outcome State Fault Refusal :=
  .next (
    if !(s.panel p).scanning || !s.stepNow p step then s
    else
      let s := s.modPanel p (fun q => { q with st := s.stWord, gates := q.gates + 1 })
      match step with
      | .mutualSense d =>
        (s.modPanel p (fun q => { q with raw := q.raw ++ gateVals (nodeNum d) (counts.take (s.senses p)) })).gateTriggers p d
      | .selfSense => s.modPanel p (fun q => { q with selfS := gateVals id counts })
      | .selfDrive => s.modPanel p (fun q => { q with selfD := gateVals id counts }))

/-- A panel goes absent: ABSENT_EVT, every live touch cancelled, probing begins (R535). -/
def State.panelAbsent (s : State) (p : Nat) : State :=
  let s := ((s.cancelTouches p).put F.TCH_PNL_STATUS_STATE p 1).put F.TCH_PNL_STATUS_ABSENT_EVT p 1
  s.modPanel p (fun _ => {})

/-- SCAN_PROCESS (R519 to R532, R535): the last gate window of the scan has ended. -/
def execScanProcess (p : PanelId) (s : State) : Host.Outcome State Fault Refusal :=
  .next (
    if !(s.panel p).scanning || (s.panel p).gates ≠ s.gatesOf p then s
    else
      let s0 := s
      let s := (s.incWrap F.TCH_PNL_STATUS_SCAN_SEQ p).modPanel p (fun q => { q with scanning := false })
      let ns := s.nodes p
      let low := decide ((ns.filter (fun n => ((s.panel p).rawOf n).isSome)).length * 10 < ns.length)
      let k := if low then (s.panel p).absent + 1 else 0
      let s := s.modPanel p (fun q => { q with absent := k })
      let s := if 3 ≤ k then s.panelAbsent p
        else if (s.panel p).rebase then
          ((s.rebaseNow p).put F.TCH_PNL_STATUS_STATE p 3).modPanel p (fun q => { q with rebase := false, first := false, fresh := 4, sums := [] })
        else if (s.panel p).fresh < 4 then s.freshScan p
        else (s.modPanel p (fun q => { q with groupS := groupsSeen q.selfS q.groupS, groupD := groupsSeen q.selfD q.groupD })).scanTouches p
      ((s.tchResend s0.tch.resync).tchVectors s0).tchLines)

/-- SUSPECT_CLEAR (R526): no node was a candidate for 500 ms. -/
def execSuspectClear (p : PanelId) (s : State) : Host.Outcome State Fault Refusal :=
  .next (if s.panelState p = 4 && (s.panel p).cands.isEmpty && decide ((s.panel p).candAt + 500000000 ≤ s.now) then (s.rebaseNow p).put F.TCH_PNL_STATUS_STATE p 3 else s)

/-- Address of a TCH register. -/
def tchAddr (off : Nat) : Nat := 0x00F001D00000 + off

/-- A write of TCH_PNL_CFG: MODE 0 turns the panel off (Table 15.1), its live touches ending with CANCEL (log entry 44). -/
def State.panelMode (s : State) (p : Nat) : State :=
  if s.get F.TCH_PNL_CFG_MODE p ≠ 0 || s.panelState p = 0 then s
  else
    let s0 := s
    (((s.cancelTouches p).put F.TCH_PNL_STATUS_STATE p 0).modPanel p (fun _ => {})).tchVectors s0

/-- REBASE written 1 (R526). -/
def State.panelRebase (s : State) (p : Nat) : State :=
  let s0 := s
  ((s.cancelTouches p).tchVectors s0).modPanel p (fun q => { q with rebase := true })

/-- REBASE. -/
def execRebase (o : Origin) (p : PanelId) (s : State) : Host.Outcome State Fault Refusal :=
  .next (
    let e := 2 * s.get F.TCH_PNL_CMD_EVT_EN p
    s.guarded o { addr := tchAddr (0x128 + 0x40 * p), blk := 0x1D, old := e, new := e + 1 } 0 (fun s => s.panelRebase p))

/-- PANEL_PROBE (R535), 100 ms after the last: a probe of an ABSENT panel finds `valid` nodes valid; after three good ones it starts
again. -/
def execPanelProbe (p : PanelId) (valid : Nat) (s : State) : Host.Outcome State Fault Refusal :=
  .next (
    if s.panelState p ≠ 1 || decide (s.now < (s.panel p).probeAt + 100000000) then s
    else
      let s := s.modPanel p (fun q => { q with probeAt := s.now })
      let k := if 9 * (s.drives p * s.senses p) ≤ 10 * valid then (s.panel p).probes + 1 else 0
      if 3 ≤ k then s.panelStart p else s.modPanel p (fun q => { q with probes := k }))

/-- WAKE_SCAN (R537): a self scan of a panel with WAKE_EN in PARK, at 20 Hz. -/
def execWakeScan (p : PanelId) (sense drive : List Gate) (s : State) : Host.Outcome State Fault Refusal :=
  .next (
    if s.get F.PWR_STATUS_STATE ≠ 2 || !s.on F.TCH_PNL_CFG_WAKE_EN p || s.get F.TCH_PNL_CFG_MODE p = 0
        || decide (s.now < (s.panel p).probeAt + 50000000) then s
    else
      let s := s.modPanel p (fun q => { q with probeAt := s.now })
      let q := s.panel p
      let thr : Int := (s.get F.TCH_PNL_THR_GLOVE_THR p : Nat)
      let hit := fun (base : List (Nat × Nat)) (gs : List Gate) => (List.range gs.length).filter (fun g =>
        decide (thr ≤ selfSignal (gateVals id gs) base g))
      let hits := (hit q.groupS sense).flatMap (fun a => (hit q.groupD drive).map (fun b => (a, b)))
      let both := hits.filter q.wakeHits.contains
      let wake := both.any (fun (a, b) =>
        let px := s.toPixels p (1024 * (a : Int) + 384) (1024 * (b : Int) + 384)
        (s.regionAt p px.1 px.2 (fun r => s.on F.TCH_RCFG_WAKE r)).isSome)
      let s := s.modPanel p (fun q => { q with wakeHits := hits })
      if wake then s.hutchRaise 1 else s)

/-! ### Rings and the firmware queue -/

/-- A DRW_TCH_CONS write, checked as R228 checks a completion doorbell (R533). -/
def State.tchConsume (s : State) (d v : Nat) : State :=
  let st := s.drwState d
  if st = 3 || st = 0 then s
  else if !s.on F.DRW_TCH_CTRL_EN d then s.guestError d 2 0
  else
    let n := 2 ^ s.get F.DRW_TCH_RING_SIZE_LOG2 d
    if (v + 2 ^ 32 - s.get F.DRW_TCH_POS_CONSUMED d) % 2 ^ 32 ≤ n ∧ (s.get F.DRW_TCH_POS_WRITTEN d + 2 ^ 32 - v) % 2 ^ 32 ≤ n
    then s.put F.DRW_TCH_POS_CONSUMED d v else s.guestError d 1 0

/-- TOUCH_CONSUME. -/
def execTouchConsume (d : DrawerId) (v : Fin 4294967296) (s : State) : Host.Outcome State Fault Refusal := .next (s.tchConsume d v)

/-- EN of DRW_TCH_CTRL set (R533, Table 15.15): it fails with FORMAT for a ring size out of range. -/
def State.tchEnable (s : State) (d : Nat) : State :=
  let n := s.get F.DRW_TCH_RING_SIZE_LOG2 d
  if s.on F.DRW_TCH_CTRL_EN d then s
  else if n < 4 || 12 < n then s.guestError d 6 0
  else
    let s := ((s.put F.DRW_TCH_CTRL_EN d 1).put F.DRW_TCH_POS_WRITTEN d 0).put F.DRW_TCH_POS_CONSUMED d 0
    let s0 := s
    ((s.touchesOf d).foldl (fun s (p, t) => match t.region with
      | none => s
      | some r => s.tchRing d { s.touchRec p 1 t 32 with region := s.get F.TCH_RCFG_SLOT r }) s).tchVectors s0

/-- TOUCH_RING_ENABLE. -/
def execTouchRingEnable (d : DrawerId) (s : State) : Host.Outcome State Fault Refusal :=
  .next (if s.drwState d = 0 then s else s.tchEnable d)

/-- POP written 1: the oldest firmware record leaves. -/
def State.fwqPop (s : State) : State := { s with tch := { s.tch with fwq := s.tch.fwq.drop 1 } }.tchLines

/-- TOUCH_FWQ_POP (R529). -/
def execTouchFwqPop (o : Origin) (s : State) : Host.Outcome State Fault Refusal :=
  .next (s.guarded o { addr := tchAddr 0x820, blk := 0x1D, audited := false } 0 State.fwqPop)

/-- A change of a region's owner, slot or enable (R530): CANCEL to the previous owner of each live touch, DOWN with RESYNC to the new
one. -/
def State.regionOwner (s : State) (r owner slot : Nat) (en : Bool) : State :=
  let old := s.get F.TCH_RCFG_OWNER r
  let s0 := s
  let live := (List.range 8).flatMap (fun p => ((s.panel p).touches.filter (fun t => t.region = some r)).map (fun t => (p, t)))
  let s := if old = owner then s else live.foldl (fun s (p, t) => s.tchOwner old r (s.touchRec p 6 t 0)) s
  let s := ((s.putImg F.TCH_RCFG_OWNER r owner).putImg F.TCH_RCFG_SLOT r slot).putImg F.TCH_RCFG_EN r (b2n en)
  let s := if old = owner then s else live.foldl (fun s (p, t) => s.tchOwner owner r (s.touchRec p 1 t 32)) s
  (s.tchVectors s0).tchLines

/-- A TOUCH message arrives (R529): delivered to its region if that has REMOTE_OK, else discarded and counted. -/
def State.touchIn (s : State) (m : Msg) : State :=
  let x := TchRec.parse m.data
  let s0 := s
  if s.on F.TCH_RCFG_REMOTE_OK x.region then ((s.tchDeliver x.region x).tchVectors s0).tchLines
  else { s with tch := { s.tch with remoteLost := s.tch.remoteLost + 1 } }

/-- Entry to PARK or HOLD (R536): live touches end with CANCEL and the baselines are written. -/
def State.tchDrain (s : State) : State :=
  let s0 := s
  ((List.range 8).foldl (fun s p => (s.cancelTouches p).baselineWrite p) s).tchVectors s0

end Sys2Proof.Machine
end

