-- ==== Sys2Proof/Machine/Bist.lean ====
section
/-! DEFINITION. Test commands and the repair map (chapter 25, R720 to R733). -/

namespace Sys2Proof.Machine

/-- Device address of a BST register. -/
def bstAddr (off : Nat) : Nat := 0x00F002600000 + off

/-- Number of a job: its unit class, 5 for MEM_MARCH, 6 for DRAM_TRAIN; one job of a number runs at a time (R729). -/
def TestJob.num (j : TestJob) : Nat := if j.op = 3 then 5 else if j.op = 4 then 6 else j.cls

/-- The job of a number. -/
def State.job (s : State) (n : Nat) : Option TestJob := s.tests.find? (fun j => j.num = n)

/-- BUSY and HOST_BUSY follow the jobs (Table 25.8). -/
def State.bstBusy (s : State) : State :=
  let m : Nat := (List.range 5).foldl (fun a c => if (s.job c).isSome then a + 2 ^ c else a) 0
  (s.put F.BST_STATUS_BUSY 0 m).putB F.BST_STATUS_HOST_BUSY 0 (s.tests.any (fun j => j.host.isSome))

/-- Replace a job, or add it. -/
def State.setJob (s : State) (j : TestJob) : State :=
  ({ s with tests := s.tests.filter (fun (x : TestJob) => decide (x.num ≠ j.num)) ++ [j] }).bstBusy

/-- A job ends. -/
def State.dropJob (s : State) (n : Nat) : State := ({ s with tests := s.tests.filter (fun (x : TestJob) => decide (x.num ≠ n)) }).bstBusy

/-- Memory IDs of Table 25.1. -/
def memIdOk (m : Nat) : Bool := (1 ≤ m && m ≤ 0xB) || (0x10 ≤ m && m ≤ 0x18) || (0x20 ≤ m && m ≤ 0x2F)

/-- Size in MiB of a memory of Table 25.1, a part of one counting as one; the sizes that the spec does not state are open. -/
def State.memMib (s : State) (m : Nat) : Nat :=
  if m = 1 then 8 else if m = 2 then 6 else if m = 3 then 1 else if m = 4 then 32 else if m = 5 ∨ m = 6 then 1
  else if 0x20 ≤ m then s.dramSize / 2 ^ 24 else max 1 (Config.memMib m)

/-- Spare rows of a memory (Table 25.1). -/
def spareRows (m : Nat) : Nat :=
  if m = 1 then 64 else if m = 2 then 48 else if m = 3 then 16 else if m = 4 then 128 else if m = 5 ∨ m = 6 then 8
  else if m = 7 then 32 else if 8 ≤ m ∧ m ≤ 0xB then 32 else if 0x10 ≤ m ∧ m ≤ 0x18 then 8 else 0

/-- Add a failure to the repair map: PENDING on the die, UNREPAIRABLE for DRAM; a full map counts it in MAP_FULL (R722). -/
def State.addRepair (s : State) (f : TestFail) : State :=
  if 64 ≤ s.nv.repairs.length then s.put F.BST_STATUS_MAP_FULL 0 1
  else
    let e : Repair := { mem := f.mem, line := f.line, bit := f.bit % 512, state := if 0x20 ≤ f.mem then 3 else 1 }
    { s with nv := { s.nv with repairs := s.nv.repairs ++ [e] } }

/-- A test descriptor (Table 25.4) as a job. -/
def testOf (host : Option Nat) (b : List Byte) (now : Nat) : TestJob :=
  { host := host, op := fieldLE b 0 1, cls := fieldLE b 1 1, index := fieldLE b 2 1, line := fieldLE b 3 1,
    statusAddr := fieldLE b 8 8, progAddr := fieldLE b 0x10 8, startedAt := now, postedAt := now }

/-- Is the descriptor well formed (Tables 25.3 and 25.4)? -/
def testFormat (b : List Byte) (j : TestJob) : Bool :=
  fieldLE b 4 4 = 0 && fieldLE b 0x18 8 = 0 && (
    if j.op = 1 || j.op = 2 then
      j.cls ≤ 4 && decide (j.index < (if j.cls = 0 || j.cls = 2 then 4 else 8)) && (if j.cls = 3 then j.line < 72 else j.line = 0)
    else if j.op = 3 then memIdOk j.cls && j.index = 0 && j.line = 0
    else j.op = 4 && j.cls = 0 && decide (j.index < 16) && j.line = 0)

/-- Has head `h` an enabled region of CLASS SAFE? -/
def State.safeRegion (s : State) (h : Nat) : Bool := (List.range 16).any (fun r => (s.region h r).en && (s.region h r).cls = 0)

/-- Is the unit of a job retired? -/
def State.unitRetired (s : State) (j : TestJob) : Bool :=
  if j.cls = 0 then s.get F.BGn_STATUS_STATE j.index = 3
  else if j.cls = 1 then s.get F.HDn_STATUS_STATE j.index = 5
  else if j.cls = 2 then s.get F.PLK_PORT_STATUS_STATE j.index = 5
  else if j.cls = 3 then s.lineRetired j.index j.line
  else s.hapPhase j.index = 5

/-- REASON of a refusal (Tables 25.3 and 25.8, R729, R732), 0 for none. DEDUCED: the reasons are tested in the order FORMAT, LIFE_CYCLE,
BUSY, then the unit's own (log entry 20). -/
def State.testRefuse (s : State) (b : List Byte) (j : TestJob) : Nat :=
  let lc := s.get F.CAB_LC_STATE
  if !testFormat b j then 6
  else if j.host.isSome && lc ≠ 0 && (3 ≤ j.op || lc ≠ 3) then 4
  else if (s.job j.num).isSome then 1
  else if 3 ≤ j.op then 0
  else if j.cls = 0 && (s.groupsIn.filter (fun g => g ≠ j.index)).isEmpty then 2
  else if j.cls = 1 && s.safeRegion j.index then 3
  else if j.cls = 3 && !(s.panelState j.index = 3 || s.panelState j.index = 1) then 5
  else 0

/-- Write where a job's addresses lie: host memory on its port, or device memory (R733). Address 0 is none. -/
def State.bstWrite (s : State) (host : Option Nat) (addr : Nat) (bs : List Byte) : State :=
  if addr = 0 then s
  else match host with
    | some p => s.hostOutPush p (.write addr bs false)
    | none =>
      let e := s.memCheck Origin.hw true addr bs.length
      if e = 0 then s.writeBytes addr bs else s.accessError Origin.hw 0x26 e addr

/-- Write the progress record (Table 25.5). -/
def State.bstProgress (s : State) (j : TestJob) : State :=
  s.bstWrite j.host j.progAddr (leBytes 4 j.committed ++ leBytes 4 j.fails ++ leBytes 8 j.firstAddr ++ leBytes 2 j.firstBit
    ++ leBytes 1 j.firstMem ++ leBytes 1 0 ++ leBytes 4 ((s.now - j.startedAt) / 1000) ++ leBytes 8 s.stWord)

/-- Write the progress record and then the status word (R733, Tables 6.6 and 25.5). -/
def State.bstReport (s : State) (j : TestJob) (state code : Nat) : State :=
  (s.bstProgress j).bstWrite j.host j.statusAddr (leBytes 8 (state * 2 ^ 60 + code * 2 ^ 48 + j.committed * 2 ^ 24 + j.total))

/-- The event after a terminal status word (R733). -/
def State.bstEvent (s : State) (host : Option Nat) : State :=
  match host with
  | some p => s.pfEvent p 3
  | none => s.icuRaise 60

/-- Has the unit of a job left service? -/
def State.unitOut (s : State) (j : TestJob) : Bool :=
  if 3 ≤ j.op then true
  else if j.cls = 0 then s.get F.BGn_STATUS_STATE j.index = 2
  else if j.cls = 1 then s.get F.HDn_STATUS_STATE j.index = 4
  else if j.cls = 2 then s.get F.PLK_PORT_STATUS_STATE j.index = 4
  else if j.cls = 3 then true
  else s.hapPhase j.index = 4

/-- Take the unit of a job out of service as soon as it may be (Table 25.3): a group once nothing runs on it, a PlynLink port once its
requests are done and LEAVE is sent, a haptic channel once its brake has ended. -/
def State.unitEnter (s : State) (j : TestJob) : State :=
  if s.unitOut j then s
  else if j.cls = 0 then
    let b := s.bgOf j.index
    if b.holds.isEmpty then (s.modBg j.index (fun b => { b with preemptFor := none, preemptAt := 0, resumeFirst := [] })).setBg j.index 2
    else s.modBg j.index (fun b => { b with preemptFor := some 66, preemptAt := s.now })
  else if j.cls = 1 then
    let s := (s.headStopped j.index).panelDown j.index
    s.put F.HDn_STATUS_STATE j.index 4
  else if j.cls = 2 then
    if s.plkUp j.index then
      let s := if (s.pport j.index).leaving.isSome then s else s.leaveSoon j.index 3
      if s.plkUp j.index then s else s.put F.PLK_PORT_STATUS_STATE j.index 4
    else (s.plkDown j.index 0).put F.PLK_PORT_STATUS_STATE j.index 4
  else if s.hapPhase j.index = 0 || 4 ≤ s.hapPhase j.index then s.hapEnter j.index 4
  else (s.hapWait j.index none).hapBrake j.index

/-- Retire or return a touch line. -/
def State.lineSet (s : State) (p l : Nat) (v : Bool) : State :=
  let w := s.get F.TCH_LINE_RET_RETIRED (p * 2 + l / 64)
  s.putImg F.TCH_LINE_RET_RETIRED (p * 2 + l / 64) (if v then setBit w (l % 64) else clrBit w (l % 64))

/-- Retire the unit of a job. -/
def State.unitRetire (s : State) (j : TestJob) : State :=
  if j.cls = 0 then s.setBg j.index 3
  else if j.cls = 1 then s.put F.HDn_STATUS_STATE j.index 5
  else if j.cls = 2 then s.put F.PLK_PORT_STATUS_STATE j.index 5
  else if j.cls = 3 then s.lineSet j.index j.line true
  else s.hapEnter j.index 5

/-- Return the unit of a job to service (Table 25.3, column On return). -/
def State.unitReturn (s : State) (j : TestJob) : State :=
  if j.cls = 0 then s.setBg j.index 1
  else if j.cls = 1 then
    let s := s.put F.HDn_STATUS_STATE j.index 0
    let s := if s.on F.HDn_PANEL_PWR j.index then s.panelRaise j.index else s
    if s.on F.HDn_CTRL_RUN j.index then s.headStart j.index false else s
  else if j.cls = 2 then s.plkTrain j.index
  else if j.cls = 3 then s.lineSet j.index j.line false
  else s.hapEnter j.index 0

/-- A GO: the descriptor is refused, or its command begins (R728 to R733). -/
def State.bstBegin (s : State) (host : Option Nat) (b : List Byte) : State :=
  let j := testOf host b s.now
  let e := s.testRefuse b j
  if e ≠ 0 then ((s.put F.BST_STATUS_REASON 0 e).bstReport { j with total := 0 } 4 1).bstEvent host
  else
    let j := { j with total := if j.op = 1 then 100 else if j.op = 2 then 1 else if j.op = 3 then s.memMib j.cls else 18,
                      was := decide (j.op < 3) && s.unitRetired j }
    let s := (if host.isNone then s.icuLower 60 else s).setJob j
    let s := s.bstReport j 1 0
    let s := if j.op < 3 && j.cls = 3 then s.lineSet j.index j.line true else s
    if j.op < 3 then s.unitEnter j else s

/-- The descriptor that a GO starts. -/
def State.bstDesc (s : State) (host : Option Nat) : List Byte :=
  (List.range 4).flatMap (fun w => leBytes 8 (match host with
    | none => s.get F.BST_DESC_WORD w
    | some p => s.get F.HPx_BIST_DESC_WORD (p * 4 + w)))

/-- A write of GO with 1 takes effect. -/
def State.bstGo (s : State) (host : Option Nat) : State := s.bstBegin host (s.bstDesc host)

/-- A write of BST_GO, or of HPA_BIST_GO or HPB_BIST_GO, whose descriptor has an OP that `k` picks. -/
def State.goWrite (s : State) (o : Origin) (host : Option PortId) (k : Nat → Bool) : State :=
  if !k (fieldLE (s.bstDesc (host.map (fun p => (p : Nat)))) 0 1) then s
  else match host with
    | none => s.guarded o { addr := bstAddr 0x20, blk := 0x26, new := 1 } (if o.cab then 0 else 2) (fun s => s.bstGo none)
    | some p => s.guarded o { addr := 0x00F001A00420 + 0x100000 * p, blk := 0x1A + p, new := 1 } 0 (fun s => s.bstGo (some p))

/-- UNIT_TEST (R728). A descriptor whose OP is reserved ends here with FORMAT. -/
def execUnitTest (o : Origin) (host : Option PortId) (s : State) : Host.Outcome State Fault Refusal :=
  .next (s.goWrite o host (fun op => op ≠ 2 && op ≠ 3 && op ≠ 4))
/-- UNIT_RETIRE (R728). -/
def execUnitRetire (o : Origin) (host : Option PortId) (s : State) : Host.Outcome State Fault Refusal :=
  .next (s.goWrite o host (fun op => op = 2))
/-- MEM_MARCH (R732). -/
def execMemMarch (o : Origin) (host : Option PortId) (s : State) : Host.Outcome State Fault Refusal :=
  .next (s.goWrite o host (fun op => op = 3))
/-- DRAM_TRAIN (R732). -/
def execDramTrain (o : Origin) (host : Option PortId) (s : State) : Host.Outcome State Fault Refusal :=
  .next (s.goWrite o host (fun op => op = 4))

/-- Count failures in a job; the first stays (Table 25.5). -/
def TestJob.found (j : TestJob) (fs : List TestFail) : TestJob :=
  match fs with
  | [] => j
  | f :: _ =>
    if j.fails = 0 then { j with fails := fs.length, firstAddr := f.addr, firstBit := f.bit % 512, firstMem := f.mem }
    else { j with fails := j.fails + fs.length }

/-- A unit of job `n` is committed, with the failures that its test found, which enter the map at once (R722); the progress record counts it
(R222), and the status word follows at most once per 20 µs (R221). Before the unit of Table 25.3 has left service, its leaving is tried
again. -/
def State.bstUnit (s : State) (n : Nat) (fails : List TestFail) : State :=
  match s.job n with
  | none => s
  | some j =>
    if !s.unitOut j then s.unitEnter j
    else if j.total ≤ j.committed then s
    else
      let due := decide (j.postedAt + 20000 ≤ s.now)
      let j : TestJob := { j.found (if j.op = 2 then [] else fails) with committed := j.committed + 1, postedAt := if due then s.now else j.postedAt }
      let s := (if j.op = 2 then s else fails.foldl State.addRepair s).setJob j
      if due then s.bstReport j 1 0 else s.bstProgress j

/-- What a march leaves in a memory that it does not keep (Table 25.2). DESIGN CHOICE (log entry 5): the value of unlisted bytes. -/
def State.marched (s : State) (m : Nat) : State :=
  if m = 1 then s.zeroBytes 0x00E000000000 0x800000
  else if m = 2 then { s with jnl := { s.jnl with records := [] } }
  else if m = 5 ∨ m = 6 then s.zeroBytes (0x00E003000000 + (m - 5) * 0x40000) 0x40000
  else if 0x20 ≤ m then
    { s with mem := s.mem.filter (fun c => !((s.dramRegion c.1).isSome && s.chanOf (c.1 / 64 * 64) = m - 0x20)) }
  else s

/-- TEST_DONE: job `n` has run to its end and found `fails` with its last units; the unit returns or is retired (R728, R730, R733), and a
channel that was trained takes its new delays and record, `train`, none where it cannot be trained (R504, R505). The command ends only once
its unit has left service. -/
def execTestDone (n : Fin 7) (fails : List TestFail) (train : Option TrainRec) (s : State) : Host.Outcome State Fault Refusal :=
  .next (match s.job n with
    | none => s
    | some j =>
      if !s.unitOut j then s.unitEnter j
      else
        let j : TestJob := { j.found (if j.op = 2 then [] else fails) with committed := j.total }
        let s := if j.op = 2 then s else fails.foldl State.addRepair s
        let s := if j.op = 2 then s.unitRetire j else if j.op = 3 then s.marched j.cls
          else if j.op = 4 then (train.map (fun r => (s.putTraining j.index r).saveTraining j.index)).getD s
          else if j.fails = 0 then s.unitReturn j else s.unitRetire j
        ((s.dropJob j.num).bstReport j 3 0).bstEvent j.host)

/-- A test command ends squashed (R731); a unit that was retired before stays retired, another returns when its domain next powers
up. -/
def State.squashTest (s : State) (j : TestJob) : State :=
  let s := s.dropJob j.num
  let s := if j.op < 3 && j.was then s.unitRetire j else if j.op < 3 && j.cls = 3 then s.lineSet j.index j.line false else s
  let s := if j.op < 3 && j.cls = 0 then s.modBg j.index (fun b => if b.preemptFor = some 66 then { b with preemptFor := none, preemptAt := 0 } else b) else s
  (s.bstReport j 5 0).bstEvent j.host

/-- Test commands that a rule ends (R731). -/
def State.squashTests (s : State) (which : TestJob → Bool) : State := (s.tests.filter which).foldl State.squashTest s

/-- Units that were under test when a domain was turned off, and are not retired, return as it powers up (R731). -/
def State.unitsBack (s : State) : State :=
  let s := (List.range 4).foldl (fun s g =>
    if s.get F.BGn_STATUS_STATE g = 2 && (s.job 0).isNone then s.setBg g 1 else s) s
  let s := (List.range 8).foldl (fun s h =>
    if s.get F.HDn_STATUS_STATE h = 4 && (s.job 1).isNone then s.put F.HDn_STATUS_STATE h 0 else s) s
  let s := (List.range 4).foldl (fun s p =>
    if s.get F.PLK_PORT_STATUS_STATE p = 4 && (s.job 2).isNone then s.plkTrain p else s) s
  (List.range 8).foldl (fun s c => if s.hapPhase c = 4 && (s.job 4).isNone then s.hapEnter c 0 else s) s

end Sys2Proof.Machine
end

