-- ==== Sys2Proof/Machine/Cab.lean ====
section
/-! DEFINITION. Life cycle, fuses and debug certificates: the commands of chapter 19 that need no register access. -/

namespace Sys2Proof.Machine

/-- Device address of a CAB register. -/
def cabAddr (off : Nat) : Nat := 0x00F002100000 + off

/-- The life-cycle state that a start reads: the highest blown pair, and SERVICE for FIELD with a valid SERVICE record
(R620, R624). -/
def State.lifeCycleRead (s : State) : LifeCycle :=
  if s.fuses.pairRetired then .retired
  else if s.fuses.pairField then
    (match s.nv.service with
      | some r => if r.sealOk && r.deviceId = s.fuses.deviceId then .service else .field
      | none => .field)
  else if s.fuses.pairProvisioned then .provisioned else .blank

/-- Make an audit entry and then its effect (Audit before effect); with the buffer full the change waits: nothing happens at
this command (R685). The entries of an emergency or before commit follow the same path. -/
def State.withEntry (s : State) (e : AuditEntry) (k : State → State) : State :=
  if s.auditFull then s else k (s.auditAccept e)

/-- The LIFE_CYCLE entry of a transition (Table 22.1, TYPE 2). -/
def lcEntry (o : Origin) (before after : Nat) : AuditEntry :=
  { origin := o.word, addr := after, old := before, new := after, type := 2 }

/-- Begin a burn; BUSY reads 1 until it completes (R623). -/
def State.startBurn (s : State) (b : Burn) : State :=
  { s.put F.CAB_FUSE_BUSY 0 1 with fuses := { s.fuses with burns := s.fuses.burns ++ [b] } }

/-- A CAB_LC.TARGET request (R622, R625, Table 19.6). -/
def State.lcRequest (s : State) (o : Origin) (target : Nat) : State :=
  let st := s.get F.CAB_LC_STATE
  let nx := s.get F.CAB_LC_NEXT
  if target = 2 ∧ st = 1 ∧ nx = 1 then
    s.withEntry (lcEntry o st 2) (fun s => (s.put F.CAB_LC_NEXT 0 2).startBurn .toField)
  else if target = 4 ∧ (st = 1 ∨ st = 2 ∨ st = 3) ∧ nx ≠ 4 then
    s.withEntry (lcEntry o st 4) (fun s => (s.put F.CAB_LC_NEXT 0 4).startBurn .toRetired)
  else s.put F.CAB_LC_REQ_ERR 0 1

/-- LIFE_CYCLE_REQUEST: a write of CAB_LC.TARGET; CAB is always Cabinet-owned (R610, R622, R625). -/
def execLifeCycleRequest (o : Origin) (target : Fin 8) (s : State) : Host.Outcome State Fault Refusal :=
  .next (s.guarded o
    { addr := cabAddr 0, blk := 0x21, old := s.get F.CAB_LC_STATE, new := (target : Nat) * 256, more := if (target : Nat) = 0 then 0 else 1 } 0
    (fun s => if (target : Nat) = 0 then s else s.lcRequest o target))

/-- SVN of the running copy. -/
def State.runningSvn (s : State) : Nat := fieldLE (if s.get F.CFG_STATUS_COPY = 2 then s.flashB else s.flashA) 0xC 4

/-- A CAB_FUSE.RAISE_TO request: above the floor, at most the smaller of 64 and the running SVN (Table of CAB_FUSE). -/
def State.raiseTo (s : State) (v : Nat) : State :=
  if s.get F.CAB_FUSE_SVN_FLOOR < v ∧ v ≤ min 64 s.runningSvn then s.startBurn (.svn v) else s.put F.CAB_FUSE_FUSE_ERR 0 1

/-- RAISE_TO (R617, R623). -/
def execRaiseTo (o : Origin) (v : Fin 128) (s : State) : Host.Outcome State Fault Refusal :=
  .next (s.guarded o { addr := cabAddr 8, blk := 0x21, new := (v : Nat) * 2 ^ 16 } 0
    (fun s => if (v : Nat) = 0 then s else s.raiseTo v))

/-- A CAB_FUSE.REVOKE request: never ROOT_SLOT, and never the last unrevoked slot, the slots whose burn still waits counted as revoked. -/
def State.revoke (s : State) (mask : Nat) : State :=
  let after := s.fuses.burns.foldl (fun m b => match b with
    | .revoke x => Nat.lor m x
    | _ => m) (Nat.lor (s.get F.CAB_FUSE_REVOKED) mask)
  if bit mask (s.get F.CAB_FUSE_ROOT_SLOT) || after % 16 = 15 then s.put F.CAB_FUSE_FUSE_ERR 0 1
  else s.startBurn (.revoke mask)

/-- REVOKE (R617, R623). -/
def execRevoke (o : Origin) (mask : Fin 16) (s : State) : Host.Outcome State Fault Refusal :=
  .next (s.guarded o { addr := cabAddr 8, blk := 0x21, new := (mask : Nat) * 2 ^ 23 } 0
    (fun s => if (mask : Nat) = 0 then s else s.revoke mask))

/-- What a completed burn leaves in the fuses, the CAB registers and MRAM (R617, R619, R622). -/
def State.burnDone (s : State) (b : Burn) : State :=
  match b with
  | .provisioned => { s.cabEvent F.CAB_EVT_LC_DONE 2 with
      fuses := { s.fuses with pairProvisioned := true, deviceKeySet := true } }
  | .toField => { s.cabEvent F.CAB_EVT_LC_DONE 2 with fuses := { s.fuses with pairField := true } }
  | .toRetired => { s.cabEvent F.CAB_EVT_LC_DONE 2 with
      fuses := { s.fuses with pairRetired := true, keyKill := true }, nv := { s.nv with service := none } }
  | .svn v => { (s.put F.CAB_FUSE_SVN_FLOOR 0 (max s.fuses.svnFloor v)).cabEvent F.CAB_EVT_FUSE_DONE 5 with
      fuses := { s.fuses with svnFloor := max s.fuses.svnFloor v } }
  | .revoke m => { (s.put F.CAB_FUSE_REVOKED 0 (s.fuses.revoked ||| m)).cabEvent F.CAB_EVT_FUSE_DONE 5 with
      fuses := { s.fuses with revoked := (s.fuses.revoked ||| m) % 16 } }

/-- FUSE_BURN_DONE: the oldest burn completes; BUSY clears with the last (R623). -/
def execFuseBurnDone (s : State) : Host.Outcome State Fault Refusal :=
  .next (match s.fuses.burns with
    | [] => s
    | b :: rest =>
      let s := s.burnDone b
      { s.putB F.CAB_FUSE_BUSY 0 (!rest.isEmpty) with fuses := { s.fuses with burns := rest } })

/-! ### Debug (R627 to R631) -/

/-- Does a life-cycle state permit a TAP instruction (Table 19.5)? -/
def tapPermitted (lc code : Nat) : Bool :=
  if code = 0x00 ∨ code = 0x04 ∨ code = 0x05 then lc = 0 ∨ lc = 3
  else if code = 0x21 then lc = 0
  else code = 0x01 ∨ code = 0x02 ∨ code = 0x20 ∨ code = 0x3F

/-- Load a TAP instruction; one that is not permitted acts as BYPASS (R626). In OFF the TAP has no power and drives no pin (R48). -/
def State.tapLoad (s : State) (code : Nat) : State :=
  if s.phase = .off then s
  else
    { s with dbg := { s.dbg with tapInstr := if tapPermitted (s.get F.CAB_LC_STATE) code then code else 0x3F,
                                 pinsDriven := false, pinsHiZ := false } }

/-- EXTEST: the boundary-scan register drives the pins, where permitted (R626, Table 19.7). -/
def execExtest (bsr : Nat) (s : State) : Host.Outcome State Fault Refusal :=
  .next (let t := s.tapLoad 0x00
    if t.dbg.tapInstr = 0x00 && t.phase ≠ .off then { t with dbg := { t.dbg with boundary := bsr, pinsDriven := true } } else t)

/-- IDCODE: selects the 32-bit IDCODE register. -/
def execIdcode (s : State) : Host.Outcome State Fault Refusal := .next (s.tapLoad 0x01)

/-- SAMPLE/PRELOAD: samples the pins into, or preloads, the boundary-scan register; the pins are not driven. -/
def execSamplePreload (bsr : Nat) (s : State) : Host.Outcome State Fault Refusal :=
  .next (let t := s.tapLoad 0x02; if t.phase = .off then t else { t with dbg := { t.dbg with boundary := bsr } })

/-- CLAMP: pins held from the boundary-scan register, bypass selected. -/
def execClamp (s : State) : Host.Outcome State Fault Refusal :=
  .next (let t := s.tapLoad 0x04
    if t.dbg.tapInstr = 0x04 && t.phase ≠ .off then { t with dbg := { t.dbg with pinsDriven := true } } else t)

/-- HIGHZ: outputs at high impedance. -/
def execHighz (s : State) : Host.Outcome State Fault Refusal :=
  .next (let t := s.tapLoad 0x05
    if t.dbg.tapInstr = 0x05 && t.phase ≠ .off then { t with dbg := { t.dbg with pinsHiZ := true } } else t)

/-- BYPASS. -/
def execBypass (s : State) : Host.Outcome State Fault Refusal := .next (s.tapLoad 0x3F)

/-- PROV: an operation on the provisioning registers, permitted only in BLANK (R617, R622, R626). The layout of the PROV data
register is not in the spec: the operand names the operation (log entry 9). -/
def execProv (op : ProvOp) (s : State) : Host.Outcome State Fault Refusal :=
  .next (
    let t := s.tapLoad 0x21
    if t.dbg.tapInstr ≠ 0x21 || t.phase = .off then t
    else match op with
      | .rootDigest slot d =>
        if t.fuses.rootDigest.any (fun p => p.1 = slot) || 4 ≤ slot then t
        else { t with fuses := { t.fuses with rootDigest := t.fuses.rootDigest ++ [(slot, d)] } }
      | .decryptKey => { t with fuses := { t.fuses with decryptKeySet := true } }
      | .svnFloor n =>
        if n ≤ 64 ∧ t.fuses.svnFloor ≤ n then
          { t.put F.CAB_FUSE_SVN_FLOOR 0 n with fuses := { t.fuses with svnFloor := n } }
        else t
      | .burnProvisioned =>
        if t.fuses.rootDigest.any (fun p => p.1 = 0) && t.fuses.decryptKeySet && t.get F.CAB_LC_NEXT = 0 then
          t.withEntry (lcEntry { kind := .debug, cab := true } 0 1)
            (fun t => (t.put F.CAB_LC_NEXT 0 1).startBurn .provisioned)
        else t)

/-- Has a debug command run in time order: LOCKED after 8 failures (R629)? -/
def State.dbgLocked (s : State) : Bool := s.get F.DBG_STATUS_STATE = 5

/-- May the TAP begin a debug command: the TAP has power (R48) and no command is in progress (Table 19.17, log entry 52)? -/
def State.dbgIdle (s : State) : Bool := s.phase ≠ .off && s.get F.DBG_STATUS_BUSY = 0

/-- State code of DBG_STATUS when no command runs: the open session, a current nonce, or idle. -/
def State.dbgRest (s : State) : Nat :=
  if s.dbgLocked then 5
  else if s.dbg.verifying.isSome then 2
  else match s.dbg.session with
    | some x => if x.origin.cab then 4 else 3
    | none => if s.dbg.nonce.isSome then 1 else 0

/-- Write bytes into DBG_BUF from word 0. -/
def State.putDbgBuf (s : State) (bs : List Byte) (n : Nat) : State :=
  (List.range n).foldl (fun s i => s.put F.DBG_BUF_WORD i (fieldLE bs (4 * i) 4)) s

/-- The 288 bytes in DBG_BUF (R628). -/
def State.dbgBuf (s : State) : List Byte := (List.range 72).flatMap (fun i => leBytes 4 (s.get F.DBG_BUF_WORD i))

/-- CHALLENGE: a fresh 48-byte nonce from the TRNG in DBG_BUF(0) to (11), current until it is used, replaced or expires
(R627). The TRNG's output is a free value. -/
def State.challenge (s : State) : State :=
  let n := leBytes 48 (Config.freeValue s.freeCtr)
  let s := { s.fresh with dbg := { s.dbg with nonce := some n, nonceAt := s.now } }
  let s := ((s.putDbgBuf n 12).put F.DBG_STATUS_RESULT 0 0).hutchRaise 14
  s.put F.DBG_STATUS_STATE 0 s.dbgRest

/-- CHALLENGE (R627). -/
def execChallenge (s : State) : Host.Outcome State Fault Refusal := .next (if s.dbgIdle then s.challenge else s)

/-- SUBMIT, a debug request on the TAP as CHALLENGE is (Hutch source 14, log entry 32), begins the checks of R629 on the certificate in
DBG_BUF; the nonce is spent. In LOCKED it returns LOCKED. -/
def State.submit (s : State) : State :=
  if s.dbgLocked then s.put F.DBG_STATUS_RESULT 0 7
  else
    let c := s.dbgBuf
    let ok := match s.dbg.nonce with
      | some n => decide ((c.drop 0x20).take 48 = n) && decide (s.now < s.dbg.nonceAt + 300000000000)
      | none => false
    { ((s.hutchRaise 14).put F.DBG_STATUS_BUSY 0 1).put F.DBG_STATUS_STATE 0 2 with
      dbg := { s.dbg with nonce := none, verifying := some (c, ok) } }

/-- SUBMIT (R629). -/
def execSubmit (s : State) : Host.Outcome State Fault Refusal := .next (if s.dbgIdle then s.submit else s)

/-- End the open session: an audit entry with origin kind 7 and SERIAL, and DBG_CLOSE (R630). -/
def State.endSession (s : State) : State :=
  match s.dbg.session with
  | none => s
  | some x =>
    let s := s.auditAccept { origin := x.origin.word, old := x.serial / 2 ^ 32 % 2 ^ 32, new := x.serial % 2 ^ 32, type := 4 }
    let s := { s with dbg := { s.dbg with session := none } }
    let s := (s.cabEvent F.CAB_EVT_DBG_CLOSE 4).put F.DBG_STATUS_MIN_LEFT 0 0
    s.put F.DBG_STATUS_STATE 0 s.dbgRest

/-- A SUBMIT fails: RESULT, FAILS, and LOCKED after 8 (R629). -/
def State.submitFails (s : State) (code : Nat) : State :=
  let s := (s.put F.DBG_STATUS_RESULT 0 code).incSat F.DBG_STATUS_FAILS
  let s := s.put F.DBG_STATUS_STATE 0 s.dbgRest
  if 8 ≤ s.get F.DBG_STATUS_FAILS then s.put F.DBG_STATUS_STATE 0 5 else s

/-- Scope permitted from the present state and NEXT (Tables 19.5 and 19.6, R625). -/
def scopeOk (st nx scope : Nat) : Bool :=
  if scope = 1 then st = 2 || st = 3
  else if scope = 2 then st = 3
  else if nx = 4 then false
  else if scope = 3 then st = 2 && nx = 2
  else if scope = 4 then (st = 3 && nx = 3) || nx = 3
  else scope = 5 && (st = 2 || st = 3)

/-- A life-cycle scope's transition (R622, R624, R625, R630). -/
def State.lcScope (s : State) (scope serial digest : Nat) : State :=
  let o : Origin := { kind := .debug }
  let st := s.get F.CAB_LC_STATE
  let s : State :=
    if scope = 3 then s.withEntry (lcEntry o st 3) (fun s =>
      { (s.put F.CAB_LC_NEXT 0 3).cabEvent F.CAB_EVT_LC_DONE 2 with
        nv := { s.nv with service := some { deviceId := s.fuses.deviceId, serial := serial, rootDigest := digest } } })
    else if scope = 4 then s.withEntry (lcEntry o st 2) (fun s =>
      { (s.put F.CAB_LC_NEXT 0 2).cabEvent F.CAB_EVT_LC_DONE 2 with nv := { s.nv with service := none } })
    else s.withEntry (lcEntry o st 4) (fun s => (s.put F.CAB_LC_NEXT 0 4).startBurn .toRetired)
  (s.put F.DBG_STATUS_RESULT 0 0).put F.DBG_STATUS_STATE 0 s.dbgRest

/-- Open a session of the scope, replacing one already open (R630). -/
def State.openSession (s : State) (scope serial maxMin : Nat) : State :=
  let s := s.endSession
  let o : Origin := { kind := .debug, cab := scope = 2 }
  let s := s.auditAccept { origin := o.word, old := serial / 2 ^ 32 % 2 ^ 32, new := serial % 2 ^ 32, type := 3 }
  let s := { s with dbg := { s.dbg with session := some ⟨o, serial, s.now, maxMin⟩ } }
  let s := ((s.cabEvent F.CAB_EVT_DBG_OPEN 3).put F.DBG_STATUS_MIN_LEFT 0 maxMin).put F.DBG_STATUS_RESULT 0 0
  s.put F.DBG_STATUS_STATE 0 s.dbgRest

/-- SHA-384 of a certificate's SIGNER_KEY (R628). -/
def certKey (c : List Byte) : Nat := Config.sha384 ((c.drop 0x60).take 96)

/-- Does a certificate's signature fail over its bytes 0x000 to 0x0BF (R628)? -/
def certBad (c : List Byte) : Bool := Config.ecdsaBad ((c.drop 0x60).take 96) ((c.drop 0xC0).take 96) (c.take 0xC0)

/-- Are MAGIC, FORMAT, SCOPE, MAX_MIN and the reserved bytes of a certificate valid (R628, R629)? -/
def certFormat (c : List Byte) : Bool :=
  fieldLE c 0 4 = 0x47424443 && fieldLE c 4 2 = 1 && decide (1 ≤ fieldLE c 6 1) && decide (fieldLE c 6 1 ≤ 5) && fieldLE c 7 1 = 0
    && fieldLE c 0x52 14 = 0
    && (if fieldLE c 6 1 ≤ 2 then decide (1 ≤ fieldLE c 0x50 2) && decide (fieldLE c 0x50 2 ≤ 1440) else fieldLE c 0x50 2 = 0)

/-- RESULT of the checks of R629 on a certificate, in their order; 0 passes. -/
def State.certResult (s : State) (c : List Byte) (nonceOk : Bool) : Nat :=
  if !nonceOk then 1
  else if !certFormat c then 2
  else if fieldLE c 0x10 16 ≠ s.fuses.deviceId then 3
  else if !((s.dbg.rootDigests.take s.dbg.dbgRoots).map leNat).contains (certKey c) then 4
  else if certBad c then 5
  else if !scopeOk (s.get F.CAB_LC_STATE) (s.get F.CAB_LC_NEXT) (fieldLE c 6 1) then 6 else 0

/-- CERTIFICATE_VERDICT: the result of the checks of R629, then the session or the transition of R630. With no room in the audit buffer
for the entries that the verdict makes, it waits (R685). -/
def execCertificateVerdict (s : State) : Host.Outcome State Fault Refusal :=
  .next (match s.dbg.verifying with
    | none => s
    | some (c, nonceOk) =>
      let scope := fieldLE c 6 1
      let r := s.certResult c nonceOk
      if r = 0 ∧ 64 < s.adl.buf.length + (if scope ≤ 2 ∧ s.dbg.session.isSome then 2 else 1) then s
      else
        let s := { s.put F.DBG_STATUS_BUSY 0 0 with dbg := { s.dbg with verifying := none } }
        if r ≠ 0 then (if r = 6 ∧ 3 ≤ scope then s.put F.CAB_LC_REQ_ERR 0 1 else s).submitFails r
        else if 3 ≤ scope then s.lcScope scope (fieldLE c 8 8) (certKey c)
        else s.openSession scope (fieldLE c 8 8) (fieldLE c 0x50 2))

/-- END: the command that ends the open session (R630); DENIED without one (R631). -/
def State.dbgEnd (s : State) : State :=
  if s.dbg.session.isSome then (s.endSession).put F.DBG_STATUS_RESULT 0 0 else s.put F.DBG_STATUS_RESULT 0 8

/-- END (R630). -/
def execEnd (s : State) : Host.Outcome State Fault Refusal := .next (if s.dbgIdle then s.dbgEnd else s)

/-- SESSION_EXPIRE: MAX_MIN minutes after opening the session ends (R630). -/
def execSessionExpire (s : State) : Host.Outcome State Fault Refusal :=
  .next (match s.dbg.session with
    | none => s
    | some x => if x.openedAt + x.maxMin * 60000000000 ≤ s.now then s.endSession else s)

/-- NONCE_EXPIRE: after 300 s the nonce is no longer current (R627). -/
def execNonceExpire (s : State) : Host.Outcome State Fault Refusal :=
  .next (if s.dbg.nonce.isSome && decide (s.dbg.nonceAt + 300000000000 ≤ s.now) then
      let t := { s with dbg := { s.dbg with nonce := none } }
      t.put F.DBG_STATUS_STATE 0 t.dbgRest
    else s)

/-- TRST_LOW: the session ends, the nonce is spent, a verdict in progress is discarded, and the TAP returns to BYPASS
(R627, R629, R630). -/
def execTrstLow (s : State) : Host.Outcome State Fault Refusal :=
  .next (
    let t := s.endSession
    let t := { t with dbg := { t.dbg with nonce := none, verifying := none, tapInstr := 0x3F, pinsDriven := false,
                                          pinsHiZ := false } }
    (t.put F.DBG_STATUS_BUSY 0 0).put F.DBG_STATUS_STATE 0 t.dbgRest)

end Sys2Proof.Machine
end

