-- ==== Sys2Proof/Machine/PlkRemote.lean ====
section
/-! DEFINITION. PlynLink: windows and apertures seen from this module, and remote layers (R466 to R482). -/

namespace Sys2Proof.Machine

/-! ### Apertures (R468 to R472) -/

/-- The window token (R467). -/
def State.token (s : State) (exporter importer win rights : Nat) : Nat :=
  Config.tokenMac s.plk.tokenKey (leBytes 2 exporter ++ leBytes 2 importer ++ leBytes 1 win ++ leBytes 1 rights ++ leBytes 2 0) % 2 ^ 64

/-- Rights that aperture `k` asks for: [0] read, [1] write. -/
def State.apRights (s : State) (k : Nat) : Nat := s.get F.PLK_AP_CTRL_READ k + 2 * s.get F.PLK_AP_CTRL_WRITE k

/-- An enabled aperture sends OPEN to its peer (R468); one whose peer cannot be reached is UNREACHABLE. -/
def State.apOpen (s : State) (k : Nat) : State :=
  let peer := s.get F.PLK_AP_CTRL_PEER k
  let win := s.get F.PLK_AP_CTRL_WIN k
  let s := s.modPlk (fun p => { p with opening := p.opening.filter (fun x => x ≠ k), openAt := tset 0 p.openAt k s.now })
  if !s.reachable peer || peer = s.ownId then s.put F.PLK_AP_CTRL_STATE k 4
  else
    ((s.put F.PLK_AP_CTRL_STATE k 1).modPlk (fun p => { p with opening := p.opening ++ [k] })).sendTo
      { type := 0x12, dlen := 1, dest := peer, arg := win,
        data := leBytes 8 (s.token peer s.ownId win (s.apRights k)) ++ leBytes 1 (s.apRights k) ++ leBytes 7 0 }

/-- PLK_AP_CTRL(k) was written (R468): an enabled aperture asks anew, a disabled one is closed. -/
def State.apWrite (s : State) (k : Nat) : State :=
  if s.on F.PLK_AP_CTRL_EN k then s.apOpen k
  else ((s.put F.PLK_AP_CTRL_STATE k 0).put F.PLK_AP_CTRL_SIZE_M1 k 0).modPlk (fun p => { p with opening := p.opening.filter (fun x => x ≠ k) })

/-- APERTURE_ENABLE (R468): a write of PLK_AP_CTRL(k), Cabinet only, that sets EN with the peer, window and rights given. -/
def execApertureEnable (o : Origin) (k : Fin 64) (peer : Fin 16384) (win : Fin 32) (read write fw : Bool) (s : State) :
    Host.Outcome State Fault Refusal :=
  let keep := s.get F.PLK_AP_CTRL_STATE k * 2 ^ 23 + s.get F.PLK_AP_CTRL_SIZE_M1 k * 2 ^ 26
  let v := (peer : Nat) + win * 2 ^ 14 + b2n read * 2 ^ 19 + b2n write * 2 ^ 20 + 2 ^ 21 + b2n fw * 2 ^ 22
  .next (s.guarded o { addr := plkAddr (0x2000 + 0x10 * k), blk := 0x1C, wide := true, old := s.regWord 92 k, new := v + keep,
                       img := s.regWord 92 k ^^^ (v + keep) }
    (if o.cab || s.regWord 92 k = v + keep then 0 else 2) (fun s =>
      let s := ((s.putImg F.PLK_AP_CTRL_PEER k peer).putImg F.PLK_AP_CTRL_WIN k win).putImg F.PLK_AP_CTRL_READ k (b2n read)
      (((s.putImg F.PLK_AP_CTRL_WRITE k (b2n write)).putImg F.PLK_AP_CTRL_EN k 1).putImg F.PLK_AP_CTRL_FW k (b2n fw)).apWrite k))

/-- APERTURE_OPEN_RETRY (R468): an enabled aperture that is CLOSED or UNREACHABLE asks again 100 ms after its last try; a DENIED one does
not. -/
def execApertureOpenRetry (k : Fin 64) (s : State) : Host.Outcome State Fault Refusal :=
  .next (if s.on F.PLK_AP_CTRL_EN k && (s.get F.PLK_AP_CTRL_STATE k = 0 || s.get F.PLK_AP_CTRL_STATE k = 4)
      && decide (tget 0 s.plk.openAt k + 100000000 ≤ s.now) then s.apOpen k else s)

/-- OPEN_RSP (R468): it answers the oldest OPEN to its sender. -/
def State.openRsp (s : State) (m : Msg) : State :=
  match s.plk.opening.find? (fun k => s.get F.PLK_AP_CTRL_PEER k = m.src) with
  | none => s
  | some k =>
    let s := s.modPlk (fun p => { p with opening := p.opening.filter (fun x => x ≠ k) })
    let r := bits m.arg 16 4
    if r = 0 then
      ((s.put F.PLK_AP_CTRL_STATE k 2).put F.PLK_AP_CTRL_SIZE_M1 k (min (bits m.arg 20 20) (2 ^ 20 - 1))).modPlk
        (fun p => { p with apSession := tset 0 p.apSession k (bits m.arg 0 16) })
    else s.put F.PLK_AP_CTRL_STATE k (if r = 1 then 3 else if r = 5 then 4 else 0)

/-- May the master reach aperture `k` (R469)? -/
def State.apAllowed (s : State) (o : Origin) (k : Nat) : Bool :=
  o.cab || (if o.kind = .drawer then bit (s.get F.PLK_AP_DRW_DRAWERS k) (o.port * 32 + o.fn - 1)
    else (o.kind = .core || o.kind = .debug) && s.on F.PLK_AP_CTRL_FW k)

/-- Is an access through the aperture possible: open, permitted and within the mapped size (R470)? -/
def State.apOk (s : State) (o : Origin) (k off n : Nat) : Bool :=
  s.get F.PLK_AP_CTRL_STATE k = 2 && s.apAllowed o k && decide (off + n ≤ (s.get F.PLK_AP_CTRL_SIZE_M1 k + 1) * 65536)

/-- Change the outstanding requests. -/
def State.modReqs (s : State) (g : List RemoteReq → List RemoteReq) : State := s.modPlk (fun p => { p with reqs := g p.reqs })

/-- The message of a request. -/
def State.reqMsg (s : State) (r : RemoteReq) (tag : Nat) : Msg :=
  { type := if r.write then (if r.mask.isSome then 0x13 else 0x10) else 0x11,
    dlen := if r.write then (if r.mask.isSome then 2 else r.len / 16) else 0, dest := s.get F.PLK_AP_CTRL_PEER r.ap,
    aux := if r.write then 0 else r.len / 16, arg := r.off + tget 0 s.plk.apSession r.ap * 2 ^ 36 + tag * 2 ^ 52,
    data := match r.mask with
      | none => r.data
      | some k => r.data ++ leBytes 2 k ++ leBytes 14 0 }

/-- Does a core's read wait for that core's earlier writes through the same aperture (R471)? -/
def reqWaits (before : List RemoteReq) (r : RemoteReq) : Bool :=
  !r.write && r.cmd.isNone && before.any (fun x => x.write && x.cmd.isNone && x.origin = r.origin && x.ap = r.ap)

/-- Number and issue the requests that may go out, in order (R471); a tag is 12 bits. -/
def State.remotePump (s : State) : List RemoteReq → List RemoteReq → State
  | _, [] => s
  | before, r :: rest =>
    if r.tag.isSome || r.done || reqWaits before r || 4096 ≤ (s.plk.reqs.filter (fun x => x.tag.isSome)).length then
      s.remotePump (before ++ [r]) rest
    else
      let used := s.plk.reqs.filterMap (fun x => x.tag)
      let tag := (((List.range 4096).map (fun i => (s.plk.nextTag + i) % 4096)).find? (fun t => !used.contains t)).getD 0
      let r' := { r with tag := some tag, issuedAt := s.now }
      let s := s.modPlk (fun p => { p with nextTag := (tag + 1) % 4096, reqs := before ++ [r'] ++ rest })
      (s.sendTo (s.reqMsg r' tag)).remotePump (before ++ [r']) rest

/-- Issue what may be issued. -/
def State.remoteGo (s : State) : State := s.remotePump [] s.plk.reqs

/-- Queue requests and issue them. -/
def State.remoteAdd (s : State) (rs : List RemoteReq) : State := (s.modReqs (fun l => l ++ rs)).remoteGo

/-- Requests for `n` bytes at offset `off` of aperture `k` from the data to write: whole granules together, up to 14 in one request,
others by a partial write of one granule. -/
def writeReqs (base : RemoteReq) : Nat → Nat → List Byte → List RemoteReq
  | 0, _, _ => []
  | fuel + 1, off, bs =>
    if bs.isEmpty then []
    else if off % 16 = 0 && 16 ≤ bs.length then
      let n := min 14 (bs.length / 16) * 16
      { base with write := true, off := off, len := n, data := bs.take n } :: writeReqs base fuel (off + n) (bs.drop n)
    else
      let n := min (16 - off % 16) bs.length
      { base with write := true, off := off / 16 * 16, len := 16, mask := some ((2 ^ n - 1) * 2 ^ (off % 16)),
                  data := List.replicate (off % 16) 0 ++ bs.take n ++ List.replicate (16 - off % 16 - n) 0 }
        :: writeReqs base fuel (off + n) (bs.drop n)

/-- Requests that read the granules of `n` bytes at offset `off`, up to 14 in one. -/
def readReqs (base : RemoteReq) : Nat → Nat → Nat → List RemoteReq
  | 0, _, _ => []
  | fuel + 1, off, n =>
    if n = 0 then []
    else
      let lo := off / 16 * 16
      let len := min 224 ((off + n + 15) / 16 * 16 - lo)
      let took := min n (lo + len - off)
      { base with off := lo, len := len } :: readReqs base fuel (off + took) (n - took)

/-- A core access to an aperture (R469 to R471): refused at once with REMOTE, or sent; a read answers when RD_DATA comes. -/
def State.remoteCore (s : State) (o : Origin) (a k off n : Nat) (data : Option (List Byte)) : State :=
  if !s.apOk o k off n then
    let s := s.accessError o 0 0x2D a
    if data.isNone then s.ret o a 0 else s
  else
    let base : RemoteReq := { ap := k, origin := o, addr := a, size := n }
    s.remoteAdd (match data with
      | some bs => writeReqs base (bs.length + 1) off bs
      | none => (readReqs base 1 off (min n 64)).map (fun r => { r with addr := a }))

/-- A request fails (R470): a command ends with code REMOTE and its other requests are dropped; a core access has the effect of R125
with code REMOTE. -/
def State.remoteFail (s : State) (r : RemoteReq) : State :=
  let s := match r.cmd with
    | some (d, q, k) => s.endCmd d q k 4 0x0C
    | none =>
      let s := (s.modReqs (fun l => l.filter (fun x => x ≠ r))).accessError r.origin 0 0x2D r.addr
      if r.write then s else s.ret r.origin r.addr 0
  s.remoteGo.leaveCheck

/-- REMOTE_TIMEOUT (R470): the request with this tag had no response within REQ_TIMEOUT. -/
def execRemoteTimeout (tag : Fin 4096) (s : State) : Host.Outcome State Fault Refusal :=
  .next (match s.plk.reqs.find? (fun r => r.tag = some (tag : Nat) && !r.done) with
    | none => s
    | some r => if s.now < r.issuedAt + s.get F.PLK_CFG_REQ_TIMEOUT * 100000 then s else s.remoteFail r)

/-- A response (WR_ACK, RD_DATA) to an outstanding request (R470, R471). A RESULT of CLOSED or UNREACHABLE is also the aperture's
state from then on (DEDUCED from R468). -/
def State.remoteRsp (s : State) (m : Msg) (write : Bool) : State :=
  match s.plk.reqs.find? (fun r => r.tag = some (m.arg % 4096) && !r.done && r.write = write && s.get F.PLK_AP_CTRL_PEER r.ap = m.src
      || r.tag = some (m.arg % 4096) && !r.done && r.write = write && bits m.arg 12 4 = 5) with
  | none => s
  | some r =>
    let res := bits m.arg 12 4
    if res ≠ 0 then
      (if res = 2 then s.put F.PLK_AP_CTRL_STATE r.ap 0 else if res = 5 then s.put F.PLK_AP_CTRL_STATE r.ap 4 else s).remoteFail r
    else if r.cmd.isSome then
      ((s.modReqs (fun l => l.map (fun x => if x = r then { r with tag := none, done := true, data := if write then [] else m.data } else x)))
        ).remoteGo.leaveCheck
    else
      let s := s.modReqs (fun l => l.filter (fun x => x ≠ r))
      let s := if write then s else s.ret r.origin r.addr (fieldLE m.data (r.addr % 16) r.size)
      s.remoteGo.leaveCheck

/-! ### Windows of this module (R466 to R468, R472) -/

/-- The settings of window `w` changed or EN was cleared: its sessions are dropped (R472). -/
def State.windowChanged (s : State) (w : Nat) : State :=
  (s.modPlk (fun p => { p with sessions := p.sessions.filter (fun x => x.win ≠ w) })).put F.PLK_WIN_CTRL_SESSIONS w 0

/-- WINDOW_CLOSE (R472): a write of PLK_WIN_CTRL(w), Cabinet only, that clears EN or changes the settings. -/
def execWindowClose (o : Origin) (w : Fin 32) (sizeM1 : Fin 1048576) (peer : Fin 16384) (any read write en : Bool) (s : State) :
    Host.Outcome State Fault Refusal :=
  let v := (sizeM1 : Nat) + peer * 2 ^ 20 + b2n any * 2 ^ 34 + b2n read * 2 ^ 35 + b2n write * 2 ^ 36 + b2n en * 2 ^ 37
    + s.get F.PLK_WIN_CTRL_SESSIONS w * 2 ^ 38
  let old := s.regWord 91 w
  .next (s.guarded o { addr := plkAddr (0x1008 + 0x10 * w), blk := 0x1C, wide := true, old := old, new := v, img := old ^^^ v }
    (if o.cab || old = v then 0 else 2) (fun s =>
      if old = v then s
      else
        let s := ((s.putImg F.PLK_WIN_CTRL_SIZE_M1 w sizeM1).putImg F.PLK_WIN_CTRL_PEER w peer).putImg F.PLK_WIN_CTRL_ANY_PEER w (b2n any)
        let s := ((s.putImg F.PLK_WIN_CTRL_READ w (b2n read)).putImg F.PLK_WIN_CTRL_WRITE w (b2n write)).putImg F.PLK_WIN_CTRL_EN w (b2n en)
        s.windowChanged w))

/-- OPEN (R468): a session is granted if the window is enabled for the peer, the rights lie within it and the token matches. -/
def State.openReq (s : State) (m : Msg) : State :=
  let w := m.arg % 32
  let rights := fieldLE m.data 8 1
  let has := s.get F.PLK_WIN_CTRL_READ w + 2 * s.get F.PLK_WIN_CTRL_WRITE w
  let ok := s.on F.PLK_WIN_CTRL_EN w && (s.on F.PLK_WIN_CTRL_ANY_PEER w || s.get F.PLK_WIN_CTRL_PEER w = m.src)
    && rights &&& has = rights && fieldLE m.data 0 8 = s.token s.ownId m.src w rights
  let rsp := fun (s : State) (id r : Nat) =>
    s.sendTo { type := 0x1A, dest := m.src, arg := id + r * 2 ^ 16 + s.get F.PLK_WIN_CTRL_SIZE_M1 w * 2 ^ 20 }
  if !ok then rsp s 0 1
  else if 256 ≤ s.plk.sessions.length then rsp s 0 6
  else
    let id := ((List.range 256).find? (fun i => s.plk.sessions.all (fun x => x.id ≠ i))).getD 0
    let s := s.modPlk (fun p => { p with sessions := p.sessions ++
                                           [{ id := id, win := w, peer := m.src, read := bit rights 0, write := bit rights 1 }] })
    rsp (s.put F.PLK_WIN_CTRL_SESSIONS w (s.plk.sessions.filter (fun x => x.win = w)).length) id 0

/-! ### Remote layers, exporter (R474 to R476, R482) -/

/-- Width of an export in tiles. -/
def State.expTw (s : State) (e : Nat) : Nat := (s.expField e 0x1C 2 + 31) / 32
/-- Height in tiles. -/
def State.expTh (s : State) (e : Nat) : Nat := (s.expField e 0x1E 2 + 31) / 32

/-- Is the export's signature table VALID and does it describe the surface (R476)? -/
def State.expSigOk (s : State) (e : Nat) : Bool :=
  let b := s.dread Origin.hw (s.expField e 8 8) 64
  bit (fieldLE b 0 4) 0 && fieldLE b 4 4 = s.expField e 0x1C 4 && fieldLE b 8 1 = s.expField e 0x20 1 && fieldLE b 0xC 4 = s.expField e 0x18 4

/-- Tiles of a subscriber's rectangle, in increasing index. -/
def State.subTiles (s : State) (e : Nat) (x : Subscriber) : List Nat :=
  (List.range x.th).flatMap (fun y => (List.range x.tw).map (fun c => (x.ty0 + y) * s.expTw e + x.tx0 + c))

/-- Does the signature of tile `t` differ from SHADOW? -/
def State.tileChanged (s : State) (e t : Nat) : Bool :=
  s.dread Origin.hw (s.expField e 8 8 + 64 + 8 * t) 8 ≠ s.dread Origin.hw (s.expField e 0x10 8 + 8 * t) 8

/-- Rows of a tile as lists of pixels, within the surface. -/
def State.tilePixels (s : State) (e t : Nat) : List (List (List Byte)) :=
  let bpp := targetBpp (s.expField e 0x20 1)
  let x0 := t % s.expTw e * 32
  let y0 := t / s.expTw e * 32
  (List.range (min 32 (s.expField e 0x1E 2 - y0))).map (fun y => (List.range (min 32 (s.expField e 0x1C 2 - x0))).map (fun x =>
    s.dread Origin.hw (s.expField e 0 8 + (y0 + y) * s.expField e 0x18 4 + (x0 + x) * bpp) bpp))

/-- Reads of tile `t` that a checker refuses leave their records (R126, R735). -/
def State.tileErrs (s : State) (e t : Nat) : State :=
  let bpp := targetBpp (s.expField e 0x20 1)
  let x0 := t % s.expTw e * 32
  let y0 := t / s.expTw e * 32
  (List.range (min 32 (s.expField e 0x1E 2 - y0))).foldl (fun s y =>
    s.readErr Origin.hw 0x1C (s.expField e 0 8 + (y0 + y) * s.expField e 0x18 4 + x0 * bpp) (min 32 (s.expField e 0x1C 2 - x0) * bpp)) s

/-- Are all entries of a list equal? -/
def allSame (l : List (List Byte)) : Bool := l.all (fun x => some x = l.head?)

/-- The records of the rows: REPEAT, SOLID or RAW, in that order of choice (R475). -/
def encodeRows : Option (List (List Byte)) → List (List (List Byte)) → List Byte
  | _, [] => []
  | above, r :: rs =>
    (if above = some r then [1] else if allSame r then 2 :: r.headD [] else 0 :: r.flatten) ++ encodeRows (some r) rs

/-- The encoding of a tile (R475). -/
def encodeTile (rows : List (List (List Byte))) : List Byte :=
  if allSame rows.flatten then 1 :: rows.flatten.headD [] else 0 :: encodeRows none rows

/-- The TILE messages of an encoded tile, at most 224 bytes each. -/
def tileMsgs (e t v : Nat) : Nat → Nat → List Byte → List Msg
  | 0, _, _ => []
  | fuel + 1, off, bs =>
    let now := bs.take 224
    let last := bs.length ≤ 224
    { type := 0x21, dlen := (now.length + 15) / 16, aux := e, arg := t + off * 2 ^ 20 + b2n last * 2 ^ 33 + v % 65536 * 2 ^ 34, data := now }
      :: (if last then [] else tileMsgs e t v fuel (off + 224) (bs.drop 224))

/-- Do tick `k`'s instant and the lead fit (R476)? The first tick with tick_st(k) - commit_lead at or after ST + 100 us. -/
def State.firstTick (s : State) (st : Nat) : Nat :=
  let p := s.get F.PLK_TICK_PERIOD_Q
  let t := st + s.get F.PLK_CFG_COMMIT_LEAD_US * 1000
  if p = 0 then 0 else if s.tickSt (t * 65536 / p) < t then t * 65536 / p + 1 else t * 65536 / p

/-- End the wait for acknowledgements: those who gave none are resynchronised, the others get GEN_COMMIT (R476). -/
def State.genCommit (s : State) (e : Nat) : State :=
  let x := s.exp_ e
  match x.gen with
  | none => s
  | some v =>
    let k := s.firstTick (s.st + 100000)
    let s := (x.subs.filter (fun b => b.inGen && b.acked)).foldl (fun s b =>
      s.sendTo { type := 0x24, dlen := 1, dest := b.peer, aux := e, arg := v, data := leBytes 8 k ++ leBytes 8 0 }) s
    s.modExp e (fun x => { x with gen := none, subs := x.subs.map (fun b =>
      { b with inGen := false, acked := false, resync := b.resync || (b.inGen && !b.acked) }) })

/-- Commit once every subscriber of the generation has acknowledged. -/
def State.genCheck (s : State) (e : Nat) : State :=
  if (s.exp_ e).subs.all (fun b => !b.inGen || b.acked) then s.genCommit e else s

/-- A generation with value `v` to the subscribers that `who` picks (R476). -/
def State.genRun (s : State) (e v : Nat) (who : Subscriber → Bool) : State :=
  let sig := s.expSigOk e
  let subs := (s.exp_ e).subs.filter who
  let lists := subs.map (fun b => (b, if b.resync || !sig then s.subTiles e b else (s.subTiles e b).filter (s.tileChanged e)))
  let tiles := (List.range (s.expTw e * s.expTh e)).filter (fun t => lists.any (fun l => l.2.contains t))
  let s0 := s
  let s := tiles.foldl (fun s t => s.tileErrs e t) s
  let s := tiles.foldl (fun s t =>
    let ms := tileMsgs e t v 32 0 (encodeTile (s0.tilePixels e t))
    lists.foldl (fun s l => if l.2.contains t then ms.foldl (fun s m => s.sendTo { m with dest := l.1.peer }) s else s) s) s
  let s := s.incSat F.PLK_EXP_STATUS_TILES e ((lists.map (fun l => l.2.length)).foldl (· + ·) 0)
  let s := if !sig then s
    else (subs.flatMap (s.subTiles e)).foldl (fun s t =>
      s.dwrite Origin.hw 0x1C (s0.expField e 0x10 8 + 8 * t) (s0.dread Origin.hw (s0.expField e 8 8 + 64 + 8 * t) 8)) s
  let s := s.tlRaise (s.expField e 0x24 2 % 4096) v
  let s := lists.foldl (fun s l => s.sendTo
    { type := 0x22, dlen := 1, dest := l.1.peer, aux := e, arg := v,
      data := leBytes 4 l.2.length ++ leBytes 1 (s.expField e 0x20 1) ++ leBytes 1 0 ++ leBytes 4 (s.expField e 0x1C 4) ++ leBytes 6 0 }) s
  (s.modExp e (fun x => { x with last := max x.last v, gen := some v, endAt := s.now, subs := x.subs.map (fun b =>
    if who b then { b with inGen := true, acked := false, resync := false } else b) })).genCheck e

/-- GENERATION_START (R476): PROD_TL is above the last started value and no generation is in flight. -/
def execGenerationStart (e : Fin 16) (s : State) : Host.Outcome State Fault Refusal :=
  .next (
    let v := (s.tl (s.expField e 0x22 2 % 4096)).value
    if s.expEn e && (s.exp_ e).gen.isNone && decide ((s.exp_ e).last < v) then s.genRun e v (fun _ => true) else s)

/-- GEN_ACK (R476). -/
def State.genAck (s : State) (m : Msg) : State :=
  let e := m.aux % 16
  if (s.exp_ e).gen = some m.arg then
    (s.modExp e (fun x => { x with subs := x.subs.map (fun b => if b.peer = m.src && b.inGen then { b with acked := true } else b) })).genCheck e
  else s

/-- GEN_ACK_TIMEOUT (R476): 20 ms passed since GEN_END. -/
def execGenAckTimeout (e : Fin 16) (s : State) : Host.Outcome State Fault Refusal :=
  .next (if s.now < (s.exp_ e).endAt + 20000000 then s else s.genCommit e)

/-- SUBSCRIBE (R482). A subscriber whose rectangle is to be sent whole gets it at once where no generation is in flight (R481). -/
def State.subscribeReq (s : State) (m : Msg) : State :=
  let e := m.aux % 16
  let b : Subscriber := { peer := m.src, tx0 := fieldLE m.data 0 2, ty0 := fieldLE m.data 2 2, tw := fieldLE m.data 4 2, th := fieldLE m.data 6 2 }
  let rsp := fun (s : State) (r : Nat) => s.sendTo { type := 0x25, dest := m.src, aux := e, arg := r }
  let others := (s.exp_ e).subs.filter (fun x => x.peer ≠ m.src)
  if !s.expEn e then rsp s 2
  else if b.tw = 0 || b.th = 0 then (rsp (s.modExp e (fun x => { x with subs := others })) 0).genCheck e
  else if s.expTw e < b.tx0 + b.tw || s.expTh e < b.ty0 + b.th then rsp s 3
  else if 8 ≤ others.length then rsp (s.incSat F.PLK_EXP_STATUS_REFUSED e) 6
  else
    let s := (rsp (s.modExp e (fun x => { x with subs := others ++ [b] })) 0).genCheck e
    if (s.exp_ e).gen.isNone then s.genRun e (s.tl (s.expField e 0x22 2 % 4096)).value (fun x => x.resync) else s

/-- PLK_EXP(e) was written: an export that is disabled loses its subscribers. -/
def State.expWrite (s : State) (e : Nat) : State := if s.expEn e then s else s.modExp e (fun x => { x with gen := none, subs := [] })

/-! ### Remote layers, importer (R477, R478, R481, R482) -/

/-- The import that a message of an export comes for. -/
def State.impOf (s : State) (m : Msg) : Option Nat :=
  (List.range 16).find? (fun i => s.impEn i && s.impPeer i = m.src && s.impField i 0x1E 1 % 16 = m.aux % 16)

/-- Bytes staged for an import. -/
def ImportRt.stagedBytes (x : ImportRt) : Nat := (x.staged.map (fun t => t.2.length)).foldl (· + ·) 0
/-- Is STAGE full, so that credit for TILE is withheld (R477)? -/
def State.stageFull (s : State) (i : Nat) : Bool := decide (s.impField i 0x18 4 ≤ (s.imp i).stagedBytes)

/-- TILE (R477, R481): data is staged; a V that differs from the generation's resynchronises. -/
def State.tileIn (s : State) (m : Msg) : State :=
  match s.impOf m with
  | none => s
  | some i =>
    let t := bits m.arg 0 20
    let v := bits m.arg 34 16
    let x := s.imp i
    if (x.v16.map (fun y => decide (y ≠ v))).getD false then s.subscribe i 3
    else
      let old := tget [] x.staged t
      let bs := old.take (bits m.arg 20 13) ++ m.data
      s.modImp i (fun x =>
        { x with v16 := some v, staged := tset [] x.staged t bs,
                 complete := if bit m.arg 33 && !x.complete.contains t then x.complete ++ [t] else x.complete })

/-- Does tile `t` of an export `w` pixels wide lie in the import's rectangle? -/
def State.inImpRect (s : State) (i w t : Nat) : Bool :=
  let g := max 1 ((w + 31) / 32)
  let x := t % g
  let y := t / g
  decide (s.impField i 0x20 2 ≤ x) && decide (x < s.impField i 0x20 2 + s.impField i 0x24 2)
    && decide (s.impField i 0x22 2 ≤ y) && decide (y < s.impField i 0x22 2 + s.impField i 0x26 2)

/-- GEN_END (R477, R481): the count, V and rectangle are checked. -/
def State.genEnd (s : State) (m : Msg) : State :=
  match s.impOf m with
  | none => s
  | some i =>
    let x := s.imp i
    let w := fieldLE m.data 6 2
    if (x.v16.map (fun y => decide (y ≠ m.arg % 65536))).getD false || x.complete.length ≠ fieldLE m.data 0 4
        || x.staged.length ≠ x.complete.length || x.complete.any (fun t => !s.inImpRect i w t) then s.subscribe i 3
    else s.modImp i (fun x => { x with ended := some (m.arg, fieldLE m.data 4 1, w, fieldLE m.data 8 2) })

/-- Is a mirror of import `i` shown, or in a pending flip, on a layer that firmware owns? -/
def State.mirrorIn (s : State) (a : Nat) (pend : Bool) : Bool :=
  allLayers.any (fun p => 0x40 ≤ s.ownerOf p.1 p.2 &&
    (if pend then ((s.layer p.1 p.2).pend.map (fun f => decide (f.desc.addr = a))).getD false
     else ((s.layer p.1 p.2).active.map (fun d => decide (d.addr = a))).getD false))

/-- The mirror shown: 1 where only MIRROR1 is on a layer (Table 13.27). -/
def State.impFront (s : State) (i : Nat) : Nat := if s.mirrorIn (s.impField i 8 8) false && !s.mirrorIn (s.impField i 0 8) false then 1 else 0

/-- Rows of an encoded tile as bytes: `w` pixels of `bpp` bytes a row (R475). -/
def decodeRows (w bpp : Nat) : Nat → List Byte → List Byte → List (List Byte)
  | 0, _, _ => []
  | n + 1, above, b =>
    let mode := fieldLE b 0 1
    let rest := b.drop 1
    if mode = 1 then above :: decodeRows w bpp n above rest
    else if mode = 2 then
      let r := (List.replicate w (rest.take bpp)).flatten
      r :: decodeRows w bpp n r (rest.drop bpp)
    else
      let r := rest.take (w * bpp)
      r :: decodeRows w bpp n r (rest.drop (w * bpp))

/-- The rows of a tile from its encoding. -/
def decodeTile (w h bpp : Nat) (b : List Byte) : List (List Byte) :=
  if fieldLE b 0 1 = 1 then List.replicate h (List.replicate w ((b.drop 1).take bpp)).flatten else decodeRows w bpp h [] (b.drop 1)

/-- The origin of CX-COMP: Open, kind 2 (Table 19.1). -/
def Origin.comp : Origin := { kind := .core, cab := false }

/-- Rectangle of tile `t` in the surface, and its byte offset in a mirror. -/
def State.impTile (s : State) (i w h bpp t : Nat) : Nat × Nat × Nat :=
  let g := max 1 ((w + 31) / 32)
  (min 32 (w - t % g * 32), min 32 (h - t / g * 32),
    (t / g - s.impField i 0x22 2) * 32 * s.impField i 0x2C 4 + (t % g - s.impField i 0x20 2) * 32 * bpp)

/-- Write rows into a mirror. -/
def State.mirrorRows (s : State) (a pitch : Nat) : List (List Byte) → State
  | [] => s
  | r :: rs => (s.dwrite Origin.comp 7 a r).mirrorRows (a + pitch) pitch rs

/-- IMPORT_DECODE (R477): the back mirror is neither current nor pending; CX-COMP copies the tiles of the previous generation and
decodes the staged ones; firmware commits the flip that the descriptors give, and GEN_ACK goes out. -/
def execImportDecode (i : Fin 16) (descs : List (Nat × List Byte)) (s : State) : Host.Outcome State Fault Refusal :=
  .next (match (s.imp i).ended with
    | none => s
    | some (v, fmt, w, h) =>
      let f := s.impFront i
      let front := s.impField i (8 * f) 8
      let back := s.impField i (8 * (1 - f)) 8
      if s.mirrorIn back false || s.mirrorIn back true then s
      else
        let bpp := targetBpp fmt
        let pitch := s.impField i 0x2C 4
        let x := s.imp i
        let s := x.changed.foldl (fun s t =>
          let (tw, th, o) := s.impTile i w h bpp t
          let s := (List.range th).foldl (fun s y => s.readErr Origin.comp 7 (front + o + y * pitch) (tw * bpp)) s
          s.mirrorRows (back + o) pitch ((List.range th).map (fun y => s.dread Origin.comp (front + o + y * pitch) (tw * bpp)))) s
        let s := x.staged.foldl (fun s t =>
          let (tw, th, o) := s.impTile i w h bpp t.1
          s.mirrorRows (back + o) pitch (decodeTile tw th bpp t.2)) s
        let s := (s.modImp i (fun x => { x with v16 := none, staged := [], complete := [], ended := none, changed := x.complete })).returnHeld
        let s := s.put F.PLK_IMP_STATUS_STATE i 2
        let sel := descs.map (fun p => (p.1, Desc.parse p.2))
        let s := if (s.commitCheck 0x40 sel false).1 = 0 then s.commitApply 0x40 sel false 0 none else s
        s.sendTo { type := 0x23, dest := s.impPeer i, aux := s.impField i 0x1E 1 % 16, arg := v })

/-- IMP_TL rises to `v` (R478). -/
def State.impRaise (s : State) (i v : Nat) : State :=
  (s.tlRaise (s.impField i 0x28 2 % 4096) v).incSat F.PLK_IMP_STATUS_GENS i

/-- GEN_COMMIT (R478): a TICKED import waits for the commit instant of the tick named, or of the next tick if that has passed. -/
def State.genCommitIn (s : State) (m : Msg) : State :=
  match s.impOf m with
  | none => s
  | some i =>
    if bit (s.impField i 0x1F 1) 1 && s.on F.PLK_STATUS_TICK_OK then
      let lead := s.get F.PLK_CFG_COMMIT_LEAD_US * 1000
      let at_ := s.tickSt (fieldLE m.data 0 8) - lead
      if s.st ≤ at_ then s.modImp i (fun x => { x with commits := x.commits ++ [(m.arg, at_)] })
      else
        (s.incSat F.PLK_IMP_STATUS_LATE i).modImp i (fun x => { x with commits := x.commits ++ [(m.arg, s.tickSt (s.firstTick s.st) - lead)] })
    else s.impRaise i m.arg

/-- COMMIT_INSTANT (R478): ST reached the instants of the GEN_COMMITs that wait. -/
def execCommitInstant (i : Fin 16) (s : State) : Host.Outcome State Fault Refusal :=
  .next (
    let due := (s.imp i).commits.filter (fun c => c.2 ≤ s.st)
    due.foldl (fun s c => s.impRaise i c.1) (s.modImp i (fun x => { x with commits := x.commits.filter (fun c => s.st < c.2) })))

/-- SUB_ACK (R482). -/
def State.subAck (s : State) (m : Msg) : State :=
  match s.impOf m with
  | none => s
  | some i =>
    let r := m.arg % 16
    if r = 6 then ((s.incSat F.PLK_IMP_STATUS_BUSY i).put F.PLK_IMP_STATUS_STATE i 1).modImp i (fun x => { x with retry := true })
    else if r = 2 then (s.put F.PLK_IMP_STATUS_STATE i 1).modImp i (fun x => { x with retry := true })
    else if r = 3 then (s.put F.PLK_IMP_STATUS_STATE i 1).modImp i (fun x => { x with stopped := true })
    else s

/-- SUBSCRIBE_RETRY (R482), 100 ms after the last SUBSCRIBE. -/
def execSubscribeRetry (i : Fin 16) (s : State) : Host.Outcome State Fault Refusal :=
  .next (if s.impEn i && (s.imp i).retry && decide ((s.imp i).sentAt + 100000000 ≤ s.now) then s.subscribe i 1 else s)

/-- PLK_IMP(i) was written (R481, R482): an enabled import subscribes; one whose EN is cleared leaves its export. `was` is EN before. -/
def State.impWrite (s : State) (i : Nat) (was : Bool) : State :=
  if s.impEn i then s.subscribe i 1
  else
    let s := (s.modImp i (fun _ => {})).put F.PLK_IMP_STATUS_STATE i 0
    if was then
      s.sendTo { type := 0x20, dlen := 1, dest := s.impPeer i, aux := s.impField i 0x1E 1 % 16, data := leBytes 16 0 }
    else s

/-- RETRAIN_PAUSE (R507, R508, R473): with the scheduler's grant, or no head running, and PLK's, the channel stops. -/
def execRetrainPause (s : State) : Host.Outcome State Fault Refusal :=
  .next (match s.dmc.retrain with
    | none => s
    | some r =>
      if r.paused || !(r.granted || !s.anyHeadRuns) || !s.plkGrant (fun p => (s.pport p).heldCredit) then s
      else
        let s := s.modDmc (fun m => { m with retrain := some { r with paused := true } })
        ((s.put F.DMC_RT_STATUS_ACTIVE 0 1).put F.DMC_RT_STATUS_LAST_CH 0 r.ch).incSat F.DMC_RT_STATUS_PAUSES)

end Sys2Proof.Machine
end

