-- ==== Sys2Proof/Machine/Units.lean ====
section
/-! DEFINITION. The copy engines and the composition-engine channels (Table 6.3, R208, R361 to R365), and how running commands commit
their units and reach their data-visible point (R211, R222). -/

namespace Sys2Proof.Machine

/-- The lowest of `n` engines, reporting as sources from `lo`, that runs no command. -/
def State.freeEngine (s : State) (lo n : Nat) : Option Nat :=
  let busy := s.drw.flatMap (fun p => (p.2.cmds.filter (fun c => c.stage = .running)).map (fun c => c.source))
  ((List.range n).map (fun i => lo + i)).find? (fun x => !busy.contains x)

/-- Two ranges of bytes overlap. -/
def overlap (a n b m : Nat) : Bool := a < b + m && b < a + n

/-! ### COPY and FILL -/

/-- SRC, DST, LENGTH, SRC_SPACE, DST_SPACE (Table 6.3). -/
def Cmd.copyBody (c : Cmd) : Nat × Nat × Nat × Nat × Nat := (c.body 0 8, c.body 8 8, c.body 0x10 8, c.body 0x18 1, c.body 0x19 1)

/-- Code of a COPY or FILL that writes nothing (Table 6.3, R208), else 0. -/
def State.copyCheck (s : State) (d : Nat) (c : Cmd) (fill : Bool) : Nat :=
  let (src, dst, n, ss, ds) := c.copyBody
  let far := fun (sp a : Nat) => sp = 2 && decide (2 ^ 42 ≤ a)
  if n = 0 || 0xFFFFFE * 65536 < n || c.body 0x1A 2 ≠ 0 || c.body 0x20 32 ≠ 0 || 2 < ds || far ds dst then 1
  else if fill && n % 4 ≠ 0 then 1
  else if !fill && (2 < ss || far ss src || (ss = ds && overlap src n dst n)) then 1
  else if (ds = 1 && !s.inHeap d dst n) || (!fill && ss = 1 && !s.inHeap d src n) then 4
  else 0

/-- Dispatch a copy-engine command on the lowest free engine of the eight. -/
def State.copyStart (s : State) (d q seq op : Nat) : State :=
  s.dispatch d q seq op (fun _ => 1) (fun c =>
    let e := s.copyCheck d c (op = 2)
    if e ≠ 0 then s.endCmd d q seq 4 e
    else match s.freeEngine 4 8 with
      | none => s
      | some x => s.startCmd d c ((c.body 0x10 8 + 65535) / 65536) 1 x)

/-- COPY (R208). -/
def execCopy (d : DrawerId) (q : QueueId) (seq : Nat) (s : State) : Host.Outcome State Fault Refusal := .next (s.copyStart d q seq 1)
/-- FILL (R208). -/
def execFill (d : DrawerId) (q : QueueId) (seq : Nat) (s : State) : Host.Outcome State Fault Refusal := .next (s.copyStart d q seq 2)

/-! ### COMPOSE (R361 to R365, R239) -/

/-- Descriptors of a LIST, index 0 lowest. -/
def State.listAll (s : State) (d : Nat) (c : Cmd) : List Desc :=
  (List.range (c.body 1 1)).map (fun i => Desc.parse (s.heapRead d (c.body 0x18 8 + 64 * i) 64))

/-- Descriptors of a LIST that are enabled, index 0 lowest. -/
def State.listDescs (s : State) (d : Nat) (c : Cmd) : List Desc :=
  (s.listAll d c).filter Desc.enable

/-- Code of a descriptor of a LIST with output `w` by `h`: the rules of R329 to R331 for video layers, its fence fields ignored; with ENABLE 0
only its encodings count. -/
def State.listDescCheck (s : State) (d w h : Nat) (x : Desc) : Nat :=
  if layerBpp x.format = 0 || 8 ≤ x.flags || 16 ≤ x.transform || x.resv ≠ 0 || (isYuv x.format && (8 ≤ x.csc || x.csc % 4 = 3)) then 1
  else if !x.enable then 0
  else if x.addr % 64 ≠ 0 || x.pitch = 0 || x.pitch % 64 ≠ 0 || 262144 < x.pitch || x.srcW = 0 || x.srcH = 0
      || x.pitch < (x.srcX + x.srcW) * layerBpp x.format || x.dstW = 0 || x.dstH = 0 || w < x.dstX + x.dstW || h < x.dstY + x.dstH
      || (x.format = 0x20 && (x.srcX % 2 = 1 || x.srcW % 2 = 1 || x.transform % 2 = 1)) then 1
  else if !(x.dstW ≤ 16 * x.tw && x.tw ≤ 4 * x.dstW && x.dstH ≤ 16 * x.th && x.th ≤ 4 * x.dstH) then 1
  else if !s.inHeap d x.addr (x.pitch * (x.srcY + x.srcH)) then 4
  else 0

/-- Output rows of a COMPOSE. -/
def State.composeRows (s : State) (c : Cmd) : Nat := if c.body 0 1 = 1 then s.get F.HDn_V_VACTIVE (c.body 2 1) else c.body 6 2

/-- Bytes that `h` output rows of `w` pixels span. -/
def outSpan (pitch fmt w h : Nat) : Nat := pitch * (h - 1) + w * layerBpp fmt

/-- Code of a LIST that may not run (Table 9.9, R239, R362), else 0. -/
def State.listCheck (s : State) (d : Nat) (c : Cmd) : Nat :=
  let fmt := c.body 3 1
  let w := c.body 4 2
  let h := c.body 6 2
  let pitch := c.body 0x10 4
  if c.body 0 1 ≠ 0 || c.body 1 1 = 0 || 8 < c.body 1 1 || !(fmt = 1 || fmt = 3 || fmt = 4 || fmt = 5) || w = 0 || 8192 < w || h = 0
      || 8192 < h || c.body 8 8 % 64 ≠ 0 || pitch % 64 ≠ 0 || c.body 0x18 8 % 64 ≠ 0 || 4 ≤ c.body 0x24 1 || c.body 0x25 27 ≠ 0 then 1
  else if !s.inHeap d (c.body 8 8) (outSpan pitch fmt w h) || !s.inHeap d (c.body 0x18 8) (64 * c.body 1 1) then 4
  else
    let ds := s.listDescs d c
    let bad := ((s.listAll d c).map (s.listDescCheck d w h)).filter (fun e => e ≠ 0)
    match bad with
    | e :: _ => e
    | [] =>
      let ins := (c.body 0x18 8, 64 * c.body 1 1) :: ds.map (fun x => (x.addr + x.pitch * x.srcY, x.pitch * x.srcH))
      if s.replayProt d && ins.any (fun r => overlap r.1 r.2 (c.body 8 8) (outSpan pitch fmt w h)) then 1 else 0

/-- Code of a CAPTURE that may not run (Table 9.9, R363), else 0. -/
def State.captureCheck (s : State) (d : Nat) (c : Cmd) : Nat :=
  let h := c.body 2 1
  let fmt := c.body 3 1
  if 8 ≤ h || !(fmt = 3 || fmt = 5) || c.body 8 8 % 64 ≠ 0 || c.body 0x10 4 % 64 ≠ 0 || 4 ≤ c.body 0x24 1 || c.body 0x25 27 ≠ 0
      || s.ownerOf h 8 ≠ d then 1
  else if !s.inHeap d (c.body 8 8) (outSpan (c.body 0x10 4) fmt (s.get F.HDn_H_HACTIVE h) (s.get F.HDn_V_VACTIVE h)) then 4
  else 0

/-- Dispatch a composition command on the lowest free channel of the four. -/
def State.composeStart (s : State) (d q seq : Nat) (capture : Bool) : State :=
  s.dispatch d q seq 0x20 (fun _ => 1) (fun c =>
    if (c.body 0 1 = 1) ≠ capture then s
    else
      let e := if capture then s.captureCheck d c else s.listCheck d c
      if e ≠ 0 then s.endCmd d q seq 4 e
      else match s.freeEngine 12 4 with
        | none => s
        | some x => s.startCmd d c ((s.composeRows c + 31) / 32) 1 x)

/-- COMPOSE_LIST (R362). A SOURCE that is neither LIST nor CAPTURE ends here with FORMAT. -/
def execComposeList (d : DrawerId) (q : QueueId) (seq : Nat) (s : State) : Host.Outcome State Fault Refusal :=
  .next (s.composeStart d q seq false)
/-- CAPTURE (R363). -/
def execCapture (d : DrawerId) (q : QueueId) (seq : Nat) (s : State) : Host.Outcome State Fault Refusal :=
  .next (s.composeStart d q seq true)

/-- The frame that a capture takes, once it has begun: the first that starts at least 20 us after dispatch (R363). -/
def State.captureOf (s : State) (d : Nat) (c : Cmd) : Option Snap :=
  ((s.headOf (c.body 2 1)).captures.find? (fun x => x.d = d && x.q = c.queue && x.seq = c.seq)).map (fun x => x.snap)

/-- CAPTURE_TIMEOUT (R365): 100 ms after dispatch the capture has not started. -/
def execCaptureTimeout (d : DrawerId) (q : QueueId) (seq : Nat) (s : State) : Host.Outcome State Fault Refusal :=
  .next (match s.cmd? d q seq with
    | none => s
    | some c =>
      if c.stage = .running && c.opcode = 0x20 && c.body 0 1 = 1 && (s.captureOf d c).isNone
          && decide (c.startedAt + 100000000 ≤ s.now) then s.endCmd d q seq 4 0x0A else s)

/-- Rows `y0` to `y0 + n - 1` of a COMPOSE, each as bytes. -/
def State.composeBand (s : State) (d : Nat) (c : Cmd) (y0 n : Nat) : List (List Byte) :=
  let fmt := c.body 3 1
  let fl := c.body 0x24 1
  if c.body 0 1 = 1 then
    let h := c.body 2 1
    (List.range n).map (fun y => (List.range (s.get F.HDn_H_HACTIVE h)).flatMap (fun x =>
      s.capturePixel ((s.captureOf d c).getD {}) fmt (bit fl 1) x (y0 + y)))
  else
    let ds := s.listDescs d c
    (List.range n).map (fun y => (List.range (c.body 4 2)).flatMap (fun x =>
      s.listPixel (Origin.ofDrawer d) (s.drwOf d).heapBase ds (c.body 0x20 4) (c.body 0x14 4) fmt (bit fl 0) x (y0 + y)))

/-- Write rows into the heap. -/
def State.heapRows (s : State) (d off pitch : Nat) : List (List Byte) → State
  | [] => s
  | r :: rs => (s.heapWrite d 0xC off r).heapRows d (off + pitch) pitch rs

/-- The reads of a LIST's source rows: those refused leave their record (R735), and ECC is counted (R493). -/
def State.listEcc (s : State) (d : Nat) (c : Cmd) : State :=
  (s.listDescs d c).foldl (fun t x =>
    (t.heapReadErr d 0xC (x.addr + x.pitch * x.srcY) (x.pitch * x.srcH)).eccLines (Origin.ofDrawer d) false ((s.drwOf d).heapBase + x.addr + x.pitch * x.srcY) (x.pitch * x.srcH)) s

/-- Does an input of a LIST hold an uncorrectable error (DATA_UNCORRECTABLE)? -/
def State.listPoisoned (s : State) (d : Nat) (c : Cmd) : Bool :=
  c.body 0 1 = 0 && (s.listDescs d c).any (fun x => s.poisoned ((s.drwOf d).heapBase + x.addr + x.pitch * x.srcY) (x.pitch * x.srcH))

/-- Does a row that is to be written at `off` cover a poisoned line only in part (R493)? -/
def State.rowsPoisoned (s : State) (d off pitch : Nat) (rows : List (List Byte)) : Bool :=
  rows.zipIdx.any (fun (r, i) => s.partPoisoned ((s.drwOf d).heapBase + off + pitch * i) r.length)

/-! ### Units (R222, R234) -/

/-- The TILES record of a tile gains its bit: first tile index, four reserved bytes, bitmap of 128 tiles (Table 6.12). -/
def State.jnlTile (s : State) (d : Nat) (c : Cmd) (t : Nat) : State :=
  let first := t / 128 * 128
  let mine := fun (r : List Byte) =>
    fieldLE r 2 2 = jnlQueue d c.queue && fieldLE r 4 4 = c.seq && fieldLE r 0 1 = 4 && fieldLE r 8 4 = first
  let old := ((s.jnl.records.find? mine).map (fun r => fieldLE r 16 16)).getD 0
  s.jnlPut d mine (leBytes 1 4 ++ leBytes 1 (t / 128 % 256) ++ leBytes 2 (jnlQueue d c.queue) ++ leBytes 4 c.seq
    ++ leBytes 4 first ++ leBytes 4 0 ++ leBytes 16 (setBit old (t - first)))

/-- The requests of a command that wait or are done. -/
def State.cmdReqs (s : State) (d : Nat) (c : Cmd) : List RemoteReq := s.plk.reqs.filter (fun r => r.cmd = some (d, c.queue, c.seq))

/-- Bytes that done reads returned, from offset `off` on. -/
def readBytesOf (rs : List RemoteReq) (off n : Nat) : List Byte :=
  ((rs.flatMap (fun r => (r.data ++ List.replicate r.len 0).take r.len)).drop (off % 16)).take n

/-- The bytes reach their destination: host memory, heap, or the remote window, whose writes are then awaited (R211). -/
def State.copyOut (s : State) (d : Nat) (c : Cmd) (lo : Nat) (bs : List Byte) : State :=
  let (_, dst, n, _, ds) := c.copyBody
  let fin := fun (s : State) => (s.unitDone d c (c.committed + 1) (min n (lo + 65536))).pmuEvent 0xD 1 (c.source - 4) ((bs.length + 63) / 64) (ctxDrawer d) (!(ctxOrigin d).cab)
  if ds = 0 then fin (s.hostData d (dst + lo) bs)
  else if ds = 1 then
    if s.partPoisoned ((s.drwOf d).heapBase + dst + lo) bs.length then
      (s.eccLines (Origin.ofDrawer d) true ((s.drwOf d).heapBase + dst + lo) bs.length).endCmd d c.queue c.seq 4 8
    else fin (s.heapWrite d 0xD (dst + lo) bs)
  else
    let k := dst / 2 ^ 36 % 64
    let off := (dst + lo) % 2 ^ 36
    if !s.apOk (Origin.ofDrawer d) k off bs.length then s.endCmd d c.queue c.seq 4 0x0C
    else s.remoteAdd (writeReqs { ap := k, origin := Origin.ofDrawer d, addr := dst + lo, cmd := some (d, c.queue, c.seq) } (bs.length + 1) off bs)

/-- The next unit of a COPY or FILL. `data` is what the host's memory returned for a host source. A unit that touches a remote window
first sends its requests; it goes on when they are answered (R470, R471). -/
def State.copyUnit (s : State) (d : Nat) (c : Cmd) (data : List Byte) : State :=
  let (src, dst, len, ss, ds) := c.copyBody
  let lo := c.committed * 65536
  let n := min 65536 (len - lo)
  let o := Origin.ofDrawer d
  let rs := s.cmdReqs d c
  if rs.any (fun r => !r.done) then s
  else if rs.any (fun r => r.write) then ((s.dropReqs d c).unitDone d c (c.committed + 1) (lo + n)).pmuEvent 0xD 1 (c.source - 4) ((n + 63) / 64) (ctxDrawer d) (!(ctxOrigin d).cab)
  else if c.opcode = 2 then
    s.copyOut d c lo (((List.range (n / 4)).flatMap (fun _ => leBytes 4 (c.body 0x1C 4))).take n)
  else if ss = 2 then
    let k := src / 2 ^ 36 % 64
    let off := (src + lo) % 2 ^ 36
    if rs.isEmpty then
      if !s.apOk o k off n || (ds = 2 && !s.apOk o (dst / 2 ^ 36 % 64) ((dst + lo) % 2 ^ 36) n) then s.endCmd d c.queue c.seq 4 0x0C
      else s.remoteAdd (readReqs { ap := k, origin := o, addr := src + lo, cmd := some (d, c.queue, c.seq) } (n + 1) off n)
    else (s.dropReqs d c).copyOut d c lo (readBytesOf rs off n)
  else if ss = 1 then
    let t := s.eccLines o false ((s.drwOf d).heapBase + src + lo) n
    if s.poisoned ((s.drwOf d).heapBase + src + lo) n then t.endCmd d c.queue c.seq 4 8
    else (t.heapReadErr d 0xD (src + lo) n).copyOut d c lo (s.heapRead d (src + lo) n)
  else (s.portRead (d / 32) (src + lo) n).copyOut d c lo ((data ++ List.replicate n 0).take n)

/-- The next units of a COMPOSE: a band of 32 lines, or the whole frame of a capture (R361, R364). -/
def State.composeUnit (s : State) (d : Nat) (c : Cmd) : State :=
  let pitch := c.body 0x10 4
  let rows := s.composeRows c
  if c.body 0 1 = 1 then
    if (s.captureOf d c).isNone then s
    else if s.rowsPoisoned d (c.body 8 8) pitch (s.composeBand d c 0 rows) then s.endCmd d c.queue c.seq 4 8
    else (s.heapRows d (c.body 8 8) pitch (s.composeBand d c 0 rows)).unitDone d c c.total (pitch * rows) |>.pmuEvent 0xC 1 (c.source - 12) rows (ctxDrawer d) (!(ctxOrigin d).cab)
  else
    let y0 := c.committed * 32
    let n := min 32 (rows - y0)
    if s.listPoisoned d c || s.rowsPoisoned d (c.body 8 8 + pitch * y0) pitch (s.composeBand d c y0 n) then
      (s.listEcc d c).endCmd d c.queue c.seq 4 8
    else ((s.listEcc d c).heapRows d (c.body 8 8 + pitch * y0) pitch (s.composeBand d c y0 n)).unitDone d c (c.committed + 1) (pitch * (y0 + n)) |>.pmuEvent 0xC 1 (c.source - 12) n (ctxDrawer d) (!(ctxOrigin d).cab)

/-- A period of a capture stream whose writes are visible; a loss since the last period sets GAP (R566). -/
def State.captureUnit (s : State) (d : Nat) (c : Cmd) : State :=
  let k := d * 32 + c.body 0x0E 1
  let r := s.stream k
  if k % 32 < 16 || r.cmd ≠ some (c.queue, c.seq) || r.frames < (c.committed + 1) * r.period then s
  else
    let s := if r.lost then (s.put F.DRW_AUD_STATUS_GAP k 1).modStream k (fun r => { r with lost := false }) else s
    s.unitDone d c (c.committed + 1) ((c.committed + 1) * r.period * s.frameBytes k)

/-- Tile `t` of a PASS is committed: its TILES bit and COMMITTED (R222, R234), and the event of its Bench group `g` (Table 24.1); which Bench
the event counts for is left open and a free value (log entry 48). -/
def State.tileDone (s : State) (d : Nat) (c : Cmd) (t g : Nat) : State :=
  let s := (s.pmuEvent (8 + g) 2 (Config.freeValue s.freeCtr % 5) 1 (ctxDrawer d) (!(ctxOrigin d).cab)).fresh
  ((s.modCmd d c.queue c.seq (fun c =>
    { c with committed := c.committed + 1, pass := { c.pass with done := c.pass.done ++ [t] } })).jnlTile d c t).statusDue d c.queue c.seq

/-- Does the group of tile `t` of an immediate pass hold the command (R268)? -/
def State.tileHeld (s : State) (d : Nat) (c : Cmd) (t : Nat) : Bool :=
  (c.pass.groupOf t).any (fun g => (s.bgOf g).holds.any (fun h => h.ctx = d && h.q = c.queue && h.seq = c.seq))

/-- Tile `t` of an immediate PASS commits (R270): the draw stream is fully rasterised from the step that dispatched the pass on, since that
step makes its primitives; the tile's blocks hold what they left (R275). -/
def State.immediateTile (s : State) (d : Nat) (c : Cmd) (t : Nat) : State :=
  if c.tileTotal ≤ t || c.pass.done.contains t || !s.tileHeld d c t then s
  else
    let p := s.passDesc d c
    if s.tilePoisoned d c p t then s.endCmd d c.queue c.seq 4 8
    else ((s.tileReadErr d c p (8 + (c.pass.groupOf t).getD 0) t).fresh.storeTile d c (8 + (c.pass.groupOf t).getD 0) t (c.renderTile p t 0 c.pass.prims.length (s.tileStart d c p t))).tileDone d c t ((c.pass.groupOf t).getD 0)

/-- Does some group hold the command? -/
def State.heldByGroup (s : State) (d : Nat) (c : Cmd) : Bool :=
  s.gpu.groups.any (fun p => p.2.holds.any (fun h => h.ctx = d && h.q = c.queue && h.seq = c.seq))

/-- The next unit of a PASS or COMPUTE is counted; the stores of its programs first, of which one outside the heap is a program fault (R276,
R286, R288). -/
def State.gpuUnit (s : State) (d : Nat) (c : Cmd) (tile : Nat) (writes : List (Nat × List Byte)) : State :=
  let r := s.progStores d (s.groupBlk d c) writes
  if r.2 then r.1.shaderEnd d c
  else if c.opcode = 0x11 then r.1.unitDone d c (c.committed + 1) ((c.committed + 1) * 256)
  else if !c.pass.tiled then r.1.immediateTile d c tile
  else match c.pass.written with
    | [] => r.1
    | t :: rest => (r.1.modCmd d c.queue c.seq (fun c => { c with pass := { c.pass with written := rest } })).tileDone d c t (tget 0 c.pass.wroteBy t)

/-- May the next unit of a PASS or COMPUTE be counted: a tile is written back, or a group holds the command? -/
def State.gpuUnitReady (s : State) (d : Nat) (c : Cmd) (tile : Nat) : Bool :=
  if c.opcode = 0x11 then s.heldByGroup d c
  else if c.pass.tiled then !c.pass.written.isEmpty
  else decide (tile < c.tileTotal) && !c.pass.done.contains tile && s.tileHeld d c tile

/-- The next unit of a running command is written and counted (R222). -/
def State.unitCommit (s : State) (d q seq : Nat) (data : List Byte) (writes : List (Nat × List Byte)) : State :=
  match s.cmd? d q seq with
  | none => s
  | some c =>
    if c.stage ≠ .running || c.total ≤ c.committed then s
    else if c.opcode = 1 || c.opcode = 2 then s.copyUnit d c data
    else if c.opcode = 0x20 then s.composeUnit d c
    else if c.opcode = 0x30 then s.captureUnit d c
    else if s.gpuUnitReady d c (leNat data) then s.gpuUnit d c (leNat data) writes
    else s

/-- UNIT_COMMIT: the next unit of a running command is written and counted (R222); of a test command, with the failures that it found, R733. `data` are the bytes that
host memory returned for a COPY, and the number of the tile for an immediate PASS; `writes` are the stores of a unit's programs, as heap
offsets and bytes. -/
def execUnitCommit (w : WorkRef) (data : List Byte) (writes : List (Nat × List Byte)) (s : State) : Host.Outcome State Fault Refusal :=
  .next (match w with
    | .command d q seq => s.unitCommit d q seq data writes
    | .test n fails => s.bstUnit n fails)

/-- DATA_VISIBLE: the command will write nothing more and all its writes are visible (R211, R214); a PASS closes its signature
tables first (R280). A command that ended with remote writes on their way reaches the point once the peer has acknowledged them. -/
def execDataVisible (d : CtxId) (q : QueueId) (seq : Nat) (s : State) : Host.Outcome State Fault Refusal :=
  .next (match s.cmd? d q seq with
    | none => s
    | some c =>
      if c.stage = .running then
        (if c.committed ≠ c.total then s else (if c.opcode = 0x10 then s.passSigEnd d c else s).finishCmd d c (engineBlk c.opcode))
      else if !c.visible && c.stage ≠ .fetched && !s.unacked d q seq then
        (s.dropReqs d c).modCmd d q seq (fun c => { c with visible := true })
      else s)

end Sys2Proof.Machine
end

