-- ==== Sys2Proof/Machine/Drawer.lean ====
section
/-! DEFINITION. Drawer resets, host-port resets, and the mailbox commands of chapter 5 that concern Drawers (R154 to R204, Table 5.7). -/

namespace Sys2Proof.Machine

/-! ### The mailbox (R166 to R168, R175) -/

/-- Field of a mailbox request, `off` counted from the header's start. -/
def State.reqLE (s : State) (p off n : Nat) : Nat :=
  leNat ((List.range n).map (fun i => tget 0 (s.portOf p).request (off + i)))

/-- Bytes of a mailbox request. -/
def State.reqBytes (s : State) (p off n : Nat) : List Byte := (List.range n).map (fun i => tget 0 (s.portOf p).request (off + i))

/-- Payload field of a request: offsets count from the end of the 16-byte header (R741). -/
def State.payLE (s : State) (p off n : Nat) : Nat := s.reqLE p (16 + off) n

/-- The response of the request in service is ready. -/
def State.respond (s : State) (p result detail : Nat) (payload : List Byte) : State :=
  s.modPort p (fun w => { w with job := w.job.map (fun j =>
    { j with waiting := false, rsp := some { result := result, tag := j.tag, detail := detail, payload := payload } }) })

/-- Commands that name a Drawer (R167). -/
def opNamesDrawer (op : Nat) : Bool :=
  [0x0003, 0x0010, 0x0011, 0x0012, 0x0014, 0x0015, 0x0020, 0x0021, 0x0022, 0x0023, 0x0024, 0x0025, 0x0026, 0x0027, 0x0028].contains op

/-- Commands of Table 5.7. -/
def opKnown (op : Nat) : Bool :=
  opNamesDrawer op || [0x0001, 0x0002, 0x0004, 0x0013, 0x0030, 0x0031, 0x0040, 0x0041, 0x0042, 0x0050, 0x0051].contains op

/-- Commands that a recovery start accepts (Table 5.7, column R). -/
def opRecovery (op : Nat) : Bool := [0x0001, 0x0031, 0x0040, 0x0041, 0x0042, 0x0050, 0x0051].contains op

/-- Request payload of a command in bytes (Table 5.23). -/
def opPayload (op : Nat) : Nat :=
  if op = 0x0004 ∨ op = 0x0010 ∨ op = 0x0011 ∨ op = 0x0012 ∨ op = 0x0013 ∨ op = 0x0014 ∨ op = 0x0020 ∨ op = 0x0023 ∨ op = 0x0026
    ∨ op = 0x0027 ∨ op = 0x0028 ∨ op = 0x0031 ∨ op = 0x0041 ∨ op = 0x0050 ∨ op = 0x0051 then 16
  else if op = 0x0030 then 24 else if op = 0x0040 then 16 + 4096 else 0

/-- A write of HPA_MBX_GO or HPB_MBX_GO with 1 (Table 5.8, R166, R168). -/
def State.mbxGo (s : State) (p : Nat) : State :=
  if s.on F.HPx_MBX_STATUS_BUSY p then s.put F.HPx_MBX_STATUS_COLLIDE p 1
  else
    let op := s.reqLE p 0 2
    let j : MbxJob := { opcode := op, drawer := s.reqLE p 2 1, tag := s.reqLE p 4 4 }
    let s := ((s.put F.HPx_MBX_STATUS_BUSY p 1).modPort p (fun w => { w with job := some j })).icuRaise (42 + p)
    if !opKnown op || (s.boot.recovery && !opRecovery op) then s.respond p 1 0 []
    else if 0x7FFF0 < s.reqLE p 8 4 || s.reqLE p 8 4 < opPayload op || (opNamesDrawer op && 31 < j.drawer) then s.respond p 3 0 []
    else s

/-- Serve the request of port `p` if it is a command `op` that nothing has served yet: `k` is given the Drawer it names. -/
def State.serve (s : State) (p op : Nat) (k : Nat → State) : State :=
  match (s.portOf p).job with
  | none => s
  | some j => if j.opcode = op && j.rsp.isNone && !j.waiting then k (p * 32 + j.drawer) else s

/-- MAILBOX_RESPONSE (R175): the response is written, DONE sets and PF0 vector 0 fires. -/
def execMailboxResponse (p : PortId) (s : State) : Host.Outcome State Fault Refusal :=
  .next (match (s.portOf p).job.bind (fun j => j.rsp) with
    | none => s
    | some r =>
      let bs := leBytes 2 r.result ++ leBytes 2 0 ++ leBytes 4 r.tag ++ leBytes 4 r.payload.length ++ leBytes 4 r.detail ++ r.payload
      let old := (s.portOf p).response.filter (fun x => bs.length ≤ x.1)
      let new := ((List.range bs.length).zip bs).filter (fun x => x.2 ≠ 0)
      let s := s.modPort p (fun w => { w with job := none, response := new ++ old })
      ((s.put F.HPx_MBX_STATUS_BUSY p 0).put F.HPx_MBX_STATUS_DONE p 1).pfEvent p 0)

/-! ### Timelines of the pool (R165, R200) -/

/-- Does anything still name timeline `id`: a grant, a wait of a command, or a flip (R200)? -/
def State.tlNamed (s : State) (id : Nat) : Bool :=
  !(s.tl id).grants.isEmpty
    || s.drw.any (fun p => p.2.cmds.any (fun c => c.stage = .fetched && (s.waitList p.1 c).any (fun w => w.1 = some id)))
    || s.layers.any (fun p => p.2.producer = some id || (p.2.pend.bind (fun f => f.tl)) = some id)

/-- Is timeline `id` in the pool: owned by no Drawer, and not an abandoned one that a wait, grant or flip still names (R200)? -/
def State.tlFree (s : State) (id : Nat) : Bool := (s.tl id).owner.isNone && !((s.tl id).abandoned && s.tlNamed id)

/-- IDs of the pool of 4,096 that are free, lowest first. -/
def State.freeTls (s : State) : List Nat := (List.range 4096).filter s.tlFree

/-- Give Drawer `d` `n` fresh timelines at value 0, the lowest free IDs, those of `old` after all others. DESIGN CHOICE (log entry 21). -/
def State.tlAssign (s : State) (d n : Nat) (old : List Nat := []) : State :=
  let fr := s.freeTls
  let ids := (fr.filter (fun i => !old.contains i) ++ fr.filter (fun i => old.contains i)).take n
  let s := ((List.range ids.length).zip ids).foldl (fun s x => s.modTl x.2 (fun _ => { owner := some d, index := x.1 })) s
  s.modDrw d (fun w => { w with tlIds := ids })

/-! ### Drawer reset (R194 to R203) -/

/-- Place an event record (R203, R204). -/
def State.drwEvent (s : State) (p : Nat) (e : DrwEvent) : State :=
  let s := s.modPort p (fun w => if 64 ≤ w.events.length then { w with eventsDropped := w.eventsDropped + 1 }
    else { w with events := w.events ++ [e] })
  (s.put F.HPx_MBX_STATUS_EVENT p 1).pfEvent p 1

/-- End one command squashed (R195, R196): its status word is written where the reset writes to host memory; its report is
discarded. -/
def State.squashCmd (s : State) (d : Nat) (writes : Bool) (c : Cmd) : State :=
  let s := ((s.trayEnd c).dropReqs d c).dropWork d c.queue c.seq
  let s : State := if c.stage = .reported then
      let n := tget 0 s.jnl.ccHeld c.source
      ({ s with jnl := { s.jnl with ccHeld := tset 0 s.jnl.ccHeld c.source (n - 1) } }).put F.JNL_STATUS_CC_OCC 0
        (s.get F.JNL_STATUS_CC_OCC - 1)
    else s
  if writes then s.postStatus d { c with state := 5 } else s

/-- A QUIESCE or SAVE in progress ends, with result `r`. -/
def State.quiesceEnd (s : State) (d r : Nat) : State :=
  match (s.drwOf d).quiesce with
  | none => s
  | some _ => (s.modDrw d (fun w => { w with quiesce := none })).respond (d / 32) r 0 []

/-- SQUASH (R195 to R198): every command ends squashed, streams fall silent, timelines are abandoned and layers removed. -/
def State.squash (s : State) (d : Nat) : State :=
  match (s.drwOf d).reset with
  | none => s
  | some j =>
    let cs := s.cmds d
    let place := ((s.templates.find? (fun t => t.id = s.get F.DRW_INFO_TEMPLATE d)).bind (fun t =>
      if t.placeholder then some t.placeholderAsset else none))
    let s := cs.foldl (fun s c => s.squashCmd d j.hostWrites c) s
    let j := { j with drain := false, squashed := j.squashed + cs.length,
                      rsvCtx := j.rsvCtx + (cs.map (fun c => c.rsvCtx)).sum, rsvShared := j.rsvShared + (cs.map (fun c => c.rsvShared)).sum }
    let s := s.modDrw d (fun w => { w with cmds := [], fetchStall := [], reset := some j })
    let s := s.stallBit
    let s := (s.drwOf d).tlIds.foldl (fun s id => s.abandonTl id) (s.audSquash d)
    s.drawerLayersOff d place

/-- The SHARE of Drawer `d` becomes `v`, with none pending (R304, R306). -/
def State.shareAs (s : State) (d v : Nat) : State := (s.put F.GFE_CTX_SHARE_SHARE d v).put F.GFE_CTX_SHARE_PENDING d 0

/-- Begin a reset of Drawer `d`, or merge the request with the one in progress (R194, R202, R203, Table 5.20). `drainMs` is given for
a DRAIN. -/
def State.drawerReset (s : State) (d : Nat) (cause : ResetCause) (drainMs : Option Nat) : State :=
  let silent := cause = .flr || cause = .prt || cause = .vfDisable
  let frees := cause = .prt || cause = .vfDisable || cause = .destroy
  if s.drwState d = 0 then s
  else match (s.drwOf d).reset with
    | none =>
      let j : ResetJob := { cause := cause, drain := drainMs.isSome, hostWrites := !silent, toFree := frees,
                            deadline := s.now + drainMs.getD 0 * 1000000, seq := (s.get F.DRW_STATUS_RESET_SEQ d + 1) % 65536,
                            share := tget 0 s.gpu.rawShare d }
      let s := (((s.quiesceEnd d 2).shareAs d j.share).put F.DRW_STATUS_STATE d 3).modDrw d (fun w => { w with reset := some j })
      if drainMs.isSome then s else s.squash d
    | some j =>
      let j' := { j with cause := if j.cause.rank < cause.rank then cause else j.cause, toFree := j.toFree || frees,
                         hostWrites := j.hostWrites && !silent }
      let s := s.modDrw d (fun w => { w with reset := some j' })
      if j.drain && drainMs.isNone then s.squash d else s

/-- Registers of a Drawer's page that a reset leaves (R200, R737): DRW_INFO and the bindings shown in DRW_LS_STATUS. -/
def State.drwPageReset (s : State) (d : Nat) : State :=
  let old := s
  let keep := [F.DRW_INFO_DRAWER, F.DRW_INFO_CLASS, F.DRW_INFO_TEMPLATE, F.DRW_INFO_QUEUES, F.DRW_INFO_REPLAY, F.DRW_INFO_NONPREEMPT,
    F.DRW_INFO_HEAP_64M]
  let s := s.applyReset .drw (fun b e => b = 0 && e = d)
  let s := keep.foldl (fun s f => s.put f d (old.get f d)) s
  (List.range 64).foldl (fun s sl =>
    let i := d * 64 + sl
    if old.on F.DRW_LS_STATUS_OWNED i then
      ((s.put F.DRW_LS_STATUS_OWNED i 1).put F.DRW_LS_STATUS_HEAD i (old.get F.DRW_LS_STATUS_HEAD i)).put F.DRW_LS_STATUS_LAYER i
        (old.get F.DRW_LS_STATUS_LAYER i)
    else s) s

/-- The timelines of Drawer `d` are owned by no one any more; what names them still does (R200). -/
def State.tlsOrphan (s : State) (d : Nat) : State := (s.drwOf d).tlIds.foldl (fun s id => s.modTl id (fun t => { t with owner := none })) s

/-- What a reset leaves of a Drawer that it frees: nothing; its grants to wait end. -/
def State.drawerFree (s : State) (d : Nat) : State :=
  let s := (s.tlsOrphan d).drawerUnbind d
  let s := { s with tls := s.tls.map (fun (p : Nat × Timeline) => (p.1, { p.2 with grants := p.2.grants.filter (fun g => g ≠ d) })) }
  let s := (s.applyReset .drw (fun b e => b = 0 && e = d)).put F.DRW_STATUS_STATE d 0
  let s := (List.range 32).foldl (fun s i => s.put F.DRW_AUD_CFG_MODULE (d * 32 + i) 0) s
  let s := ((s.shareAs d 0).put F.GFE_CTX_SHARE_ACTIVE d 0).put F.GFE_CTX_SHARE_CAP d 0
  let s : State := { s with gpu := { s.gpu with rawShare := tset 0 s.gpu.rawShare d 0 } }
  s.modDrw d (fun _ => {})

/-- What a reset leaves of a Drawer that stays bound (R200): ACTIVE, every queue disabled, its MSI-X table cleared, fresh timelines with
new IDs. -/
def State.drawerFresh (s : State) (d share : Nat) : State :=
  let old := (s.drwOf d).tlIds
  let s := s.tlsOrphan d
  let s := ((s.drwPageReset d).shareAs d share).put F.DRW_STATUS_STATE d 1
  let s := s.modDrw d (fun w => { w with reset := none, dirty := none, gerrRaised := false, byQuiesce := false,
                                         fn := { w.fn with vecs := [], fnMask := false } })
  s.tlAssign d old.length old

/-- A reset completes (R199, R200, R203, R240): the Drawer is ACTIVE with fresh timelines, or FREE. -/
def State.resetDone (s : State) (d : Nat) (j : ResetJob) (drained : Bool) : State :=
  let s := (s.audReset d).jnlGive d j.rsvCtx j.rsvShared
  let s := { s with jnl := { s.jnl with records := s.jnl.records.filter (fun r => fieldLE r 2 2 % 2 ^ 15 % 64 ≠ d || 2 ^ 15 ≤ fieldLE r 2 2) } }
  let s := if j.toFree then s.drawerFree d else s.drawerFresh d j.share
  let s := (s.put F.DRW_STATUS_RESET_SEQ d j.seq).put F.DRW_STATUS_RESET_SEEN d 1
  let s := s.drwEvent (d / 32) { drawer := d % 32, cause := j.cause.code, mode := b2n (!drained), seq := j.seq, squashed := j.squashed,
                                 st := s.st % 2 ^ 62, stState := s.stState }
  match (s.portOf (d / 32)).job with
  | none => s
  | some x =>
    if x.waiting && x.drawer = d % 32 && (x.opcode = 0x14 || x.opcode = 0x15) then
      s.respond (d / 32) 0 0 (if x.opcode = 0x14 then leBytes 4 j.seq ++ leBytes 12 0 else [])
    else s

/-- DRAWER_RESET_DONE (R199 to R203): no transaction of the Drawer is left. A DRAIN ends once every fetched command has been reported;
it then has nothing left to squash. -/
def execDrawerResetDone (d : DrawerId) (s : State) : Host.Outcome State Fault Refusal :=
  .next (match (s.drwOf d).reset with
    | none => s
    | some j =>
      if !j.drain then s.resetDone d j false
      else if !(s.cmds d).isEmpty then s
      else
        let s := s.squash d
        s.resetDone d { j with drain := false } true)

/-- Does everything in flight have a terminal state (R189)? -/
def State.quiet (s : State) (d : Nat) : Bool := (s.cmds d).all (fun c => c.stage = .finished || c.stage = .reported)

/-- DRAIN_TIMEOUT (R201): if work is left, the reset goes on as SQUASH. -/
def execDrainTimeout (d : DrawerId) (s : State) : Host.Outcome State Fault Refusal :=
  .next (match (s.drwOf d).reset with
    | none => s
    | some j => if j.drain && decide (j.deadline ≤ s.now) && !s.quiet d then s.squash d else s)

/-- A PRT reset of port `p` (R162, R736, Table 0.3): its Drawers are squashed to FREE, a mailbox request is abandoned, VF Enable, the
MSI-X table and configuration of PF0 and the registers of the port's PRT domain are reset. The port's Drawer event records and the count of
those dropped are not registers and stay, since R204 has the same reset place records: DESIGN CHOICE (log entry 58). -/
def State.prtReset (s : State) (p : Nat) : State :=
  let s := s.modPort p (fun w => { w with job := none })
  let s := (List.range 32).foldl (fun s i => s.drawerReset (p * 32 + i) .prt none) s
  let s := s.applyReset .prt (fun b _ => b = 0x1A + p)
  s.modPort p (fun w => { w with job := none, image := none, vfEnable := false, pf := {}, cfg := {}, aerLog := none, linkUp := false })

/-- PRT_RESET: PERST_N (0), a hot reset (1), a link-down (2) or a PF FLR (3) of port `p` (R70, R162). A PF FLR leaves the link up. -/
def execPrtReset (p : PortId) (cause : Fin 4) (s : State) : Host.Outcome State Fault Refusal :=
  .next (
    let up := (s.portOf p).linkUp
    let s := s.prtReset p
    if (cause : Nat) = 0 then
      { s.modPort p (fun w => { w with inReset := true }) with pins := { s.pins with perstN := s.pins.perstN.set p false } }
    else if (cause : Nat) = 3 then s.modPort p (fun w => { w with linkUp := up })
    else s)

/-- VF_DISABLE (R162): VF Enable is cleared and every Drawer of the port is squashed to FREE. -/
def execVfDisable (p : PortId) (s : State) : Host.Outcome State Fault Refusal :=
  .next ((List.range 32).foldl (fun s i => s.drawerReset (p * 32 + i) .vfDisable none) (s.modPort p (fun w => { w with vfEnable := false })))

/-- VF_FLR (R194, R196): the function is in D0 again (PRESUMED: PCIe, log entry 23). -/
def execVfFlr (d : DrawerId) (s : State) : Host.Outcome State Fault Refusal :=
  .next ((s.drawerReset d .flr none).modDrw d (fun w => { w with fn := { w.fn with d3hot := false } }))

/-- PERST_N_DEASSERT (R88, Table 18.4): the port leaves PRT reset and raises Hutch source 9 or 10; link training begins. -/
def execPerstNDeassert (p : PortId) (s : State) : Host.Outcome State Fault Refusal :=
  .next ((({ s with pins := { s.pins with perstN := s.pins.perstN.set p true } }).modPort p (fun w =>
    { w with inReset := false })).hutchRaise (9 + p))

/-- HOST_LINK_UP (R88): PCIe link training of a port that is powered, its pads released (R643), and out of PRT reset completes. -/
def execHostLinkUp (p : PortId) (s : State) : Host.Outcome State Fault Refusal :=
  .next (if s.pdOnB 12 && !bit (s.get F.PWR_PADREL_HELD) 12 && !(s.portOf p).inReset && (s.phase = .starting || s.phase = .running) then
      s.modPort p (fun w => { w with linkUp := true }) else s)

/-- VF_ENABLE (R163): the host writes VF Enable of the port, having configured it as `cfg` says; System Page Size keeps its value while VF
Enable is set. Before the ports are released a configuration request gets Request Retry Status (R88). -/
def execVfEnable (p : PortId) (cfg : PciCfg) (s : State) : Host.Outcome State Fault Refusal :=
  .next (if !(s.portOf p).linkUp then s
    else if !s.boot.portsReleased then s.hostOutPush p .retryStatus
    else if s.boot.recovery then s
    else s.modPort p (fun w => { w with vfEnable := true, cfg := if w.vfEnable then { cfg with page64 := w.cfg.page64 } else cfg }))

/-! ### Heaps -/

/-- Ranges of DRAM that are taken: heaps and save areas of Drawers and of the CX contexts. -/
def State.drwRanges (s : State) (but : Nat) : List (Nat × Nat) :=
  s.cxSaves.map (fun b => (b, saveBytes)) ++ s.drw.flatMap (fun p => (if p.1 = but then [] else [(p.2.heapBase, p.2.heapSize)])
    ++ (if 0 < p.2.heapSize then [(p.2.saveBase, saveBytes)] else []))

/-- Round up to a multiple of `a`. -/
def alignUp (x a : Nat) : Nat := (x + a - 1) / a * a

/-- The lowest place for `n` bytes in the usable part of DRAM region `r`, on 64 KiB, clear of `used`. DESIGN CHOICE (log entry 21): first
fit. -/
def State.placeIn (s : State) (r n : Nat) (used : List (Nat × Nat)) : Option Nat :=
  let (base, size) := s.rgnUsable r
  let ok := fun (c : Nat) => decide (base ≤ c) && decide (c + n ≤ base + size) && !used.any (fun u => overlap c n u.1 u.2)
  let cs := (base :: used.map (fun u => alignUp (u.1 + u.2) 65536)).filter ok
  match cs with
  | [] => none
  | c :: rest => some (rest.foldl min c)

/-- Move bytes of device memory from one range to another. -/
def State.moveBytes (s : State) (src dst n : Nat) : State :=
  if s.memRest ≠ {} then (s.zeroBytes src n).writeBytes dst (s.readBytes src n)
  else
  let xs := s.mem.filter (fun p => decide (src ≤ p.1) && decide (p.1 < src + n))
  let s := (s.zeroBytes src n).zeroBytes dst n
  xs.foldl (fun s p => s.poke (p.1 - src + dst) p.2) s

/-- The heap of Drawer `d` lies at `base`: the addresses of its layers' buffers follow. -/
def State.heapAt (s : State) (d base : Nat) : State :=
  let s := s.modDrw d (fun w => { w with heapBase := base })
  { s with layers := s.layers.map (fun p =>
      if s.ownerOf (p.1 / 9) (p.1 % 9) = d then (p.1, { p.2 with base := base, pend := p.2.pend.map (fun f => { f with base := base }) }) else p) }

/-- The template of Drawer `d`. -/
def State.templateOf (s : State) (d : Nat) : Template :=
  (s.templates.find? (fun t => t.id = s.get F.DRW_INFO_TEMPLATE d)).getD {}

/-- Is a heap size one that the template and the port allow (R169, R170)? -/
def State.heapOk (s : State) (p mib : Nat) (t : Template) : Bool :=
  mib ≠ 0 && mib % 64 = 0 && mib ≤ t.heapMib && mib * 2 ^ 20 ≤ 2 ^ (s.portOf p).vf2Log2

/-- Is an initial or new share within the limits (R171)? -/
def shareOk (t : Template) (share : Nat) : Bool := share ≤ t.gpuMax && (!t.assured || t.gpuMin ≤ share)

/-- Module streams of a pool that no Drawer holds: playback below 16, capture from 16 up. -/
def State.freeStreams (s : State) (lo : Nat) : List Nat :=
  let used := (s.streamsHeld lo).map (fun k => s.get F.DRW_AUD_CFG_MODULE k)
  (List.range 16).filter (fun m => !used.contains m)

/-- Give a Drawer `n` streams of a pool: local indices from `lo`, the lowest free module streams. -/
def State.streamAssign (s : State) (d lo n : Nat) : State :=
  let ms := (s.freeStreams lo).take n
  let s := ((List.range ms.length).zip ms).foldl (fun s x => s.put F.DRW_AUD_CFG_MODULE (d * 32 + lo + x.1) x.2) s
  s.modDrw d (fun w => { w with streams := w.streams ++ (List.range ms.length).map (fun i => lo + i) })

/-- Drawers of port `p` created from template `t`. -/
def State.instances (s : State) (p t : Nat) : Nat :=
  ((List.range 32).filter (fun i => s.drwState (p * 32 + i) ≠ 0 && s.get F.DRW_INFO_TEMPLATE (p * 32 + i) = t)).length

/-- CREATE binds a template's resources (R169, R291, R737). -/
def State.createDrawer (s : State) (d : Nat) (t : Template) (mib share base save : Nat) : State :=
  let s := s.zeroBytes base (mib * 2 ^ 20)
  let s := s.modDrw d (fun _ => { heapBase := base, saveBase := save, heapSize := mib * 2 ^ 20, layerSlots := t.layers })
  let s := (((s.put F.DRW_INFO_DRAWER d d).put F.DRW_INFO_CLASS d (b2n t.assured)).put F.DRW_INFO_TEMPLATE d t.id).put F.DRW_INFO_QUEUES d t.queues
  let s := ((s.putB F.DRW_INFO_REPLAY d t.replay).putB F.DRW_INFO_NONPREEMPT d t.nonpreempt).put F.DRW_INFO_HEAP_64M d (mib / 64)
  let s := ((s.put F.DRW_STATUS_STATE d 1).put F.GFE_CTX_SHARE_CAP d t.gpuMax).shareWrite d share
  ((s.tlAssign d t.timelines).streamAssign d 0 t.audioPlay).streamAssign d 16 t.audioCap

/-- CREATE (R163, R169). -/
def State.create (s : State) (p d : Nat) : State :=
  let mib := s.payLE p 4 4
  let share := s.payLE p 8 4
  match s.templates.find? (fun t => t.id = s.payLE p 0 4 && (if p = 0 then t.onA else t.onB)) with
  | none => s.respond p 3 0 []
  | some t =>
    if !s.heapOk p mib t || !shareOk t share || t.maxInstances ≤ s.instances p t.id then s.respond p 3 0 []
    else
      let used := s.drwRanges 66
      match s.placeIn t.heapRegion (mib * 2 ^ 20) used with
      | none => s.respond p 4 0 []
      | some base =>
        match s.placeIn t.heapRegion saveBytes ((base, mib * 2 ^ 20) :: used) with
        | none => s.respond p 4 0 []
        | some save =>
          if s.freeTls.length < t.timelines || (s.freeStreams 0).length < t.audioPlay || (s.freeStreams 16).length < t.audioCap then
            s.respond p 4 0 []
          else (s.createDrawer d t mib share base save).respond p 0 0 []

/-- CREATE. A Drawer that is not FREE, or of a port whose VF Enable is 0, answers STATE. -/
def execCreate (p : PortId) (s : State) : Host.Outcome State Fault Refusal :=
  .next (s.serve p 0x0010 (fun d => if s.drwState d ≠ 0 || !(s.portOf p).vfEnable then s.respond p 2 0 [] else s.create p d))

/-- RESIZE in place, or to another place of the region where what follows is taken (R170). -/
def State.resize (s : State) (p d : Nat) : State :=
  let mib := s.payLE p 0 4
  let w := s.drwOf d
  let t := s.templateOf d
  let n := mib * 2 ^ 20
  if !s.heapOk p mib t then s.respond p 3 0 []
  else
    let fin := fun (s : State) => ((s.modDrw d (fun w => { w with heapSize := n })).put F.DRW_INFO_HEAP_64M d (mib / 64)).respond p 0 0 []
    if n < w.heapSize then
      if s.drwState d ≠ 2 then s.respond p 2 0 [] else fin ((s.layersShrunk d n).zeroBytes (w.heapBase + n) (w.heapSize - n))
    else
      let others := s.drwRanges d
      let top := (s.rgnUsable t.heapRegion).1 + (s.rgnUsable t.heapRegion).2
      if w.heapBase + n ≤ top && !others.any (fun u => overlap w.heapBase n u.1 u.2) then
        (fin (s.zeroBytes (w.heapBase + w.heapSize) (n - w.heapSize))).markDirty (w.heapBase + w.heapSize) (n - w.heapSize)
      else match s.placeIn t.heapRegion n ((w.heapBase, w.heapSize) :: others) with
        | none => s.respond p 4 0 []
        | some b => (fin (((s.zeroBytes b n).moveBytes w.heapBase b w.heapSize).heapAt d b)).markDirty (b + w.heapSize) (n - w.heapSize)

/-- RESIZE (R170, Table 5.20). -/
def execResize (p : PortId) (s : State) : Host.Outcome State Fault Refusal :=
  .next (s.serve p 0x0011 (fun d => if s.drwState d = 0 || s.drwState d = 3 then s.respond p 2 0 [] else s.resize p d))

/-- SET_SHARE (R171). -/
def execSetShare (p : PortId) (s : State) : Host.Outcome State Fault Refusal :=
  .next (s.serve p 0x0012 (fun d =>
    let v := s.payLE p 0 4
    if s.drwState d = 0 || s.drwState d = 3 then s.respond p 2 0 []
    else if !shareOk (s.templateOf d) v then s.respond p 3 0 []
    else (s.shareWrite d v).respond p 0 0 []))

/-- A wait that lost its grant ends its command with FENCE_GRANT (R212). -/
def State.grantsChecked (s : State) (d : Nat) : State :=
  (s.cmds d).foldl (fun s c =>
    if c.stage = .fetched && (s.waitList d c).any (fun w => w.1.isNone) then (s.endCmd d c.queue c.seq 4 3).guestError d 5 c.queue else s) s

/-- GRANT_WAIT (R212). -/
def execGrantWait (p : PortId) (s : State) : Host.Outcome State Fault Refusal :=
  .next (s.serve p 0x0013 (fun _ =>
    let a := s.payLE p 0 4
    let b := s.payLE p 4 4
    let op := s.payLE p 0xC 4
    if 31 < a || 31 < b || 1 < op then s.respond p 3 0 []
    else if s.drwState (p * 32 + a) = 0 || s.drwState (p * 32 + b) = 0 then s.respond p 2 0 []
    else match s.localTl (p * 32 + b) (s.payLE p 8 4) with
      | none => s.respond p 3 0 []
      | some id =>
        let g := (s.tl id).grants.filter (fun x => x ≠ p * 32 + a)
        let s := s.modTl id (fun t => { t with grants := if op = 1 then g ++ [p * 32 + a] else g })
        (if op = 1 then s else s.grantsChecked (p * 32 + a)).respond p 0 0 []))

/-! ### Queries -/

/-- QUERY (Table 5.23). -/
def execQuery (p : PortId) (s : State) : Host.Outcome State Fault Refusal :=
  .next (s.serve p 0x0001 (fun _ =>
    let order : Nat := if s.fuses.capX32 then 1 else if s.fuses.pmaxC64 then 2 else 0
    s.respond p 0 0 (leBytes 4 (s.regWord 1 0) ++ leBytes 4 (s.regWord 2 0) ++ leBytes 4 (s.get F.CAB_LC_STATE) ++ leBytes 4 order
      ++ leBytes 4 s.freeTls.length ++ leBytes 12 0)))

/-- LIST_TEMPLATES (Table 5.23). -/
def execListTemplates (p : PortId) (s : State) : Host.Outcome State Fault Refusal :=
  .next (s.serve p 0x0002 (fun _ =>
    let ts := s.templates.filter (fun t => if (p : Nat) = 0 then t.onA else t.onB)
    s.respond p 0 0 (leBytes 4 ts.length ++ leBytes 12 0 ++ ts.flatMap (fun t => t.raw))))

/-- DRAWER_INFO (Table 5.23). -/
def execDrawerInfo (p : PortId) (s : State) : Host.Outcome State Fault Refusal :=
  .next (s.serve p 0x0003 (fun d =>
    let w := s.drwOf d
    s.respond p 0 0 (leBytes 4 (s.drwState d) ++ leBytes 4 (s.get F.DRW_INFO_TEMPLATE d) ++ leBytes 4 (w.heapSize / 2 ^ 20)
      ++ leBytes 4 (s.get F.GFE_CTX_SHARE_ACTIVE d) ++ leBytes 4 (s.nextActive d) ++ leBytes 4 w.layerSlots
      ++ leBytes 4 w.tlIds.length ++ leBytes 4 (s.get F.DRW_INFO_CLASS d))))

/-- A Drawer event record (Table 5.21). -/
def DrwEvent.bytes (e : DrwEvent) : List Byte :=
  leBytes 1 e.drawer ++ leBytes 1 e.cause ++ leBytes 1 e.mode ++ leBytes 1 0 ++ leBytes 2 e.seq ++ leBytes 2 0 ++ leBytes 4 e.squashed
    ++ leBytes 4 0 ++ leBytes 8 (e.st + e.stState * 2 ^ 62) ++ leBytes 8 0

/-- EVENT_READ (R204). -/
def execEventRead (p : PortId) (s : State) : Host.Outcome State Fault Refusal :=
  .next (s.serve p 0x0004 (fun _ =>
    let n := s.payLE p 0 4
    if n = 0 || 64 < n then s.respond p 3 0 []
    else
      let w := s.portOf p
      (s.modPort p (fun w => { w with events := w.events.drop n, eventsDropped := 0 })).respond p 0 w.eventsDropped
        ((w.events.take n).flatMap DrwEvent.bytes)))

/-! ### RESET, DESTROY, QUIESCE, SAVE, RESTORE, RESUME -/

/-- The request in service waits for an end. -/
def State.mbxWait (s : State) (p : Nat) : State := s.modPort p (fun w => { w with job := w.job.map (fun j => { j with waiting := true }) })

/-- RESET (R194, R201, Table 5.20); the response follows its end. -/
def execReset (p : PortId) (s : State) : Host.Outcome State Fault Refusal :=
  .next (s.serve p 0x0014 (fun d =>
    let mode := s.payLE p 0 4
    let ms := s.payLE p 4 4
    if 1 < mode || 100 < ms then s.respond p 3 0 []
    else if s.drwState d = 0 then s.respond p 2 0 []
    else (s.mbxWait p).drawerReset d .reset (if mode = 0 then some (if ms = 0 then (s.templateOf d).drainMs else ms) else none)))

/-- DESTROY (R194). -/
def execDestroy (p : PortId) (s : State) : Host.Outcome State Fault Refusal :=
  .next (s.serve p 0x0015 (fun d =>
    if s.drwState d = 0 then s.respond p 2 0 [] else (s.mbxWait p).drawerReset d .destroy none))

/-- Words of a layer descriptor in a save image. -/
def Desc.words (x : Desc) : List Nat :=
  [x.addr, x.pitch, x.format, x.flags, x.transform, x.csc, x.srcX, x.srcY, x.srcW, x.srcH, x.dstX, x.dstY, x.dstW, x.dstH, x.ga]

/-- A descriptor from its words in a save image, with no fence. -/
def Desc.ofWords (f : Nat → Nat) : Desc :=
  { addr := f 0, pitch := f 1, format := f 2, flags := f 3, transform := f 4, csc := f 5, srcX := f 6, srcY := f 7, srcW := f 8,
    srcH := f 9, dstX := f 10, dstY := f 11, dstW := f 12, dstH := f 13, ga := f 14, fenceTl := 2 ^ 14 }

/-- Limits of a template entry, by which RESTORE compares (R192): class, QUEUES to TOUCH_REGIONS. -/
def Template.limits (t : Template) : List Nat :=
  [b2n t.assured, t.queues, t.layers, t.headMask, t.gpuMin, t.gpuMax, t.timelines, t.heapMib, t.audioPlay, t.audioCap, t.touchRegions]

/-- Words of one slot in a save image: shown, sequence number applied, descriptor; EVT, HELD, LAST_OUTCOME, producer timeline. -/
def State.slotWords (s : State) (d sl : Nat) : List Nat :=
  let i := d * 64 + sl
  let y := (s.bindOf d sl).map (fun b => s.layer b.1 b.2)
  let prod := ((y.bind (fun y => y.producer)).bind (fun id => (s.drwOf d).tlIds.idxOf? id)).map (fun k => k + 1)
  (match y.bind (fun y => y.active) with
    | none => List.replicate 17 0
    | some x => [1, s.get F.DRW_LS_STATUS_APPLIED_SEQ i] ++ x.words)
    ++ [s.get F.DRW_LS_CTRL_EVT i, s.get F.DRW_LS_STATUS_HELD i, s.get F.DRW_LS_STATUS_LAST_OUTCOME i, prod.getD 0]

/-- Microseconds that a vector's moderation timer has counted: frozen ones and those since it started or went on (R183, R191). -/
def MsixVec.elapsedUs (x : MsixVec) (d3hot : Bool) (now : Nat) : Nat :=
  x.frozenUs + (match x.timerFrom with | none => 0 | some t => if d3hot then 0 else (now - t) / 1000)

/-- CRC-32 over bytes (the CRC unit's polynomial 0). -/
def crc32 (bs : List Byte) : Nat :=
  (bs.foldl (fun v b => crcByte 0 v b.toNat) (2 ^ 32 - 1)) ^^^ (2 ^ 32 - 1)

/-- The save image (R191). DESIGN CHOICE (log entry 22): the layout belongs to the firmware; this one is 8-byte words in the order of the
rule's list, and a CRC-32. -/
def State.saveImage (s : State) (d : Nat) : List Byte :=
  let w := s.drwOf d
  let tls := (List.range 256).flatMap (fun i => match w.tlIds[i]? with
    | none => [0, 0] | some id => [(s.tl id).value, b2n (s.tl id).abandoned])
  let qs := (List.range 16).flatMap (fun q => [10, 11, 12, 16, 17].map (fun r => s.regWord r (d * 16 + q)))
  let vs := (List.range 16).flatMap (fun v => let x := w.fn.vec v
    [x.addr, x.data, b2n x.masked + 2 * b2n x.pendingBit, x.events, s.regWord 13 (d * 16 + v), x.elapsedUs w.fn.d3hot s.now])
  let rgns := (List.range 256).map (fun r => if s.get F.TCH_RCFG_OWNER r = d then 1 + s.get F.TCH_RCFG_SLOT r + 65536 * s.get F.TCH_RCFG_EN r else 0)
  let aud := (List.range 32).flatMap (fun j => [s.regWord 149 (d * 32 + j), (s.stream (d * 32 + j)).frames])
  let ws := [s.get F.DRW_INFO_TEMPLATE d, w.heapSize] ++ (s.templateOf d).limits ++ qs ++ tls
    ++ (List.range 64).flatMap (s.slotWords d) ++ vs ++ [b2n w.fn.fnMask] ++ aud ++ rgns
  let bs := ws.flatMap (leBytes 8)
  bs ++ leBytes 4 (crc32 bs)

/-- A quiescing Drawer whose work has ended becomes QUIESCED, and the request answers (R189, R190). -/
def State.quiesced (s : State) (d : Nat) : State :=
  match (s.drwOf d).quiesce with
  | none => s
  | some j =>
    let s := (s.modDrw d (fun w => { w with quiesce := none, byQuiesce := !j.save })).put F.DRW_STATUS_STATE d 2
    s.respond (d / 32) 0 0 (if j.save then s.saveImage d else [])

/-- Begin QUIESCE or SAVE (R189, R190). SAVE of a Drawer that is QUIESCED already answers at once with its save image: DESIGN CHOICE (log entry
58), since R189 does not say. -/
def State.quiesceBegin (s : State) (p d : Nat) (save : Bool) : State :=
  let ms := s.payLE p 0 4
  if ms = 0 || 100 < ms then s.respond p 3 0 []
  else if s.drwState d = 2 then s.respond p 0 0 (if save then s.saveImage d else [])
  else if s.drwState d ≠ 1 then s.respond p 2 0 []
  else
    let s := (s.mbxWait p).modDrw d (fun w => { w with quiesce := some { save := save, deadline := s.now + ms * 1000000 } })
    if s.quiet d then s.quiesced d else s

/-- SAVE (R189): a template without MIGRATE answers DENIED (DEDUCED, log entry 22). -/
def execSave (p : PortId) (s : State) : Host.Outcome State Fault Refusal :=
  .next (s.serve p 0x0020 (fun d =>
    if s.drwState d = 0 || s.drwState d = 3 then s.respond p 2 0 []
    else if !(s.templateOf d).migrate then s.respond p 5 0 []
    else s.quiesceBegin p d true))

/-- QUIESCE (R190). -/
def execQuiesce (p : PortId) (s : State) : Host.Outcome State Fault Refusal := .next (s.serve p 0x0028 (fun d => s.quiesceBegin p d false))

/-- DRAWER_QUIESCED (R189, R190): the last command in flight has reached a terminal state. -/
def execDrawerQuiesced (d : DrawerId) (s : State) : Host.Outcome State Fault Refusal := .next (if s.quiet d then s.quiesced d else s)

/-- QUIESCE_TIMEOUT (R189, R190): work is left; BUSY, fetching resumes and the Drawer stays ACTIVE. -/
def execQuiesceTimeout (d : DrawerId) (s : State) : Host.Outcome State Fault Refusal :=
  .next (if !((s.drwOf d).quiesce.any (fun j => decide (j.deadline ≤ s.now))) then s
    else if s.quiet d then s.quiesced d else s.quiesceEnd d 6)

/-- RESUME (R190). -/
def execResume (p : PortId) (s : State) : Host.Outcome State Fault Refusal :=
  .next (s.serve p 0x0022 (fun d => if s.drwState d = 2 then ((s.modDrw d (fun w => { w with byQuiesce := false })).put F.DRW_STATUS_STATE d 1).respond p 0 0 [] else s.respond p 2 0 []))

/-- Set every field of element `i` of register `r` from a word. -/
def State.putWord (s : State) (r i v : Nat) : State :=
  ((regMap[r]?).map (fun x => x.flds.foldl (fun s f => s.put f i (bits v f.lo f.width)) s)).getD s

/-- Load a save image whose words are `f` (R192): restored layers flip at the next latch point of each head. -/
def State.loadImage (s : State) (d : Nat) (f : Nat → Nat) : State :=
  let q0 := 13
  let t0 := q0 + 80
  let l0 := t0 + 512
  let v0 := l0 + 64 * 21
  let a0 := v0 + 97
  let r0 := a0 + 64
  let s := (List.range 16).foldl (fun s q => ((List.range 5).zip [10, 11, 12, 16, 17]).foldl (fun s x =>
    s.putWord x.2 (d * 16 + q) (f (q0 + q * 5 + x.1))) s) s
  let ids := (s.drwOf d).tlIds
  let s := ((List.range ids.length).zip ids).foldl (fun s x =>
    s.modTl x.2 (fun t => { t with value := f (t0 + 2 * x.1), abandoned := f (t0 + 2 * x.1 + 1) = 1 })) s
  let s := (List.range 64).foldl (fun s sl =>
    let b := l0 + sl * 21
    let i := d * 64 + sl
    let s := ((s.put F.DRW_LS_CTRL_EVT i (f (b + 17))).put F.DRW_LS_STATUS_HELD i (f (b + 18))).put F.DRW_LS_STATUS_LAST_OUTCOME i (f (b + 19))
    match s.bindOf d sl with
    | none => s
    | some (h, l) =>
      if f b = 0 then s
      else
        let fl : Flip := { desc := Desc.ofWords (fun i => f (b + 2 + i)), base := (s.drwOf d).heapBase, seq := f (b + 1), gid := s.flipCtr + 1,
                           tl := if f (b + 20) = 0 then none else ids[f (b + 20) - 1]?, ready := some true }
        (({ s with flipCtr := s.flipCtr + 1 }).modLayer h l (fun y => { y with pend := some fl })).put F.DRW_LS_STATUS_PENDING i 1) s
  let s := (List.range 16).foldl (fun s v =>
    let b := v0 + v * 6
    (s.modDrw d (fun w => { w with fn := w.fn.setVec v { addr := f b, data := f (b + 1), masked := bit (f (b + 2)) 0, pendingBit := bit (f (b + 2)) 1,
                                                         events := f (b + 3), frozenUs := f (b + 5),
                                                         timerFrom := if f (b + 3) = 0 then none else some s.now } })).putWord 13
      (d * 16 + v) (f (b + 4))) s
  let s := s.modDrw d (fun w => { w with fn := { w.fn with fnMask := f (v0 + 96) = 1 }, everEnabled := true, byQuiesce := false })
  let s := (List.range 32).foldl (fun s j =>
    let m := s.get F.DRW_AUD_CFG_MODULE (d * 32 + j)
    ((s.putWord 149 (d * 32 + j) (f (a0 + 2 * j))).put F.DRW_AUD_CFG_MODULE (d * 32 + j) m).modStream (d * 32 + j) (fun x => { x with frames := f (a0 + 2 * j + 1) })) s
  (List.range 256).foldl (fun s r =>
    let v := f (r0 + r)
    if v = 0 then s else s.regionOwner r d (v % 65536 - 1) (65536 ≤ v)) s

/-- RESTORE (R192): of a Drawer that QUIESCE, not SAVE, brought to QUIESCED before any of its queues was enabled, also before a reset. -/
def execRestore (p : PortId) (s : State) : Host.Outcome State Fault Refusal :=
  .next (s.serve p 0x0021 (fun d =>
    let n := s.reqLE p 8 4
    let bs := s.reqBytes p 16 n
    let f := fun (i : Nat) => fieldLE bs (8 * i) 8
    if s.drwState d ≠ 2 || (s.drwOf d).everEnabled || !(s.drwOf d).byQuiesce then s.respond p 2 0 []
    else if n < 12 || 65536 < n || fieldLE bs (n - 4) 4 ≠ crc32 (bs.take (n - 4))
        || (List.range 11).map (fun i => f (2 + i)) ≠ (s.templateOf d).limits then s.respond p 7 0 []
    else ((s.loadImage d f).put F.DRW_STATUS_STATE d 1).respond p 0 0 []))

/-! ### Dirty logs and heap transfer (R186 to R188) -/

/-- DIRTY_START (R186, Table 5.23). -/
def execDirtyStart (p : PortId) (s : State) : Host.Outcome State Fault Refusal :=
  .next (s.serve p 0x0023 (fun d =>
    let a := s.payLE p 0 8
    let n := s.payLE p 8 4
    if a % 8 ≠ 0 || n < 512 || 1048576 < n || 2 ^ n.log2 ≠ n then s.respond p 3 0 []
    else if s.drwState d = 0 || s.drwState d = 3 then s.respond p 2 0 []
    else ((s.modDrw d (fun w => { w with dirty := some { ringAddr := a, ringEntries := n } })).put F.DRW_STATUS_DIRTY_ON d 1).respond p 0 0 []))

/-- A bitmap of `n` bits, eight to the byte. -/
def bitmap (n : Nat) (xs : List Nat) : List Byte :=
  (List.range ((n + 7) / 8)).map (fun b => BitVec.ofNat 8 ((List.range 8).foldl (fun a i => if xs.contains (8 * b + i) then a + 2 ^ i else a) 0))

/-- DIRTY_SWAP (R187, R188). -/
def execDirtySwap (p : PortId) (s : State) : Host.Outcome State Fault Refusal :=
  .next (s.serve p 0x0024 (fun d =>
    match (s.drwOf d).dirty with
    | none => s.respond p 2 0 []
    | some l =>
      let n := ((s.drwOf d).heapSize + 65535) / 65536
      let s := s.modDrw d (fun w => { w with dirty := some { l with active := l.retired, retired := [], sinceSwap := 0, overflow := false } })
      s.respond p 0 0 (leBytes 4 (b2n l.overflow) ++ leBytes 4 l.written ++ leBytes 4 ((n + 7) / 8) ++ leBytes 4 0 ++ bitmap n l.active)))

/-- DIRTY_STOP. -/
def execDirtyStop (p : PortId) (s : State) : Host.Outcome State Fault Refusal :=
  .next (s.serve p 0x0025 (fun d =>
    if (s.drwOf d).dirty.isNone then s.respond p 2 0 []
    else ((s.modDrw d (fun w => { w with dirty := none })).put F.DRW_STATUS_DIRTY_ON d 0).respond p 0 0 []))

/-- Entries of HEAP_EXPORT or HEAP_IMPORT: heap offset, host address, length (Table 5.23). -/
def State.heapList (s : State) (p : Nat) : List (Nat × Nat × Nat) :=
  (List.range (s.payLE p 0 4)).map (fun i =>
    (s.payLE p (16 + 32 * i) 8, s.payLE p (16 + 32 * i + 8) 8, s.payLE p (16 + 32 * i + 16) 8))

/-- Are the entries within their ranges? -/
def State.heapListOk (s : State) (p d : Nat) : Bool :=
  let n := s.payLE p 0 4
  0 < n && n ≤ 16383 && 16 + 32 * n ≤ s.reqLE p 8 4
    && (s.heapList p).all (fun x => x.1 % 65536 = 0 && x.2.2 % 65536 = 0 && x.2.1 % 4096 = 0 && s.inHeap d x.1 x.2.2)

/-- HEAP_EXPORT: heap pages are copied to the mediator's host memory. -/
def execHeapExport (p : PortId) (s : State) : Host.Outcome State Fault Refusal :=
  .next (s.serve p 0x0026 (fun d =>
    if s.drwState d = 0 || s.drwState d = 3 then s.respond p 2 0 []
    else if !s.heapListOk p d then s.respond p 3 0 []
    else ((s.heapList p).foldl (fun s x => (s.heapReadErr d (0x1A + p) x.1 x.2.2).portData p x.2.1 (s.heapRead d x.1 x.2.2)) s).respond p 0 0 []))

/-- HEAP_IMPORT: `data` is what the host memory of the entries holds, in order. -/
def execHeapImport (p : PortId) (data : List (List Byte)) (s : State) : Host.Outcome State Fault Refusal :=
  .next (s.serve p 0x0027 (fun d =>
    if s.drwState d = 0 || s.drwState d = 3 then s.respond p 2 0 []
    else if !s.heapListOk p d then s.respond p 3 0 []
    else (((s.heapList p).zip data).foldl (fun s x => (s.portRead p x.1.2.1 x.1.2.2).heapWrite d (0x1A + p) x.1.1 ((x.2 ++ List.replicate x.1.2.2 0).take x.1.2.2)) s).respond p 0 0 []))

end Sys2Proof.Machine
end

