-- ==== Sys2Proof/Machine/Island.lean ====
section
/-! DEFINITION. The reset of an island or of a unit (R10, R642, R668): registers, the state behind them, and the interrupt lines of
the blocks concerned. -/

namespace Sys2Proof.Machine

/-- Block whose line level source `n` is (Table 18.2); 0 for the others. -/
def srcBlk (n : Nat) : Nat :=
  if 16 ≤ n ∧ n ≤ 31 then 0x10 + (n - 16) % 8
  else if n = 32 then 0x18 else if 33 ≤ n ∧ n ≤ 36 then n - 25 else if n = 37 then 7 else if n = 38 then 0xC
  else if n = 39 then 0xD else if n = 40 then 6 else if n = 41 then 0x19 else if 44 ≤ n ∧ n ≤ 46 then 0x1C
  else if n = 47 ∨ n = 48 then 0x1D else if n = 49 then 0x1E else if n = 50 then 0x1F else if n = 51 ∨ n = 52 then 0x2A
  else if n = 53 then 0x24 else if n = 54 ∨ n = 55 then 0x25 else if n = 56 then 0x23 else if n = 57 ∨ n = 58 then 0x22
  else if n = 59 then 0x21 else if n = 60 then 0x26 else if n = 61 then 0x27 else if n = 62 then 0x2B
  else if n = 63 then 5 else 0

/-- Keys of unit states that a retirement or a test put there and that a reset of the unit keeps (chapter 25, Retirement). -/
def State.retiredUnits (s : State) : List (ResetUnit × Nat) :=
  ((List.range 4).filter (fun g => s.get F.BGn_STATUS_STATE g = 3)).map (fun g => (.bg g, 0))
    ++ ((List.range 8).filter (fun h => s.get F.HDn_STATUS_STATE h = 5)).map (fun h => (.head h, 0))
    ++ ((List.range 4).filter (fun p => s.get F.PLK_PORT_STATUS_STATE p = 5)).map (fun p => (.plkIsland, p))
    ++ ((List.range 8).filter (fun c => s.hapPhase c = 5)).map (fun c => (.perIsland, c))

/-- Put the retired state of a unit back. -/
def State.retireAgain (s : State) (u : ResetUnit × Nat) : State :=
  match u.1 with
  | .bg g => s.setBg g 3
  | .head h => s.put F.HDn_STATUS_STATE h 5
  | .plkIsland => s.put F.PLK_PORT_STATUS_STATE u.2 5
  | .perIsland => s.hapEnter u.2 5
  | _ => s

/-- The state behind the registers of block `b` starts afresh. -/
def State.blockFresh (s : State) (b : Nat) : State :=
  if b = 2 then
    { s with cores := { s.cores with regsZeroed := [], tlbCabValid := [], countersStopped := [] } }
  else if b = 7 then
    { s with gpu := { s.gpu with groups := [], cx := [], credits := [], rawShare := [], chargedAt := s.now, windowAt := s.now,
                                 windowUse := 0, lastServed := [] } }
  else if 8 ≤ b ∧ b ≤ 0xB then (s.modBg (b - 8) (fun _ => {})).setBg (b - 8) 1
  else if 0x10 ≤ b ∧ b ≤ 0x17 then
    let h := b - 0x10
    let pf := min 8 (s.get F.HDn_V_VTOTAL h - s.get F.HDn_V_VACTIVE h - 1)
    let s := s.put F.HDn_CTRL_PREFETCH_LINES h pf
    let s := s.modHead h (fun r => { entry := r.entry })
    let s := s.modDp h (fun p => { panelOffAt := p.panelOffAt, panelOnAt := p.panelOnAt, blOffAt := p.blOffAt })
    (List.range 8).foldl (fun s l => s.modLayer h l (fun _ => {})) s
  else if b = 0x18 then
    { s with wit := { s.wit with state := [], proofFail := [], events := [],
                                 regions := s.wit.regions.map (fun (p : Nat × Region) => (p.1, { p.2 with fails := 0, tripped := false })) } }
  else if b = 0x19 then
    { s with dmc := { s.dmc with retrain := none, waiting := [], op := none, openRows := [], lastWrite := [], refPair := [],
                                 skips := [] } }
  else if b = 0x1A ∨ b = 0x1B then s.modPort (b - 0x1A) (fun w => { w with job := none, linkUp := false })
  else if b = 0x1C then
    { s with plk := { ownSeq := s.plk.ownSeq, started := s.plk.started, slotOffset := s.plk.slotOffset, tokenKey := s.plk.tokenKey, out := s.plk.out } }
  else if b = 0x1D then { s with tch := {} }
  else if b = 0x1E then { s with hap := { s.hap with chs := [] } }
  else if b = 0x1F then (s.modAud (fun a => { present := a.present })).audFresh
  else if b = 0x20 then
    { s with cores := { s.cores with sleptFor := [] } }
  else if b = 0x25 then { s with pmu := {} }
  else s

/-- The ISL reset of the blocks that `which` picks: their registers, IMG fields from their shadows (R668), the state behind them;
their interrupt lines fall. Retirement stays. -/
def State.islandReset (s : State) (which : Nat → Bool) : State :=
  let kept := s.retiredUnits
  let heads := (List.range 8).filter (fun h => which (0x10 + h))
  let s := heads.foldl (fun s h => s.headStopped h) s
  let s := s.applyReset .isl (fun b _ => b ≠ 0 && which b)
  let s := ((List.range 0x2C).filter which).foldl State.blockFresh s
  let s := kept.foldl State.retireAgain s
  let s := if which 0x19 then s.putB F.DMC_INFO_CAP 0 (!s.fuses.capX32) else s
  ((List.range 64).filter (fun n => srcBlk n ≠ 0 && which (srcBlk n) && icuIsLevel n && !which 0x20)).foldl State.icuLower s

/-- Is a bit of CAB_EVT that EN enables set (source 59)? -/
def State.cabLine (s : State) : Bool :=
  let e := s.get F.CAB_EVT_EN
  (s.on F.CAB_EVT_PARTNER_A && bit e 0) || (s.on F.CAB_EVT_PARTNER_B && bit e 1) || (s.on F.CAB_EVT_LC_DONE && bit e 2)
    || (s.on F.CAB_EVT_DBG_OPEN && bit e 3) || (s.on F.CAB_EVT_DBG_CLOSE && bit e 4) || (s.on F.CAB_EVT_FUSE_DONE && bit e 5)

/-- Level sources are sampled afresh once PD01 is back (R599): those whose blocks kept their power or their records. -/
def State.levelsAfresh (s : State) : State :=
  let s := ((s.icuLine 58 s.alarmDue).icuLine 59 s.cabLine).auditWrapCheck.tchLines
  (List.range 0x2C).foldl (fun s d => if (s.errq d).recs.isEmpty then s else s.icuLine (64 + d) true) s

/-- Cores of block `b` that run again from their reset vector (R585): running and awake. -/
def State.coreRestart (s : State) (t : Nat) : State :=
  let s := if t < 4 then (s.put F.CCL_CORE_STATE t 0).put F.CCL_CORE_SLEEP t 0
    else (s.put F.RTx_CTRL_STATE (t - 4) 0).put F.RTx_CTRL_SLEEP (t - 4) 0
  ((s.putBit F.ICU_STATUS_WAKING 0 t false).putBit F.ICU_STATUS_AWAKE 0 t true).icuReeval

/-- A head that the image enables starts, with its panel (R380, R433); a retired head and one under test stay as they are. -/
def State.headUp (s : State) (h : Nat) : State :=
  if (s.headOf h).entry.enable && s.get F.HDn_STATUS_STATE h = 0 then (s.panelRaise h).headStart h true else s

end Sys2Proof.Machine
end

