-- ==== Sys2Proof/Machine/Power.lean ====
section
/-! DEFINITION. Power states (chapter 20): requests and their ranking, the phases of entries and exits, save, restore and pads, and the
beginning of an orderly shutdown. -/

namespace Sys2Proof.Machine

/-- Power domains on or retained in a device state (Table 1.2); none in OFF. -/
def pdsOf (t : Nat) : BitVec 16 :=
  if t = 0 then 0xFFFF else if t = 1 then 0xFA0F else if t = 2 then 0xC201 else if t = 3 then 0x8001 else 0

/-- Change the power manager's record. -/
def State.modPm (s : State) (g : Pm → Pm) : State := { s with pm := g s.pm }

/-- Device state (PWR_STATUS.STATE). -/
def State.pwrState (s : State) : Nat := s.get F.PWR_STATUS_STATE

/-- Domains that a transition to `t` turns off. -/
def State.turnsOff (s : State) (t : Nat) : BitVec 16 := pdsOf s.pwrState &&& ~~~(pdsOf t)

/-- Does the transition in progress turn off domain `d`? -/
def State.goesOff (s : State) (t d : Nat) : Bool := (s.turnsOff t).getLsbD d

/-! ### Requests (R635 to R637) -/

/-- Put the outcome of request `seq`, while PWR_OUTCOME still holds it (Table 20.11). -/
def State.putOutcome (s : State) (seq res refuser blk : Nat) : State :=
  let k := seq % 8
  if s.get F.PWR_OUTCOME_SEQ k ≠ seq then s
  else ((s.put F.PWR_OUTCOME_RESULT k res).put F.PWR_OUTCOME_REFUSER k refuser).put F.PWR_OUTCOME_BLOCK k blk

/-- A new request takes the next number and its outcome entry (R635). -/
def State.newRequest (s : State) (o : Origin) (target : Nat) : State :=
  let seq := s.pm.seqCount
  let k := seq % 8
  let s := s.modPm (fun p => { p with seqCount := (seq + 1) % 65536
                                      lastSeqOf := p.lastSeqOf.filter (fun (x : Origin × Nat) => x.1 ≠ o) ++ [(o, seq)] })
  let s := (((s.put F.PWR_STATUS_LAST_SEQ 0 seq).put F.PWR_OUTCOME_SEQ k seq).put F.PWR_OUTCOME_TARGET k target).put F.PWR_OUTCOME_RESULT k 0
  let s := ((s.put F.PWR_OUTCOME_REFUSER k 0).put F.PWR_OUTCOME_BLOCK k 0).put F.PWR_OUTCOME_KIND k o.kind.num
  (s.putB F.PWR_OUTCOME_WORLD k o.cab).hutchRaise 5

/-- Count a refused (or aborted) entry for its target (Table 20.10). -/
def State.countEntry (s : State) (f : Fld) (target refuser blk : Nat) : State :=
  if 1 ≤ target ∧ target ≤ 3 then
    ((s.incSat f (target - 1)).put F.PWR_CNT_LAST_REFUSER (target - 1) refuser).put F.PWR_CNT_LAST_BLOCK (target - 1) blk
  else s

/-- The request of a merge group ends with one outcome (R637). -/
def State.endRequests (s : State) (seqs : List Nat) (res refuser blk : Nat) : State :=
  seqs.foldl (fun s q => s.putOutcome q res refuser blk) s

/-- The transition in progress is over. -/
def State.clearTransition (s : State) : State :=
  (((s.modPm (fun p => { p with inProgress := none, merged := [] })).put F.PWR_STATUS_PHASE 0 0).put F.PWR_STATUS_TARGET 0 0).put
    F.PWR_STATUS_CUR_SEQ 0 0

/-- Put a request in the next slot, or empty it. -/
def State.putNext (s : State) (r : Option PwrReq) : State :=
  let s := s.modPm (fun p => { p with next := r, nextMerged := [] })
  match r with
  | none => ((s.put F.PWR_STATUS_NEXT 0 0).put F.PWR_STATUS_NEXT_VALID 0 0).put F.PWR_STATUS_NEXT_SEQ 0 0
  | some q => ((s.put F.PWR_STATUS_NEXT 0 q.target).put F.PWR_STATUS_NEXT_VALID 0 1).put F.PWR_STATUS_NEXT_SEQ 0 q.seq

/-- The request in the next slot ends REPLACED. -/
def State.replaceNext (s : State) : State :=
  match s.pm.next with
  | none => s
  | some q => (s.endRequests (q.seq :: s.pm.nextMerged) 3 0 0).putNext none

/-- Blank a head at once (R52): its pins show zeros. -/
def State.blankHeads (s : State) : State := (List.range 8).foldl (fun s h => s.put F.HDn_CTRL_BLANK h 1) s

/-- Every Drawer reset of both ports completes, as no transaction can be left once their domain is off. -/
def State.portsDown (s : State) : State :=
  let s := (List.range 2).foldl (fun s p => s.prtReset p) s
  (List.range 64).foldl (fun s d => match (s.drwOf d).reset with
    | some j => s.resetDone d j false
    | none => s) s

/-- An orderly shutdown begins (R52, R54): the domains that the closing test needs are on, the heads are blanked, the host ports taken
down, haptics and audio brought to rest (R553, R571), LEAVE sent with reason 1 (R459), touches cancelled. -/
def State.shutdownBegin (s : State) : State :=
  let s := (s.setPd (pdsOf 0) true).blankHeads
  let s := s.portsDown.hapDrain.voicesStop.tchDrain
  let s := (List.range 4).foldl (fun s p => if s.plkUp p then s.leaveSoon p 1 else s) s
  { s with phase := .shutdown }

/-- DRAIN begins (R638): LEAVE goes out where PD13 turns off (R459), flips discarded and layers off, panels powered down, and the work that ends at once is brought to its end. -/
def State.drainBegin (s : State) (t : Nat) : State :=
  let off := s.goesOff t
  let s := s.modPm (fun p => { p with drainAt := s.now })
  let s := if off 13 then (List.range 4).foldl (fun s p => if s.plkUp p then s.leaveSoon p 0 else s) s else s
  let s := if off 10 then
      (List.range 8).foldl (fun s h =>
        if s.pins.panelPwrEn.getLsbD h then (s.blOff h).modDp h (fun p => { p with downPending := true, blOffAt := s.now, panelWant := false }) else s)
        s.layersDown
    else s
  let s := if off 11 then s.hapDrain.voicesStop else s
  let s := if 2 ≤ t then s.tchDrain else s
  s.squashTests (fun (j : TestJob) => decide (3 ≤ j.op) || (decide (j.cls = 0) && off 5) || (decide (j.cls = 1) && off 10)
    || (decide (j.cls = 2) && off 13) || (decide (j.cls = 3) && off 14) || (decide (j.cls = 4) && off 11))

/-- Start the transition of a request (R637, R638, R644): an orderly shutdown, an entry in DRAIN, or an exit in POWER. -/
def State.startTransition (s : State) (r : PwrReq) : State :=
  if 4 ≤ r.target then (s.modPm (fun p => { p with inProgress := some r })).shutdownBegin
  else
    let entry := decide (s.pwrState < r.target)
    let s := s.modPm (fun p => { p with inProgress := some r, merged := [] })
    let s := ((s.put F.PWR_STATUS_TARGET 0 r.target).put F.PWR_STATUS_CUR_SEQ 0 r.seq).put F.PWR_STATUS_PHASE 0 (if entry then 1 else 4)
    if entry then s.drainBegin r.target else s

/-- Is an orderly shutdown in progress or in the next slot (Table 20.2, row 1)? -/
def State.shutdownComing (s : State) : Bool :=
  s.phase = .shutdown || (s.pm.next.map (fun q => decide (q.target = 4))).getD false

/-- What an entry that does not complete leaves (R639): fetch resumes, each head whose panel was powered down starts again, and the PlynLink
ports that were to leave stay up, or train again (R443). -/
def State.entryUndone (s : State) : State :=
  let s := (List.range 4).foldl (fun s p =>
    let s := s.modPport p (fun r => { r with leaving := r.leaving.filter (fun x => decide (x.2 ≠ 0)) })
    if s.plk.started && s.pdOnB 13 && s.get F.PLK_PORT_STATUS_STATE p = 0 then s.plkTrain p else s) s
  (List.range 8).foldl (fun s h =>
    let s := s.modDp h (fun p => { p with downPending := false })
    if (s.headOf h).entry.enable && !s.pins.panelPwrEn.getLsbD h && s.pdOnB 10 && s.on F.HDn_PANEL_PWR h then
      (if s.get F.HDn_STATUS_STATE h < 3 then (s.headStopped h).headUp h else s)
    else s) s

/-- Rows 2 and 3 of Table 20.2, with nothing in progress. -/
def State.rankIdle (s : State) (r : PwrReq) : State :=
  if r.target = s.pwrState then s.putOutcome r.seq 1 0 0 else s.startTransition r

/-- When a transition ends, the request in the next slot starts at once (R637), with those merged into it. -/
def State.nextStarts (s : State) : State :=
  match s.pm.next with
  | none => s
  | some q =>
    let m := s.pm.nextMerged
    let s := (s.putNext none).rankIdle q
    if s.pm.inProgress.isSome then s.modPm (fun p => { p with merged := m }) else s.endRequests m 1 0 0

/-- A request that R636 does not refuse, against Table 20.2. -/
def State.rankRequest (s : State) (r : PwrReq) : State :=
  if s.shutdownComing then
    (if r.target = 4 then
      (if s.phase = .shutdown then s.modPm (fun p => { p with merged := p.merged ++ [r.seq] })
       else s.modPm (fun p => { p with nextMerged := p.nextMerged ++ [r.seq] }))
     else (s.putOutcome r.seq 4 0x22 0).countEntry F.PWR_CNT_REFUSED r.target 0x22 0)
  else match s.pm.inProgress with
    | none => s.rankIdle r
    | some cur =>
      if r.target = cur.target then s.modPm (fun p => { p with merged := p.merged ++ [r.seq] })
      else if s.get F.PWR_STATUS_PHASE = 1 && decide (r.target < cur.target) then
        let s := (s.endRequests (cur.seq :: s.pm.merged) 5 0xFE 0).countEntry F.PWR_CNT_ABORTED cur.target 0xFE 0
        (s.clearTransition.replaceNext.entryUndone).rankIdle r
      else match s.pm.next with
        | some q =>
          if r.target = q.target then s.modPm (fun p => { p with nextMerged := p.nextMerged ++ [r.seq] })
          else s.replaceNext.putNext (some r)
        | none => s.putNext (some r)

/-- The refuser and block of R636 and of R635's OFF rule, none where the request stands. -/
def State.requestRefuse (s : State) (o : Origin) (t : Nat) : Option (Nat × Nat) :=
  if t = 4 then (if o.cab then none else some (0x22, 0))
  else if 1 ≤ t && !bit (s.get F.PWR_CFG_STATES) (t - 1) then some (0x22, 0)
  else if !o.cab && decide (s.pwrState < t) then
    ((List.range 0x2C).find? (fun b => hasQueue b && s.goesOff t (pdOfBlk b) && s.cabUse b)).map (fun b => (0x21, b))
  else none

/-- A write of TARGET (R635 to R637); a reserved value is a configuration error and has no other effect (R7). -/
def State.powerRequest (s : State) (o : Origin) (t : Nat) : State :=
  if 5 ≤ t then s.cfgError o 0x22 0
  else
    let seq := s.pm.seqCount
    let s := s.newRequest o t
    match s.requestRefuse o t with
    | some (r, b) => (s.putOutcome seq 4 r b).countEntry F.PWR_CNT_REFUSED t r b
    | none => s.rankRequest { seq := seq, target := t, origin := o }

/-- Reason of the refused audit entry of a request, 5 where it would stop a block in Cabinet use (R612). -/
def State.requestReason (s : State) (o : Origin) (t : Nat) : Nat :=
  match s.requestRefuse o t with
  | some (0x21, _) => 5
  | _ => 0

/-- POWER_REQUEST: an audited write of PWR_REQ (R635 to R637). -/
def execPowerRequest (o : Origin) (t : Fin 8) (s : State) : Host.Outcome State Fault Refusal :=
  .next (s.guarded o { addr := 0x00F002200000, blk := 0x22, new := t } (s.requestReason o t)
    (fun s => s.powerRequest o t) (fun s => s.powerRequest o t))

/-! ### Phases of an entry (Table 20.3) -/

/-- Blocks whose DRAIN steps are not complete (R638, R639, R671): a command of a context, a record that the Journal still holds (R241), also
of a reset under way, an access that waits at a block for its audit entry (R153), a LEAVE (R459), a request in a channel FIFO (R501). DEDUCED: a command counts for the block of its engine (R569 names AUD for AUDIO commands). -/
def State.drainLeft (s : State) (t : Nat) : List Nat :=
  let off := s.goesOff t
  let cmds := ((List.range 66).flatMap (fun d => s.cmds d)).map (fun (c : Cmd) => engineBlk c.opcode)
  let jnl := if s.jnl.records.isEmpty then [] else [6]
  let panels := if off 10 then (List.range 8).filter (fun h => s.pins.panelPwrEn.getLsbD h) else []
  let resets := s.err.running.flatMap (fun (u : ResetUnit) => ((List.range 0x2C).filter u.covers).take 1)
  cmds ++ jnl ++ panels.map (fun h => 0x10 + h) ++ resets
    ++ (if off 11 && !s.hapQuiet then [0x1E] else [])
    ++ (if off 11 && (List.range 8).any (fun v => s.on F.AUD_VOICE_PLAYING v) then [0x1F] else [])
    ++ (if (s.dmc.retrain.map (fun (r : Retrain) => r.paused)).getD false then [0x19] else [])
    ++ (if s.fuses.burns.isEmpty then [] else [0x21])
    ++ (if off 13 && (List.range 4).any (fun p => (s.pport p).leaving.isSome) then [0x1C] else [])
    ++ (if t = 2 && !s.stalled.isEmpty then [0x19] else [])
    ++ (s.held.map (fun h => h.addr / 2 ^ 20 % 256)).filter (fun b => off (pdOfBlk b))

/-- Is register-store key `k` one that the save area takes besides the IMG fields (R354, R412, R599)? -/
def savedKey (k : Nat) : Bool :=
  let f := k / 2 ^ 20
  let r := k / 2 ^ 26
  (r = 34 || r = 64 || r = 65 || r = 156 || r = 158 || f = F.WIT_HCTRL_FORCE.num
    || (r = 153 && !(f = F.ICU_SRC_OFFERED.num || f = F.ICU_SRC_INSERVICE.num
        || (f = F.ICU_SRC_PENDING.num && icuIsLevel (idxOfKey k)))))

/-- Domain of a key's block. -/
def pdOfKey (k : Nat) : Nat :=
  match regOfKey k with
  | none => 0
  | some r => pdOfBlk (blkOfKey r k)

/-- DRAIN_PHASE_END: every DRAIN step is complete, and SAVE begins, the point of no return
(R638). SAVE copies the registers and latches ST, UNC and the crystal count; PPS_OUT is driven low (R68, R641, R654). -/
def execDrainPhaseEnd (s : State) : Host.Outcome State Fault Refusal :=
  .next (match s.pm.inProgress with
    | none => s
    | some r =>
      if s.get F.PWR_STATUS_PHASE ≠ 1 || !(s.drainLeft r.target).isEmpty then s
      else
        let off := s.goesOff r.target
        let s := s.put F.PWR_STATUS_PHASE 0 2
        let kept := s.pm.saved.filter (fun (x : Nat × Nat) => !off (pdOfKey x.1))
        let new := s.regs.filter (fun (x : Nat × Nat) => savedKey x.1 && off (pdOfKey x.1))
        let s := s.modPm (fun p => { p with saved := kept ++ new })
        if off 1 then
          let s := s.modPm (fun p => { p with st0 := s.st, c0 := s.crystal, unc0 := s.get F.TIM_STATUS_UNC, inv0 := decide (s.stState = 2) })
          { s with pins := { s.pins with ppsOut := false } }
        else s)

/-- Has DRAIN passed its bound: ENTRY_MS from the end of panel power-down (Table 20.3)? -/
def State.drainOver (s : State) (t : Nat) : Bool :=
  let panels := (List.range 8).filter (fun h => s.pins.panelPwrEn.getLsbD h)
  let from_ := if s.goesOff t 10 then (List.range 8).foldl (fun m h => max m (s.dpOf h).panelOffAt) s.pm.drainAt else s.pm.drainAt
  !(s.goesOff t 10 && !panels.isEmpty) && decide (from_ + s.get F.PWR_CFG_ENTRY_MS * 1000000 ≤ s.now)

/-- ENTRY_REFUSED: DRAIN passed its bound (R639); the refuser is the lowest block whose steps are not complete. -/
def execEntryRefused (s : State) : Host.Outcome State Fault Refusal :=
  .next (match s.pm.inProgress with
    | none => s
    | some r =>
      match s.drainLeft r.target with
      | [] => s
      | b :: bs =>
        if s.get F.PWR_STATUS_PHASE ≠ 1 || !s.drainOver r.target then s
        else
          let blk := bs.foldl min b
          let s := (s.endRequests (r.seq :: s.pm.merged) 4 blk 0).countEntry F.PWR_CNT_REFUSED r.target blk 0
          s.clearTransition.entryUndone.nextStarts)

/-- SAVE_PHASE_END: the save area and the ST latch are complete, and ISOLATE begins (R638, R641). -/
def execSavePhaseEnd (s : State) : Host.Outcome State Fault Refusal :=
  .next (if s.pm.inProgress.isSome && s.get F.PWR_STATUS_PHASE = 2 then s.put F.PWR_STATUS_PHASE 0 3 else s)

/-- The transition ends in state `t`: outcomes DONE, and the next slot starts at once (R637). -/
def State.transitionDone (s : State) (r : PwrReq) : State :=
  ((s.endRequests (r.seq :: s.pm.merged) 1 0 0).clearTransition.put F.PWR_STATUS_STATE 0 r.target).nextStarts

/-- ISOLATE_PHASE_END: pads held, domains off in decreasing order (R638, R643); with PD12 both host links go down (R162), cores lose
power (R585), and with PD09 the DRAM contents are lost, and in PARK every bank is precharged (R501). The target state is reached. -/
def execIsolatePhaseEnd (s : State) : Host.Outcome State Fault Refusal :=
  .next (match s.pm.inProgress with
    | none => s
    | some r =>
      if s.get F.PWR_STATUS_PHASE ≠ 3 then s
      else
        let off := s.turnsOff r.target
        let s := s.put F.PWR_PADREL_HELD 0 (s.get F.PWR_PADREL_HELD ||| off.toNat)
        let s := if off.getLsbD 12 then s.portsDown else s
        let s := if off.getLsbD 13 then (List.range 4).foldl (fun s p => if s.get F.PLK_PORT_STATUS_STATE p = 5 then s else s.plkDown p 0) s
          else s
        let s := if r.target = 2 then s.modDmc (fun m => { m with openRows := [] }) else s
        let s := if off.getLsbD 9 then { s.zeroBytes 0 0x001000000000 with dmc := { s.dmc with bad := [] } } else s
        let s : State := if off.getLsbD 2 then
            (List.range 6).foldl (fun s t =>
              let s := if t < 4 then s.put F.CCL_CORE_STATE t 1 else s.put F.RTx_CTRL_STATE (t - 4) 1
              (s.putBit F.ICU_STATUS_AWAKE 0 t false).putBit F.ICU_STATUS_WAKING 0 t false) s
          else s
        (s.setPd off false).transitionDone r)

/-! ### Phases of an exit (R642, R644, R654) -/

/-- The saved registers of the domains `on` take their values again, and leave the save area (R11, R642). -/
def State.restoreSaved (s : State) (on : BitVec 16) : State :=
  let mine := fun (x : Nat × Nat) => on.getLsbD (pdOfKey x.1)
  let left := s.regs.filter (fun (x : Nat × Nat) => !(savedKey x.1 && mine x))
  ({ s with regs := (s.pm.saved.filter mine).foldl (fun m (x : Nat × Nat) => tinsert m x.1 x.2) left } : State).modPm
    (fun p => { p with saved := p.saved.filter (fun x => !mine x) })

/-- POWER_PHASE_END: domains on and PLLs locked (R644); each domain that was off takes its ISL reset (R642), which is also the reset of an
error that fell due there (R671), and the registers that were saved hold their values before it is released (R11). TIM_ALARM keeps its
value (R599). -/
def execPowerPhaseEnd (s : State) : Host.Outcome State Fault Refusal :=
  .next (match s.pm.inProgress with
    | none => s
    | some r =>
      if s.get F.PWR_STATUS_PHASE ≠ 4 then s
      else
        let on := pdsOf r.target &&& ~~~s.pd
        let s := (s.setPd on true).islandReset (fun b => b ≠ 0 && on.getLsbD (pdOfBlk b))
        let s := if on.getLsbD 1 then (s.put F.TIM_PPS_ARM_SEC 0 0).put F.TIM_PPS_ARM_ARMED 0 0 else s
        let s := ({ s with err := { s.err with due := s.err.due.filter (fun (x : ResetDue) => !on.getLsbD x.unit.pd) } } : State).restoreSaved on
        s.put F.PWR_STATUS_PHASE 0 5)

/-- ST after the wake (R654, R655): from the crystal count, COARSE, or INVALID as at entry; FINE without a reference. -/
def State.stRestore (s : State) : State :=
  let n := s.crystal - s.pm.c0
  let dt := n * s.get F.TIM_CAL_RATIO / 2 ^ 32
  let unc := s.pm.unc0 + 61 + dt * s.get F.TIM_CFG_DRIFT_PPB / 10 ^ 9
  let s := (s.putStState (if s.pm.inv0 then 2 else 1)).put F.TIM_STATUS_SOURCE 0 3
  let s := (s.put F.TIM_STATUS_UNC 0 (min unc (2 ^ 32 - 1))).modPm (fun p => { p with ppsEdges := 0 })
  let s := (s.stSlew 0).stStep (s.crystalSt s.pm.st0 n)
  if s.get F.TIM_CFG_TIME_REF = 0 then s.putStState 0 else s

/-- RESTORE_PHASE_END: pending edges held during the sleep are merged and level sources sampled afresh (R599), and ST is set from the
crystal count where PD01 was off (R654). -/
def execRestorePhaseEnd (s : State) : Host.Outcome State Fault Refusal :=
  .next (match s.pm.inProgress with
    | none => s
    | some r =>
      if s.get F.PWR_STATUS_PHASE ≠ 5 then s
      else
        let fresh := fun (d : Nat) => (pdsOf r.target &&& ~~~(pdsOf s.pwrState)).getLsbD d
        let s := if fresh 1 then s.levelsAfresh.stRestore else s
        s.put F.PWR_STATUS_PHASE 0 6)

/-- A panel after HOLD: the baselines written on entry are kept as they are (R537), and scanning resumes. -/
def State.panelKept (s : State) (p : Nat) : State :=
  match s.nv.baselines.find? (fun x => x.1 = p && x.2.valid) with
  | none => s.panelStart p
  | some (_, r) =>
    let s := r.base.foldl (fun s (x : Nat × Nat) => s.put F.TCH_NODE_BASE (nodeIx p x.1) x.2) s
    (s.put F.TCH_PNL_STATUS_STATE p 3).modPanel p (fun _ => { fresh := 4, first := false })

/-- What starts in domain `d` after a wake once its pads are released (R443, R537, R633, R643): panels scan, ports train, heads start. -/
def State.pdStart (s : State) (d : Nat) : State :=
  if d = 13 then
    (List.range 4).foldl (fun s p => if s.plk.started && s.get F.PLK_PORT_STATUS_STATE p = 0 then s.plkTrain p else s) s
  else if d = 14 then
    (List.range 8).foldl (fun s p => if s.get F.TCH_PNL_CFG_MODE p = 0 || s.panelState p ≠ 0 then s
      else (s.panelKept p).modPanel p (fun q => { q with wake := decide ((s.panelKept p).panelState p = 3) })) s
  else if d = 10 then (List.range 8).foldl State.headUp s
  else s

/-- PAD_RELEASE: a write of PWR_PADREL releases the held pads of each named domain that is on (R643); an audited write. Once the wake is
over, what the pads held up starts; pads held by an emergency record are released only by POR. -/
def State.padRelease (s : State) (m : Nat) : State :=
  if s.pins.padsHeldEmergency then s
  else
    let freed := (List.range 16).filter (fun d => bit m d && s.pdOnB d && bit (s.get F.PWR_PADREL_HELD) d)
    let s := s.put F.PWR_PADREL_HELD 0 (freed.foldl clrBit (s.get F.PWR_PADREL_HELD))
    if s.pwrState ≤ 1 && decide (s.get F.PWR_STATUS_PHASE < 4) then freed.foldl State.pdStart s else s

/-- PAD_RELEASE (R643). -/
def execPadRelease (o : Origin) (m : Fin 65536) (s : State) : Host.Outcome State Fault Refusal :=
  .next (s.guarded o { addr := 0x00F002200018, blk := 0x22, old := s.get F.PWR_PADREL_HELD, new := m } 0 (fun s => s.padRelease m))

/-- WAKE_N_PULSE in DIM, PARK or HOLD, or while an entry is in progress: Hutch ICU source 0; where the image enables it, the firmware answers
with a RUN request (R66, R644). In OFF, and in RUN with no entry in progress, it has no effect. -/
def execWakeNPulse (s : State) : Host.Outcome State Fault Refusal :=
  .next (
    let entry := s.pm.inProgress.isSome && decide (1 ≤ s.get F.PWR_STATUS_PHASE ∧ s.get F.PWR_STATUS_PHASE ≤ 3)
    if s.phase ≠ .running || !(entry || decide (s.pwrState ≠ 0)) then s
    else
      let s := s.hutchRaise 0
      if s.pm.wakeNEn then
        s.guarded Origin.hutch { addr := 0x00F002200000, blk := 0x22 } 0 (fun s => s.powerRequest Origin.hutch 0)
      else s)

end Sys2Proof.Machine
end

