-- ==== Sys2Proof/Machine/Views.lean ====
section
/-! DEFINITION. Register fields that are views of other state, computed when they are read, and what the Open world sees of them. -/

namespace Sys2Proof.Machine

/-- Word `w` of an error record (Table 21.3). -/
def ErrRec.word (r : ErrRec) (w : Nat) : Nat :=
  if w = 0 then
    r.domain + r.code * 2 ^ 8 + r.cls * 2 ^ 16 + b2n r.drawer.isSome * 2 ^ 19 + r.drawer.getD 0 * 2 ^ 20 + r.source * 2 ^ 26
      + r.action * 2 ^ 34 + r.count * 2 ^ 48
  else if w = 1 then r.origin + r.seq * 2 ^ 32
  else if w = 2 then r.firstSt + r.firstState * 2 ^ 62
  else if w = 3 then r.lastSt + r.lastState * 2 ^ 62
  else r.detail

/-- The 40 bytes of an error record (R662). -/
def ErrRec.bytes (r : ErrRec) : List Byte := (List.range 5).flatMap (fun w => leBytes 8 (r.word w))

/-- The record in slot `k` of domain `d` (R657). -/
def State.errSlot (s : State) (d k : Nat) : Option ErrRec := (s.errq d).recs[(k + 16 - (s.errq d).head) % 16]?

/-- Blocks of the audit log with the block before each, and the entries still in the buffer (R690). -/
def withPrev : Option Block → List Block → List (Option Block × Block)
  | _, [] => []
  | p, b :: bs => (p, b) :: withPrev (some b) bs

/-- The held entry at a position. -/
def State.auditAt (s : State) (pos : Nat) : Option AuditEntry := s.auditHeld.find? (fun e => e.pos = pos)

/-- The 64 bytes of a block's seal record with its VERDICT (Table 22.3, R690): bytes 0x00 to 0x17, the MAC at 0x18, VERDICT at 0x38. A
block that is not sealed reads its fields as 0 with VERDICT OPEN. -/
def sealBytes (handle : Nat) (p : Option Block × Block) : List Byte :=
  match p.2.sealRec with
  | some r => r.headBytes ++ leBytes 32 r.mac ++ leBytes 8 (verdict handle p.1 p.2)
  | none => leBytes 56 0 ++ leBytes 8 (verdict handle p.1 p.2)

/-- The seal record of the block that holds the entry at a position. -/
def State.sealAt (s : State) (pos : Nat) : List Byte :=
  match (withPrev none s.nv.ring).find? (fun p => p.2.entries.any (fun e => e.pos = pos)) with
  | some p => sealBytes s.adl.handle p
  | none => if s.adl.buf.any (fun e => e.pos = pos) then leBytes 56 0 ++ leBytes 8 4 else []

/-- Position that ADL_RD shows. -/
def State.rdPos (s : State) : Nat := auditPos (s.get F.ADL_RD_POS_START) (s.get F.ADL_RD_POS_SEQ)

/-- Line that head `h` scans (HDn_STATUS.LINE). DEDUCED: from the time since its frame start. -/
def State.headLine (s : State) (h : Nat) : Nat :=
  let t := s.linesNs h 1
  if (s.headOf h).running && t ≠ 0 then (s.now - (s.headOf h).startAt) / t else 0

/-- Is counter `n` hidden from origin `o` (R707)? -/
def State.pmuHidden (s : State) (o : Origin) (n : Nat) : Bool :=
  !o.cab && (s.on F.PMU_EVSEL_WORLD n || s.cabOwned (s.get F.PMU_EVSEL_BLOCK n))

/-- Bits of a 32-counter word that origin `o` sees (R707, Table 24.7). -/
def State.pmuMask (s : State) (o : Origin) (w v : Nat) : Nat :=
  (List.range 32).foldl (fun a b => if bit v b && (o.cab || !s.on F.PMU_EVSEL_WORLD (32 * w + b)) then a + 2 ^ b else a) 0

/-- A word of a list of bytes. -/
def word64 (bs : List Byte) (w : Nat) : Nat := fieldLE bs (8 * w) 8

/-- A field as origin `o` reads it: the views first, then the register store. -/
def State.viewField (s : State) (o : Origin) (f : Fld) (i : Nat) : Nat :=
  let is := fun (g : Fld) => decide (f.reg = g.reg ∧ f.lo = g.lo)
  let plain := s.get f i
  if f.acc = .wo then 0
  else if f.reg = 4 then (if is F.HPx_MBX_STATUS_EVT_COUNT then (s.portOf i).events.length else plain)
  else if f.reg = 14 then ((s.localTl (i / 256) (i % 256)).map (fun id => (s.tl id).value)).getD 0
  else if f.reg = 15 then
    (match s.localTl (i / 256) (i % 256) with
     | none => 0
     | some id => if is F.DRW_TL_INFO_ID then id else if is F.DRW_TL_INFO_ABANDONED then b2n (s.tl id).abandoned
        else b2n (!(s.tl id).grants.isEmpty))
  else if f.reg = 20 then
    (if !o.cab then plain
     else if is F.JNL_COUNT_REPLAYS then min 65535 (plain + s.jnl.cabReplays)
     else if is F.JNL_COUNT_LIMIT then min 65535 (plain + s.jnl.cabLimit)
     else if is F.JNL_COUNT_WB_RETRY then min 65535 (plain + s.jnl.cabRetry) else min 65535 (plain + s.jnl.cabStall))
  else if f.reg = 23 ∨ f.reg = 24 then (if o.cab then min (2 ^ f.width - 1) (plain + tget 0 s.gpu.cabCounts f.num) else plain)
  else if f.reg = 25 then (if is F.BGn_STATUS_RESIDENT then s.resident i else plain)
  else if f.reg = 31 then (if i = 65 && !o.cab then 0 else plain)
  else if f.reg = 32 then
    (if i = 65 && !o.cab then 0
     else if is F.GFE_CTX_STATUS_STATE then s.ctxState i else if is F.GFE_CTX_STATUS_NP then b2n (s.ctxNp i)
     else if is F.GFE_CTX_STATUS_GROUPS then s.ctxGroups i else plain)
  else if f.reg = 35 then Config.sclCoef i % 1024
  else if f.reg = 47 then (if is F.HDn_STATUS_LINE then s.headLine i else plain)
  else if f.reg = 52 then (if is F.HDn_AS_VTOTAL_MIN then s.get F.HDn_V_VTOTAL i else plain)
  else if f.reg = 68 then ((s.wit.events.head?).map (fun e => if i = 0 then e.1 else e.2)).getD 0
  else if f.reg = 70 then (if is F.WIT_EVT_STATUS_COUNT then s.wit.events.length else plain)
  else if f.reg = 71 then (if is F.WIT_LOAD_RATE then s.protectedRate / 1000000 else plain)
  else if f.reg = 89 then
    (let r := s.route (s.get F.PLK_ROUTE_SEL_ID)
     if is F.PLK_ROUTE_PORT then r.port else if is F.PLK_ROUTE_VALID then b2n (decide (r.hops < 63))
     else if is F.PLK_ROUTE_HOPS then r.hops else r.seq)
  else if f.reg = 97 then (if is F.PLK_IMP_STATUS_FRONT then s.impFront i else plain)
  else if f.reg = 124 then ((s.tch.fwq.head?).map (fun b => word64 b i)).getD 0
  else if f.reg = 125 then (if is F.TCH_FWQ_STATUS_COUNT then s.tch.fwq.length else plain)
  else if f.reg = 153 then (if s.on F.ICU_SRC_WORLD i && !o.cab then 0 else plain)
  else if f.reg = 154 then
    (List.range 32).foldl (fun a b =>
      let n := 32 * i + b
      if s.on F.ICU_SRC_PENDING n && (o.cab || !s.on F.ICU_SRC_WORLD n) then a + 2 ^ b else a) 0
  else if f.reg = 173 then
    (if is F.DBG_STATUS_MIN_LEFT then (s.dbg.session.map (fun x => x.maxMin - (s.now - x.openedAt) / 60000000000)).getD 0 else plain)
  else if f.reg = 178 then ((s.pm.lastSeqOf.find? (fun (x : Origin × Nat) => x.1 = o)).map (fun x => x.2)).getD 0
  else if f.reg = 191 then
    (if is F.FAB_ERR_Q_COUNT then (s.errq i).recs.length else if is F.FAB_ERR_Q_OLDEST then (s.errq i).head else plain)
  else if f.reg = 193 then ((s.errSlot (i / 80) (i / 5 % 16)).map (fun r => r.word (i % 5))).getD 0
  else if f.reg = 194 then
    (if is F.FAB_ERR_ISL_IN_WINDOW then (s.resetsIn i).length
     else if is F.FAB_ERR_ISL_IN_PROGRESS then b2n (s.err.running.any (fun u => u.pd = i)) else plain)
  else if f.reg = 195 then (if is F.FAB_ERR_MOD_RESTARTS then s.recentRestarts.length else plain)
  else if f.reg = 197 then
    (if is F.ADL_STATUS_BUF then s.adl.buf.length else if is F.ADL_STATUS_FULL then b2n (!s.held.isEmpty && s.auditFull) else plain)
  else if f.reg = 201 then (if !o.cab then 0 else if is F.ADL_RD_POS_HELD then b2n (s.auditAt s.rdPos).isSome else plain)
  else if f.reg = 202 then (if !o.cab then 0 else ((s.auditAt s.rdPos).map (fun e => word64 e.bytes i)).getD 0)
  else if f.reg = 203 then (if !o.cab then 0 else word64 (s.sealAt s.rdPos) i)
  else if f.reg = 207 then s.crcResult i
  else if f.reg = 210 then (if is F.PMU_CTRL_FREEZE_CAB && !o.cab then 0 else plain)
  else if f.reg = 213 ∨ f.reg = 214 then s.pmuMask o i plain
  else if f.reg = 217 then (if s.on F.PMU_EVSEL_WORLD i && !o.cab then 0 else plain)
  else if f.reg = 219 ∨ f.reg = 220 then (if s.pmuHidden o i then 0 else plain)
  else if f.reg = 227 then (if is F.BST_STATUS_MAP_COUNT then s.nv.repairs.length else plain)
  else if f.reg = 232 then
    (match s.nv.repairs[i]? with
     | none => 0
     | some e => if is F.BST_MAP_MEM then e.mem else if is F.BST_MAP_STATE then e.state else if is F.BST_MAP_BIT then e.bit else e.line)
  else plain

/-- Element `i` of register `r` as origin `o` reads it. -/
def State.viewWord (s : State) (o : Origin) (r : Reg) (i : Nat) : Nat :=
  r.flds.foldl (fun a f => a + s.viewField o f i % 2 ^ f.width * 2 ^ f.lo) 0

end Sys2Proof.Machine
end

