-- ==== Sys2Proof/Machine/RegAccess.lean ====
section
/-! DEFINITION. Register accesses (R125 to R145, R678 to R685): decoding, access codes, refusals, audit entries, halves and latches, and
what a write of each register does. REGISTER_WRITE, REGISTER_READ and AUDIT_ENTRY. -/

namespace Sys2Proof.Machine

/-! ### Decoding (R127 to R130, R138, R139) -/

/-- Element number and what is left of an offset, over a register's dimensions. -/
def elemAt : List (Nat × Nat) → Nat → Nat → Option (Nat × Nat)
  | [], off, i => some (i, off)
  | (n, stride) :: ds, off, i => if off / stride < n then elemAt ds (off % stride) (i * n + off / stride) else none

/-- Offset of element `i` over a register's dimensions, and the number of their elements. -/
def elemOff (i : Nat) : List (Nat × Nat) → Nat × Nat
  | [] => (0, 1)
  | (n, stride) :: ds => ((elemOff i ds).1 + i / (elemOff i ds).2 % n * stride, (elemOff i ds).2 * n)

/-- Device address of element `i`. -/
def Reg.addrOf (r : Reg) (i : Nat) : Nat := r.addr + (elemOff i r.dims).1

/-- Element of register `r` at address `a` and the byte offset within it. -/
def Reg.elem (r : Reg) (a : Nat) : Option (Nat × Nat) :=
  if a < r.addr then none
  else match elemAt r.dims (a - r.addr) 0 with
    | none => none
    | some (i, off) => if off < (if r.wide then 8 else 4) then some (i, off) else none

/-- The register at device address `a`, its element and the byte offset within it. -/
def regAt (a : Nat) : Option (Reg × Nat × Nat) := regMap.findSome? (fun r => (r.elem a).map (fun e => (r, e.1, e.2)))

/-- Block whose serialisation point and ownership an access to register `r` has; 0 for a Drawer page (R129). -/
def Reg.block (r : Reg) (i : Nat) : Nat :=
  if r.blk = 0x10 ∨ r.blk = 8 ∨ r.blk = 3 ∨ r.blk = 0x1A then r.blk + i / r.perInst else r.blk

/-- Block that owns it: the error window of domain d belongs to block d (R658), a Drawer page and the rest of the window to none. -/
def Reg.ownerBlk (r : Reg) (i : Nat) : Nat :=
  if r.id = 191 ∨ r.id = 192 then i else if r.id = 193 then i / 80 else if 194 ≤ r.id ∧ r.id ≤ 196 then 0 else r.block i

/-- Can the register be reached (R145, R668)? The TIM window lies in PD01, the error window in PD00. -/
def State.regOn (s : State) (r : Reg) (i : Nat) : Bool :=
  if 184 ≤ r.id ∧ r.id ≤ 190 then s.pdOnB 1
  else if 191 ≤ r.id ∧ r.id ≤ 196 then s.pdOnB 0
  else if r.blk = 0 then s.blkOn (0x1A + i / r.perInst / 32)
  else s.blkOn (r.block i)

/-- Registers that an origin reaches at all: a Drawer its own page, a mediator through PF BAR0 those of its port (R131). -/
def Reg.reach (r : Reg) (i : Nat) (o : Origin) (byCmd : Bool) : Bool :=
  match o.kind with
  | .drawer => r.blk = 0 && i / r.perInst + 1 = o.port * 32 + o.fn
  | .mediator => byCmd || r.block i = 0x1A + o.port
  | _ => true

/-! ### Writes -/

/-- What a write does to one field: the bits it attempts, those refused, and why; or that it carries a reserved code. -/
structure FldPlan where
  f : Fld
  act : Nat
  bad : Nat := 0
  reason : Nat := 0
  resv : Bool := false

/-- Bits of the field that take effect. -/
def FldPlan.ok (p : FldPlan) : Nat := andNot p.act p.bad

/-- Is the value one that the field's table reserves (R7)? The codes that a register's own effect refuses are left to it. -/
def reservedCode (f : Fld) (v : Nat) : Bool :=
  let is := fun (gs : List Fld) => gs.any (fun g => g.num = f.num)
  if is [F.GFE_PASS_CFG_FORCE, F.HDn_CTRL_DIV, F.HDn_PCLK_BPC, F.WIT_HCTRL_FORCE, F.WIT_RCFG_ACTION, F.WIT_RCFG_CLASS, F.HDn_PORT_CFG_LANES,
      F.DMC_RGN_B_CLASS, F.DRW_AUD_CFG_FORMAT] then v = 3
  else if is [F.HDn_CTRL_MODE, F.DMC_TRN_CTRL_OP, F.DMC_TRN_CTRL_PATTERN] then 5 ≤ v
  else if is [F.AUD_CFG_CLK_SRC] then 6 ≤ v
  else if is [F.PMU_BW_CFG_WINDOW] then v = 0 || decide (1000000 < v)
  else is [F.TCH_RCFG_OWNER] && decide (0x41 ≤ v ∧ v ≤ 0x7E)

/-- Does the field take effect only while its head is STOPPED (R382, R440)? -/
def headStill (f : Fld) : Bool :=
  f.num = F.HDn_PORT_CFG_LANES.num || f.num = F.HDn_PORT_CFG_RATE.num || f.reg = 48 || f.reg = 49 || f.reg = 50 || f.reg = 52
    || (f.reg = 46 && (f.lo = F.HDn_CTRL_MODE.lo || f.lo = F.HDn_CTRL_DIV.lo || f.lo = F.HDn_CTRL_PREFETCH_LINES.lo))

/-- Does a write to the field leave it alone without being a refusal: it is read-only there, or its chapter says that the write is
ignored or made only in another state? -/
def State.ignoresWrite (s : State) (o : Origin) (f : Fld) (i : Nat) : Bool :=
  if f.acc = .ro || f.acc = .rc then true
  else if f.reg = 10 || f.reg = 16 then (f.lo = F.DRW_Q_RING_BASE.lo && s.on F.DRW_Q_CTRL_ENABLE i) || s.on F.DRW_Q_CTRL_CLOSING i
  else if f.reg = 11 then
    f.lo = F.DRW_Q_CTRL_ENGINE.lo && (s.on F.DRW_Q_CTRL_ENABLE i || s.on F.DRW_Q_CTRL_CLOSING i)
  else if f.reg = 126 then s.on F.DRW_TCH_CTRL_EN i
  else if f.reg = 149 then f.lo ≠ 0 && s.on F.DRW_AUD_CFG_EN i
  else if f.reg = 158 || f.reg = 160 then 4 ≤ i && !o.cab
  else if f.reg = 170 || f.reg = 171 then s.on F.CAB_RGN_CFG_LOCK i
  else if 172 ≤ f.reg ∧ f.reg ≤ 177 then true
  else if f.reg = 201 then !o.cab
  else if f.reg = 217 || f.reg = 219 then !o.cab && s.on F.PMU_EVSEL_WORLD i
  else false

/-- Reason for which a rule refuses the whole field (R136, Table 22.1), 0 for none. -/
def State.fieldReason (s : State) (o : Origin) (f : Fld) (i : Nat) : Nat :=
  if f.acc = .rwl && s.committed then 1
  else if f.reg = 140 && s.on F.AUD_OUT_LOCK i && !o.cab then 7
  else if f.acc = .rwc && !o.cab then 2
  else if f.reg = 153 && s.on F.ICU_SRC_WORLD i && !o.cab then 2
  else if headStill f && s.get F.HDn_STATUS_STATE i ≠ 0 then 6
  else 0

/-- Bits of element `i` of the field that exist: TCH_LINE_RET has none for sense lines above 71 (Table 15.9). -/
def liveBits (f : Fld) (i : Nat) : Nat := if f.reg = 120 && i % 2 = 1 then 255 else 2 ^ 64 - 1

/-- The plan for field `f`: `rng` are the bits of the register that the write carries, `v` their values, `allow` the bits that a mediator
is granted (R136, R172). -/
def State.fieldPlan (s : State) (o : Origin) (i rng v allow : Nat) (f : Fld) : FldPlan :=
  let m := bits rng f.lo f.width &&& liveBits f i
  let w := bits v f.lo f.width &&& m
  if m = 0 || s.ignoresWrite o f i then { f := f, act := 0 }
  else
    let cur := s.get f i &&& m
    let act := match f.acc with
      | .rw | .rwl | .rwc => w ^^^ cur
      | _ => w
    let reason := s.fieldReason o f i
    if act = 0 then { f := f, act := 0 }
    else if reason ≠ 0 then { f := f, act := act, bad := act, reason := reason }
    else
      let bad := andNot act (bits allow f.lo f.width)
      if bad ≠ 0 then { f := f, act := act, bad := bad, reason := 3 }
      else if reservedCode f w then { f := f, act := 0, resv := true }
      else if f.reg = 147 && !o.cab then { f := f, act := act, bad := act &&& s.locked, reason := 7 }
      else { f := f, act := act }

/-- Value of a field after the plan: stored kinds take their bits, W1C clears, W1S sets, WO is not stored (R135). -/
def State.planValue (s : State) (i : Nat) (p : FldPlan) : Nat :=
  let cur := s.get p.f i
  match p.f.acc with
  | .rw | .rwl | .rwc => cur ^^^ p.ok
  | .w1c => andNot cur p.ok
  | .w1s => cur ||| p.ok
  | _ => cur

/-- The word a register's own effect sees: the values its stored fields take and the bits its action fields carry. -/
def State.planWord (s : State) (i : Nat) (ps : List FldPlan) : Nat :=
  ps.foldl (fun a p =>
    (a + (match p.f.acc with
      | .rw | .rwl | .rwc => s.planValue i p
      | .wo | .w1s | .w1c => p.ok
      | _ => 0) * 2 ^ p.f.lo)) 0

/-- Fields that the register's own effect stores instead of the access code. -/
def ownField (f : Fld) : Bool :=
  f.reg = 11 || f.reg = 30 || f.reg = 34 || f.reg = 39 || f.reg = 148 || f.reg = 156 || f.reg = 168 || f.reg = 188 || f.reg = 190
    || f.reg = 200 || f.reg = 204 || f.reg = 206 || f.reg = 211 || (107 ≤ f.reg && f.reg ≤ 111)
    || (f.reg = 36 && f.lo = F.HDn_PIPE_SWAP.lo) || (f.reg = 46 && f.lo = 0)
    || (f.reg = 122 && (f.lo = F.TCH_RCFG_EN.lo || f.lo = F.TCH_RCFG_OWNER.lo || f.lo = F.TCH_RCFG_SLOT.lo))
    || (f.reg = 127 && f.lo = 0) || (f.reg = 149 && f.lo = 0)
    || (f.reg = 145 && (f.lo = F.AUD_VOICE_PLAY.lo || f.lo = F.AUD_VOICE_STOP.lo))
    || (f.reg = 152 && f.lo = F.RTx_CTRL_WAKE.lo) || f.reg = 226

/-- Store a field as its access code says; an IMG field's shadow follows (R668). -/
def State.storeField (s : State) (i : Nat) (p : FldPlan) : State :=
  if p.ok = 0 || ownField p.f then s
  else if p.f.rst = .img then s.putImg p.f i (s.planValue i p) else s.put p.f i (s.planValue i p)

/-- Selector codes of a written source field: a code that the selector does not allow makes it take silence and records FORMAT (R556). -/
def State.selCheck (s : State) (o : Origin) (k : Sel) (n v off : Nat) : State :=
  if (List.range n).all (fun c => k.allows (v / 2 ^ (8 * c) % 256)) then s else s.cfgError o 0x1F off

/-- A write of DMC_TRN_CTRL, DMC_TRN_PAT, DMC_DLY or DMC_VREF (R503). -/
def State.trnWrite (s : State) (o : Origin) (r : Reg) (i w : Nat) (ps : List FldPlan) : State :=
  if !s.trnAllowed o then
    s.recordError { domain := 0x19, code := 0x2C, source := o.kind.num, origin := o.word, detail := r.addr }
  else
    let busy := s.on F.DMC_TRN_CTRL_BUSY
    let s := ps.foldl (fun s p => if p.ok = 0 then s else s.put p.f i (s.planValue i p)) s
    let s := if r.id = 111 then s.modDmc (fun m => { m with vrefDev := tset 0x40 m.vrefDev i (s.get F.DMC_VREF_DRAM i) }) else s
    if r.id = 107 && bits w F.DMC_TRN_CTRL_START.lo 1 = 1 && !busy then
      let c : TrnCfg := { ch := s.get F.DMC_TRN_CTRL_CH, all := s.on F.DMC_TRN_CTRL_ALL, pattern := s.get F.DMC_TRN_CTRL_PATTERN,
                          lenLog2 := s.get F.DMC_TRN_CTRL_LEN_LOG2, dir := s.get F.DMC_TRN_CTRL_DIR }
      s.trnGo (s.get F.DMC_TRN_CTRL_OP) c
    else s

/-- A queue's DRW_Q_CTRL (R177, R228). -/
def State.qCtrlWrite (s : State) (i w : Nat) (ps : List FldPlan) : State :=
  let d := i / 16
  let q := i % 16
  let en := bits w F.DRW_Q_CTRL_ENABLE.lo 1 = 1
  let eng := bits w F.DRW_Q_CTRL_ENGINE.lo F.DRW_Q_CTRL_ENGINE.width
  let vec := bits w F.DRW_Q_CTRL_VECTOR.lo F.DRW_Q_CTRL_VECTOR.width
  if s.drwState d = 0 || ps.all (fun p => p.ok = 0) then s
  else if s.on F.DRW_Q_CTRL_ENABLE i then
    (if en then s.put F.DRW_Q_CTRL_VECTOR i vec else (s.put F.DRW_Q_CTRL_VECTOR i vec).queueDisable d q)
  else if en then s.queueEnable d q eng vec
  else (s.put F.DRW_Q_CTRL_ENGINE i eng).put F.DRW_Q_CTRL_VECTOR i vec

/-- Effects of ICU_SRC(n) (R587, R589, R595): a PRIO of 0 or a change of WORLD withdraws an offer; then the source is tried again. -/
def State.icuSrcWrite (s : State) (n : Nat) (worldHit : Bool) : State :=
  let s := if s.on F.ICU_SRC_OFFERED n && (worldHit || s.get F.ICU_SRC_PRIO n = 0) then s.icuWithdraw n false else s
  s.icuTry n

/-- CAB_OWN keeps its fixed bits (R610). -/
def ownFixedWord (k v : Nat) : Nat :=
  if k = 0 then andNot (v ||| 0x1A) 0x0C000001 else if k = 1 then v ||| 0x282 else v

/-- What a write of element `i` of register `r` does besides the fields that are stored as their access codes say. `w` is the planned
word, `ps` the plans; `hit f` tells whether field `f` takes effect. -/
def State.regEffect (s : State) (o : Origin) (r : Reg) (i w : Nat) (ps : List FldPlan) : State :=
  let val := fun (f : Fld) => bits w f.lo f.width
  let hit := fun (f : Fld) => ps.any (fun p => p.f.lo = f.lo && p.ok ≠ 0)
  let any := ps.any (fun p => p.ok ≠ 0)
  if r.id = 3 then (if val F.HPx_MBX_GO_GO = 1 then s.mbxGo i else s)
  else if r.id = 11 then s.qCtrlWrite i w ps
  else if r.id = 30 then (if hit F.GFE_CTX_SHARE_SHARE then s.shareWrite i (val F.GFE_CTX_SHARE_SHARE) else s)
  else if r.id = 34 then (if any then s.lownWrite o (i / 9) (i % 9) (val F.HDn_LOWN_OWNER) (val F.HDn_LOWN_SLOT) else s)
  else if r.id = 36 then (if hit F.HDn_PIPE_SWAP then s.swapRequest i else s)
  else if r.id = 39 then (if any then s.sflipWrite i (val F.HDn_SFLIP_WINDOWS) else s)
  else if r.id = 44 then (if val F.DRW_FLIP_GO_GO = 1 then s.flipGo i (val F.DRW_FLIP_GO_GROUP = 1) else s)
  else if r.id = 46 then
    (if !hit F.HDn_CTRL_RUN then s else if val F.HDn_CTRL_RUN = 1 then s.headStart i false else s.headStop i)
  else if r.id = 58 then s.icuLine (16 + i) (s.get F.HDn_IRQ_PEND i &&& s.get F.HDn_IRQ_EN i ≠ 0)
  else if r.id = 64 ∨ r.id = 65 then (if any then s.regionStaged (i / 16) (i % 16) else s)
  else if r.id = 69 then (if val F.WIT_EVT_POP_POP = 1 then s.witPop else s)
  else if r.id = 72 ∨ r.id = 73 ∨ r.id = 78 then s.portLine i
  else if r.id = 74 then (if any then s.panelWrite i else s)
  else if r.id = 76 then s.sbStart i (s.sbOf i w)
  else if r.id = 82 then s.plkLine
  else if r.id = 85 then
    let s := if !hit F.PLK_PORT_CTRL_EN then s
      else if s.on F.PLK_PORT_CTRL_EN i then (if 4 ≤ s.get F.PLK_PORT_STATUS_STATE i then s else s.plkTrain i)
      else s.portDisable i
    if val F.PLK_PORT_CTRL_RETRAIN = 1 then s.portRetrain i else s
  else if r.id = 90 ∨ r.id = 91 then (if any then s.windowChanged i else s)
  else if r.id = 92 then (if any then s.apWrite i else s)
  else if r.id = 94 then (if any then s.expWrite (i / 5) else s)
  else if r.id = 102 then (if val F.DMC_RT_CTRL_NOW = 1 then s.retrainAll else s)
  else if 107 ≤ r.id ∧ r.id ≤ 111 ∧ r.id ≠ 109 then s.trnWrite o r i w ps
  else if r.id = 114 then (if hit F.TCH_PNL_CFG_MODE then (s.panelMode i).tchLines else s)
  else if r.id = 118 then s.tchLines
  else if r.id = 119 then (if val F.TCH_PNL_CMD_REBASE = 1 then (s.panelRebase i).tchLines else s.tchLines)
  else if r.id = 122 then
    (if hit F.TCH_RCFG_OWNER || hit F.TCH_RCFG_SLOT || hit F.TCH_RCFG_EN then
      s.regionOwner i (val F.TCH_RCFG_OWNER) (val F.TCH_RCFG_SLOT) (val F.TCH_RCFG_EN = 1)
     else s)
  else if r.id = 125 then (if val F.TCH_FWQ_STATUS_POP = 1 then s.fwqPop else s)
  else if r.id = 127 then
    (if !hit F.DRW_TCH_CTRL_EN then s else if val F.DRW_TCH_CTRL_EN = 1 then s.tchEnable i else s.put F.DRW_TCH_CTRL_EN i 0)
  else if r.id = 129 then s.tchConsume i w
  else if r.id = 131 then (if val F.HAP_CH_CFG_CLR = 1 then s.hapClr i else s)
  else if r.id = 135 then
    (if val F.HAP_TRIG_GO = 1 then s.hapTrigger (val F.HAP_TRIG_CHANNEL) (val F.HAP_TRIG_EFFECT) else s)
  else if r.id = 139 then (if hit F.AUD_MIX_SRC then s.selCheck o .mix 1 (val F.AUD_MIX_SRC) (0x400 + 4 * i) else s)
  else if r.id = 140 then
    let s := if hit F.AUD_OUT_SRC then s.selCheck o .out 1 (val F.AUD_OUT_SRC) (0x800 + 8 * i) else s
    if hit F.AUD_OUT_EQ_EN then s.modOut i (fun x => { x with eq := [] }) else s
  else if r.id = 141 then (if any then s.selCheck o .cap 8 (val F.AUD_CAP_SRC) (0xA00 + 8 * i) else s)
  else if r.id = 143 then (if any then s.selCheck o .cap 8 (val F.AUD_SEND_SEL_SRC) (0xB08 + 16 * i) else s)
  else if r.id = 145 then
    let s := if hit F.AUD_VOICE_PLAY then s.voicePlay i else s
    if hit F.AUD_VOICE_STOP then s.voiceStop i else s
  else if r.id = 148 then
    (if any then s.bqWrite i (val F.AUD_BQ_COEF) else s)
  else if r.id = 149 then
    (if !hit F.DRW_AUD_CFG_EN then s
     else if val F.DRW_AUD_CFG_EN = 1 then s.streamEnable (i / 32) (i % 32) else s.put F.DRW_AUD_CFG_EN i 0)
  else if r.id = 151 then (if val F.CCL_CORE_WAKE = 1 then s.coreWakeEffect i else s)
  else if r.id = 152 then (if val F.RTx_CTRL_WAKE = 1 && o.cab then s.coreWakeEffect (4 + i) else s)
  else if r.id = 153 then s.icuSrcWrite i (hit F.ICU_SRC_WORLD)
  else if r.id = 155 then s.icuSetWrite o w
  else if r.id = 156 then (if any then s.gdisEffect (val F.ICU_GDIS_GDIS = 1) else s)
  else if r.id = 158 then s.icuReeval
  else if r.id = 160 then s.completeWrite o i w
  else if r.id = 164 then (if val F.HUT_DBELL_RING = 1 then s.dbellWrite o else s)
  else if r.id = 165 then (if val F.CAB_LC_TARGET = 0 then s else s.lcRequest o (val F.CAB_LC_TARGET))
  else if r.id = 166 then
    let s := if val F.CAB_FUSE_RAISE_TO = 0 then s else s.raiseTo (val F.CAB_FUSE_RAISE_TO)
    if val F.CAB_FUSE_REVOKE = 0 then s else s.revoke (val F.CAB_FUSE_REVOKE)
  else if r.id = 167 then s.icuLine 59 s.cabLine
  else if r.id = 168 then s.put F.CAB_OWN_OWN i (ownFixedWord i w)
  else if r.id = 178 then s.powerRequest o (w % 8)
  else if r.id = 181 then s.padRelease (andNot (s.get F.PWR_PADREL_HELD) 0 &&& w)
  else if r.id = 188 then
    (if !any then s else if 4611686017 < val F.TIM_PPS_ARM_SEC then s.cfgError o 0x22 0x80020 else s.armPps (val F.TIM_PPS_ARM_SEC))
  else if r.id = 190 then (if any then s.alarmWrite (val F.TIM_ALARM_ST) (val F.TIM_ALARM_EN = 1) else s)
  else if r.id = 192 then s.ackTo i w
  else if r.id = 196 then s.swrepEffect o w
  else if r.id = 200 then (if any then s.markTo (val F.ADL_MARK_START) (val F.ADL_MARK_SEQ) else s)
  else if r.id = 204 then
    s.crcCtrl i (val F.CRC_CTRL_POLY) (val F.CRC_CTRL_INIT = 1) (val F.CRC_CTRL_IE = 1) (val F.CRC_CTRL_DONE = 1)
  else if r.id = 205 then s.crcFeed (i / 3) (2 ^ (i % 3)) w
  else if r.id = 206 then s.put F.CRC_VAL_VAL i (w % 2 ^ (crcParams (s.get F.CRC_CTRL_POLY i)).1)
  else if r.id = 211 then
    (if val F.PMU_TRIG_ARM = 1 then s.pmuArm o (val F.PMU_TRIG_ST) (val F.PMU_TRIG_FRZ = 1)
     else (s.put F.PMU_TRIG_ST 0 (val F.PMU_TRIG_ST)).put F.PMU_TRIG_FRZ 0 (val F.PMU_TRIG_FRZ))
  else if r.id = 213 then s.pmuLine
  else if r.id = 216 then s.icuLine 55 ((List.range 4).any (fun c => s.on F.PMU_SMP_INFO_VALID c))
  else if r.id = 217 then
    let bad := any && !pmuSelOk (s.get F.PMU_EVSEL_BLOCK i) (s.get F.PMU_EVSEL_EVENT i) (s.get F.PMU_EVSEL_SUB i)
    (if bad then s.cfgError o 0x25 (0x1000 + 8 * i) else s).pmuLine
  else if r.id = 221 then (if any then s.bwStart i else s)
  else if r.id = 226 then (if hit F.BST_GO_GO then s.bstGo none else s)
  else if r.id = 233 then (if val F.HPx_BIST_GO_GO = 1 then s.bstGo (some i) else s)
  else s

/-- A write to an import's words: SUBSCRIBE follows its enable (R482). -/
def State.impEffect (s : State) (i : Nat) (was any : Bool) : State := if any then s.impWrite (i / 6) was else s

/-- The audit entries of one half of a write: NEW and, for a refused entry, its reason (R679). -/
def halfEntries (full : Bool) (v : Nat) (old : Nat) (ps : List FldPlan) (h : Nat) : List (Nat × Nat) :=
  let inHalf := fun (p : FldPlan) (m : Nat) => (m * 2 ^ p.f.lo) / 2 ^ (32 * h) % 2 ^ 32 ≠ 0
  let bad := ps.filter (fun p => inHalf p p.bad)
  let ok := ps.filter (fun p => inHalf p p.ok)
  let new := v / 2 ^ (32 * h) % 2 ^ 32
  let badBits := bad.foldl (fun a p => a ||| p.bad * 2 ^ p.f.lo) 0
  let kept := (andNot v badBits ||| (old &&& badBits)) / 2 ^ (32 * h) % 2 ^ 32
  match bad with
  | [] => if full || ok.any (fun p => p.f.audited) then [(new, 0)] else []
  | p :: _ => if ok.isEmpty then [(new, p.reason)] else [(kept, 0), (new, p.reason)]

/-- Who writes, with what of R172 to R174: a mediator's grant, and whether REG_WRITE makes the write audited whatever the register. -/
structure WriteBy where
  allow : Nat := 2 ^ 64 - 1
  byCmd : Bool := false

/-- Bits granted to port `p` by MUTABLE for the register (R119, R172); IMG fields are withheld without a grant after commit, every other
field of PF BAR0 follows its access code (R136). -/
def State.granted (s : State) (p : Nat) (r : Reg) (i : Nat) : Nat :=
  let at_ := (r.addrOf i - 0x00F000000000) % 2 ^ 20
  s.mutables.foldl (fun m e =>
    if e.blk = r.block i && bit e.ports p && e.off = at_ then m ||| e.mask
    else if e.blk = r.block i && bit e.ports p && r.wide && e.off = at_ + 4 then m ||| e.mask * 2 ^ 32
    else m) 0

/-- Bits of the register's fields whose reset is not IMG. -/
def Reg.openBits (r : Reg) : Nat := r.flds.foldl (fun m f => if f.rst = .img then m else m ||| (2 ^ f.width - 1) * 2 ^ f.lo) 0

/-- Bits of the register that a direct write of the origin may change as far as R118 goes: after commit an IMG field changes only by the
Hutch, a debug session, Cabinet firmware on a Cabinet-owned block, and for a mediator by a MUTABLE entry (R136). -/
def State.allowOf (s : State) (o : Origin) (r : Reg) (i : Nat) : Nat :=
  if s.imgFree o (r.ownerBlk i) then 2 ^ 64 - 1
  else if o.kind = .mediator then s.granted o.port r i ||| r.openBits
  else r.openBits

/-- A write of the bits `rng` of element `i` of register `r` that takes effect at once: entries, then fields, then the register's own
effect (R135, R136, R679). A reserved code is a configuration error, in a Drawer's register a guest error, and its field keeps its value (R7). DESIGN CHOICE (log entry 57): with
it the whole write of TCH_RCFG and of DMC_TRN_CTRL has no effect. -/
def State.regApply (s : State) (o : Origin) (r : Reg) (i rng v : Nat) (by_ : WriteBy) : State :=
  let ps := r.flds.map (s.fieldPlan o i rng v by_.allow)
  let old := s.viewWord { o with cab := true } r i
  let full := by_.byCmd || r.flds.all (fun f => f.audited)
  let reasons := if r.id = 178 then s.requestReason o (v % 8) else 0
  let halves := (if rng % 2 ^ 32 = 0 then [] else [0]) ++ (if rng / 2 ^ 32 = 0 then [] else [1])
  let s1 : State := if (r.audited || by_.byCmd) && s.committed then
      halves.foldl (fun s h =>
        let es := if reasons ≠ 0 then [(v % 2 ^ 32, reasons)] else halfEntries full v old ps h
        es.foldl (fun s e => s.auditReg o (r.addrOf i) (old / 2 ^ (32 * h) % 2 ^ 32) e.1 (h = 1) (e.2 ≠ 0) e.2) s) s
    else s
  let rej := ps.any (fun p => p.reason = 6)
  let resv := ps.any (fun p => p.resv)
  let whole := resv && (r.id = 122 || (r.id = 107 && s.trnAllowed o))
  let was := r.id = 96 && s.impEn (i / 6)
  let w := s.planWord i ps
  let s2 := if whole then s1 else ps.foldl (fun s p => s.storeField i p) s1
  let s3 := if rej then s2.put F.HDn_STATUS_WRITE_REJ i 1 else s2
  let s3 := if !resv then s3 else if r.id = 149 then s3.guestError (i / 32) 6 (s3.get F.DRW_AUD_CFG_QUEUE i)
    else s3.cfgError o (r.ownerBlk i) (r.addrOf i % 2 ^ 20)
  if whole then s3
  else if r.id = 96 then s3.impEffect i was (ps.any (fun p => p.ok ≠ 0)) else s3.regEffect o r i w ps

/-- How many entries the write needs in the buffer (R679, R685). -/
def State.regEntries (s : State) (o : Origin) (r : Reg) (i rng v : Nat) (by_ : WriteBy) : Nat :=
  if !((r.audited || by_.byCmd) && s.committed) then 0
  else
    let ps := r.flds.map (s.fieldPlan o i rng v by_.allow)
    let full := by_.byCmd || r.flds.all (fun f => f.audited)
    let halves := (if rng % 2 ^ 32 = 0 then [] else [0]) ++ (if rng / 2 ^ 32 = 0 then [] else [1])
    if r.ownerBlk i ≠ 0 && s.cabOwned (r.ownerBlk i) && !o.cab then halves.length
    else (halves.map (fun h => (halfEntries full v 0 ps h).length)).sum + (if r.id = 165 ∧ v / 2 ^ 8 % 8 ≠ 0 then 1 else 0)

/-- An access to the HUT interrupt registers of R602 that is not allowed. -/
def hutDenied (r : Reg) (o : Origin) : Bool := (r.id = 161 || r.id = 163) && !(o.kind = .hutch || o.kind = .debug)

/-- A write of `n` bytes (4 or 8) that has reached register `r`, element `i`, at byte offset `off`. -/
def State.regWriteAt (s : State) (o : Origin) (r : Reg) (i off a n v : Nat) (by_ : WriteBy) : State :=
  let own := r.ownerBlk i
  if !r.reach i o by_.byCmd then s.accessError o 0 0x28 a
  else if !s.regOn r i then s.accessError o 0 0x2A a
  else
    let half := r.wide && n = 4
    let rng := if half then (2 ^ 32 - 1) * 2 ^ (8 * off) else if r.wide then 2 ^ 64 - 1 else 2 ^ 32 - 1
    let low := half && off = 0 && r.paired
    let denied := own ≠ 0 && s.cabOwned own && !o.cab
    if low && denied then s.accessError o 0 0x29 a
    else if low then
      { s with latches := s.latches.filter (fun (l : Latch) => !(l.origin = o && l.reg = r.id && l.idx = i && l.write))
                            ++ [{ origin := o, reg := r.id, idx := i, write := true, value := v % 2 ^ 32 }] }
    else
      let lo := if half && r.paired then s.latches.find? (fun (l : Latch) => l.origin = o && l.reg = r.id && l.idx = i && l.write) else none
      let v64 := if half then v % 2 ^ 32 * 2 ^ (8 * off) + (lo.map (fun l => l.value)).getD 0 else v % 2 ^ (8 * n)
      let rng := if lo.isSome then 2 ^ 64 - 1 else rng
      let e := s.regEntries o r i rng v64 by_
      if 64 < s.adl.buf.length + e || (decide (0 < e) && s.auditedHeld o) then
        s.hold { origin := o, addr := a, size := n, data := some v, audited := decide (0 < e) }
      else
        let s := { s with latches := s.latches.filter (fun (l : Latch) => !(l.origin = o && l.reg = r.id && l.idx = i && l.write)) }
        if denied then
          let old := s.viewWord { o with cab := true } r i
          let halves := (if rng % 2 ^ 32 = 0 then [] else [0]) ++ (if rng / 2 ^ 32 = 0 then [] else [1])
          let s := if (r.audited || by_.byCmd) && s.committed then
              halves.foldl (fun s h => s.auditReg o (r.addrOf i) (old / 2 ^ (32 * h) % 2 ^ 32) (v64 / 2 ^ (32 * h) % 2 ^ 32) (h = 1) true 4) s
            else s
          s.accessError o 0 0x29 a
        else if hutDenied r o then
          s.recordError { domain := 1, code := 0x2C, source := o.kind.num, origin := o.word, action := 1 }
        else s.regApply o r i rng v64 by_

/-- A write that waits behind one at its serialisation point (R141). -/
def State.holdWrite (s : State) (o : Origin) (a n v : Nat) : State :=
  s.hold { origin := o, addr := a, size := n, data := some v, audited := s.committed && ((regAt a).map (fun x => x.1.audited)).getD false }

/-- A write at device address `a` (R125, R136 to R141). DESIGN CHOICE (log entry 57): the size and alignment of an access are judged before
its offset, so that a narrow or misaligned access to an offset that no chapter lists records ACCESS_SIZE alone. -/
def State.regWrite (s : State) (o : Origin) (a n v : Nat) : State :=
  if !(n = 4 || n = 8) || a % n ≠ 0 then s.accessError o 0 0x2B a
  else if s.behindHeld a then s.holdWrite o a n v
  else match regAt a with
    | none => s.accessError o 0 0x28 a
    | some (r, i, off) =>
      let by_ : WriteBy := { allow := s.allowOf o r i }
      if n = 8 && !r.wide then
        let s := s.regWriteAt o r i off a 4 (v % 2 ^ 32) by_
        match regAt (a + 4) with
        | none => s
        | some (r2, i2, off2) =>
          let by2 : WriteBy := { allow := s.allowOf o r2 i2 }
          if s.behindHeld a then s.holdWrite o (a + 4) 4 (v / 2 ^ 32)
          else s.regWriteAt o r2 i2 off2 (a + 4) 4 (v / 2 ^ 32) by2
      else s.regWriteAt o r i off a n v by_

/-! ### Reads -/

/-- Clear the RC fields that a read of the bits `rng` returned (R135); the high-water marks begin again at the present value, and
JNL_COUNT, GFE_PASS_COUNT and GFE_SIG_COUNT clear the counts that a read from the Cabinet world added (R242, R289). -/
def State.readClears (s : State) (o : Origin) (r : Reg) (i rng : Nat) : State :=
  let fs := r.flds.filter (fun f => f.acc = .rc && bits rng f.lo f.width ≠ 0)
  let s := fs.foldl (fun s f =>
    if f.reg = 18 then (if f.lo = F.JNL_STATUS_USED_HWM.lo then s.put f i (s.get F.JNL_STATUS_USED) else s.put f i (s.get F.JNL_STATUS_CC_OCC))
    else s.put f i 0) s
  let s : State := if r.id = 20 && o.cab then
      { s with jnl := { s.jnl with cabReplays := if bits rng 0 16 = 0 then s.jnl.cabReplays else 0,
                                   cabLimit := if bits rng 16 16 = 0 then s.jnl.cabLimit else 0,
                                   cabRetry := if bits rng 32 16 = 0 then s.jnl.cabRetry else 0,
                                   cabStall := if bits rng 48 16 = 0 then s.jnl.cabStall else 0 } }
    else s
  let s : State := if (r.id = 23 || r.id = 24) && o.cab then
      { s with gpu := { s.gpu with cabCounts := fs.foldl (fun l f => tset 0 l f.num 0) s.gpu.cabCounts } }
    else s
  if r.id = 8 then s.modDrw i (fun w => { w with gerrRaised := false }) else s

/-- Reads that act (R591, R602, R719): the state after them and the value; none for the others. -/
def State.readActs (s : State) (o : Origin) (r : Reg) (i : Nat) : Option (State × Nat) :=
  if r.id = 159 then some (s.claimRead o i)
  else if r.id = 163 then some (s.hutClaimRead o)
  else if r.id = 222 then some (s.bwRead o i)
  else if r.id = 223 then some (s.bwWrRead o i)
  else if r.id = 224 then some (s.bwPeakRead o i)
  else none

/-- A read of `n` bytes (4 or 8) of register `r`, element `i`, at byte offset `off`: the state after it and the value. -/
def State.regReadAt (s : State) (o : Origin) (r : Reg) (i off a n : Nat) (byCmd : Bool) : State × Nat :=
  let own := r.ownerBlk i
  let mine := fun (l : Latch) => l.origin = o && l.reg = r.id && l.idx = i && !l.write
  if !r.reach i o byCmd then (s.accessError o 0 0x28 a, 0)
  else if !s.regOn r i then (s.accessError o 0 0x2A a, 0)
  else if own ≠ 0 && s.cabOwned own && !o.cab then (s.accessError o 0 0x29 a, 0)
  else if hutDenied r o then
    (s.recordError { domain := 1, code := 0x2C, source := o.kind.num, origin := o.word, action := 1 }, 0)
  else
    let half := r.wide && n = 4
    let lat := if half && r.paired && off = 0 then s.latches.find? mine else none
    match lat with
    | some l => ({ s with latches := s.latches.filter (fun x => !mine x) }, l.value)
    | none =>
      let rng := if !half then 2 ^ 64 - 1 else if r.paired && off = 4 then 2 ^ 64 - 1 else (2 ^ 32 - 1) * 2 ^ (8 * off)
      let (s, v) := match s.readActs o r i with
        | some x => x
        | none => (s.readClears o r i rng, s.viewWord o r i)
      if !half then (s, v)
      else if off = 0 then (s, v % 2 ^ 32)
      else if r.paired then
        ({ s with latches := s.latches.filter (fun x => !mine x)
                              ++ [{ origin := o, reg := r.id, idx := i, write := false, value := v % 2 ^ 32 }] }, v / 2 ^ 32)
      else (s, v / 2 ^ 32)

/-- A read at device address `a` (R125, R135, R138, R139): the state after it and the value. A narrower read returns the addressed bytes
of the containing 32-bit register. -/
def State.regRead (s : State) (o : Origin) (a n : Nat) : State × Nat :=
  if n = 8 && a % 8 ≠ 0 || n = 4 && a % 4 ≠ 0 || !(n = 1 || n = 2 || n = 4 || n = 8) then (s.accessError o 0 0x2B a, 0)
  else
    let a4 := if n < 4 then a / 4 * 4 else a
    match regAt a4 with
    | none => (s.accessError o 0 0x28 a, 0)
    | some (r, i, off) =>
      if n = 8 && !r.wide then
        let x := s.regReadAt o r i off a4 4 false
        match regAt (a + 4) with
        | none => x
        | some (r2, i2, off2) =>
          let y := x.1.regReadAt o r2 i2 off2 (a + 4) 4 false
          (y.1, x.2 + y.2 * 2 ^ 32)
      else
        let x := s.regReadAt o r i off a4 (if n < 4 then 4 else n) false
        if n < 4 then (x.1, x.2 / 2 ^ (8 * (a % 4)) % 2 ^ (8 * n)) else x

/-- A read that waits at a serialisation point is serviced after the write before it (R141). -/
def State.regReadOrHold (s : State) (o : Origin) (a n : Nat) : State :=
  if s.behindHeld a then s.hold { origin := o, addr := a, size := n, data := none }
  else (s.regRead o a n).1.ret o a (s.regRead o a n).2

/-- REGISTER_WRITE (R136 to R141, R668, R678 to R685). -/
def execRegisterWrite (o : Origin) (a n v : Nat) (s : State) : Host.Outcome State Fault Refusal := .next (s.regWrite o a n v)

/-- REGISTER_READ (R135, R138, R139, R141). -/
def execRegisterRead (o : Origin) (a n : Nat) (s : State) : Host.Outcome State Fault Refusal := .next (s.regReadOrHold o a n)

/-- Make one held access again, as if nothing waited before it. -/
def State.heldGo (s : State) (h : Held) : State :=
  match h.data with
  | none => (s.regRead h.origin h.addr h.size).1.ret h.origin h.addr (s.regRead h.origin h.addr h.size).2
  | some v => s.regWrite h.origin h.addr h.size v

/-- AUDIT_ENTRY: a buffer slot is free, so the entry of the oldest waiting change is accepted and durable and the change takes effect
(R683, R685); accesses behind it follow in order, as far as the buffer takes their entries. -/
def State.heldStep (s : State) : State :=
  match s.held with
  | [] => s
  | h :: rest =>
    let t := ({ s with held := [] }).heldGo h
    if t.held.isEmpty then { t with held := rest } else s

/-- AUDIT_ENTRY (R679, R683, R685). -/
def execAuditEntry (s : State) : Host.Outcome State Fault Refusal := .next s.heldStep

end Sys2Proof.Machine
end

