-- ==== Sys2Proof/Machine/Bus.lean ====
section
/-! DEFINITION. Accesses to the device address map by its masters and by the hosts through the BARs (R122 to R134, R158, R160, R176, R605,
R606). MEMORY_ACCESS and HOST_BAR_ACCESS. -/

namespace Sys2Proof.Machine

/-! ### MSI-X tables (Tables 4.3 and 4.4); their entry layout is PCIe's (PRESUMED, log entry 23) -/

/-- Dword `k` of an MSI-X table. -/
def PciFn.tableWord (f : PciFn) (k : Nat) : Nat :=
  let x := f.vec (k / 4)
  if k % 4 = 0 then x.addr % 2 ^ 32 else if k % 4 = 1 then x.addr / 2 ^ 32 % 2 ^ 32 else if k % 4 = 2 then x.data else b2n x.masked

/-- Write dword `k` of an MSI-X table. -/
def PciFn.tableSet (f : PciFn) (k v : Nat) : PciFn :=
  let x := f.vec (k / 4)
  f.setVec (k / 4)
    (if k % 4 = 0 then { x with addr := x.addr / 2 ^ 32 * 2 ^ 32 + v }
     else if k % 4 = 1 then { x with addr := x.addr % 2 ^ 32 + v * 2 ^ 32 }
     else if k % 4 = 2 then { x with data := v }
     else { x with masked := bit v 0 })

/-- Dword `k` of a pending-bit array. -/
def PciFn.pbaWord (f : PciFn) (k : Nat) : Nat :=
  ((List.range 32).map (fun b => b2n (f.vec (32 * k + b)).pendingBit * 2 ^ b)).sum

/-- Dwords of an aligned access of `n` bytes at offset `off`, with their values. -/
def dwords (off n v : Nat) : List (Nat × Nat) := (List.range (n / 4)).map (fun i => (off / 4 + i, v / 2 ^ (32 * i) % 2 ^ 32))

/-- Write a Drawer's MSI-X table; a vector whose mask clears sends its pending message (R181). -/
def State.vfTable (s : State) (d off n v : Nat) : State :=
  (dwords off n v).foldl (fun s w =>
    let s := s.modDrw d (fun x => { x with fn := x.fn.tableSet w.1 w.2 })
    s.sendPending (d / 32) (d % 32 + 1) (w.1 / 4)) s

/-- Write PF0's MSI-X table of port `p` (R181). -/
def State.pfTable (s : State) (p off n v : Nat) : State :=
  (dwords off n v).foldl (fun s w =>
    let s := s.modPort p (fun x => { x with pf := x.pf.tableSet w.1 w.2 })
    s.sendPending p 0 (w.1 / 4)) s

/-! ### A Drawer page (Table 4.4) -/

/-- A write at offset `off` of the page of Drawer `d`: doorbells (R177, R228), registers, MSI-X table. -/
def State.pageWrite (s : State) (o : Origin) (d off n v : Nat) : State :=
  let a := 0x00F020000000 + d * 0x40000 + off
  if 0x10000 ≤ off && off < 0x20000 then s.regWrite o a n v
  else if !(n = 4 || n = 8) || off % n ≠ 0 then s.accessError o 0 0x2B a
  else if !s.blkOn (0x1A + d / 32) then s.accessError o 0 0x2A a
  else if off < 0x80 then
    (dwords off n v).foldl (fun s w =>
      if w.1 % 2 = 0 then s.doorbell d (w.1 / 2) w.2 else s.completionDoorbell d (w.1 / 2) w.2) s
  else if 0x20000 ≤ off && off + n ≤ 0x20100 then s.vfTable d (off - 0x20000) n v
  else if 0x30000 ≤ off && off + n ≤ 0x30004 then s
  else s.accessError o 0 0x28 a

/-- A read at offset `off` of the page of Drawer `d`. -/
def State.pageRead (s : State) (o : Origin) (d off n : Nat) : State × Nat :=
  let a := 0x00F020000000 + d * 0x40000 + off
  let f := (s.drwOf d).fn
  if 0x10000 ≤ off && off < 0x20000 then s.regRead o a n
  else if n = 0 || off % n ≠ 0 then (s.accessError o 0 0x2B a, 0)
  else if !s.blkOn (0x1A + d / 32) then (s.accessError o 0 0x2A a, 0)
  else if off < 0x80 then (s, 0)
  else if 0x20000 ≤ off && off + n ≤ 0x20100 then
    (s, (f.tableWord ((off - 0x20000) / 4) + f.tableWord ((off - 0x20000) / 4 + 1) * 2 ^ 32) / 2 ^ (8 * (off % 4)) % 2 ^ (8 * n))
  else if 0x30000 ≤ off && off + n ≤ 0x30004 then (s, f.pbaWord 0 / 2 ^ (8 * (off % 4)) % 2 ^ (8 * n))
  else (s.accessError o 0 0x28 a, 0)

/-! ### Device memory -/

/-- A read of DRAM: counted, and zero where a line of it is poisoned (R493). -/
def State.dramFetch (s : State) (o : Origin) (a n : Nat) : State × List Byte :=
  ((s.dramAccess o false a n).enterFifo a n, if s.poisoned a n then List.replicate n 0 else s.readBytes a n)

/-- A write of DRAM: counted, and put into its lines (R493). -/
def State.dramStore (s : State) (o : Origin) (a : Nat) (bs : List Byte) : State :=
  let t := s.putLines a bs
  { (s.dramAccess o true a bs.length).enterFifo a bs.length with mem := t.mem }.markDirty a bs.length

/-- Error code of an access to [a, a + n), judged at both ends: 0 for none. -/
def State.spanCheck (s : State) (o : Origin) (write : Bool) (a n : Nat) : Nat :=
  if s.memCheck o write a n ≠ 0 then s.memCheck o write a n else s.memCheck o write (a + n - 1) 1

/-- A request waits for its admission. -/
def State.stall (s : State) (x : Stalled) : State := { s with stalled := s.stalled ++ [x] }

/-- Must an access that the checks allow wait for the FIFO of a paused channel (R496)? -/
def State.fifoWaits (s : State) (o : Origin) (write : Bool) (a n : Nat) : Bool :=
  memArea a = .dram && s.spanCheck o write a n = 0 && !s.admits a n

/-- A read of a memory range by a master: the state after it and the bytes (R125, R126, R145, R605, R606). -/
def State.memFetch (s : State) (o : Origin) (blk a n : Nat) : State × List Byte :=
  let e := s.spanCheck o false a n
  if n = 0 then (s, [])
  else if e ≠ 0 then (s.accessError o blk e a, List.replicate n 0)
  else match memArea a with
    | .dram => s.dramFetch o a n
    | _ => (s, s.memRead a n)

/-- A write of a memory range by a master. -/
def State.memStore (s : State) (o : Origin) (blk a : Nat) (bs : List Byte) : State :=
  let e := s.spanCheck o true a bs.length
  if bs.isEmpty then s
  else if e ≠ 0 then s.accessError o blk e a
  else match memArea a with
    | .dram => s.dramStore o a bs
    | _ => s.writeBytes a bs

/-- An access of a master to a device address: a read of `n` bytes, or a write of `data`. `blk` is the block that issues it where the
origin does not fix it (R735). -/
def State.busAccess (s : State) (o : Origin) (blk a n : Nat) (data : Option (List Byte)) : State :=
  match memArea a, data with
  | .blockRegs, some bs => s.regWrite o a bs.length (leNat bs)
  | .blockRegs, none => s.regReadOrHold o a n
  | .drawerPages, some bs => s.pageWrite o ((a - 0x00F020000000) / 0x40000) (a % 0x40000) bs.length (leNat bs)
  | .drawerPages, none =>
    if s.behindHeld a then s.hold { origin := o, addr := a, size := n, data := none }
    else
      let r := s.pageRead o ((a - 0x00F020000000) / 0x40000) (a % 0x40000) n
      r.1.ret o a r.2
  | .aperture k off, some bs => s.remoteCore o a k off bs.length (some bs)
  | .aperture k off, none => s.remoteCore o a k off n none
  | _, some bs => if s.fifoWaits o true a bs.length then s.stall (.access o blk a n data) else s.memStore o blk a bs
  | _, none =>
    if s.fifoWaits o false a n then s.stall (.access o blk a n none)
    else
    let r := s.memFetch o blk a n
    r.1.ret o a (leNat r.2)

/-- MEMORY_ACCESS (R122 to R126, R145, R605, R606). -/
def execMemoryAccess (o : Origin) (blk a n : Nat) (data : Option (List Byte)) (s : State) : Host.Outcome State Fault Refusal :=
  .next (s.busAccess o blk a n data)

/-! ### The hosts (R131 to R134, R158, R160, R176) -/

/-- Complete a read with a value, or nothing for a posted write. -/
def State.barDone (s : State) (x : BarAccess) (v : Nat) : State := if x.data.isNone then s.hostOutPush x.port (.cplOk v) else s

/-- Bytes of a mailbox buffer. -/
def bufBytes (b : List (Nat × Byte)) (off n : Nat) : List Byte := (List.range n).map (fun i => tget 0 b (off + i))

/-- A write into a mailbox buffer of 512 KiB. -/
def bufPut (b : List (Nat × Byte)) (off : Nat) : List Byte → List (Nat × Byte)
  | [] => b
  | c :: cs => bufPut (if off < 0x80000 then tset 0 b off c else b) (off + 1) cs

/-- PF0 BAR0 (Table 4.3). -/
def State.pfBar0 (s : State) (x : BarAccess) : State :=
  let p : Nat := x.port
  let o := Origin.mediator p
  let f := (s.portOf p).pf
  if x.off < 0x100000 then
    let a := 0x00F000000000 + (0x1A + p) * 2 ^ 20 + x.off
    match x.data with
    | some bs => s.regWrite o a bs.length (leNat bs)
    | none => s.regReadOrHold o a x.n
  else if x.off < 0x180000 then
    match x.data with
    | some bs => s.modPort p (fun w => { w with request := bufPut w.request (x.off - 0x100000) bs })
    | none => s.barDone x (leNat (bufBytes (s.portOf p).request (x.off - 0x100000) x.n))
  else if x.off < 0x200000 then
    match x.data with
    | some bs => s.modPort p (fun w => { w with response := bufPut w.response (x.off - 0x180000) bs })
    | none => s.barDone x (leNat (bufBytes (s.portOf p).response (x.off - 0x180000) x.n))
  else if x.off < 0x200400 then
    match x.data with
    | some bs => if x.off % 4 = 0 && bs.length % 4 = 0 then s.pfTable p (x.off - 0x200000) bs.length (leNat bs) else s
    | none =>
      let k := (x.off - 0x200000) / 4
      s.barDone x ((f.tableWord k + f.tableWord (k + 1) * 2 ^ 32) / 2 ^ (8 * (x.off % 4)) % 2 ^ (8 * x.n))
  else if 0x210000 ≤ x.off && x.off < 0x210008 then
    let k := (x.off - 0x210000) / 4
    s.barDone x ((f.pbaWord k + f.pbaWord (k + 1) * 2 ^ 32) / 2 ^ (8 * (x.off % 4)) % 2 ^ (8 * x.n))
  else (s.accessError o 0 0x28 x.off).barDone x 0

/-- May PF BAR2 of port `p` reach [a, a + n): DRAM of a granted region, outside every Drawer heap (R176)? -/
def State.apReach (s : State) (p a n : Nat) : Bool :=
  (linesOf a n).all (fun l => ((s.dramRegion l).map (fun i => bit (s.portOf p).apRegions i)).getD false)
    && (s.drwRanges 64).all (fun r => decide (a + n ≤ r.1) || decide (r.1 + r.2 ≤ a))

/-- PF0 BAR2: the aperture into module DRAM (R131, R134, R176). -/
def State.pfBar2 (s : State) (x : BarAccess) : State :=
  let p : Nat := x.port
  let o := Origin.mediator p
  let a := s.get F.HPx_AP_BASE_BASE p * 2 ^ 30 + x.off
  let n := match x.data with | some bs => bs.length | none => x.n
  if !(memArea a = .dram) || !s.apReach p a n then (s.accessError o 0 0x29 a).barDone x 0
  else if s.fifoWaits o x.data.isSome a n then s.stall (.bar x)
  else match x.data with
    | some bs => s.memStore o 0 a bs
    | none =>
      let r := s.memFetch o 0 a n
      r.1.barDone x (leNat r.2)

/-- VF BAR2: the window onto the Drawer's heap (R133, R134, R160). -/
def State.vfBar2 (s : State) (d : Nat) (x : BarAccess) : State :=
  let n := match x.data with | some bs => bs.length | none => x.n
  if !s.inHeap d x.off n then (s.guestError d 3 0).barDone x 0
  else
    let o := Origin.ofDrawer d
    let a := (s.drwOf d).heapBase + x.off
    if s.fifoWaits o x.data.isSome a n then s.stall (.bar x)
    else match x.data with
    | some bs => s.memStore o 0 a bs
    | none =>
      let r := s.memFetch o 0 a n
      r.1.barDone x (leNat r.2)

/-- A host's access to BAR2 of PF0 or of a VF. -/
def State.bar2 (s : State) (x : BarAccess) : State := if x.fn = 0 then s.pfBar2 x else s.vfBar2 (x.port * 32 + x.fn - 1) x

/-- HOST_BAR_ACCESS (R131 to R134, R158, R160, R176): a host's memory request to a BAR, while the port's link is up and, for a VF, VF Enable
is set. A request to a VF whose Drawer is FREE has no effect and reads zero. -/
def execHostBarAccess (x : BarAccess) (s : State) : Host.Outcome State Fault Refusal :=
  let p : Nat := x.port
  .next (
    if !(s.portOf p).linkUp then s
    else if !s.boot.portsReleased then s.barDone x 0
    else if x.fn = 0 then (if x.bar2 then s.pfBar2 x else s.pfBar0 x)
    else if !(s.portOf p).vfEnable then s
    else
      let d := p * 32 + x.fn - 1
      if s.drwState d = 0 then s.barDone x 0
      else if x.bar2 then s.vfBar2 d x
      else match x.data with
        | some bs => s.pageWrite (Origin.ofDrawer d) d x.off bs.length (leNat bs)
        | none =>
          let a := 0x00F020000000 + d * 0x40000 + x.off
          if s.behindHeld a then s.hold { origin := Origin.ofDrawer d, addr := a, size := x.n, data := none }
          else
            let r := s.pageRead (Origin.ofDrawer d) d x.off x.n
            r.1.barDone x r.2)

end Sys2Proof.Machine
end

