-- ==== Sys2Proof/Machine/Debug.lean ====
section
/-! DEFINITION. The debug port: TAP scans of the DBG registers, and the accesses of a debug session (R626, R631). -/

namespace Sys2Proof.Machine

/-- READ: one 32-bit or 64-bit read at DBG_ACC_ADDR under the session's origin; its data go to DBG_ACC_DATA. Without a session it
returns DENIED (R631). -/
def State.dbgReadCmd (s : State) (wide : Bool) : State :=
  match s.dbg.session with
  | none => s.put F.DBG_STATUS_RESULT 0 8
  | some x => (s.put F.DBG_STATUS_RESULT 0 0).busAccess x.origin 0x29 (s.get F.DBG_ACC_ADDR_ADDR) (if wide then 8 else 4) none

/-- WRITE: one 32-bit or 64-bit write of DBG_ACC_DATA at DBG_ACC_ADDR under the session's origin (R631). -/
def State.dbgWriteCmd (s : State) (wide : Bool) : State :=
  match s.dbg.session with
  | none => s.put F.DBG_STATUS_RESULT 0 8
  | some x =>
    (s.put F.DBG_STATUS_RESULT 0 0).busAccess x.origin 0x29 (s.get F.DBG_ACC_ADDR_ADDR) (if wide then 8 else 4)
      (some (leBytes (if wide then 8 else 4) (s.get F.DBG_ACC_DATA_DATA)))

/-- READ (R631). -/
def execRead (wide : Bool) (s : State) : Host.Outcome State Fault Refusal := .next (if s.dbgIdle then s.dbgReadCmd wide else s)

/-- WRITE (R631). -/
def execWrite (wide : Bool) (s : State) : Host.Outcome State Fault Refusal := .next (if s.dbgIdle then s.dbgWriteCmd wide else s)

/-- Origin under which the TAP's own accesses to the DBG registers are told apart from a session's. -/
def tapOrigin : Origin := { kind := .debug, cab := true }

/-- A write of DBG_CTRL begins its command (Table 19.16); a reserved CMD is refused with FORMAT (R7), CMD 0 asks for none, and none
begins while one is in progress (log entry 52). -/
def State.dbgCommand (s : State) (w : Nat) : State :=
  if w % 8 = 0 || !s.dbgIdle then s
  else if w % 8 = 1 then s.challenge
  else if w % 8 = 2 then s.submit
  else if w % 8 = 3 then s.dbgEnd
  else if w % 8 = 4 then s.dbgReadCmd (bit w 3)
  else if w % 8 = 5 then s.dbgWriteCmd (bit w 3)
  else s.cfgError tapOrigin 0x29 0

/-- A DBG write scan (Table 19.7). Writes reach the DBG registers only from here; a paired register takes its low half with the
high one (R139), and read-only registers take nothing. -/
def State.tapWrite (s : State) (w v : Nat) : State :=
  match regAt (0x00F002900000 + 4 * w) with
  | none => s
  | some (r, i, off) =>
    let mine := fun (l : Latch) => l.origin = tapOrigin && l.reg = r.id && l.write
    if r.id = 172 then s.dbgCommand v
    else if r.id = 177 then s.put F.DBG_BUF_WORD i v
    else if r.id = 174 ∨ r.id = 175 then
      let kept := s.latches.filter (fun (l : Latch) => !mine l)
      if off = 0 then { s with latches := kept ++ [{ origin := tapOrigin, reg := r.id, idx := 0, write := true, value := v }] }
      else
        let old := if r.id = 174 then s.get F.DBG_ACC_ADDR_ADDR else s.get F.DBG_ACC_DATA_DATA
        let low := ((s.latches.find? mine).map (fun l => l.value)).getD (old % 2 ^ 32)
        ({ s with latches := kept } : State).put (if r.id = 174 then F.DBG_ACC_ADDR_ADDR else F.DBG_ACC_DATA_DATA) 0 (low + v * 2 ^ 32)
    else s

/-- DBG: a scan of the 40-bit DBG data register: [31:0] data, [38:32] word address, [39] write. A read scan returns, in its
capture, the data of the previous read request (R626). -/
def execDbg (write : Bool) (w : Fin 128) (v : Fin 4294967296) (s : State) : Host.Outcome State Fault Refusal :=
  .next (
    let t := s.tapLoad 0x20
    if t.phase = .off then t
    else if write then t.tapWrite w v
    else
      let a := 0x00F002900000 + 4 * (w : Nat)
      let t : State := { t with reads := t.reads ++ [⟨tapOrigin, a, t.dbg.tapCapture⟩] }
      match regAt a with
      | none => { t with dbg := { t.dbg with tapCapture := 0 } }
      | some (r, i, off) =>
        let x := t.regReadAt tapOrigin r i off a 4 false
        { x.1 with dbg := { x.1.dbg with tapCapture := x.2 } })

end Sys2Proof.Machine
end

