-- ==== Sys2Proof/Machine/Image.lean ====
section
/-! DEFINITION. The configuration image: header checks, sections, what the loader makes of them, and the placement of the Shelf
(R3, R84 to R105, R107, R119, R164, R165, R297, R358 to R360, R368, R373, R399, R419, R421, R424, R484, R489, R516, R538, R543, R579,
R618, R656, R677, R694). SHA-384, ECDSA and AES-GCM are opaque functions of the bytes (log entry 6). -/

namespace Sys2Proof.Machine

/-- Is a section encrypted (Table 3.3)? -/
def Section.encrypted (x : Section) : Bool := bit x.flags 0

/-- Cause of Table 3.12 for a section's integrity, 0 for none: the digest of the bytes as stored, then the tag of an encrypted section under
the image decryption key, which is provisioned or not (`key`) (R90, R95, R96). -/
def Section.integrity (x : Section) (key : Bool) (c : SecCheck) : Nat :=
  if c.readErr then 0x0E
  else if Config.sha384 x.body ≠ x.digest then 7
  else if x.encrypted && (decide (x.body.length < 28) || Config.gcmBad key x.body) then 8
  else 0

/-- The bytes that a section's user sees: of an encrypted one (12 bytes IV, ciphertext, 16 bytes tag) the plaintext (R95). -/
def Section.plain (x : Section) (key : Bool) : List Byte := if x.encrypted then Config.gcmPlain key x.body else x.body

/-- Are all bytes zero? -/
def allZero (b : List Byte) : Bool := b.all (fun x => x = 0)

/-- Bytes [off, off + n) of a section are reserved and zero. -/
def resv (b : List Byte) (off n : Nat) : Bool := allZero ((b.drop off).take n)

/-- `x` between two bounds. -/
def within_ (lo x hi : Nat) : Bool := decide (lo ≤ x) && decide (x ≤ hi)

/-! ### Header (R91 to R93, R100) -/

/-- A copy as its bytes say (Tables 3.2 and 3.3). -/
def parseImage (b : List Byte) : ImageCopy :=
  { magic := fieldLE b 0 4, format := fieldLE b 4 2, sectionCount := fieldLE b 6 2, imageLen := fieldLE b 8 4, svn := fieldLE b 0xC 4,
    buildId := fieldLE b 0x10 8, part := fieldLE b 0x18 2, signerKey := (b.drop 0x40).take 96, signature := (b.drop 0xD00).take 96,
    covered := b.take 0xD00,
    sections := (List.range (min 48 (fieldLE b 6 2))).map (fun i =>
      let e := (b.drop (0x100 + 64 * i)).take 64
      { type := fieldLE e 0 2, flags := fieldLE e 2 2, offset := fieldLE e 4 4, length := fieldLE e 8 4, reserved := fieldLE e 0xC 4,
        digest := fieldLE e 0x10 48, body := (b.drop (fieldLE e 4 4)).take (fieldLE e 8 4) }) }

/-- Root slots whose digest is that of the signer key (R92). -/
def Fuses.slotsOf (f : Fuses) (key : List Byte) : List Nat :=
  (f.rootDigest.filter (fun p => leNat p.2 = Config.sha384 key)).map (fun p => p.1)

/-- The slot that verifies a copy: of those with the key's digest, one that is not revoked (R92). -/
def Fuses.rootSlot (f : Fuses) (key : List Byte) : Option Nat := (f.slotsOf key).find? (fun k => !bit f.revoked k)

/-- Cause for a header's own bytes, key, signature and SVN (R91 to R93), in the order of Table 3.12. Reserved bytes of the header are
covered by the signature and not checked otherwise (log entry 56). -/
def State.headerOk (s : State) (x : ImageCopy) (c : HdrCheck) : Nat :=
  if c.readErr then 0x0E
  else if x.magic ≠ 0x49485452 || x.part ≠ 0x8460 then 1
  else if x.format ≠ 1 then 2
  else if (s.fuses.slotsOf x.signerKey).isEmpty then 3
  else if (s.fuses.rootSlot x.signerKey).isNone then 4
  else if Config.ecdsaBad x.signerKey x.signature x.covered then 5
  else if x.svn < s.fuses.svnFloor then 6
  else if !within_ 1 x.sectionCount 48 || x.sections.length ≠ x.sectionCount || 0x2000000 < x.imageLen then 0x0A
  else 0

/-- Index of the section of a type. -/
def ImageCopy.find (x : ImageCopy) (t : Nat) : Option Nat := (List.range x.sections.length).find? (fun i => (x.sections.getD i {}).type = t)

/-- Bit of LC_MASK for a life-cycle state; none for BLANK and RETIRED. -/
def lcMaskBit (st : Nat) : Option Nat := if 1 ≤ st ∧ st ≤ 3 then some (st - 1) else none

/-- Cause and section of the IDENTITY checks (R100). DESIGN CHOICE (log entry 56): R100 makes them header checks, and Table 3.11 gives 0xFF
for the header and the index for a section; a failure of IDENTITY records its directory index. -/
def State.identityOk (s : State) (x : ImageCopy) (c : SecCheck) : Nat × Nat :=
  match x.find 1 with
  | none => (9, 0xFF)
  | some i =>
    let y := x.sections.getD i {}
    let b := y.plain s.fuses.decryptKeySet
    if y.integrity s.fuses.decryptKeySet c ≠ 0 then (y.integrity s.fuses.decryptKeySet c, i)
    else if b.length ≠ 40 || 8 ≤ fieldLE b 0x20 1 || !resv b 0x21 1 || !resv b 0x24 4 then (0x0A, i)
    else if !((lcMaskBit (s.get F.CAB_LC_STATE)).map (fun k => bit (fieldLE b 0x20 1) k)).getD false then (0x0D, i)
    else if !bit (fieldLE b 0x22 2) (s.get F.CFG_STATUS_SLOT_ID) then (0x0C, i)
    else (0, 0xFF)

/-- Cause and section index of the header checks; (0, 0xFF) for an accepted header. -/
def State.verifyHeader (s : State) (x : ImageCopy) (c : HdrCheck) : Nat × Nat :=
  if s.headerOk x c ≠ 0 then (s.headerOk x c, 0xFF) else s.identityOk x c.ident

/-! ### Directory (R84, R96, R97) -/

/-- Section types of Table 3.4. -/
def secKnown (t : Nat) : Bool := within_ 1 t 0x0E || within_ 0x10 t 0x13
/-- Required types. -/
def secRequired : List Nat := [1, 2, 3, 4, 5, 6, 7, 0x10, 0x11, 0x12, 0x13]

/-- Cause and index of the directory checks: unknown type, duplicate, missing, size limits. For a duplicate the index is the second
entry's, for a missing type 0xFF (DEDUCED, log entry 24). -/
def ImageCopy.directoryOk (x : ImageCopy) : Nat × Nat :=
  let n := x.sections.length
  let ty := fun (i : Nat) => (x.sections.getD i {}).type
  let len := fun (t : Nat) => ((x.find t).map (fun i => (x.sections.getD i {}).length)).getD 0
  match (List.range n).find? (fun i => !secKnown (ty i) || 2 ≤ (x.sections.getD i {}).flags
      || (List.range i).any (fun j => ty j = ty i)) with
  | some i => if !secKnown (ty i) || 2 ≤ (x.sections.getD i {}).flags then (0x0A, i) else (9, i)
  | none =>
    if secRequired.any (fun t => (x.find t).isNone) then (9, 0xFF)
    else if 8 * 2 ^ 20 < len 6 then (0x0A, (x.find 6).getD 0xFF)
    else if 16 * 2 ^ 20 < len 0x13 then (0x0A, (x.find 0x13).getD 0xFF)
    else if 2 * 2 ^ 20 < (((x.sections.filter (fun y => y.type ≠ 6 && y.type ≠ 0x13)).map (fun y => y.length)).sum) then (0x0A, 0xFF)
    else (0, 0xFF)

/-! ### Register values of a section -/

/-- Load the IMG fields of element `i` of register `r` from the word that a section gives. -/
def State.loadWord (s : State) (r i v : Nat) : State :=
  match regMap[r]? with
  | none => s
  | some x => x.flds.foldl (fun s f => if f.rst = .img then s.putImg f i (bits v f.lo f.width) else s) s

/-- Load words that follow each other, 8 bytes apart, into elements `i`, `i + 1` and so on. -/
def State.loadWords (s : State) (r : Nat) (b : List Byte) (off n i : Nat) : State :=
  (List.range n).foldl (fun s k => s.loadWord r (i + k) (fieldLE b (off + 8 * k) 8)) s

/-- IMG fields that no section gives take their defaults (DEDUCED, log entry 24). -/
def State.loadDefaults (s : State) : State :=
  let s := ((s.putImg F.JNL_RESERVE_PER_CTX 0 1024).putImg F.GFE_PASS_CFG_MIN_TILED_TILES 0 16).putImg F.GFE_PASS_CFG_BIN_EST 0 32
  let s := (s.putImg F.GFE_DL_CFG_GUARD_US 0 50).putImg F.GFE_DL_CFG_NP_LIMIT_US 0 500
  let s := ((s.putImg F.CMP_FETCH_CFG_GEN_CAP 0 160).putImg F.CMP_FETCH_CFG_GEN_EFF 0 160).putImg F.DMC_RT_CTRL_PERIOD_MS 0 200
  let s := (s.putImg F.PLK_CFG_ORIG_US 0 500).putImg F.PLK_CFG_REQ_TIMEOUT 0 20
  let s := (s.putImg F.PLK_CFG_COMMIT_LEAD_US 0 500).putImg F.PLK_CFG_AUDIO_LAT_US 0 2000
  let s := (s.putImg F.ADL_CFG_FLUSH_MARK 0 32).putImg F.ADL_CFG_WARN_PCT 0 90
  (List.range 66).foldl (fun s c => s.putImg F.GFE_CTX_LIMIT_RUN_LIMIT_MS c 2000) s

/-! ### The sections. Each loader answers the state with the section loaded and whether the section is well formed. -/

/-- KEYS (R618). -/
def State.loadKeys (s : State) (b : List Byte) : State × Bool :=
  let n := fieldLE b 0 1
  let t : State := { s with
    dbg := { s.dbg with dbgRoots := n, rootDigests := ((List.range n).map (fun i => (b.drop (0x10 + 0x30 * i)).take 48)) },
    adl := { s.adl with handle := fieldLE b 4 4, keyDerived := true },
    plk := { s.plk with tokenKey := (b.drop 0x70).take 32 } }
  (t, decide (0xA0 ≤ b.length) && decide (n ≤ 2) && resv b 1 3 && resv b 8 8 && resv b 0x90 16)

/-- CLOCK_POWER (R656, R297, R655, R68, R69, R24). -/
def State.loadClock (s : State) (b : List Byte) : State × Bool :=
  let fl := fieldLE b 0 1
  let mhz := fieldLE b 2 2
  let pps := fieldLE b 4 4
  let plan := fieldLE b 8 4
  let pwr := fieldLE b 0xC 4
  let tim := fieldLE b 0x10 4
  let ok := decide (0x820 ≤ b.length) && decide (fl < 16) && resv b 1 1 && within_ 600 mhz 1750 && decide (mhz % 25 = 0)
    && decide (pps ≤ 100000) && decide (plan < 2 ^ 30) && decide (bits plan 0 10 ≤ 1000) && decide (bits plan 10 10 ≤ 1000)
    && decide (bits plan 20 10 ≤ 1000) && decide (bits plan 0 10 + bits plan 10 10 + bits plan 20 10 ≤ 1000)
    && decide (pwr < 2 ^ 14) && decide (bits pwr 3 1 = 0) && within_ 1 (bits pwr 4 10) 1000
    && decide (tim < 2 ^ 20) && decide (bits tim 2 18 ≤ 200000) && resv b 0x14 12
  let s := ((s.loadWord 26 0 plan).loadWord 180 0 pwr).loadWord 186 0 tim
  let s := (List.range 512).foldl (fun s k => s.loadWord 153 k (fieldLE b (0x20 + 4 * k) 4)) s
  let s := s.putB F.PWR_SUPPLY_HAP_RES 0 (bit fl 0)
  let s : State := { s with pm := { s.pm with hapReserve := bit fl 0, wakeNEn := bit fl 1, tchWakeEn := bit fl 2,
                                              frameSyncPlyn := bit fl 3, gpuMhzCap := mhz, gpuMhz := min s.pm.gpuMhz mhz,
                                              ppsOutUs := if pps = 0 then 100000 else pps } }
  (if bits tim 0 2 = 0 then s.putStState 0 else s, ok)

/-- Bytes of each channel that a region uses (R489). -/
def regionUse (size c grain : Nat) : Nat :=
  let l := (size + c * grain - 1) / (c * grain) * grain
  (l + 2 ^ 20 - 1) / 2 ^ 20 * 2 ^ 20

/-- Do two ranges given as start and length overlap? -/
def overlaps (a n b m : Nat) : Bool := decide (a < b + m) && decide (b < a + n)

/-- DRAM (R3, R489, R490): the cause, 0 for none. Regions are numbered as in the section. -/
def State.loadDram (s : State) (b : List Byte) : State × Nat :=
  let retired := fieldLE b 0 2
  let at_ := fun (i : Nat) => 16 + 16 * i
  let en := fun (i : Nat) => bit (fieldLE b (at_ i + 0xB) 1) 0
  let base := fun (i : Nat) => fieldLE b (at_ i) 2 * 2 ^ 26
  let size := fun (i : Nat) => fieldLE b (at_ i + 2) 2 * 2 ^ 26
  let off := fun (i : Nat) => fieldLE b (at_ i + 4) 2 * 2 ^ 20
  let mask := fun (i : Nat) => fieldLE b (at_ i + 6) 2
  let grain := fun (i : Nat) => fieldLE b (at_ i + 8) 1
  let use_ := fun (i : Nat) => regionUse (size i) (setBits (mask i) 16).length (2 ^ grain i)
  let ons := (List.range 8).filter en
  let coded := fun (i : Nat) => decide (fieldLE b (at_ i) 2 < 1024) && decide (fieldLE b (at_ i + 2) 2 < 2048)
    && decide (fieldLE b (at_ i + 4) 2 < 4096) && decide (fieldLE b (at_ i + 9) 1 < 2) && decide (fieldLE b (at_ i + 0xA) 1 < 3)
    && decide (fieldLE b (at_ i + 0xB) 1 < 2) && resv b (at_ i + 0xC) 4
  let sound := fun (i : Nat) => within_ 1 (fieldLE b (at_ i + 2) 2) 1024 && decide (mask i ≠ 0) && decide (mask i &&& retired = 0)
    && within_ 8 (grain i) 16 && (fieldLE b (at_ i + 9) 1 = 0 || decide (11 ≤ grain i))
    && (fieldLE b (at_ i + 9) 1 = 1 || fieldLE b (at_ i + 0xA) 1 = 0)
  let cause : Nat :=
    if b.length < 144 || 4 ≤ fieldLE b 2 1 || !resv b 3 1 || !resv b 6 10 || !(List.range 8).all coded || !ons.all sound then 0x0A
    else if ons.any (fun i => decide (s.dramSize < base i + size i)) then 0x0B
    else if ons.any (fun i => decide (s.dramSize / 16 - 65536 < off i + use_ i)
        || ons.any (fun j => decide (i < j) && (overlaps (base i) (size i) (base j) (size j)
          || (decide (mask i &&& mask j ≠ 0) && overlaps (off i) (use_ i) (off j) (use_ j))))) then 0x0A
    else 0
  let s := (List.range 8).foldl (fun s i =>
    let s := ((s.putImg F.DMC_RGN_A_BASE_64M i (fieldLE b (at_ i) 2)).putImg F.DMC_RGN_A_SIZE_64M i (fieldLE b (at_ i + 2) 2)).putImg
      F.DMC_RGN_A_CH_OFFSET_MIB i (fieldLE b (at_ i + 4) 2)
    let s := ((s.putImg F.DMC_RGN_A_CHMASK i (mask i)).putImg F.DMC_RGN_B_GRAIN_LOG2 i (grain i)).putImg
      F.DMC_RGN_B_ECC i (fieldLE b (at_ i + 9) 1)
    (s.putImg F.DMC_RGN_B_CLASS i (fieldLE b (at_ i + 0xA) 1)).putImg F.DMC_RGN_B_EN i (b2n (en i))) s
  let s := ((s.putImg F.DMC_INFO_RETIRED 0 retired).putImg F.DMC_SCRUB_EN 0 (bits (fieldLE b 2 1) 0 1)).putImg
    F.DMC_RT_CTRL_PERIOD_MS 0 (fieldLE b 4 2)
  let s := s.putB F.DMC_INFO_CAP 0 (!s.fuses.capX32)
  (s.modDmc (fun m => { m with forceFull := bit (fieldLE b 2 1) 1 }), cause)

/-- Codes of LANES and BPC in HDn_PORT_CFG and HDn_PCLK; 3 for a value outside Table 3.5. -/
def lanesCode (n : Nat) : Nat := if n = 1 then 0 else if n = 2 then 1 else if n = 4 then 2 else 3
/-- Code of BPC. -/
def bpcCode (n : Nat) : Nat := if n = 6 then 0 else if n = 8 then 1 else if n = 10 then 2 else 3

/-- Bytes 0x01 to 0x19 of a head entry for Desk Profile D (Table 3.6). -/
def deskD : List Byte :=
  [1, 2, 3] ++ leBytes 4 154752 ++ leBytes 2 1920 ++ leBytes 2 2080 ++ leBytes 2 48 ++ leBytes 2 32
    ++ leBytes 2 1200 ++ leBytes 2 1240 ++ leBytes 2 3 ++ leBytes 2 6 ++ leBytes 1 1 ++ leBytes 1 8

/-- An asset index of a head entry. -/
def assetRef (v : Nat) : Option Nat := if v = 0xFFFFFFFF then none else some v

/-- One head entry of HEADS (R102, R103). -/
def State.loadHead (s : State) (h : Nat) (e : List Byte) : State :=
  let en := bit (fieldLE e 0 1) 0
  let desk := en && !bit (fieldLE e 0 1) 1
  let t := if desk then e.take 1 ++ deskD ++ e.drop 0x1A else e
  let entry : HeadEntry :=
    { enable := en, deskD := desk, reference := bit (fieldLE e 0 1) 2, panelDelayMs := fieldLE e 0x1A 2, blDelayMs := fieldLE e 0x1C 2,
      bgColour := fieldLE e 0x20 4, bgAsset := if en then assetRef (fieldLE e 0x24 4) else none,
      fallbackAsset := if en then some (fieldLE e 0x28 4) else none, layout := if en then some (fieldLE e 0x2C 4) else none }
  let s := s.modHead h (fun r => { r with entry := entry })
  let s := ((s.loadWord 48 h (fieldLE t 8 8)).loadWord 49 h (fieldLE t 0x10 8)).putImg F.HDn_PCLK_KHZ h (fieldLE t 4 4)
  let s := ((s.putImg F.HDn_PCLK_HSYNC_POS h (bits (fieldLE t 0x18 1) 0 1)).putImg F.HDn_PCLK_VSYNC_POS h (bits (fieldLE t 0x18 1) 1 1)).putImg
    F.HDn_PCLK_BPC h (bpcCode (fieldLE t 0x19 1))
  let s := ((s.putImg F.HDn_PORT_CFG_MODE h (fieldLE t 1 1)).putImg F.HDn_PORT_CFG_LANES h (lanesCode (fieldLE t 2 1))).putImg
    F.HDn_PORT_CFG_RATE h (fieldLE t 3 1)
  let s := ((s.putImg F.HDn_CTRL_RUN h (b2n en)).putImg F.HDn_CTRL_MODE h (fieldLE e 0x1E 1)).putImg F.HDn_CTRL_DIV h (fieldLE e 0x1F 1)
  let s := ((s.putImg F.HDn_AS_VTOTAL_MIN h (fieldLE t 0x12 2)).putImg F.HDn_PANEL_PWR h (b2n en)).putImg F.HDn_PANEL_BL h (b2n en)
  s.put F.HDn_CTRL_PREFETCH_LINES h (min 8 (fieldLE t 0x12 2 - fieldLE t 0x10 2 - 1))

/-- Is an enabled head entry, as loaded, within Tables 3.5, 10.1 and 12.1, R421 and R424? -/
def State.headEntryOk (s : State) (h : Nat) (e : List Byte) : Bool :=
  let desk := !bit (fieldLE e 0 1) 1
  let mode := s.get F.HDn_PORT_CFG_MODE h
  let rate := s.get F.HDn_PORT_CFG_RATE h
  let tm := fieldLE e 0x1E 1
  let div := fieldLE e 0x1F 1
  (if desk then resv e 1 0x19
    else decide (fieldLE e 1 1 ≤ 3) && decide (lanesCode (fieldLE e 2 1) ≠ 3) && decide (bpcCode (fieldLE e 0x19 1) ≠ 3)
      && decide (fieldLE e 0x18 1 < 4) && decide (fieldLE e 4 4 < 2 ^ 22))
    && decide (fieldLE e 0x1A 2 ≤ 1000) && decide (fieldLE e 0x1C 2 ≤ 1000) && decide (tm ≤ 4) && decide (div < 3)
    && (div = 0 || tm = 1 || tm = 2) && s.timingOk h
    && (if mode < 2 then rate = 0 || (dpRates.any (fun p => p.1 = rate) && s.fits h rate)
        else within_ 8 rate 250 && s.fits h rate && decide (tm ≠ 4))

/-- Pixels of a frame and the pixel clock of H0 for R373: of its entry, or of Desk Profile D where it names no timing. -/
def State.genlockRef (s : State) (e : List Byte) : Nat × Nat :=
  if bit (fieldLE e 0 1) 0 || bit (fieldLE e 0 1) 1 then
    (s.get F.HDn_H_HTOTAL 0 * s.get F.HDn_V_VTOTAL 0, s.get F.HDn_PCLK_KHZ 0)
  else (2080 * 1240, 154752)

/-- Does a mode-1 head's period times DIV lie within 0.4 % of H0's (R373)? -/
def State.genlockOk (s : State) (h : Nat) (r : Nat × Nat) : Bool :=
  let a := s.get F.HDn_H_HTOTAL h * s.get F.HDn_V_VTOTAL h * 2 ^ s.get F.HDn_CTRL_DIV h * r.2
  let b := r.1 * s.get F.HDn_PCLK_KHZ h
  decide (1000 * a ≤ 1004 * b) && decide (996 * b ≤ 1000 * a)

/-- HEADS (R102 to R104, R368, R373). -/
def State.loadHeads (s : State) (b : List Byte) : State × Bool :=
  let ent := fun (h : Nat) => (b.drop (64 * h)).take 64
  let hs := List.range 8
  let s := hs.foldl (fun s h => s.loadHead h (ent h)) s
  let on := hs.filter (fun h => (s.headOf h).entry.enable)
  let flagged := hs.filter (fun h => (s.headOf h).entry.reference)
  let ref := flagged.headD 0
  let m0 := fieldLE (ent 0) 0x1E 1
  let m1 := on.filter (fun h => s.get F.HDn_CTRL_MODE h = 1)
  let ok := decide (512 ≤ b.length) && hs.all (fun h => decide (fieldLE (ent h) 0 1 < 8) && resv (ent h) 0x30 16)
    && on.all (fun h => s.headEntryOk h (ent h))
    && decide (flagged.length ≤ 1) && on.contains ref
    && decide (((on.map s.activeRate : List Nat)).sum ≤ 12000000000)
    && decide (m0 ≠ 1) && (m1.isEmpty || (decide (m0 ≠ 3) && decide (m0 ≠ 4)))
    && m1.all (fun h => s.genlockOk h (s.genlockRef (ent 0)))
  let wn := s.get F.HDn_H_HTOTAL ref * s.get F.HDn_V_VTOTAL ref * 100000 / s.get F.HDn_PCLK_KHZ ref
  let s := (s.putImg F.GFE_WINDOW_REF_HEAD 0 ref).putImg F.GFE_WINDOW_NOMINAL 0 wn
  let desk := (on.filter (fun h => (s.headOf h).entry.deskD)).foldl setBit 0
  (s.put F.CFG_STATUS_DESK_D_HEADS 0 desk, ok)

/-- A telltale entry (Table 3.8). -/
def telltaleOf (e : List Byte) : Telltale :=
  { canId := fieldLE e 0 4, bitPos := bits (fieldLE e 4 1) 0 6, twoBits := bit (fieldLE e 4 1) 6, prot := bit (fieldLE e 4 1) 7,
    dflt := bits (fieldLE e 5 1) 0 2, timeoutState := bits (fieldLE e 5 1) 2 2, headMask := fieldLE e 6 1, glyph := fieldLE e 8 4,
    x := fieldLE e 0xC 2, y := fieldLE e 0xE 2 }

/-- TELLTALES (R107). -/
def State.loadTelltales (s : State) (b : List Byte) : State × Bool :=
  let n := fieldLE b 0 1
  let fl := fieldLE b 1 1
  let ent := fun (i : Nat) => (b.drop (32 + 16 * i)).take 16
  let rates := [fieldLE b 4 4, fieldLE b 8 4, fieldLE b 0xC 4, fieldLE b 0x10 4]
  let to_ := fieldLE b 2 2
  let sp := fieldLE b 0x18 2
  let ok := decide (n ≤ 64) && decide (32 + 16 * n ≤ b.length) && decide (fl < 8) && (to_ = 0 || within_ 10 to_ 2000)
    && (sp = 0 || within_ 10 sp 1000) && decide (rates.getD 1 0 ≤ 5000) && decide (rates.getD 3 0 ≤ 5000) && resv b 0x1A 6
    && (List.range n).all (fun i => decide (fieldLE (ent i) 5 1 < 16) && resv (ent i) 7 1)
  let t : Telltales :=
    { entries := (List.range n).map (fun i => telltaleOf (ent i)), lampOff := bit fl 0, can0En := bit fl 1, can1En := bit fl 2,
      rates := rates, timeoutMs := if to_ = 0 then 500 else to_, statusId := fieldLE b 0x14 4, statusPeriodMs := sp }
  ({ s with tell := t }, ok)

/-- Scan time of a panel in microseconds (R516). -/
def State.scanUs (s : State) (p : Nat) : Nat :=
  s.drives p * (4 + s.get F.TCH_PNL_CFG_GATE_US p)
    + (if 2 ≤ s.get F.TCH_PNL_CFG_MODE p then 2 * (4 + s.get F.TCH_PNL_CFG_SELF_GATE_US p) else 0)

/-- Ranges of an enabled panel (Tables 15.3 and 15.4, R516). DEDUCED: a panel in mode 0 is not checked (log entry 24). -/
def State.panelOk (s : State) (p : Nat) : Bool :=
  let g := fun (f : Fld) => s.get f p
  within_ 1 (g F.TCH_PNL_CFG_DRIVES) 40 && within_ 1 (g F.TCH_PNL_CFG_SENSES) 72 && within_ 30 (g F.TCH_PNL_CFG_RATE_HZ) 240
    && within_ 8 (g F.TCH_PNL_CFG_GATE_US) 200 && within_ 16 (g F.TCH_PNL_CFG_SELF_GATE_US) 255 && decide (1 ≤ g F.TCH_PNL_CFG_PERSIST_S)
    && decide (g F.TCH_PNL_THR_RELEASE_THR < g F.TCH_PNL_THR_TOUCH_THR) && decide (g F.TCH_PNL_THR_GLOVE_THR < g F.TCH_PNL_THR_TOUCH_THR)
    && decide ((s.scanUs p + 200) * g F.TCH_PNL_CFG_RATE_HZ ≤ 1000000)

/-- TOUCH (R538). -/
def State.loadTouch (s : State) (b : List Byte) : State × Bool :=
  let n := fieldLE b 0 2
  let s := (List.range 8).foldl (fun s p =>
    let o := 16 + 64 * p
    let s := ((s.loadWord 114 p (fieldLE b o 8)).loadWord 115 p (fieldLE b (o + 8) 8)).loadWord 116 p (fieldLE b (o + 16) 8)
    ((s.loadWord 117 p (fieldLE b (o + 24) 8)).loadWord 120 (2 * p) (fieldLE b (o + 32) 8)).loadWord 120 (2 * p + 1) (fieldLE b (o + 40) 8)) s
  let s := (List.range n).foldl (fun s r =>
    (s.loadWord 121 r (fieldLE b (528 + 16 * r) 8)).loadWord 122 r (fieldLE b (536 + 16 * r) 8)) s
  let on := (List.range 8).filter (fun p => s.get F.TCH_PNL_CFG_MODE p ≠ 0)
  let c := 528 + 16 * n
  let s := ((List.range on.length).zip on).foldl (fun s x => (List.range 2880).foldl (fun s i =>
    s.putImg F.TCH_NODE_COMP (nodeIx x.2 i) (fieldLE b (c + 2880 * x.1 + i) 1)) s) s
  let own := fun (r : Nat) => s.get F.TCH_RCFG_OWNER r
  (s, decide (n ≤ 256) && decide (c + 2880 * on.length ≤ b.length) && resv b 2 14
    && (List.range 8).all (fun p => resv b (16 + 64 * p + 48) 16) && on.all s.panelOk
    && (List.range n).all (fun r => decide (own r ≤ 0x40) || own r = 0x7F)
    && ((b.drop c).take (2880 * on.length)).all (fun x => decide (x.toNat < 64)))

/-- A haptic effect (Table 16.1). -/
def effectOf (e : List Byte) : Effect :=
  { urgent := bit (fieldLE e 0 1) 0, track := bit (fieldLE e 0 1) 1, attackMs := fieldLE e 1 1, sustainMs := fieldLE e 2 2,
    brakeMs := fieldLE e 4 1, freqHz := fieldLE e 6 2, aAttack := fieldLE e 8 2, aSustain := fieldLE e 0xA 2, aBrake := fieldLE e 0xC 2 }

/-- HAPTIC (R542, R543). -/
def State.loadHaptic (s : State) (b : List Byte) : State × Bool :=
  let n := fieldLE b 0 1
  let s := (List.range 8).foldl (fun s c =>
    (s.loadWord 131 c (fieldLE b (16 + 32 * c) 8)).loadWord 132 c (fieldLE b (24 + 32 * c) 8)) s
  let ent := fun (i : Nat) => (b.drop (272 + 16 * i)).take 16
  let es := (List.range n).map (fun i => effectOf (ent i))
  let chOk := fun (c : Nat) => s.get F.HAP_CH_CFG_R_COIL c = 0
    || (within_ 40 (s.get F.HAP_CH_CFG_R_COIL c) 320 && within_ 50 (s.get F.HAP_CH_CFG_F0_HZ c) 500
      && decide (s.get F.HAP_CH_CFG_F_MIN_HZ c ≤ s.get F.HAP_CH_CFG_F_MAX_HZ c) && decide (1 ≤ s.get F.HAP_CH_CFG_STOP_MV c)
      && decide (1 ≤ s.get F.HAP_CH_THERM_TAU_DS c))
  let esOk := (List.range n).all (fun i =>
    let e := effectOf (ent i)
    decide (fieldLE (ent i) 0 1 < 4) && within_ 1 e.brakeMs 50 && (e.track || within_ 50 e.freqHz 500) && decide (e.aAttack ≤ 1500)
      && decide (e.aSustain ≤ 1500) && within_ 1 e.aBrake 1500 && resv (ent i) 5 1 && resv (ent i) 0xE 2)
  ({ s with hap := { s.hap with effects := es } },
    within_ 1 n 64 && decide (272 + 16 * n ≤ b.length) && resv b 1 15 && (List.range 8).all (fun c => resv b (32 + 32 * c) 16)
      && (List.range 8).all chOk && esOk)

/-- AUDIO (R579). DEDUCED: a stream's AUD_SEND stands before its AUD_SEND_SEL, and a voice's AUD_VOICE before its mask (log entry 24). -/
def State.loadAudio (s : State) (b : List Byte) : State × Bool :=
  let at_ := fun (k : Nat) => 16 + 8 * k
  let s := ((s.loadWord 136 0 (fieldLE b (at_ 0) 8)).loadWords 138 b (at_ 1) 4 0).loadWords 139 b (at_ 5) 128 0
  let s := (s.loadWords 140 b (at_ 133) 32 0).loadWords 141 b (at_ 165) 16 0
  let s := (List.range 4).foldl (fun s t => (s.loadWord 142 t (fieldLE b (at_ (181 + 2 * t)) 8)).loadWord 143 t (fieldLE b (at_ (182 + 2 * t)) 8)) s
  let s := s.loadWords 144 b (at_ 189) 4 0
  let s := (List.range 8).foldl (fun s v => (s.loadWord 145 v (fieldLE b (at_ (193 + 2 * v)) 8)).loadWord 146 v (fieldLE b (at_ (194 + 2 * v)) 8)) s
  let eq := bit (fieldLE b 0 1) 0
  let coef := fun (i : Nat) => fieldLE b (at_ 209 + 4 * i) 4
  let s := if eq then (List.range 1600).foldl (fun s i => s.putImg F.AUD_BQ_COEF i (coef i)) s else s
  ((s.modAud (fun a => { a with present := true })).audFresh,
    decide (fieldLE b 0 1 < 2) && resv b 1 15 && decide (at_ 209 + (if eq then 6400 else 0) ≤ b.length)
      && decide (s.get F.AUD_CFG_CLK_SRC ≤ 5)
      && (List.range 4).all (fun t => !s.on F.AUD_SEND_EN t || within_ 1 (s.get F.AUD_SEND_CHANNELS t) 8))

/-- A template entry (Table 5.4). -/
def parseTemplate (e : List Byte) : Template :=
  let fl := fieldLE e 1 1
  { id := fieldLE e 0 1, assured := bit fl 0, nonpreempt := bit fl 1, onA := bit fl 2, onB := bit fl 3, replay := bit fl 4,
    placeholder := bit fl 5, migrate := bit fl 6, maxInstances := fieldLE e 2 1, queues := fieldLE e 3 1, layers := fieldLE e 4 1,
    headMask := fieldLE e 5 1, gpuMin := fieldLE e 6 2, gpuMax := fieldLE e 8 2, timelines := fieldLE e 0xA 2, heapMib := fieldLE e 0xC 4,
    heapRegion := fieldLE e 0x10 1, audioPlay := fieldLE e 0x11 1, audioCap := fieldLE e 0x12 1, touchRegions := fieldLE e 0x13 1,
    drainMs := fieldLE e 0x14 2, placeholderAsset := fieldLE e 0x18 4, raw := e }

/-- Ranges of Table 5.4 (R164). -/
def Template.ok (t : Template) (i : Nat) : Bool :=
  decide (t.id = i) && !bit (fieldLE t.raw 1 1) 7 && within_ 1 t.maxInstances 32 && within_ 1 t.queues 16 && decide (t.layers ≤ 64)
    && decide (t.gpuMin ≤ t.gpuMax) && decide (t.gpuMax ≤ 1000) && within_ 1 t.timelines 256 && within_ 64 t.heapMib 16384
    && decide (t.heapMib % 64 = 0) && decide (t.heapRegion ≤ 7) && decide (t.audioPlay ≤ 16) && decide (t.audioCap ≤ 16)
    && decide (t.touchRegions ≤ 32) && within_ 1 t.drainMs 100 && resv t.raw 0x16 2 && resv t.raw 0x1C 4

/-- Ports on which a template is offered. -/
def Template.ports (t : Template) : Nat := b2n t.onA + b2n t.onB

/-- DRAWERS (R164, R165). DESIGN CHOICE (log entry 56): no rule rejects a GENERAL template whose HEAP_REGION is of class SAFE or ASSURED;
R22 lets GENERAL content occupy a protected region as the image's region definitions allow, so its heap is placed there. -/
def State.loadDrawers (s : State) (b : List Byte) : State × Bool :=
  let n := fieldLE b 0 1
  let ts := (List.range n).map (fun i => parseTemplate ((b.drop (16 + 64 * i)).take 64))
  let ok := within_ 1 n 64 && decide (16 + 64 * n ≤ b.length) && within_ 26 (fieldLE b 1 1) 34 && within_ 26 (fieldLE b 2 1) 34
    && resv b 3 1 && decide (fieldLE b 4 4 < 256) && decide (fieldLE b 8 4 < 256) && resv b 0xC 4
    && (List.range n).all (fun i => (ts.getD i {}).ok i)
    && ts.all (fun t => !t.assured || (s.on F.DMC_RGN_B_EN t.heapRegion && s.get F.DMC_RGN_B_CLASS t.heapRegion = 1))
    && decide ((ts.map (fun t => t.timelines * t.maxInstances * t.ports)).sum ≤ 2048)
    && decide (((ts.filter (fun t => t.assured)).map (fun t => t.gpuMin * t.maxInstances * t.ports)).sum ≤ s.get F.GFE_PLAN_ASSURED_MIN)
  let s := (s.modPort 0 (fun w => { w with vf2Log2 := fieldLE b 1 1, apRegions := fieldLE b 4 4 })).modPort 1
    (fun w => { w with vf2Log2 := fieldLE b 2 1, apRegions := fieldLE b 8 4 })
  ({ s with templates := ts }, ok)

/-- PLYNLINK (R99, R484). -/
def State.loadPlynlink (s : State) (b : List Byte) : State × Bool :=
  let fl := fieldLE b 2 1
  let slot := bit fl 0
  let id := fieldLE b 0 2 + (if slot then s.get F.CFG_STATUS_SLOT_ID else 0)
  let nw := fieldLE b 0xC 1
  let na := fieldLE b 0xD 1
  let ne := fieldLE b 0xE 1
  let ni := fieldLE b 0xF 1
  let aw := 32
  let aa := aw + 16 * nw
  let ae := aa + 16 * na
  let ai := ae + 40 * ne
  let exp := fun (e off n : Nat) => fieldLE b (ae + 40 * e + off) n
  let imp := fun (i off n : Nat) => fieldLE b (ai + 48 * i + off) n
  let expOk := fun (e : Nat) => decide (exp e 0 8 % 64 = 0) && [1, 3, 4, 5].contains (exp e 0x20 1) && decide (exp e 0x21 1 < 2)
    && decide (exp e 0x22 2 < 4096) && decide (exp e 0x24 2 < 4096) && exp e 0x26 2 = 0
  let impOk := fun (i : Nat) => decide (imp i 0 8 % 64 = 0) && decide (imp i 8 8 % 64 = 0) && decide (imp i 0x10 8 % 65536 = 0)
    && decide (imp i 0x24 2 * imp i 0x26 2 * 4129 ≤ imp i 0x18 4) && decide (imp i 0x1C 2 < 2 ^ 14) && decide (imp i 0x1E 1 < 16)
    && decide (imp i 0x1F 1 < 4) && decide (imp i 0x28 2 < 4096) && imp i 0x2A 2 = 0
  let ok := decide (32 ≤ b.length) && decide (fieldLE b 0 2 < 2 ^ 14) && decide (id ≤ 0x3FFF) && decide (fl < 64)
    && within_ (4166667 * 65536) (fieldLE b 4 6) (41666667 * 65536) && within_ 100 (fieldLE b 0xA 2) 1000
    && decide (nw ≤ 32) && decide (na ≤ 64) && decide (ne ≤ 16) && decide (ni ≤ 16) && decide (ai + 48 * ni ≤ b.length)
    && within_ 50 (fieldLE b 0x10 2) 2000 && decide (1 ≤ fieldLE b 0x12 1) && resv b 0x13 1 && within_ 250 (fieldLE b 0x14 2) 4000
    && resv b 0x16 10 && (List.range ne).all (fun e => exp e 0x21 1 = 0 || expOk e) && (List.range ni).all (fun i => imp i 0x1F 1 = 0 || impOk i)
  let s := (s.putImg F.PLK_ID_MODULE_ID 0 id).putImg F.PLK_ID_TIME_PRIO 0 (fieldLE b 3 1)
  let s := (s.putImg F.PLK_TICK_PERIOD_Q 0 (fieldLE b 4 6)).putImg F.PLK_CFG_ORIG_US 0 (fieldLE b 0xA 2)
  let s := ((s.putImg F.PLK_CFG_COMMIT_LEAD_US 0 (fieldLE b 0x10 2)).putImg F.PLK_CFG_REQ_TIMEOUT 0 (fieldLE b 0x12 1)).putImg
    F.PLK_CFG_AUDIO_LAT_US 0 (fieldLE b 0x14 2)
  let s := (List.range 4).foldl (fun s p =>
    (s.putImg F.PLK_PORT_CTRL_EN p (bits fl (1 + p) 1)).putImg F.PLK_PORT_CTRL_NRZ_ONLY p (bits fl 5 1)) s
  let s := (List.range nw).foldl (fun s w => (s.loadWord 90 w (fieldLE b (aw + 16 * w) 8)).loadWord 91 w (fieldLE b (aw + 16 * w + 8) 8)) s
  let s := (List.range na).foldl (fun s k => (s.loadWord 92 k (fieldLE b (aa + 16 * k) 8)).loadWord 93 k (fieldLE b (aa + 16 * k + 8) 8)) s
  let s := (List.range ne).foldl (fun s e => s.loadWords 94 b (ae + 40 * e) 5 (5 * e)) s
  let s := (List.range ni).foldl (fun s i => s.loadWords 96 b (ai + 48 * i) 6 (6 * i)) s
  (s.modPlk (fun k => { k with slotOffset := slot }), ok)

/-- Is `c` an error code of Table 21.2? -/
def codeKnown (c : Nat) : Bool :=
  within_ 0x20 c 0x23 || within_ 0x28 c 0x38 || within_ 0x40 c 0x45 || within_ 0x48 c 0x4B || within_ 0xE0 c 0xFF

/-- POLICY (R660, R677, R694). -/
def State.loadPolicy (s : State) (b : List Byte) : State × Bool :=
  let w := fieldLE b 2 2
  let l := fieldLE b 4 1
  let n := fieldLE b 5 1
  let fm := fieldLE b 0x10 1
  let wp := fieldLE b 0x11 1
  let ov := fun (i : Nat) => fieldLE b (0x20 + 2 * i) 2
  let ok := decide (0x60 ≤ b.length) && decide (fieldLE b 0 1 ≤ 2) && decide (fieldLE b 1 1 < 32) && (w = 0 || within_ 100 w 10000)
    && (l = 0 || within_ 2 l 8) && decide (n ≤ 32) && resv b 6 10 && (fm = 0 || within_ 8 fm 60) && (wp = 0 || within_ 50 wp 99)
    && resv b 0x12 14
    && (List.range n).all (fun i => codeKnown (bits (ov i) 0 8) && decide (ov i < 2 ^ 10)
      && (decide (0xE0 ≤ bits (ov i) 0 8) || decide (defaultClass (bits (ov i) 0 8) ≤ bits (ov i) 8 2)))
  let s := (s.putImg F.ADL_CFG_FLUSH_MARK 0 (if fm = 0 then 32 else fm)).putImg F.ADL_CFG_WARN_PCT 0 (if wp = 0 then 90 else wp)
  ({ s with err := { s.err with moduleAction := fieldLE b 0 1, faultAdd := fieldLE b 1 1, windowMs := if w = 0 then 1000 else w,
                                limit := if l = 0 then 3 else l,
                                overrides := (List.range n).foldl (fun m i => tset 0 m (bits (ov i) 0 8) (bits (ov i) 8 2)) [] } }, ok)

/-- MUTABLE (R119). -/
def State.loadMutable (s : State) (b : List Byte) : State × Bool :=
  let n := b.length / 12
  let ent := fun (i : Nat) => (b.drop (12 * i)).take 12
  ({ s with mutables := (List.range n).map (fun i =>
      { blk := fieldLE (ent i) 0 1, ports := fieldLE (ent i) 1 1, off := fieldLE (ent i) 4 4, mask := fieldLE (ent i) 8 4 }) },
    decide (b.length % 12 = 0) && decide (n ≤ 512) && (List.range n).all (fun i => decide (fieldLE (ent i) 1 1 < 4) && resv (ent i) 2 2))

/-- Load one configuration section; the cause of Table 3.12, 0 for none. Firmware goes to its memory (Table 3.4); FW_CAB, FW_APP and
SHELF are used later. -/
def State.loadSection (s : State) (x : Section) (b : List Byte) : State × Nat :=
  let mal := fun (r : State × Bool) => (r.1, if r.2 then 0 else 0x0A)
  if x.type = 2 then (if x.encrypted then mal (s.loadKeys b) else (s, 0x0A))
  else if x.type = 3 then mal (s.loadClock b)
  else if x.type = 4 then s.loadDram b
  else if x.type = 5 then mal (s.loadHeads b)
  else if x.type = 7 then mal (s.loadTelltales b)
  else if x.type = 8 then mal (s.loadTouch b)
  else if x.type = 9 then mal (s.loadHaptic b)
  else if x.type = 0x0A then mal (s.loadAudio b)
  else if x.type = 0x0B then mal (s.loadDrawers b)
  else if x.type = 0x0C then mal (s.loadPlynlink b)
  else if x.type = 0x0D then mal (s.loadPolicy b)
  else if x.type = 0x0E then mal (s.loadMutable b)
  else if x.type = 0x10 then (s.writeBytes 0x00E002000000 (b.take 0x80000), 0)
  else if x.type = 0x11 then (s.writeBytes 0x00E003000000 (b.take 0x80000), 0)
  else (s, 0)

/-- Types used after the configuration step. -/
def secLate (t : Nat) : Bool := t = 6 || t = 0x12 || t = 0x13

/-- Check of section `i` among those given; a section that is not named is sound. -/
def checkOf (cs : List (Nat × SecCheck)) (i : Nat) : SecCheck := tget {} cs i

/-- The configuration sections of a copy: every one is checked before any is used, then they are loaded, those that others are checked
against first (R96; DEDUCED, log entry 24). The state, cause and index. -/
def State.loadConfig (s : State) (x : ImageCopy) (cs : List (Nat × SecCheck)) : State × Nat × Nat :=
  let idx := List.range x.sections.length
  let sec := fun (i : Nat) => x.sections.getD i {}
  if x.directoryOk.1 ≠ 0 then (s, x.directoryOk)
  else match idx.find? (fun i => !secLate (sec i).type && (sec i).integrity s.fuses.decryptKeySet (checkOf cs i) ≠ 0) with
    | some i => (s, (sec i).integrity s.fuses.decryptKeySet (checkOf cs i), i)
    | none =>
      let order := (idx.filter (fun i => (sec i).type < 5)) ++ (idx.filter (fun i => 5 ≤ (sec i).type))
      order.foldl (fun (a : State × Nat × Nat) i =>
        if a.2.1 ≠ 0 then a
        else
          let r := a.1.loadSection (sec i) ((sec i).plain s.fuses.decryptKeySet)
          (r.1, r.2, if r.2 = 0 then 0xFF else i)) (s.loadDefaults, 0, 0xFF)

/-- The verification of a whole copy that has just been written (R120): header, key, SVN, signature and IDENTITY, the directory, and digest
and tag of every section. The cause of Table 3.12, 0 for none. -/
def State.verifyCopy (s : State) (x : ImageCopy) (c : HdrCheck) : Nat :=
  if (s.verifyHeader x c).1 ≠ 0 then (s.verifyHeader x c).1
  else if x.directoryOk.1 ≠ 0 then x.directoryOk.1
  else ((x.sections.map (fun y => y.integrity s.fuses.decryptKeySet {})).find? (fun e => decide (e ≠ 0))).getD 0

/-! ### The Shelf (R358 to R360, R399) -/

/-- A Shelf asset entry (Table 9.8), not yet placed. -/
def assetOf (e : List Byte) : Asset :=
  { kind := fieldLE e 0 1, format := fieldLE e 1 1, scale := fieldLE e 2 2, w := fieldLE e 4 2, h := fieldLE e 6 2, addr := fieldLE e 8 4,
    len := fieldLE e 0xC 4 }

/-- Ranges of Table 9.8. -/
def Asset.ok (a : Asset) : Bool :=
  (a.kind = 1 && (a.format = 1 || a.format = 4) && decide (a.scale < 4) && a.len = a.w * a.h * (if a.format = 1 then 2 else 4))
    || (a.kind = 2 && a.format = 0 && a.scale = 0 && within_ 1 a.w 16 && a.h = 0 && a.len = 16 * a.w)
    || (a.kind = 3 && (a.format = 1 || a.format = 2) && a.scale = 0 && a.w = 0 && a.h = 0)

/-- Start of the Shelf. -/
def shelfBase : Nat := 0x00E000000000

/-- Place assets in index order, each at the next 64-byte boundary (R360): the assets with their addresses, and the end. -/
def placeAssets : Nat → List Asset → List Asset × Nat
  | at_, [] => ([], at_)
  | at_, a :: as =>
    let here := alignUp at_ 64
    let r := placeAssets (here + a.len) as
    ({ a with addr := here } :: r.1, r.2)

/-- The windows of a layout's data (R359). -/
def layoutOf (b : List Byte) (n : Nat) : List Window :=
  (List.range n).map (fun i => { x := fieldLE b (16 * i) 2, y := fieldLE b (16 * i + 2) 2, w := fieldLE b (16 * i + 4) 2,
                                 h := fieldLE b (16 * i + 6) 2 })

/-- Two buffers for each window, each at the next 64-byte boundary (R360; alignment DEDUCED, log entry 24). -/
def placeBufs : Nat → List Window → List (Window × Nat) × Nat
  | at_, [] => ([], at_)
  | at_, w :: ws =>
    let n := w.w * w.h * 4
    let a := alignUp at_ 64
    let b := alignUp (a + n) 64
    let r := placeBufs (b + n) ws
    (({ w with buf := a }, b) :: r.1, r.2)

/-- Do two windows overlap? -/
def Window.hits (a b : Window) : Bool := overlaps a.x a.w b.x b.w && overlaps a.y a.h b.y b.h

/-- Does no window of the list overlap a later one? -/
def windowsApart : List Window → Bool
  | [] => true
  | w :: ws => ws.all (fun v => !w.hits v) && windowsApart ws

/-- Asset indexes that enabled heads, telltales and templates name, with the KIND each must have (R360). -/
def State.assetRefs (s : State) : List (Nat × Nat) :=
  (List.range 8).flatMap (fun h =>
      let e := (s.headOf h).entry
      if !e.enable then [] else e.bgAsset.toList.map (fun i => (i, 1)) ++ e.fallbackAsset.toList.map (fun i => (i, 1))
        ++ e.layout.toList.map (fun i => (i, 2)))
    ++ s.tell.entries.map (fun t => (t.glyph, 1))
    ++ (s.templates.filter (fun t => t.placeholder)).map (fun t => (t.placeholderAsset, 1))

/-- The SHELF section, placed in the Shelf with its buffers zeroed, and whether it is well formed (R358 to R360). -/
def State.loadShelf (s : State) (b : List Byte) : State × Bool :=
  let n := fieldLE b 0 2
  let d := fieldLE b 4 4
  let raw := (List.range n).map (fun i => assetOf ((b.drop (16 + 16 * i)).take 16))
  let r := placeAssets shelfBase raw
  let data := fun (i : Nat) => (b.drop (d + (raw.getD i {}).addr)).take (raw.getD i {}).len
  let heads := (List.range 8).filter (fun h => (s.headOf h).entry.enable)
  let lay := fun (h : Nat) =>
    let i := ((s.headOf h).entry.layout).getD 0
    layoutOf (data i) (raw.getD i {}).w
  let bufs := heads.foldl (fun (acc : List (Nat × List (Window × Nat)) × Nat) h =>
    let q := placeBufs acc.2 (lay h)
    (acc.1 ++ [(h, q.1)], q.2)) ([], r.2)
  let ok := within_ 1 n 1024 && resv b 2 2 && decide (d % 64 = 0) && resv b 8 8 && decide (16 + 16 * n ≤ b.length)
    && raw.all (fun a => a.ok && decide (d + a.addr + a.len ≤ b.length)) && decide (bufs.2 ≤ shelfBase + 8 * 2 ^ 20)
    && s.assetRefs.all (fun p => decide (p.1 < n) && (raw.getD p.1 {}).kind = p.2)
    && heads.all (fun h => windowsApart (lay h) && (lay h).all (fun w =>
        decide (w.x + w.w ≤ s.get F.HDn_H_HACTIVE h) && decide (w.y + w.h ≤ s.get F.HDn_V_VACTIVE h)))
  let s := (s.zeroBytes shelfBase (8 * 2 ^ 20))
  let s := (List.range n).foldl (fun s i => s.writeBytes (r.1.getD i {}).addr (data i)) s
  ({ s with shelf := { assets := r.1, windows := bufs.1, used := bufs.2 - shelfBase } }, ok)

/-- One region for each safety-plane window of each enabled head (R399); every other region starts disabled. -/
def State.imageRegions (s : State) : State :=
  s.shelf.windows.foldl (fun s p =>
    ((List.range p.2.length).zip p.2).foldl (fun s x =>
      let i := p.1 * 16 + x.1
      let w := x.2.1
      let s := ((s.putImg F.WIT_RGN_X i w.x).putImg F.WIT_RGN_Y i w.y).putImg F.WIT_RGN_W i w.w
      let s := ((s.putImg F.WIT_RGN_H i w.h).putImg F.WIT_RCFG_EN i 1).putImg F.WIT_RCFG_ACTION i 1
      let s := s.putImg F.WIT_RCFG_CLIP i 1
      s.modRegion p.1 x.1 (fun _ => { x := w.x, y := w.y, w := w.w, h := w.h, en := true, action := 1, thresh := 0, clip := true, cls := 0 })) s) s

end Sys2Proof.Machine
end

