-- ==== Sys2Proof/Machine/Startup.lean ====
section
/-! DEFINITION. Power-up, the start sequence, recovery start, shutdown, emergency record and MOD reset (chapters 2 and 3; R504 to R506,
R607, R723 to R727, R734). -/

namespace Sys2Proof.Machine

/-! ### The input supervisor (R43 to R51) -/

/-- SUPERVISOR_POWER_UP: 12V_PRE mates at an input of `mv` millivolts. The supervisor powers up disarmed, and precharge begins (R44, R50). -/
def execSupervisorPowerUp (mv : Nat) (s : State) : Host.Outcome State Fault Refusal :=
  .next (if s.sup.powered || s.phase ≠ .off then s
    else { s with sup := { powered := true, precharging := true, inputMv := mv } })

/-- PRECHARGE_ABORT: before the start event, PRSNT_N opens or the input is lost; nothing is recorded (Table 2.7). DESIGN CHOICE (log entry
55): Table 2.7 names nothing that resumes a precharge that PRSNT_N stopped while 12V_PRE stays mated; the capacitance may still come within
0.3 V of the input later, which MAIN_SWITCH_CLOSE says. -/
def execPrechargeAbort (inputLost : Bool) (s : State) : Host.Outcome State Fault Refusal :=
  .next (if s.phase ≠ .off then s
    else if inputLost then { s with sup := {} }
    else { s with sup := { s.sup with precharging := false, qualified := false }, pins := { s.pins with prsntN := true } })

/-- MAIN_SWITCH_CLOSE: the hold-up capacitance is within 0.3 V of the input (R51), at the end of precharge or when an input that was too
high is back in range. -/
def execMainSwitchClose (s : State) : Host.Outcome State Fault Refusal :=
  .next (if s.sup.powered && !s.sup.mainSwitch && decide (s.sup.inputMv ≤ 15000) then
      { s with sup := { s.sup with precharging := false, mainSwitch := true } }
    else s)

/-- INPUT_QUALIFIED: the three conditions of R43 have held for 1 ms. -/
def execInputQualified (s : State) : Host.Outcome State Fault Refusal :=
  .next (if s.sup.powered && s.sup.mainSwitch && within_ 10500 s.sup.inputMv 15000 then
      { s with sup := { s.sup with qualified := true }, pins := { s.pins with prsntN := false } }
    else s)

/-- SUPERVISOR_ARM: PWR_EN has been low for 1 ms (R44). -/
def execSupervisorArm (s : State) : Host.Outcome State Fault Refusal :=
  .next (if s.sup.powered then { s with sup := { s.sup with armed := true }, pins := { s.pins with pwrEn := false } } else s)

/-! ### POR, MOD reset and power-off -/

/-- The pins that are inputs of the module. -/
def Pins.inputs (p : Pins) : Pins :=
  { prsntN := p.prsntN, pwrEn := p.pwrEn, wakeN := p.wakeN, slotId := p.slotId, perstN := p.perstN, ppsIn := p.ppsIn }

/-- What a start keeps whatever its cause: the queue, time, MRAM, fuses, flash, the supervisor, and what has left the module. -/
def State.husk (s : State) : State :=
  { pending := s.pending, now := s.now, freeCtr := s.freeCtr, hostOut := s.hostOut, reads := s.reads, nv := s.nv, fuses := s.fuses,
    flashA := s.flashA, flashB := s.flashB, sup := s.sup, pins := s.pins.inputs }

/-- Host ports train from the start event whenever their PERST_N is deasserted (R88). -/
def State.portsFromPerst (s : State) : State :=
  (List.range 2).foldl (fun s p => s.modPort p (fun w => { w with inReset := !(s.pins.perstN.getD p false) })) s

/-- POR at a start event (R9, R10, R45): every domain is powered (DESIGN CHOICE, log entry 25), ALIVE_N is low with PD00 (R65), and every
register takes its reset value. -/
def State.porStart (s : State) : State :=
  let t := s.husk
  ({ t with phase := .starting, pd := 0xFFFF, sup := { t.sup with armed := false },
            pins := { t.pins with pwrEn := true, outputsHiZ := false, aliveReleased := false } }).portsFromPerst

/-- START_EVENT: PWR_EN has been high for its debounce. The start event needs an armed supervisor, a qualified input and OFF (R45, R47);
else only the pin is seen. -/
def execStartEvent (s : State) : Host.Outcome State Fault Refusal :=
  .next (if s.sup.armed && s.sup.qualified && s.phase = .off then s.porStart
    else if s.phase = .off then { s with pins := { s.pins with pwrEn := true } } else s)

/-- A MOD reset (R10, R64, R648, R675, R734): registers of the POR domain, MRAM, the fuses, the error records and the time base are kept;
memory contents become undefined (log entry 8); SAFE ends, and FAULT_N is released but for throttle level 4. -/
def State.modReset (s : State) : State :=
  let s := s.endSession.flushAndSeal 3
  let s := ((s.clearTransition.putNext none).put F.PWR_STATUS_STATE 0 0).put F.FAB_ERR_MOD_SAFE 0 0
  let p := s.pm
  let t := s.applyMod
  let u := s.husk
  ({ u with regs := t.regs, phase := .starting, pd := 0xFFFF, memRest := { epoch := s.memRest.epoch + 1 },
            err := { queues := s.err.queues, resetTimes := s.err.resetTimes, restartTimes := s.err.restartTimes },
            pm := { lastSeqOf := p.lastSeqOf, seqCount := p.seqCount, slew := p.slew, behind := p.behind, slewPhase := p.slewPhase,
                    uncFrac := p.uncFrac, ppsEdges := p.ppsEdges, ppsAt := p.ppsAt, calN := p.calN, calSt := p.calSt, secRun := p.secRun },
            dbg := { tapInstr := s.dbg.tapInstr, tapCapture := s.dbg.tapCapture, boundary := s.dbg.boundary,
                     pinsDriven := s.dbg.pinsDriven, pinsHiZ := s.dbg.pinsHiZ },
            pins := { u.pins with aliveReleased := false, outputsHiZ := false, ppsOut := s.pins.ppsOut, ppsOutFall := s.pins.ppsOutFall,
                                  faultCauses := s.pins.faultCauses.filter (fun c => decide (c = FaultCause.throttle4)) } }).portsFromPerst

/-- MOD_RESET: the MOD reset that a RESTART or a failed wake called for (R634, R675, R734). An emergency record overrides it (R671). -/
def execModReset (s : State) : Host.Outcome State Fault Refusal :=
  .next (if s.err.modResetDue && s.phase = .running then s.modReset else s)

/-- Every domain is off and ALIVE_N released (R52, R59, R65); MRAM keeps the cause. -/
def State.powerOff (s : State) (c : OffCause) : State :=
  let t := s.husk
  { t with nv := { t.nv with lastOff := c } }

/-! ### The start sequence (R82 to R101) -/

/-- BST_RESULT(k, w) from a results record (Table 25.9). -/
def State.loadResult (s : State) (k : Nat) (r : TestRecord) : State :=
  let s := ((s.put F.BST_RESULT0_KIND k r.kind).put F.BST_RESULT0_CAUSE k r.cause).put F.BST_RESULT0_COVERAGE k r.coverage
  let s := ((s.put F.BST_RESULT0_DRAM_SLICE k r.slice).put F.BST_RESULT0_DURATION_US k r.durationUs).put F.BST_RESULT1_FIRST_ADDR k r.firstAddr
  let s := ((s.put F.BST_RESULT2_FIRST_BIT k r.firstBit).put F.BST_RESULT2_FIRST_MEM k r.firstMem).put F.BST_RESULT2_FAILS k r.fails
  (s.put F.BST_RESULT3_END_ST k r.endSt).put F.BST_RESULT3_ST_STATE k r.stState

/-- The fields that the ROM loads from the fuses and MRAM. -/
def State.loadHw (s : State) : State :=
  let lc := s.lifeCycleRead
  let s := ((s.put F.CAB_LC_STATE 0 lc.code).put F.CAB_LC_NEXT 0 lc.code).putB F.CAB_LC_KEY_KILLED 0 s.fuses.keyKill
  let s := (s.put F.CAB_FUSE_SVN_FLOOR 0 s.fuses.svnFloor).put F.CAB_FUSE_REVOKED 0 s.fuses.revoked
  let s := (s.putB F.CAB_FUSE_BUSY 0 (!s.fuses.burns.isEmpty)).put F.PWR_SUPPLY_LAST_OFF 0 s.nv.lastOff.code
  let s := (s.put F.DBG_ID_ID 0 (s.fuses.deviceId % 2 ^ 64)).put F.DBG_ID_ID 1 (s.fuses.deviceId / 2 ^ 64 % 2 ^ 64)
  let s := (List.range 64).foldl (fun s d => s.put F.DRW_INFO_DRAWER d d) s
  let n : Nat := if lc = .blank then 0 else (s.nv.startCount + 1) % 65536
  let s : State := if lc = .blank then s else { s with nv := { s.nv with startCount := n } }
  let s := ((s.put F.ADL_STATUS_START 0 n).put F.ADL_STATUS_NEXT_SEQ 0 0).auditCountHeld
  let s := (s.put F.ADL_MARK_SEQ 0 s.nv.markSeq).put F.ADL_MARK_START 0 s.nv.markStart
  (s.loadResult 0 s.nv.closing).putB F.DMC_INFO_CAP 0 (!s.fuses.capX32)

/-- ROM_ENTRY: ALIVE_N low, SLOT_ID read once (R49, R65); START rises (Table 22.1); a SERVICE record that does not verify is recorded (R624).
STAGE 0x0 ends and the verification of copy A begins; in BLANK and RETIRED no copy is read, and the start ends in recovery start (R101). -/
def execRomEntry (slot : Fin 16) (s : State) : Host.Outcome State Fault Refusal :=
  .next (if s.phase ≠ .starting || s.boot.rom then s
    else
      let s : State := { s with boot := { rom := true, copyTried := 1, shutdownWaiting := s.boot.shutdownWaiting },
                                pins := { s.pins with aliveReleased := false, slotId := slot } }
      let s := (((s.putWord 1 0 0).put F.CFG_STATUS_SLOT_ID 0 slot).putWord 2 0 0xFFFFFFFF).loadHw
      let s := if (s.nv.service.map (fun r => r.sealOk && r.deviceId = s.fuses.deviceId)).getD true then s
        else s.recordError { domain := 0x21, code := 0x35 }
      if s.lifeCycleRead = .blank || s.lifeCycleRead = .retired then { s with boot := { s.boot with aborted := true } }
      else s.put F.CFG_STATUS_STAGE 0 1)

/-- The copy that is tried. -/
def State.copyNow (s : State) : ImageCopy := parseImage (if s.boot.copyTried = 2 then s.flashB else s.flashA)

/-- The islands configured from a rejected copy are reset; repairs, test results and training are kept (R89). The host ports, which train
from the start event, and the state that only the copy gave are treated apart. -/
def State.dropConfig (s : State) : State :=
  let s := (List.range 8).foldl (fun s h => if 1 ≤ s.get F.HDn_STATUS_STATE h ∧ s.get F.HDn_STATUS_STATE h ≤ 2 then s.headStopped h else s) s
  let s : State := { s with regs := s.regs.filter (fun p => !(s.shadow.any (fun q => q.1 = p.1))), shadow := [] }
  let s := s.islandReset (fun b => b ≠ 0x19 && b ≠ 0x1A && b ≠ 0x1B && b ≠ 0x26)
  let s := (List.range 2).foldl (fun s p => s.modPort p (fun w => { w with vf2Log2 := 26, apRegions := 0 })) s
  let e := s.err
  let s := (s.put F.CFG_STATUS_DESK_D_HEADS 0 0).put F.PWR_SUPPLY_HAP_RES 0 0
  let s := s.putB F.DMC_INFO_CAP 0 (!s.fuses.capX32)
  { s with templates := [], mutables := [], tell := {}, shelf := {}, aud := {}, hap := {}, plk := {},
           heads := [], adl := { s.adl with keyDerived := false },
           err := { e with moduleAction := 1, faultAdd := 0, windowMs := 1000, limit := 3, overrides := [] },
           dbg := { s.dbg with dbgRoots := 0, rootDigests := [] }, dmc := { s.dmc with forceFull := false },
           pm := { s.pm with gpuMhzCap := 1750, wakeNEn := false, tchWakeEn := false, frameSyncPlyn := false, ppsOutUs := 100000,
                             hapReserve := false } }

/-- The copy tried is rejected (R89, R90) and the islands configured from it are reset; test results are kept. Copy B is tried next, or,
with both rejected, FAULT_N falls and the start is to end in recovery start (R63, R101). -/
def State.rejectCopy (s : State) (cause sec : Nat) : State :=
  if s.boot.copyTried = 1 then
    let s := ((s.put F.CFG_FAIL_A_CAUSE 0 cause).put F.CFG_FAIL_A_SECTION 0 sec).dropConfig
    let s := ((s.put F.CFG_STATUS_FALLBACK 0 1).put F.CFG_STATUS_STAGE 0 1).put F.CFG_STATUS_COPY 0 0
    { s with boot := { s.boot with copyTried := 2, verified := false, sectionsLoaded := false, shelfLoaded := false } }
  else
    let s := (((s.put F.CFG_FAIL_B_CAUSE 0 cause).put F.CFG_FAIL_B_SECTION 0 sec).dropConfig.put F.CFG_STATUS_COPY 0 0).faultN .bothRejected
    { s with boot := { s.boot with aborted := true, verified := false, sectionsLoaded := false, shelfLoaded := false } }

/-- May the start sequence take its next step? -/
def State.seqOn (s : State) : Bool := s.phase = .starting && s.boot.rom && !s.boot.aborted

/-- SIGNATURE_VERDICT: the header checks of the copy have come to their end (R89 to R93, R100). -/
def execSignatureVerdict (c : HdrCheck) (s : State) : Host.Outcome State Fault Refusal :=
  .next (if !s.seqOn || s.boot.verified then s
    else
      let r := s.verifyHeader s.copyNow c
      if r.1 ≠ 0 then s.rejectCopy r.1 r.2
      else
        let s := (s.put F.CFG_STATUS_STAGE 0 2).put F.CFG_STATUS_COPY 0 s.boot.copyTried
        let s := s.put F.CAB_FUSE_ROOT_SLOT 0 ((s.fuses.rootSlot s.copyNow.signerKey).getD 0)
        { s with boot := { s.boot with verified := true } })

/-- SECTION_LOAD: the configuration sections are checked and loaded, and firmware goes to Hutch SRAM and the RT memories (R96). A block
found open is sealed once KEYS gives the sealing key (R688). After a fallback, repairs, test and training are not made again (R89). -/
def execSectionLoad (cs : List (Nat × SecCheck)) (s : State) : Host.Outcome State Fault Refusal :=
  .next (if !s.seqOn || !s.boot.verified || s.boot.sectionsLoaded then s
    else
      let r := s.loadConfig s.copyNow cs
      if r.2.1 ≠ 0 then r.1.rejectCopy r.2.1 r.2.2
      else
        let s := r.1.sealFound
        let kept := s.boot.repairsDone && s.boot.openingDone && s.boot.dramTrained
        { s.put F.CFG_STATUS_STAGE 0 (if kept then 6 else 3) with boot := { s.boot with sectionsLoaded := true } })

/-- Do exhausted spares of memory `m` end the start in recovery start (Table 25.1)? -/
def memFatal (m : Nat) : Bool := within_ 1 m 7 || m = 0x18

/-- Give each PENDING entry a spare row of its memory in map order while one is left, else it is UNREPAIRABLE (R723). DEDUCED: each entry
takes a row of its own (log entry 26). `used` is the entries so far that hold a row. -/
def giveSpares : List Repair → List Repair → List Repair
  | _, [] => []
  | used, e :: es =>
    if e.state = 2 then e :: giveSpares (e :: used) es
    else if e.state ≠ 1 || 0x20 ≤ e.mem then e :: giveSpares used es
    else if (used.filter (fun x => decide (x.mem = e.mem))).length < spareRows e.mem then
      { e with state := 2 } :: giveSpares (e :: used) es
    else { e with state := 3 } :: giveSpares used es

/-- What an on-die memory without repair does to the start (Table 25.1): recovery start, a retired Bench group, a retired head. -/
def State.memLost (s : State) (m : Nat) : State :=
  if memFatal m then { s with boot := { s.boot with aborted := true } }
  else if within_ 8 m 0xB then s.setBg (m - 8) 3
  else if within_ 0x10 m 0x17 then s.put F.HDn_STATUS_STATE (m - 0x10) 5
  else s

/-- REPAIR_APPLY: STAGE 0x3 (R723). DEDUCED: an entry that no spare row could serve is handled at each start (log entry 26). -/
def execRepairApply (s : State) : Host.Outcome State Fault Refusal :=
  .next (if !s.seqOn || !s.boot.sectionsLoaded || s.boot.repairsDone then s
    else
      let rs := s.nv.repairs
      let held := rs.filter (fun e => decide (e.state = 2))
      let done := giveSpares held (rs.filter (fun e => decide (e.state ≠ 2)))
      let out := (rs.foldl (fun (acc : List Repair × List Repair) e =>
        if e.state = 2 then (acc.1 ++ [e], acc.2)
        else (acc.1 ++ [acc.2.headD e], acc.2.drop 1)) ([], done)).1
      let s : State := { s with nv := { s.nv with repairs := out }, boot := { s.boot with repairsDone := true } }
      let s := s.put F.CFG_STATUS_STAGE 0 4
      (out.filter (fun e => decide (e.state = 3) && decide (e.mem < 0x20))).foldl (fun s e => s.memLost e.mem) s)

/-- A results record of KIND `k` (Table 25.5). -/
def State.testRecord (s : State) (kind coverage slice durationUs : Nat) (fails : List TestFail) : TestRecord :=
  let f := fails.headD {}
  { kind := kind, cause := 0, coverage := coverage, slice := slice, durationUs := durationUs, firstAddr := f.addr, firstBit := f.bit % 512,
    firstMem := f.mem, fails := min 255 fails.length, endSt := s.st % 2 ^ 62, stState := s.stState }

/-- A failure that the opening test finds (R722, R726): in a memory whose loss ends the start, the spare row affected is UNREPAIRABLE. -/
def State.openingFail (s : State) (f : TestFail) : State :=
  if memFatal f.mem then
    let hit := fun (e : Repair) => decide (e.mem = f.mem) && decide (e.line / 16 = f.line / 16)
    let s : State := if s.nv.repairs.any hit then
        { s with nv := { s.nv with repairs := s.nv.repairs.map (fun e => if hit e then { e with state := 3 } else e) } }
      else if 64 ≤ s.nv.repairs.length then s.put F.BST_STATUS_MAP_FULL 0 1
      else { s with nv := { s.nv with repairs := s.nv.repairs ++ [{ mem := f.mem, line := f.line, bit := f.bit % 512, state := 3 }] } }
    s.memLost f.mem
  else (s.addRepair f).memLost f.mem

/-- OPENING_TEST: STAGE 0x4 ends; the record is of KIND 1 (R726). A closing test recorded missing calls for the extended test (R87). -/
def execOpeningTest (fails : List TestFail) (coverage : Fin 1001) (durationUs : Nat) (s : State) : Host.Outcome State Fault Refusal :=
  .next (if !s.seqOn || !s.boot.repairsDone || s.boot.openingDone then s
    else
      let r := s.testRecord 1 coverage 0 durationUs fails
      let s := fails.foldl State.openingFail s
      let s := ({ s with nv := { s.nv with opening := r }, boot := { s.boot with openingDone := true,
                                                                                 extNeeded := decide (s.nv.closing.kind = 255) } }).loadResult 1 r
      if s.boot.aborted then s else s.put F.CFG_STATUS_STAGE 0 5)

/-- Train one channel (R505, R506): fast from a valid record unless FORCE_FULL is set, else, or when the fast path fails, in full. -/
def State.trainChan (s : State) (x : ChanTrain) : State :=
  let ch : Nat := x.ch
  let rec_ := s.nv.training.find? (fun p => p.1 = ch)
  let m := s.get F.DMC_RT_CTRL_MIN_EYE
  let pass := x.errs.all (fun e => e = 0) && x.eyes.all (fun e => decide (m ≤ e.1) && decide (m ≤ e.2))
  let fast : Option TrainRec := if s.dmc.forceFull || !x.crcOk then none else (rec_.map (fun p => p.2)).filter (fun r => r.valid && pass)
  match fast with
  | some r => s.putTraining ch r
  | none =>
    let s := s.put F.CFG_STATUS_TRAIN_FULL 0 1
    match x.full with
    | some r => (s.putTraining ch r).saveTraining ch
    | none => s.recordError { domain := 0x19, code := 0x4B, source := ch, origin := Origin.hw.word }

/-- DRAM_TRAINING: every channel in service is trained; STAGE 0x5 ends (R505). A channel that cannot be trained ends the start in recovery
start (R506, R671). -/
def execDramTraining (xs : List ChanTrain) (s : State) : Host.Outcome State Fault Refusal :=
  .next (if !s.seqOn || !s.boot.openingDone || s.boot.dramTrained then s
    else
      let retired := s.get F.DMC_INFO_RETIRED
      let s := (xs.filter (fun x => !bit retired x.ch)).foldl State.trainChan s
      if s.boot.recovery then s
      else { s.put F.CFG_STATUS_STAGE 0 6 with boot := { s.boot with dramTrained := true } })

/-- Section of a type in the copy that is tried: its index and its entry. -/
def State.secOf (s : State) (t : Nat) : Nat × Section :=
  let i := (s.copyNow.find t).getD 0
  (i, s.copyNow.sections.getD i {})

/-- The loader's checker 0 over `n` bytes at 64 KiB unit `u` (R607). -/
def State.checker0 (s : State) (u n : Nat) : State :=
  let s := ((s.put F.CAB_RGN_BASE_BASE 0 u).put F.CAB_RGN_CFG_SIZE_M1 0 ((n + 65535) / 65536 - 1)).put F.CAB_RGN_CFG_EN 0 1
  let s := ((s.put F.CAB_RGN_CFG_CAB_R 0 1).put F.CAB_RGN_CFG_CAB_W 0 1).put F.CAB_RGN_CFG_OPEN_R 0 0
  (s.put F.CAB_RGN_CFG_OPEN_W 0 0).put F.CAB_RGN_CFG_LOCK 0 1

/-- SHELF_LOAD: FW_CAB goes to its DRAM region at 64 KiB unit `cabUnit` (the spec gives no place, log entry 24) under checker 0; the Shelf is
placed and checked; panels are powered, heads started and the touch engine started (R82, R360, R399, R425, R433, R516). -/
def execShelfLoad (cab shelf : SecCheck) (cabUnit : Nat) (s : State) : Host.Outcome State Fault Refusal :=
  .next (if !s.seqOn || !s.boot.sectionsLoaded || !s.boot.dramTrained || s.boot.shelfLoaded then s
    else
      let c := s.secOf 0x12
      let sh := s.secOf 6
      let key := s.fuses.decryptKeySet
      if c.2.integrity key cab ≠ 0 then s.rejectCopy (c.2.integrity key cab) c.1
      else
        let code := c.2.plain key
        let s := (s.writeBytes (cabUnit * 65536) code).checker0 cabUnit code.length
        if sh.2.integrity key shelf ≠ 0 then s.rejectCopy (sh.2.integrity key shelf) sh.1
        else
          let r := s.loadShelf (sh.2.plain key)
          if !r.2 then r.1.rejectCopy 0x0A sh.1
          else
            let s := (r.1.imageRegions).put F.CFG_STATUS_STAGE 0 7
            let s := (List.range 8).foldl State.headUp s
            let s := (List.range 8).foldl (fun s p => if s.get F.TCH_PNL_CFG_MODE p ≠ 0 then s.panelStart p else s) s
            let s := (s.coreRestart 4).coreRestart 5
            { s with boot := { s.boot with shelfLoaded := true } })

/-- Has every head that the start waits for shown its first frame (Table 3.1)? A head whose panel delay still runs (R85), a DisplayPort head
without its sink (R86), and one that failed to start or to train do not hold it up. -/
def State.firstFrames (s : State) : Bool :=
  (List.range 8).all (fun h =>
    let st := s.get F.HDn_STATUS_STATE h
    let p := s.dpOf h
    !(s.headOf h).entry.enable || !(st = 1 || st = 2) || !(s.headOf h).first
      || (decide (0 < (s.headOf h).entry.panelDelayMs) && !p.linkStarted) || p.waitHpd || p.retryWait)

/-- EXTENDED_TEST: the remainder of the extended opening test, after the first frames (R87, R727): failing Bench groups and PlynLink ports
are retired, DRAM failures enter the map, the record is of KIND 2. -/
def execExtendedTest (fails : List TestFail) (ports : List PlkPort) (coverage : Fin 1001) (slice : Fin 8) (durationUs : Nat) (s : State) :
    Host.Outcome State Fault Refusal :=
  .next (if !s.seqOn || !s.boot.shelfLoaded || !s.firstFrames || !s.boot.extNeeded || s.boot.extDone then s
    else
      let r := s.testRecord 2 coverage slice durationUs fails
      let s := fails.foldl (fun s f => if within_ 8 f.mem 0xB then (s.addRepair f).memLost f.mem else s.addRepair f) s
      let s := ports.foldl (fun s p => s.put F.PLK_PORT_STATUS_STATE p 5) s
      let s := ((s.put F.CFG_STATUS_STAGE 0 9).put F.CFG_STATUS_EXT_TEST 0 1).loadResult 1 r
      { s with nv := { s.nv with opening := r }, boot := { s.boot with extDone := true } })

/-- PLYNLINK_START, after the first frames: FW_APP is loaded at `appBase` (the spec gives no place, log entry 24), which accepts the copy (Table 3.12); the enabled
PlynLink ports start (R82, R443), and the application cores run from the Cabinet monitor (R607). -/
def execPlynlinkStart (app : SecCheck) (appBase : Nat) (s : State) : Host.Outcome State Fault Refusal :=
  .next (if !s.seqOn || !s.boot.shelfLoaded || !s.firstFrames || (s.boot.extNeeded && !s.boot.extDone) || s.boot.plynDone then s
    else
      let a := s.secOf 0x13
      let key := s.fuses.decryptKeySet
      if a.2.integrity key app ≠ 0 then s.rejectCopy (a.2.integrity key app) a.1
      else
        let s := { (s.writeBytes appBase (a.2.plain key)).put F.CFG_STATUS_STAGE 0 0xA with boot := { s.boot with appBase := appBase } }
        let s := s.put (if s.boot.copyTried = 1 then F.CFG_FAIL_A_CAUSE else F.CFG_FAIL_B_CAUSE) 0 0
        let s := s.modPlk (fun k => { k with started := true })
        let s := (List.range 4).foldl (fun s p => if s.on F.PLK_PORT_CTRL_EN p && s.get F.PLK_PORT_STATUS_STATE p ≠ 5 then s.plkTrain p else s) s
        let s := (List.range 4).foldl State.coreRestart s
        { s with boot := { s.boot with plynDone := true } })

/-- The host ports are released: a shutdown that waited for the start begins (R55). -/
def State.portsOpen (s : State) : State :=
  if s.boot.shutdownWaiting then ({ s with boot := { s.boot with shutdownWaiting := false } }).shutdownBegin else s

/-- The image loader: Cabinet (Table 19.1). -/
def Origin.loader : Origin := { kind := .loader, cab := true }

/-- The COMMIT entry (Table 22.1). -/
def commitEntry (x : ImageCopy) (copy : Nat) : AuditEntry :=
  { origin := Origin.loader.word, addr := x.svn % 2 ^ 32, old := x.buildId / 2 ^ 32 % 2 ^ 32, new := x.buildId % 2 ^ 32, type := 1, copy := copy }

/-- COMMIT: the commit entry is durable, COMMITTED is set, and both host ports are released (R116, R117). With the audit buffer full the
entry waits (R685). -/
def execCommit (s : State) : Host.Outcome State Fault Refusal :=
  .next (if !s.seqOn || !s.boot.plynDone || s.committed || s.auditFull then s
    else
      let s := s.auditAccept (commitEntry s.copyNow s.boot.copyTried)
      let s := (s.put F.CFG_STATUS_COMMITTED 0 1).put F.CFG_STATUS_STAGE 0 0xB
      ({ s with phase := .running, boot := { s.boot with portsReleased := true, buildId := s.copyNow.buildId } }).portsOpen)

/-- RECOVERY_START: the recovery start that a rule has decided (R101). -/
def execRecoveryStart (s : State) : Host.Outcome State Fault Refusal :=
  .next (if s.phase = .starting && s.boot.rom && s.boot.aborted then s.recoveryStart.portsOpen
    else if s.phase = .running && s.boot.recovery then s.portsOpen else s)

/-! ### Orderly shutdown (R52 to R56) -/

/-- A request number that no numbered request has: SHUTDOWN_REQ_N is not numbered (R635). -/
def noSeq : Nat := 65536

/-- SHUTDOWN_REQ_N low for 10 µs (R52, R54, R55, Table 2.7): at once, in the next slot of a transition, or once the host ports are released. -/
def State.shutdownRequest (s : State) : State :=
  match s.phase with
  | .starting => { s with boot := { s.boot with shutdownWaiting := true } }
  | .running =>
    if s.shutdownComing then s
    else if s.pm.inProgress.isSome then
      (s.replaceNext.putNext (some { seq := noSeq, target := 4, origin := Origin.hw })).put F.PWR_STATUS_NEXT_SEQ 0 0
    else s.shutdownBegin
  | _ => s

/-- Steps 4 to 7 of R52: the closing test's record (not in BLANK and RETIRED, R724), the training record, the baselines, the audit log
sealed, and every domain off. -/
def State.shutdownEnd (s : State) (fails : List TestFail) (coverage durationUs : Nat) : State :=
  let lc := s.get F.CAB_LC_STATE
  let s := if 1 ≤ lc ∧ lc ≤ 3 then
      let r := s.testRecord 0 coverage s.nv.marchSlice durationUs fails
      let s := fails.foldl State.addRepair s
      let next := if coverage = 1000 then (s.nv.marchSlice + 1) % 8 else s.nv.marchSlice
      { s with nv := { s.nv with closing := r, marchSlice := next } }
    else s
  let s := if s.boot.dramTrained then s.activeChans.foldl State.saveTraining s else s
  let s := (List.range 8).foldl State.baselineWrite s
  (s.flushAndSeal 1).powerOff .orderly

/-- ORDERLY_SHUTDOWN: its request, or the end of its closing test; it waits for a burn in progress (R623). -/
def execOrderlyShutdown (x : ShutdownStep) (s : State) : Host.Outcome State Fault Refusal :=
  .next (match x with
    | .request => s.shutdownRequest.hutchRaise 2
    | .finish fails coverage durationUs => if s.phase = .shutdown && s.fuses.burns.isEmpty then s.shutdownEnd fails coverage durationUs else s)

/-! ### Emergency record (R57 to R62) -/

/-- Load shedding (R58): every domain but PD00 off, the pads of those turned off held at their levels (R643), heads dark, links down,
bridges at high impedance, test commands squashed (R731), a burn in progress is lost (R623); no request stays in the transition scheme
(R640). -/
def State.emergency (s : State) (c : OffCause) : State :=
  match s.phase with
  | .off => s
  | .emergency _ => s
  | _ =>
    let p := s.pins
    let s := s.put F.PWR_PADREL_HELD 0 (s.get F.PWR_PADREL_HELD ||| (s.pd &&& 0xFFFE).toNat)
    let s := s.squashTests (fun _ => true)
    let s := (List.range 8).foldl (fun s h => (s.headStopped h).hapKill h) s
    let s := (List.range 4).foldl (fun s p => s.plkDown p 0) s
    let s := (List.range 2).foldl (fun s p => s.modPort p (fun w => { w with linkUp := false, inReset := true, job := none })) s
    let s := (s.clearTransition.putNext none).hutchRaise 3
    { s with phase := .emergency c, pd := 1, fuses := { s.fuses with burns := [] }, err := { s.err with due := [], running := [], modResetDue := false },
             pins := { p with padsHeldEmergency := true } }

/-- EMERGENCY_TRIGGER (R57, Table 2.7). In OFF only the pins and the supervisor see it; a further trigger has no effect. An input above
15.0 V opens the input protection. DESIGN CHOICE (log entry 55): an input lost below 10.5 V leaves the supervisor without power, and its
return mates 12V_PRE anew. -/
def execEmergencyTrigger (t : Trigger) (s : State) : Host.Outcome State Fault Refusal :=
  .next (match t with
    | .removal => ({ s with sup := { s.sup with qualified := false }, pins := { s.pins with prsntN := true } }).emergency .removal
    | .inputLoss tooHigh => ({ s with sup := if tooHigh then { s.sup with mainSwitch := false, qualified := false } else {} }).emergency .inputLoss
    | .pwrEnDrop => ({ s with pins := { s.pins with pwrEn := false } }).emergency .pwrEnDrop)

/-- EMERGENCY_RECORD: the audit log is flushed and sealed, the closing test recorded missing with its cause, and PD00 turned off (R59, R725). -/
def execEmergencyRecord (s : State) : Host.Outcome State Fault Refusal :=
  .next (match s.phase with
    | .emergency c =>
      let s := s.flushAndSeal 2
      let r : TestRecord := { kind := 255, cause := c.code, endSt := s.st % 2 ^ 62, stState := s.stState }
      ({ s with nv := { s.nv with closing := r } }).powerOff c
    | _ => s)

/-! ### Supply and temperature (R74, R78 to R81) -/

/-- VIN_LOW or VIN_HIGH sets; Hutch source 3 (Table 18.4). -/
def State.supplyFlag (s : State) (f : Fld) : State := (if s.on f then s else s.hutchRaise 3).put f 0 1

/-- SUPPLY_SAMPLE: every 1 ms the input voltage, in millivolts (R74, Table 2.14), and the power manager's limits (R23 to R25). In OFF an
input out of range is no longer qualified (R43). -/
def execSupplySample (mv : Nat) (s : State) : Host.Outcome State Fault Refusal :=
  .next (if s.phase = .off then
      (if s.sup.powered then { s with sup := { s.sup with inputMv := mv, qualified := s.sup.qualified && within_ 10500 mv 15000 } } else s)
    else
      let s := ({ s with sup := { s.sup with inputMv := mv } }).put F.PWR_SUPPLY_VIN 0 (min 4095 (mv / 10))
      let s := if 10500 ≤ mv ∧ mv < 10800 then s.supplyFlag F.PWR_SUPPLY_VIN_LOW else s
      (if 13200 < mv ∧ mv ≤ 15000 then s.supplyFlag F.PWR_SUPPLY_VIN_HIGH else s).powerLimits)

/-- Upper plate limit of the order code in °C. -/
def State.pmax (s : State) : Int := if s.fuses.pmaxC64 then 70 else 85

/-- Plate and die thresholds of a level (Table 2.13). -/
def State.throttleAt (s : State) (l : Nat) : Int × Int :=
  if l = 5 then (s.pmax + 10, 120) else if l = 4 then (s.pmax + 8, 114) else if l = 3 then (s.pmax + 6, 110)
  else if l = 2 then (s.pmax + 3, 106) else (s.pmax, 102)

/-- Level of Table 2.13 for a plate and a die temperature: the highest whose plate or die threshold is exceeded (R78). -/
def State.throttleFor (s : State) (plate die : Int) : Nat :=
  (([5, 4, 3, 2, 1].find? (fun l => decide ((s.throttleAt l).1 < plate ∨ (s.throttleAt l).2 < die))).getD 0)

/-- Since when both temperatures have stayed at least 3 °C below the thresholds of each level (R79). -/
def State.coolSince (s : State) (plate die : Int) : List (Nat × Nat) :=
  ([1, 2, 3, 4].filter (fun l => decide (plate + 3 ≤ (s.throttleAt l).1 ∧ die + 3 ≤ (s.throttleAt l).2))).map (fun l =>
    (s.pm.cool.find? (fun p => p.1 = l)).getD (l, s.now))

/-- The level changes: clocks, FAULT_N at level 4, and Hutch source 4 (R63, R64, R78, Table 18.9). DESIGN CHOICE (log entry 55): HOT sets at
every change to a level of 1 or more, also after software cleared it. -/
def State.setThrottle (s : State) (l : Nat) : State :=
  let s := (s.put F.PWR_SUPPLY_THROTTLE 0 l).clockActions
  let s := if l = 4 then s.faultN .throttle4 else s.faultNRelease .throttle4
  (if 1 ≤ l then s.put F.PWR_SUPPLY_HOT 0 1 else s).hutchRaise 4

/-- THROTTLE_EVAL: every 1 ms (R78); a level only rises here, and level 5 is a thermal trip with the actions of every lower level (R57). -/
def execThrottleEval (plate die : Int) (s : State) : Host.Outcome State Fault Refusal :=
  .next (if s.phase = .off then s
    else
      let s := { s.put F.PWR_SUPPLY_PLATE_T 0 (ux plate 8) with pm := { s.pm with cool := s.coolSince plate die } }
      let l := s.throttleFor plate die
      if l = 5 then (if s.get F.PWR_SUPPLY_THROTTLE < 4 then s.setThrottle 4 else s).emergency .thermalTrip
      else if s.get F.PWR_SUPPLY_THROTTLE < l then s.setThrottle l else s)

/-- THROTTLE_DROP: both temperatures have stayed 3 °C below the level's thresholds for 1 s (R79). -/
def execThrottleDrop (s : State) : Host.Outcome State Fault Refusal :=
  .next (let l := s.get F.PWR_SUPPLY_THROTTLE
    if s.phase ≠ .off && s.pm.cool.any (fun p => p.1 = l && decide (p.2 + 1000000000 ≤ s.now)) then s.setThrottle (l - 1) else s)

/-! ### Telltales (R107 to R115) -/

/-- One byte into CRC-16 with polynomial 0x1021, most significant bit first (R109). -/
def crc16Byte (v : Nat) (b : Byte) : Nat :=
  (List.range 8).foldl (fun v _ => if bit v 15 then (v * 2 % 65536) ^^^ 0x1021 else v * 2 % 65536) (v ^^^ (b.toNat * 256))

/-- CRC-16 of bytes from 0xFFFF. -/
def crc16 (bs : List Byte) : Nat := bs.foldl crc16Byte 0xFFFF

/-- Is a frame valid for an entry whose identifier it has (R109)? -/
def Telltale.frameOk (t : Telltale) (port id : Nat) (data : List Byte) : Bool :=
  let n := data.length
  let w := if t.twoBits then 2 else 1
  let word := fieldLE data (n - 2) 2
  bit t.canId (30 + port) && decide (t.bitPos + w ≤ 8 * n)
    && (!t.prot || (decide (2 ≤ n) && decide (word % 4096 = crc16 (leBytes 4 id ++ data.take (n - 2)) % 4096)
          && decide (t.lastCtr ≠ some (word / 4096))))

/-- The entry takes the state of a valid frame; those before it stay for latch points within 2 ms of a later one (R110 to R112). -/
def Telltale.take (t : Telltale) (now : Nat) (data : List Byte) : Telltale :=
  let v := bits (leNat data) t.bitPos (if t.twoBits then 2 else 1)
  let n := data.length
  let old := if t.timedOut then [(0, t.timeoutState)] else t.history
  { t with history := (now, v) :: (old.filter (fun p => decide (now < p.1 + 2000000)) ++ (old.find? (fun p => decide (p.1 + 2000000 ≤ now))).toList),
           timedOut := false, lastCtr := if t.prot then some (fieldLE data (n - 2) 2 / 4096) else t.lastCtr }

/-- Does the RTA pair run with CAN port `port` enabled? Its firmware is loaded with the sections, and it runs from SHELF_LOAD on. -/
def State.canUp (s : State) (port : Nat) : Bool :=
  s.boot.shelfLoaded && !s.boot.recovery && s.pdOnB 11 && s.pdOnB 3 && (if port = 0 then s.tell.can0En else s.tell.can1En)

/-- Does RTA read CAN for the telltales, which it owns from the first-frame row of Table 3.1 on? -/
def State.canOn (s : State) (port : Nat) : Bool := s.canUp port && s.boot.firstFrame

/-- CAN_FRAME_RX: each matching entry for which the frame is valid takes its state; a frame that fails the checks of an entry that it matches
is discarded for that entry and counted, once for its port (R109, R110; the count is DEDUCED, log entry 27). -/
def execCanFrameRx (port : Fin 2) (ext : Bool) (id : Fin 536870912) (data : List Byte) (s : State) : Host.Outcome State Fault Refusal :=
  .next (if !s.canOn port then s
    else
      let mine := fun (t : Telltale) => decide (t.canId % 2 ^ 29 = id) && decide (bit t.canId 29 = ext)
      let ok := fun (t : Telltale) => mine t && t.frameOk port id data
      let es := s.tell.entries
      let s : State := if es.any (fun t => mine t && !ok t) then
          { s with tell := { s.tell with discarded := tset 0 s.tell.discarded port (tget 0 s.tell.discarded port + 1) } }
        else s
      { s with tell := { s.tell with entries := es.map (fun t => if ok t then t.take s.now data else t) } })

/-- TELLTALE_TIMEOUT: no valid frame of entry `i` for TIMEOUT_MS (R111). -/
def execTelltaleTimeout (i : Fin 64) (s : State) : Host.Outcome State Fault Refusal :=
  .next (if !s.boot.firstFrame
      || decide (s.now < max s.boot.firstFrameAt ((((s.tell.entries.getD i {}).history.head?).map (fun p => p.1)).getD 0) + s.tell.timeoutMs * 1000000) then s
    else { s with tell := { s.tell with entries := s.tell.entries.modify i (fun t => { t with timedOut := true }) } })

/-- The 8 bytes of the status frame (R115). -/
def State.canStatus (s : State) : List Byte :=
  let m := (List.range 48).foldl (fun a i => if (s.tell.entries.getD i {}).timedOut then a + 2 ^ i else a) 0
  leBytes 1 (s.regWord 1 0 % 256) ++ leBytes 1 (s.get F.CFG_STATUS_LAMP_ACTIVE) ++ leBytes 6 m

/-- CAN_STATUS_FRAME (R115). -/
def execCanStatusFrame (s : State) : Host.Outcome State Fault Refusal :=
  .next (if s.tell.statusPeriodMs = 0 || s.tell.sentAt.any (fun t => decide (s.now < t + s.tell.statusPeriodMs * 1000000)) then s
    else
      let ps := (List.range 2).filter (fun p => s.canUp p && bit s.tell.statusId (30 + p))
      { s with tell := { s.tell with sentAt := some s.now, sent := s.tell.sent ++ ps.map (fun p => (p, s.tell.statusId % 2 ^ 30, s.canStatus)) } })

/-- LAMP_TEST_END: 2 s after L (R113). -/
def execLampTestEnd (s : State) : Host.Outcome State Fault Refusal :=
  .next (if s.tell.lampFrom.any (fun l => decide (l + 2000000000 ≤ s.now)) then s.put F.CFG_STATUS_LAMP_ACTIVE 0 0 else s)

/-! ### The wake from HOLD (R634) -/

/-- The image copy in use. -/
def State.copyUsed (s : State) : ImageCopy := parseImage (if s.get F.CFG_STATUS_COPY = 2 then s.flashB else s.flashA)

/-- Section of a type in the copy in use. -/
def State.secUsed (s : State) (t : Nat) : Section := s.copyUsed.sections.getD ((s.copyUsed.find t).getD 48) {}

/-- The checks of a wake from HOLD (R634): the header of the copy in use, its BUILD_ID, and the digests of FW_CAB and FW_APP. -/
def State.holdChecks (s : State) (hdr : HdrCheck) (cab app : SecCheck) : Bool :=
  let key := s.fuses.decryptKeySet
  s.headerOk s.copyUsed hdr = 0 && s.copyUsed.buildId = s.boot.buildId && (s.secUsed 0x12).integrity key cab = 0
    && (s.secUsed 0x13).integrity key app = 0

/-- The firmware of a wake from HOLD goes back to where the start put it (R634; log entry 24). -/
def State.holdReload (s : State) : State :=
  let key := s.fuses.decryptKeySet
  (s.writeBytes (s.get F.CAB_RGN_BASE_BASE 0 * 65536) ((s.secUsed 0x12).plain key)).writeBytes s.boot.appBase ((s.secUsed 0x13).plain key)

/-- RESUME_PHASE_END: DRAM retrained in both directions after PARK (R510), `eyes` being the windows found per channel, or trained by the fast
path after HOLD, `train` being what that found; the checks of R634 after HOLD (a failure takes a MOD reset); cores restart (R585), units
under test return, and what the released pads allow starts (R633); STATE reads the target. -/
def execResumePhaseEnd (hdr : HdrCheck) (cab app : SecCheck) (eyes : List (ChanId × List Eye × List Eye)) (train : List ChanTrain) (s : State) :
    Host.Outcome State Fault Refusal :=
  .next (match s.pm.inProgress with
    | none => s
    | some r =>
      if s.get F.PWR_STATUS_PHASE ≠ 6 then s
      else
        let was := s.pwrState
        let on := pdsOf r.target &&& ~~~(pdsOf was)
        if was = 3 && !s.holdChecks hdr cab app then
          { s.clearTransition with err := { s.err with modResetDue := true } }
        else
          let s := if was = 3 then (train.filter (fun x => !bit (s.get F.DMC_INFO_RETIRED) x.ch)).foldl State.trainChan s.holdReload
            else if was = 2 then
              eyes.foldl (fun s (e : ChanId × List Eye × List Eye) => (s.centreDelays e.1 0 e.2.1).centreDelays e.1 1 e.2.2) s
            else s
          let s := if on.getLsbD 2 then (List.range 6).foldl State.coreRestart s else s
          let s := s.unitsBack
          let s := if 2 ≤ was then
              (List.range 8).foldl (fun s p => if s.panelState p = 3 then s.modPanel p (fun q => { q with wake := true }) else s) s
            else s
          ([13, 14, 10].filter (fun d => on.getLsbD d && !bit (s.get F.PWR_PADREL_HELD) d)).foldl State.pdStart s |>.transitionDone r)

end Sys2Proof.Machine
end

