-- ==== Sys2Proof/Machine/Mailbox.lean ====
section
/-! DEFINITION. Mailbox commands that concern registers, images, the audit log and the error records (R120, R172 to R174, R327, R530, R673,
R691, R693, R741). -/

namespace Sys2Proof.Machine

/-! ### Registers (R172) -/

/-- The register that a request names by block and by the offset of its lowest byte; none for a high half, or where no register stands
(DEDUCED, log entry 28). -/
def State.namedReg (s : State) (p : Nat) : Option (Reg × Nat) :=
  let b := s.payLE p 0 4
  let off := s.payLE p 4 4
  if 0x2B < b || 0x100000 ≤ off then none
  else match regAt (0x00F000000000 + b * 0x100000 + off) with
    | some (r, i, 0) => some (r, i)
    | _ => none

/-- Does module firmware refuse a mediator's write `v` of a layer's binding (R327)? -/
def State.lownRefuse (s : State) (p h l v : Nat) : Bool :=
  let owner := bits v F.HDn_LOWN_OWNER.lo F.HDn_LOWN_OWNER.width
  let slot := bits v F.HDn_LOWN_SLOT.lo F.HDn_LOWN_SLOT.width
  let present := s.ownerOf h l
  let foreign := fun (d : Nat) => decide (d / 32 ≠ p)
  (if owner = 0x7F then false
   else decide (64 ≤ owner) || foreign owner || s.drwState owner = 0 || !bit (s.templateOf owner).headMask h
    || (decide (l < 8) && decide ((s.drwOf owner).layerSlots ≤ slot)))
    || (present ≠ 0x7F && (decide (64 ≤ present) || foreign present))

/-- Does module firmware refuse a mediator's write `v` of a touch region's owner (R530)? -/
def State.rcfgRefuse (s : State) (p r v : Nat) : Bool :=
  let owner := bits v F.TCH_RCFG_OWNER.lo F.TCH_RCFG_OWNER.width
  let slot := bits v F.TCH_RCFG_SLOT.lo F.TCH_RCFG_SLOT.width
  decide (owner < 64) && (decide (owner / 32 ≠ p) || decide ((s.templateOf owner).touchRegions ≤ slot)
    || (List.range 256).any (fun q => decide (q ≠ r) && s.get F.TCH_RCFG_OWNER q = owner && s.get F.TCH_RCFG_SLOT q = slot))

/-- The value that a write of `v` under `mask` carries: stored fields keep their bits outside the mask, bits that act are 0 there. -/
def State.maskedWord (s : State) (r : Reg) (i v mask : Nat) : Nat :=
  r.flds.foldl (fun a f =>
    let m := bits mask f.lo f.width
    let kept := match f.acc with
      | .rw | .rwl | .rwc => andNot (s.get f i) m
      | _ => 0
    a + (kept ||| (bits v f.lo f.width &&& m)) * 2 ^ f.lo) 0

/-- A response of one 8-byte value (Table 5.23). -/
def State.respondValue (s : State) (p v : Nat) : State := s.respond p 0 0 (leBytes 8 v ++ leBytes 8 0)

/-- REG_WRITE (R172): with the audit buffer full, or a waiting change of the block before it, the command waits in the mailbox (R141, R685). -/
def execRegWrite (p : PortId) (s : State) : Host.Outcome State Fault Refusal :=
  .next (s.serve p 0x0030 (fun _ =>
    let v := s.payLE p 8 8
    let mask := s.payLE p 16 8
    let o := Origin.mediator p
    match s.namedReg p with
    | none => s.respond p 3 0 []
    | some (r, i) =>
      let a := r.addrOf i
      let by_ : WriteBy := { allow := s.granted p r i, byCmd := true }
      if !r.wide && (decide (2 ^ 32 ≤ v) || decide (2 ^ 32 ≤ mask)) then s.respond p 3 0 []
      else if by_.allow &&& mask = 0 then s.respond p 5 0 []
      else
        let w := s.maskedWord r i v mask
        if (r.id = 34 && s.lownRefuse p (i / 9) (i % 9) w) || (r.id = 122 && s.rcfgRefuse p i w) then s.respond p 3 0 []
        else if s.behindHeld a || decide (64 < s.adl.buf.length + s.regEntries o r i (if r.wide then 2 ^ 64 - 1 else 2 ^ 32 - 1) w by_) then s
        else
          let own := r.ownerBlk i
          let old := if own ≠ 0 && s.cabOwned own then 0 else s.viewWord o r i
          (s.regWriteAt o r i 0 a (if r.wide then 8 else 4) w by_).respondValue p old))

/-- REG_READ: the whole register (Table 5.23). -/
def execRegRead (p : PortId) (s : State) : Host.Outcome State Fault Refusal :=
  .next (s.serve p 0x0031 (fun _ =>
    match s.namedReg p with
    | none => s.respond p 3 0 []
    | some (r, i) =>
      let a := r.addrOf i
      if s.behindHeld a then s
      else
        let x := s.regReadAt (Origin.mediator p) r i 0 a (if r.wide then 8 else 4) true
        x.1.respondValue p x.2))

/-! ### Image update (R120, R173) -/

/-- All bytes of a new image; a byte never supplied reads 0 (DESIGN CHOICE, log entry 28). -/
def PartialImage.all (x : PartialImage) : List Byte := (List.range x.len).map (fun i => tget 0 x.bytes i)

/-- Put bytes into a new image. -/
def PartialImage.put (x : PartialImage) (off : Nat) (bs : List Byte) : PartialImage :=
  { x with bytes := ((List.range bs.length).zip bs).foldl (fun m q => tset 0 m (off + q.1) q.2) x.bytes }

/-- Are image commands refused (R173)? -/
def State.imageDenied (s : State) : Bool := s.get F.CAB_LC_STATE = 4

/-- IMAGE_BEGIN: a new image with its header; an earlier partial image of the port is discarded (R173). DESIGN CHOICE (log entry 58): each
port has a partial image of its own, which IMAGE_BEGIN or a PRT reset of the other port leaves alone. -/
def execImageBegin (p : PortId) (s : State) : Host.Outcome State Fault Refusal :=
  .next (s.serve p 0x0040 (fun _ =>
    let n := s.payLE p 0 4
    if s.imageDenied then s.respond p 5 0 []
    else if 0x2000000 < n then s.respond p 3 0 []
    else
      let x : PartialImage := ({ len := n } : PartialImage).put 0 (s.reqBytes p 32 4096)
      (s.modPort p (fun w => { w with image := some x })).respond p 0 0 []))

/-- IMAGE_DATA: bytes at an offset that is a multiple of 16 and stays within the image; without IMAGE_BEGIN it answers STATE (DEDUCED, log
entry 28). -/
def execImageData (p : PortId) (s : State) : Host.Outcome State Fault Refusal :=
  .next (s.serve p 0x0041 (fun _ =>
    let off := s.payLE p 0 4
    let n := s.reqLE p 8 4 - 16
    if s.imageDenied then s.respond p 5 0 []
    else match (s.portOf p).image with
      | none => s.respond p 2 0 []
      | some x =>
        if off % 16 ≠ 0 || x.len < off + n then s.respond p 3 0 []
        else (s.modPort p (fun w => { w with image := some (x.put off (s.reqBytes p 32 n)) })).respond p 0 0 []))

/-- The update stops with the cause of Table 3.12, and the new image is gone. -/
def State.imageStops (s : State) (p cause : Nat) : State := (s.modPort p (fun w => { w with image := none })).respond p 8 cause []

/-- Replace what IMAGE_COMMIT has reached. -/
def State.imageStage (s : State) (p : Nat) (x : PartialImage) (k : Nat) : State :=
  s.modPort p (fun w => { w with image := some { x with stage := k } })

/-- IMAGE_COMMIT (R120, R173), one step for each time it comes: the new image's header, signer key and SVN are checked and the writing of
copy B begins; copy B is whole and verified, and the writing of copy A begins; copy A is whole and verified. A copy being written holds
nothing that starts. `c` is what the flash answers when the copy just written is read back. -/
def execImageCommit (p : PortId) (c : HdrCheck) (s : State) : Host.Outcome State Fault Refusal :=
  .next (s.serve p 0x0042 (fun _ =>
    if s.imageDenied then s.respond p 5 0 []
    else match (s.portOf p).image with
      | none => s.respond p 2 0 []
      | some x =>
        let y := parseImage x.all
        if x.stage = 0 then
          (if s.headerOk y {} ≠ 0 then s.imageStops p (s.headerOk y {}) else { s.imageStage p x 1 with flashB := [] })
        else if x.stage = 1 then
          (let s := { s with flashB := x.all }
           if s.verifyCopy y c ≠ 0 then s.imageStops p (s.verifyCopy y c) else { s.imageStage p x 2 with flashA := [] })
        else
          (let s := { s with flashA := x.all }
           if s.verifyCopy y c ≠ 0 then s.imageStops p (s.verifyCopy y c)
           else (s.modPort p (fun w => { w with image := none })).respond p 0 0 [])))

/-! ### Audit log and errors (R673, R691, R693) -/

/-- Entries from a position on, at most `n`. -/
def State.auditFrom (s : State) (pos n : Nat) : List AuditEntry := (s.auditHeld.dropWhile (fun e => decide (e.pos < pos))).take n

/-- Sealed blocks wholly among some entries, each with the block before it. -/
def State.sealsAmong (s : State) (es : List AuditEntry) : List (Option Block × Block) :=
  (withPrev none s.nv.ring).filter (fun b => b.2.sealRec.isSome && !b.2.entries.isEmpty && b.2.entries.all (fun e => es.contains e))

/-- AUDIT_READ (R691): entries, then seals; DETAIL counts them, and says whether the position is no longer held. The read mark advances
to the entry after the last one returned (R693). -/
def execAuditRead (p : PortId) (s : State) : Host.Outcome State Fault Refusal :=
  .next (s.serve p 0x0050 (fun _ =>
    let pos := s.payLE p 0 8 % 2 ^ 48
    let n := s.payLE p 8 4
    if n = 0 || 4096 < n then s.respond p 3 0 []
    else
      let es := s.auditFrom pos n
      let bs := s.sealsAmong es
      let gone := (s.auditHeld.head?).any (fun e => decide (pos < e.pos))
      let out := es.flatMap AuditEntry.bytes ++ bs.flatMap (sealBytes s.adl.handle)
      let s := s.respond p 0 (es.length + bs.length * 2 ^ 13 + b2n gone * 2 ^ 31) out
      match es.getLast? with
      | none => s
      | some e => s.markTo e.start ((e.seq + 1) % 2 ^ 32)))

/-- ERROR_READ (R673): the Drawer error log of the port, whose entries leave it, or the records of a domain without acknowledging them. -/
def execErrorRead (p : PortId) (s : State) : Host.Outcome State Fault Refusal :=
  .next (s.serve p 0x0051 (fun _ =>
    let d := s.payLE p 0 4
    let n := s.payLE p 4 4
    if n = 0 || 64 < n then s.respond p 3 0 []
    else if d = 0xFF then
      let l := tget [] s.err.drawerLog p
      let lost := tget 0 s.err.drawerLogDropped p
      let t : State := { s with err := { s.err with drawerLog := tset [] s.err.drawerLog p (l.drop n),
                                                    drawerLogDropped := tset 0 s.err.drawerLogDropped p 0 } }
      t.respond p 0 lost ((l.take n).flatMap ErrRec.bytes)
    else if 1 ≤ d && d ≤ 0x2B && !s.cabOwned d then s.respond p 0 0 (((s.errq d).recs.take n).flatMap ErrRec.bytes)
    else s.respond p 3 0 []))

end Sys2Proof.Machine
end

