-- ==== Sys2Proof/Machine/PlkRx.lean ====
section
/-! DEFINITION. PlynLink's receiving side: flits, the delivery and forwarding of messages, the exporter's side of remote accesses, and
management messages (R446 to R451, R458, R466 to R472, R483). -/

namespace Sys2Proof.Machine

/-- An IDLE flit with the acknowledgement of port `p`. -/
def State.idleFlit (s : State) (p : Nat) : Flit := { ack := ((s.pport p).rxNext + 4095) % 4096, ackValid := true }

/-! ### Delivery -/

/-- HELLO: who the neighbour is (Table 13.4). -/
def State.helloIn (s : State) (p : Nat) (m : Msg) : State :=
  (s.put F.PLK_PORT_STATUS_PEER_ID p (fieldLE m.data 0 2 % 2 ^ 14)).put F.PLK_PORT_STATUS_PEER_PORT p
    (fieldLE m.data 2 1 % 2 ^ F.PLK_PORT_STATUS_PEER_PORT.width)

/-- LEAVE: the link goes down and the port trains again unless it is disabled (R448). -/
def State.leaveIn (s : State) (p : Nat) : State := (s.plkDown p 1).plkTrain p

/-- A remote request at the exporter (R466, R468, R472): the session must be the peer's own and still stand (CLOSED), with the right
asked for (DENIED), within the mapped size (RANGE), granted by the checkers (REGION) and of sound data (DATA). The RESULT, the window
and the device address. -/
def State.remoteCheck (s : State) (m : Msg) (write : Bool) (n : Nat) : Nat × Nat :=
  let off := bits m.arg 0 36
  match s.plk.sessions.find? (fun x => x.id = bits m.arg 36 16 && x.peer = m.src) with
  | none => (2, 0)
  | some x =>
    let size := min ((s.get F.PLK_WIN_CTRL_SIZE_M1 x.win + 1) * 65536) (2 ^ 36)
    let a := s.get F.PLK_WIN_BASE_BASE x.win * 65536 + off
    if !(if write then x.write else x.read) then (1, a)
    else if off % 16 ≠ 0 || size < off + n then (3, a)
    else if s.spanCheck { kind := .peer, peer := m.src } write a n ≠ 0 then (4, a)
    else if (if write then s.partPoisoned a n else s.poisoned a n) then (7, a)
    else (0, a)

/-- The answer of a write. -/
def State.wrAck (s : State) (m : Msg) (r : Nat) : State := s.sendTo { type := 0x18, dest := m.src, arg := bits m.arg 52 12 + r * 2 ^ 12 }

/-- WR and WR_PART at the exporter: `mask` selects the bytes of `bs` that are written (R466, R471). A refusal by the checkers is recorded
as any access error is (R126). -/
def State.wrIn (s : State) (m : Msg) (bs : List Byte) (mask : Nat) : State :=
  let o : Origin := { kind := .peer, peer := m.src }
  let c := s.remoteCheck m true bs.length
  if c.1 = 4 then (s.accessError o 0x1C (s.spanCheck o true c.2 bs.length) c.2).wrAck m 4
  else if c.1 ≠ 0 then s.wrAck m c.1
  else if !s.admits c.2 bs.length then s.stall (.peer m)
  else
    let old := s.readBytes c.2 bs.length
    (s.memStore o 0x1C c.2 ((List.range bs.length).map (fun i => if bit mask i then bs.getD i 0 else old.getD i 0))).wrAck m 0

/-- RD_REQ at the exporter. -/
def State.rdIn (s : State) (m : Msg) : State :=
  let o : Origin := { kind := .peer, peer := m.src }
  let n := 16 * min 14 m.aux
  let c := s.remoteCheck m false n
  let rsp := fun (s : State) (r : Nat) (bs : List Byte) =>
    s.sendTo { type := 0x19, dlen := bs.length / 16, dest := m.src, arg := bits m.arg 52 12 + r * 2 ^ 12, data := bs }
  if c.1 = 4 then rsp (s.accessError o 0x1C (s.spanCheck o false c.2 n) c.2) 4 []
  else if c.1 ≠ 0 then rsp s c.1 []
  else if !s.admits c.2 n then s.stall (.peer m)
  else
    let r := s.memFetch o 0x1C c.2 n
    rsp r.1 0 r.2

/-- A peer's access: WR, WR_PART or RD_REQ. -/
def State.peerAccess (s : State) (m : Msg) : State :=
  if m.type = 0x11 then s.rdIn m else if m.type = 0x13 then s.wrIn m (m.data.take 16) (fieldLE m.data 16 2) else s.wrIn m m.data (2 ^ 256 - 1)

/-- MGMT: into the queue of its world, or answered queue full (Table 13.6). -/
def State.mgmtIn (s : State) (m : Msg) : State :=
  let w := m.arg % 2
  let q := tget [] s.plk.mgmt w
  let ack := fun (s : State) (r : Nat) => s.sendTo { type := 0x31, dest := m.src, arg := r }
  if 16 ≤ q.length then ack s 1
  else ack ((s.modPlk (fun k => { k with mgmt := tset [] k.mgmt w (q ++ [m]) })).icuLine (45 + w) true) 0

/-- MGMT_ACK: the oldest message sent to that module is done, or is sent again where its queue was full. -/
def State.mgmtAckIn (s : State) (m : Msg) : State :=
  match s.plk.mgmtSent.find? (fun x => x.dest = m.src) with
  | none => s
  | some x => if bit m.arg 0 then s.sendTo x else s.modPlk (fun k => { k with mgmtSent := dropMsg x k.mgmtSent })

/-- A message for this module, or LOCAL, that came on port `p` (Table 13.4). -/
def State.plkDeliver (s : State) (p : Nat) (m : Msg) : State :=
  match m.type with
  | 0x01 => s.helloIn p m
  | 0x02 => s.routeIn p m
  | 0x03 => s.leaveIn p
  | 0x08 => s.syncReq p m
  | 0x09 => s.syncRsp p m
  | 0x10 => s.peerAccess m
  | 0x11 => s.peerAccess m
  | 0x12 => s.openReq m
  | 0x13 => s.peerAccess m
  | 0x18 => s.remoteRsp m true
  | 0x19 => s.remoteRsp m false
  | 0x1A => s.openRsp m
  | 0x20 => s.subscribeReq m
  | 0x21 => s.tileIn m
  | 0x22 => s.genEnd m
  | 0x23 => s.genAck m
  | 0x24 => s.genCommitIn m
  | 0x25 => s.subAck m
  | 0x28 => s.touchIn m
  | 0x29 => s.audioIn m
  | 0x30 => s.mgmtIn m
  | 0x31 => s.mgmtAckIn m
  | _ => s.plkDrop

/-- A message without a route: a class-3 request is answered UNREACHABLE, anything else dropped and counted (R458). MGMT_ACK holds no such
answer, so MGMT is dropped (DEDUCED, log entry 29). -/
def State.noRoute (s : State) (m : Msg) : State :=
  let tag := bits m.arg 52 12
  if m.type = 0x10 || m.type = 0x13 then s.sendTo { type := 0x18, dest := m.src, arg := tag + 5 * 2 ^ 12 }
  else if m.type = 0x11 then s.sendTo { type := 0x19, dest := m.src, arg := tag + 5 * 2 ^ 12 }
  else if m.type = 0x12 then s.sendTo { type := 0x1A, dest := m.src, arg := 5 * 2 ^ 16 }
  else s.plkDrop

/-- Forward a message (R458). -/
def State.forward (s : State) (m : Msg) : State :=
  if 63 ≤ m.hops + 1 then s.plkDrop
  else if s.reachable m.dest then s.sendOn (s.route m.dest).port { m with hops := m.hops + 1 }
  else s.noRoute m

/-- Is a message for this module? -/
def State.isMine (s : State) (m : Msg) : Bool := m.toLocal || m.dest = s.ownId

/-- Credit of a message taken out of the receive buffer returns to the neighbour in an IDLE flit; that of a TILE is withheld while its
import's STAGE is full (R450, R477). -/
def State.creditBack (s : State) (p c : Nat) (m : Msg) : State :=
  let full := m.type = 0x21 && s.isMine m && ((s.impOf m).map s.stageFull).getD false
  if full then s.modPport p (fun r => { r with heldCredit := r.heldCredit + m.units })
  else s.flitOut p { s.idleFlit p with crClass := c, crCount := m.units }

/-- A message that a flit brought on port `p`: its credit returns, and it is delivered, forwarded or dropped (R450, R451, R458). -/
def State.plkArrive (s : State) (p : Nat) (m : Msg) : State :=
  if !s.plkUp p then s
  else match msgClass m.type with
    | none => s.plkDrop
    | some c =>
      let s := s.creditBack p c m
      if s.isMine m then s.plkDeliver p m else s.forward m

/-! ### Flits (R446 to R448) -/

/-- One NAK for each replay, with ACK the last flit accepted. -/
def State.sendNak (s : State) (p : Nat) : State :=
  if (s.pport p).nakOut then s
  else (s.modPport p (fun r => { r with nakOut := true })).flitOut p { s.idleFlit p with nak := true }

/-- Send the flits that are not acknowledged again, in order. -/
def State.resend (s : State) (p : Nat) : State :=
  (s.pport p).unacked.foldl (fun s (u : Nat × List Msg) => s.flitOut p { s.idleFlit p with kind := 1, seq := u.1, msgs := u.2 })
    (s.incSat F.PLK_PORT_CNT_REPLAYS p)

/-- Acknowledgement, NAK and credit of a flit; 16 NAKs in a row of one SEQ take the link down (R447, R448). -/
def State.ackIn (s : State) (p : Nat) (f : Flit) : State :=
  let r := s.pport p
  let n := match r.unacked with
    | [] => 0
    | u :: _ => (f.ack + 1 + 4096 - u.1) % 4096
  let s := if (f.ackValid || f.nak) && decide (n ≤ r.unacked.length) then s.modPport p (fun r => { r with unacked := r.unacked.drop n }) else s
  let s := if 0 < f.crCount && f.crClass < 6 then
      s.modPport p (fun r => { r with credit := tset 0 r.credit f.crClass (tget 0 r.credit f.crClass + f.crCount) })
    else s
  if !f.nak then s.pump p (s.pport p).waiting.length
  else
    let q := (f.ack + 1) % 4096
    let run := if r.nakSeq = q then r.nakRun + 1 else 1
    if 16 ≤ run then (s.plkDown p 1).plkTrain p
    else
      let s := (s.modPport p (fun r => { r with nakSeq := q, nakRun := run })).resend p
      s.pump p (s.pport p).waiting.length

/-- A flit arrives on port `p`; `corr`: its codeword was corrected, `uncorr`: it could not be. -/
def State.flitIn (s : State) (p : Nat) (corr uncorr : Bool) (b : List Byte) : State :=
  if !s.plkUp p then s
  else
    let s := if corr then (s.incSat F.PLK_PORT_CNT_CW_CORR p).pmuEvent 0x1C 4 p 1 none true else s
    let run := if uncorr then (s.pport p).uncRun + 1 else 0
    let s := s.modPport p (fun r => { r with uncRun := run })
    if uncorr then
      let s := s.incSat F.PLK_PORT_CNT_CW_UNCORR p
      if 8 ≤ run then (s.plkDown p 1).plkTrain p else s.sendNak p
    else if !flitCrcOk b then s.sendNak p
    else
      let f := Flit.parse b
      if 2 ≤ f.kind then s
      else
        let s := s.ackIn p f
        if !s.plkUp p || f.kind = 0 then s
        else if f.seq ≠ (s.pport p).rxNext then s.sendNak p
        else
          let s := s.modPport p (fun r => { r with rxNext := (r.rxNext + 1) % 4096, nakOut := false })
          let s := (s.pmuEvent 0x1C 2 p 1 none true)
          let s := s.flitOut p (s.idleFlit p)
          f.msgs.foldl (fun s m => s.plkArrive p m) s

/-- FLIT_RECEIVE (R447). -/
def execFlitReceive (p : PlkPort) (corr uncorr : Bool) (b : List Byte) (s : State) : Host.Outcome State Fault Refusal :=
  .next (s.flitIn p corr uncorr b)

/-! ### One command for each message type: the message arrives on port `p` -/

/-- A message of type `t` arrives on port `p`. -/
def State.arriveAs (s : State) (t p : Nat) (m : Msg) : State := s.plkArrive p { m with type := t }

/-- HELLO (R451). -/
def execHello (p : PlkPort) (m : Msg) (s : State) : Host.Outcome State Fault Refusal := .next (s.arriveAs 0x01 p m)
/-- ROUTE (R454 to R456). -/
def execRoute (p : PlkPort) (m : Msg) (s : State) : Host.Outcome State Fault Refusal := .next (s.arriveAs 0x02 p m)
/-- LEAVE (R448). -/
def execLeave (p : PlkPort) (m : Msg) (s : State) : Host.Outcome State Fault Refusal := .next (s.arriveAs 0x03 p m)
/-- SYNC_REQ (R461). -/
def execSyncReq (p : PlkPort) (m : Msg) (s : State) : Host.Outcome State Fault Refusal := .next (s.arriveAs 0x08 p m)
/-- SYNC_RSP (R461 to R463). -/
def execSyncRsp (p : PlkPort) (m : Msg) (s : State) : Host.Outcome State Fault Refusal := .next (s.arriveAs 0x09 p m)
/-- WR (R466, R471). -/
def execWr (p : PlkPort) (m : Msg) (s : State) : Host.Outcome State Fault Refusal := .next (s.arriveAs 0x10 p m)
/-- WR_PART (R451). -/
def execWrPart (p : PlkPort) (m : Msg) (s : State) : Host.Outcome State Fault Refusal := .next (s.arriveAs 0x13 p m)
/-- RD_REQ (R451, R466). -/
def execRdReq (p : PlkPort) (m : Msg) (s : State) : Host.Outcome State Fault Refusal := .next (s.arriveAs 0x11 p m)
/-- OPEN (R468). -/
def execOpen (p : PlkPort) (m : Msg) (s : State) : Host.Outcome State Fault Refusal := .next (s.arriveAs 0x12 p m)
/-- WR_ACK (R470, R471). -/
def execWrAck (p : PlkPort) (m : Msg) (s : State) : Host.Outcome State Fault Refusal := .next (s.arriveAs 0x18 p m)
/-- RD_DATA (R470). -/
def execRdData (p : PlkPort) (m : Msg) (s : State) : Host.Outcome State Fault Refusal := .next (s.arriveAs 0x19 p m)
/-- OPEN_RSP (R468). -/
def execOpenRsp (p : PlkPort) (m : Msg) (s : State) : Host.Outcome State Fault Refusal := .next (s.arriveAs 0x1A p m)
/-- SUBSCRIBE (R482). -/
def execSubscribe (p : PlkPort) (m : Msg) (s : State) : Host.Outcome State Fault Refusal := .next (s.arriveAs 0x20 p m)
/-- SUB_ACK (R482). -/
def execSubAck (p : PlkPort) (m : Msg) (s : State) : Host.Outcome State Fault Refusal := .next (s.arriveAs 0x25 p m)
/-- TILE (R477). -/
def execTile (p : PlkPort) (m : Msg) (s : State) : Host.Outcome State Fault Refusal := .next (s.arriveAs 0x21 p m)
/-- GEN_END (R477). -/
def execGenEnd (p : PlkPort) (m : Msg) (s : State) : Host.Outcome State Fault Refusal := .next (s.arriveAs 0x22 p m)
/-- GEN_ACK (R476). -/
def execGenAck (p : PlkPort) (m : Msg) (s : State) : Host.Outcome State Fault Refusal := .next (s.arriveAs 0x23 p m)
/-- GEN_COMMIT (R478). -/
def execGenCommit (p : PlkPort) (m : Msg) (s : State) : Host.Outcome State Fault Refusal := .next (s.arriveAs 0x24 p m)
/-- TOUCH (R529). -/
def execTouch (p : PlkPort) (m : Msg) (s : State) : Host.Outcome State Fault Refusal := .next (s.arriveAs 0x28 p m)
/-- AUDIO_MESSAGE (R578). -/
def execAudioMessage (p : PlkPort) (m : Msg) (s : State) : Host.Outcome State Fault Refusal := .next (s.arriveAs 0x29 p m)
/-- MGMT_ACK (R483). -/
def execMgmtAck (p : PlkPort) (m : Msg) (s : State) : Host.Outcome State Fault Refusal := .next (s.arriveAs 0x31 p m)

/-- Module firmware sends a management message of 1 to 14 granules (Table 13.4). -/
def State.mgmtSend (s : State) (cab : Bool) (dest tag : Nat) (data : List Byte) : State :=
  let n := (data.length + 15) / 16
  if n = 0 || 14 < n then s
  else
    let m : Msg := { type := 0x30, dlen := n, dest := dest, src := s.ownId, arg := b2n cab + tag * 2 ^ 8, data := data }
    (s.modPlk (fun k => { k with mgmtSent := k.mgmtSent ++ [m] })).sendTo m

/-- Firmware takes the oldest message of its world's queue. -/
def State.mgmtTake (s : State) (cab : Bool) : State :=
  let w := b2n cab
  let q := (tget [] s.plk.mgmt w).drop 1
  (s.modPlk (fun k => { k with mgmt := tset [] k.mgmt w q })).icuLine (45 + w) (!q.isEmpty)

/-- MGMT (R483). -/
def execMgmt (x : MgmtEvent) (s : State) : Host.Outcome State Fault Refusal :=
  .next (match x with
    | .arrive p m => s.arriveAs 0x30 p m
    | .send cab dest tag data => s.mgmtSend cab dest tag data
    | .take cab => s.mgmtTake cab)

/-! ### The end of a pause (R507 to R509) -/

/-- A request that waited for the FIFO of a paused channel is made. -/
def State.admitStalled (s : State) (x : Stalled) : State :=
  match x with
  | .access o blk a n data => s.busAccess o blk a n data
  | .bar x => s.bar2 x
  | .peer m => s.peerAccess m

/-- RETRAIN_PAUSE_END (R507 to R509, Table 14.6): the sweep ends, the delays are set and the channel resumes, its FIFO
drains and the requests that waited are made in their order (R508); Hutch source 11. -/
def execRetrainPauseEnd (eyes : List Eye) (lengthNs : Nat) (s : State) : Host.Outcome State Fault Refusal :=
  .next (match s.dmc.retrain with
    | none => s
    | some r =>
      if !r.paused then s
      else
        let s := (s.centreDelays r.ch r.dir eyes).put F.DMC_RT_STATUS_ACTIVE 0 0
        let s := s.maxTo F.DMC_RT_STATUS_MAX_PAUSE 0 (min 65535 (lengthNs / 10))
        let s := s.modDmc (fun m => { m with nextDir := tset 0 m.nextDir r.ch (1 - r.dir), skips := terase m.skips r.ch })
        let s := s.retrainNext.hutchRaise 11
        s.stalled.foldl State.admitStalled { s with stalled := [], dmc := { s.dmc with fifo := 0 } })

end Sys2Proof.Machine
end

