-- ==== Sys2Proof/Machine/Recovery.lean ====
section
/-! DEFINITION. Island reset during error recovery (R667 to R671). -/

namespace Sys2Proof.Machine

/-- Replay the work that Bench group `g` holds, for Drawers and for the CX contexts (Table 6.13). -/
def State.replayGroup (s : State) (g : Nat) : State :=
  let b := s.bgOf g
  let s := (b.holds ++ b.resumeFirst).eraseDups.foldl (fun s (h : Hold) =>
    match s.cmd? h.ctx h.q h.seq with
    | none => s
    | some c => s.replay h.ctx c (8 + g)) s
  s.modBg g (fun _ => {})

/-- Replay or end every running command of a context whose opcode runs on an engine that `which` picks: 0 GPU, 1 copy, 2 COMPOSE,
3 audio (R668 step 2, Table 6.13). -/
def State.replayEngines (s : State) (which : Nat → Bool) : State :=
  (List.range 66).foldl (fun s d => (s.cmds d).foldl (fun s c =>
    match engineOf c.opcode with
    | none => s
    | some e => if which e then s.replay d c (engineBlk c.opcode) else s) s) s

/-- Commands dispatched to a unit are replayed or ended (R668 step 2); what else its loss ends (Table 21.4, R731). -/
def State.unitWork (s : State) (u : ResetUnit) : State :=
  let s := s.squashTests (fun (j : TestJob) => decide (j.op < 3) && u.covers
    (if j.cls = 0 then 8 + j.index else if j.cls = 1 then 0x10 + j.index else if j.cls = 2 then 0x1C else if j.cls = 3 then 0x1D else 0x1E))
  match u with
  | .bg g => s.replayGroup g
  | .gpuIsland => s.replayEngines (fun e => e ≠ 3)
  | .perIsland => (s.replayEngines (fun e => e = 3)).voicesStop
  | .coreIsland => (List.range 2).foldl (fun s p =>
      if (s.portOf p).job.any (fun j => j.rsp.isNone) then s.respond p 6 0 [] else s) s
  | .hostIsland => (s.prtReset 0).prtReset 1
  | .plkIsland => (List.range 4).foldl (fun s p => if s.get F.PLK_PORT_STATUS_STATE p = 5 then s else s.plkDown p 0) s
  | .tchIsland => (List.range 8).foldl State.cancelTouches s
  | .head h => (List.range 9).foldl (fun s l => s.unbind h l) s
  | .witIsland => (List.range 8).foldl (fun s h => (List.range 9).foldl (fun s l => s.unbind h l) s) s
  | .rtPair _ => s

/-- Steps 1 to 4 of R668: isolation, the work, the ISL reset and the shadows. FORCE of the Witness survives (R412). -/
def State.unitReset (s : State) (u : ResetUnit) (esc : Bool) : State :=
  let pd := u.pd
  let ran := (List.range 8).filter (fun h => u.covers (0x10 + h) && s.on F.HDn_CTRL_RUN h)
  let force := (List.range 8).map (fun h => (h, s.get F.WIT_HCTRL_FORCE h))
  let s := s.unitWork u
  let s := ((s.incSat F.FAB_ERR_ISL_RESETS pd).putB F.FAB_ERR_ISL_LAST_ESC pd esc).put F.FAB_ERR_ISL_IN_PROGRESS pd 1
  let s : State := { s with err := { s.err with
      resetTimes := s.err.resetTimes.filter (fun (x : Nat × Nat) => decide (s.now < x.2 + s.err.windowMs * 1000000)) ++ [(pd, s.now)],
      running := s.err.running ++ [u], headsRan := s.err.headsRan.filter (fun h => !u.covers (0x10 + h)) ++ ran } }
  let s := s.islandReset (fun b => b ≠ 0 && u.covers b)
  force.foldl (fun s (x : Nat × Nat) => s.put F.WIT_HCTRL_FORCE x.1 x.2) s

/-- ISLAND_RESET: the reset called for of unit `u` begins (R667, R668). The RESET_LIMIT-th within the window is not made: a Bench group is
retired, any other island is handled as MODULE (R670). Past the point of no return of an entry, and while its domain is off, it waits (R671). -/
def execIslandReset (u : ResetUnit) (s : State) : Host.Outcome State Fault Refusal :=
  .next (match s.err.due.find? (fun (r : ResetDue) => r.unit = u) with
    | none => s
    | some r =>
      if s.get F.PWR_STATUS_PHASE = 2 || s.get F.PWR_STATUS_PHASE = 3 || !s.pdOnB u.pd then s
      else
        let s : State := { s with err := { s.err with due := s.err.due.filter (fun (x : ResetDue) => decide (x.unit ≠ u)) } }
        if s.overLimit u then
          match u with
          | .bg g => (s.unitWork u).setBg g 3
          | _ => s.moduleAction r.domain r.code
        else s.unitReset u r.esc)

/-- Step 5 of R668 and the column Effect of Table 21.4: the unit returns to service. -/
def State.unitBack (s : State) (u : ResetUnit) : State :=
  match u with
  | .bg _ => s
  | .rtPair n => s.coreRestart (4 + n)
  | .head h => if s.err.headsRan.contains h then (s.panelRaise h).headStart h true else s
  | .witIsland => (List.range 8).foldl (fun s h =>
      if s.err.headsRan.contains h && s.get F.HDn_STATUS_STATE h = 0 then (s.panelRaise h).headStart h true else s) s
  | .gpuIsland => s.clockActions
  | .coreIsland => (List.range 4).foldl State.coreRestart s
  | .perIsland => s
  | .hostIsland => s
  | .plkIsland => (List.range 4).foldl (fun s p => if s.get F.PLK_PORT_STATUS_STATE p = 5 then s else s.plkTrain p) s
  | .tchIsland => (List.range 8).foldl (fun s p => if s.get F.TCH_PNL_CFG_MODE p = 0 then s else s.panelStart p) s

/-- ISLAND_RESET_DONE (R667, R668 step 5). -/
def execIslandResetDone (u : ResetUnit) (s : State) : Host.Outcome State Fault Refusal :=
  .next (if !s.err.running.contains u then s
    else
      let s : State := { s with err := { s.err with running := s.err.running.filter (fun x => decide (x ≠ u)) } }
      let s := (s.putB F.FAB_ERR_ISL_IN_PROGRESS u.pd (s.err.running.any (fun x => x.pd = u.pd))).unitBack u
      { s with err := { s.err with headsRan := s.err.headsRan.filter (fun h => !u.covers (0x10 + h)) } })

end Sys2Proof.Machine
end

