-- ==== Sys2Proof/Machine/Dispatch.lean ====
section
/-! DEFINITION. The meaning of each command: one arm per constructor. -/

namespace Sys2Proof.Machine

def exec (i : Instr) (s : State) : Host.Outcome State Fault Refusal :=
  match i with
  | .supervisorPowerUp mv => Sys2Proof.Machine.execSupervisorPowerUp mv s
  | .prechargeAbort inputLost => Sys2Proof.Machine.execPrechargeAbort inputLost s
  | .mainSwitchClose => Sys2Proof.Machine.execMainSwitchClose s
  | .inputQualified => Sys2Proof.Machine.execInputQualified s
  | .supervisorArm => Sys2Proof.Machine.execSupervisorArm s
  | .startEvent => Sys2Proof.Machine.execStartEvent s
  | .romEntry slot => Sys2Proof.Machine.execRomEntry slot s
  | .signatureVerdict c => Sys2Proof.Machine.execSignatureVerdict c s
  | .sectionLoad cs => Sys2Proof.Machine.execSectionLoad cs s
  | .repairApply => Sys2Proof.Machine.execRepairApply s
  | .openingTest fails coverage durationUs => Sys2Proof.Machine.execOpeningTest fails coverage durationUs s
  | .dramTraining xs => Sys2Proof.Machine.execDramTraining xs s
  | .shelfLoad cab shelf cabUnit => Sys2Proof.Machine.execShelfLoad cab shelf cabUnit s
  | .linkStart h sink => Sys2Proof.Machine.execLinkStart h sink s
  | .extendedTest fails ports coverage slice durationUs => Sys2Proof.Machine.execExtendedTest fails ports coverage slice durationUs s
  | .plynlinkStart app appBase => Sys2Proof.Machine.execPlynlinkStart app appBase s
  | .commit => Sys2Proof.Machine.execCommit s
  | .recoveryStart => Sys2Proof.Machine.execRecoveryStart s
  | .orderlyShutdown x => Sys2Proof.Machine.execOrderlyShutdown x s
  | .emergencyTrigger t => Sys2Proof.Machine.execEmergencyTrigger t s
  | .emergencyRecord => Sys2Proof.Machine.execEmergencyRecord s
  | .wakeNPulse => Sys2Proof.Machine.execWakeNPulse s
  | .ppsInEdge => Sys2Proof.Machine.execPpsInEdge s
  | .ppsTimeout => Sys2Proof.Machine.execPpsTimeout s
  | .ppsOutPulse => Sys2Proof.Machine.execPpsOutPulse s
  | .supplySample mv => Sys2Proof.Machine.execSupplySample mv s
  | .throttleEval plate die => Sys2Proof.Machine.execThrottleEval plate die s
  | .throttleDrop => Sys2Proof.Machine.execThrottleDrop s
  | .hapticShort c => Sys2Proof.Machine.execHapticShort c s
  | .canFrameRx port ext id data => Sys2Proof.Machine.execCanFrameRx port ext id data s
  | .telltaleTimeout k => Sys2Proof.Machine.execTelltaleTimeout k s
  | .canStatusFrame => Sys2Proof.Machine.execCanStatusFrame s
  | .lampTestEnd => Sys2Proof.Machine.execLampTestEnd s
  | .registerWrite o a n v => Sys2Proof.Machine.execRegisterWrite o a n v s
  | .auditEntry => Sys2Proof.Machine.execAuditEntry s
  | .memoryAccess o blk a n data => Sys2Proof.Machine.execMemoryAccess o blk a n data s
  | .hostBarAccess x => Sys2Proof.Machine.execHostBarAccess x s
  | .prtReset p cause => Sys2Proof.Machine.execPrtReset p cause s
  | .vfDisable p => Sys2Proof.Machine.execVfDisable p s
  | .vfFlr d => Sys2Proof.Machine.execVfFlr d s
  | .d3hotEntry p f m => Sys2Proof.Machine.execD3hotEntry p f m s
  | .d0Return p f m => Sys2Proof.Machine.execD0Return p f m s
  | .msixUnmask p f v => Sys2Proof.Machine.execMsixUnmask p f v s
  | .moderationTimer d v => Sys2Proof.Machine.execModerationTimer d v s
  | .query p => Sys2Proof.Machine.execQuery p s
  | .listTemplates p => Sys2Proof.Machine.execListTemplates p s
  | .drawerInfo p => Sys2Proof.Machine.execDrawerInfo p s
  | .eventRead p => Sys2Proof.Machine.execEventRead p s
  | .create p => Sys2Proof.Machine.execCreate p s
  | .resize p => Sys2Proof.Machine.execResize p s
  | .setShare p => Sys2Proof.Machine.execSetShare p s
  | .grantWait p => Sys2Proof.Machine.execGrantWait p s
  | .reset p => Sys2Proof.Machine.execReset p s
  | .destroy p => Sys2Proof.Machine.execDestroy p s
  | .save p => Sys2Proof.Machine.execSave p s
  | .restore p => Sys2Proof.Machine.execRestore p s
  | .resume p => Sys2Proof.Machine.execResume p s
  | .quiesce p => Sys2Proof.Machine.execQuiesce p s
  | .drawerQuiesced d => Sys2Proof.Machine.execDrawerQuiesced d s
  | .quiesceTimeout d => Sys2Proof.Machine.execQuiesceTimeout d s
  | .dirtyStart p => Sys2Proof.Machine.execDirtyStart p s
  | .dirtySwap p => Sys2Proof.Machine.execDirtySwap p s
  | .dirtyStop p => Sys2Proof.Machine.execDirtyStop p s
  | .heapExport p => Sys2Proof.Machine.execHeapExport p s
  | .heapImport p data => Sys2Proof.Machine.execHeapImport p data s
  | .regWrite p => Sys2Proof.Machine.execRegWrite p s
  | .regRead p => Sys2Proof.Machine.execRegRead p s
  | .imageBegin p => Sys2Proof.Machine.execImageBegin p s
  | .imageData p => Sys2Proof.Machine.execImageData p s
  | .imageCommit p c => Sys2Proof.Machine.execImageCommit p c s
  | .auditRead p => Sys2Proof.Machine.execAuditRead p s
  | .errorRead p => Sys2Proof.Machine.execErrorRead p s
  | .mailboxResponse p => Sys2Proof.Machine.execMailboxResponse p s
  | .doorbell d q value => Sys2Proof.Machine.execDoorbell d q value s
  | .completionDoorbell d q value => Sys2Proof.Machine.execCompletionDoorbell d q value s
  | .queueEnable d q engine vector => Sys2Proof.Machine.execQueueEnable d q engine vector s
  | .queueDisable d q => Sys2Proof.Machine.execQueueDisable d q s
  | .commandFetch d q entry => Sys2Proof.Machine.execCommandFetch d q entry s
  | .hostReadError d q seq how => Sys2Proof.Machine.execHostReadError d q seq how s
  | .nop d q seq => Sys2Proof.Machine.execNop d q seq s
  | .copy d q seq => Sys2Proof.Machine.execCopy d q seq s
  | .fill d q seq => Sys2Proof.Machine.execFill d q seq s
  | .pass d q seq binds fieldsOk prims stalls => Sys2Proof.Machine.execPass d q seq binds fieldsOk prims stalls s
  | .compute d q seq => Sys2Proof.Machine.execCompute d q seq s
  | .composeList d q seq => Sys2Proof.Machine.execComposeList d q seq s
  | .capture d q seq => Sys2Proof.Machine.execCapture d q seq s
  | .captureTimeout d q seq => Sys2Proof.Machine.execCaptureTimeout d q seq s
  | .audio d q seq => Sys2Proof.Machine.execAudio d q seq s
  | .unitCommit w data writes => Sys2Proof.Machine.execUnitCommit w data writes s
  | .statusWordUpdate d q seq => Sys2Proof.Machine.execStatusWordUpdate d q seq s
  | .dataVisible d q seq => Sys2Proof.Machine.execDataVisible d q seq s
  | .reportAccept d q seq => Sys2Proof.Machine.execReportAccept d q seq s
  | .completionRelease d q => Sys2Proof.Machine.execCompletionRelease d q s
  | .commandFault d q seq blk code => Sys2Proof.Machine.execCommandFault d q seq blk code s
  | .tileStart d q seq g => Sys2Proof.Machine.execTileStart d q seq g s
  | .tileWriteback d q seq tile refused => Sys2Proof.Machine.execTileWriteback d q seq tile refused s
  | .partialRenderFlush d q seq => Sys2Proof.Machine.execPartialRenderFlush d q seq s
  | .shaderFault d q seq writes => Sys2Proof.Machine.execShaderFault d q seq writes s
  | .windowStart => Sys2Proof.Machine.execWindowStart s
  | .benchOffer g => Sys2Proof.Machine.execBenchOffer g s
  | .cxCommandRelease ctx q entry ring => Sys2Proof.Machine.execCxCommandRelease ctx q entry ring s
  | .preemptionPoint g => Sys2Proof.Machine.execPreemptionPoint g s
  | .preemptTimeout g => Sys2Proof.Machine.execPreemptTimeout g s
  | .preemptResume g => Sys2Proof.Machine.execPreemptResume g s
  | .deadlineEval id => Sys2Proof.Machine.execDeadlineEval id s
  | .cxCutoffMiss id => Sys2Proof.Machine.execCxCutoffMiss id s
  | .npLimitTimeout d q seq => Sys2Proof.Machine.execNpLimitTimeout d q seq s
  | .runLimitTimeout c q seq => Sys2Proof.Machine.execRunLimitTimeout c q seq s
  | .layerOwnerWrite o h l owner slot => Sys2Proof.Machine.execLayerOwnerWrite o h l owner slot s
  | .flipCommit who group => Sys2Proof.Machine.execFlipCommit who group s
  | .safetyFlip o h w => Sys2Proof.Machine.execSafetyFlip o h w s
  | .pipeSwapRequest o h => Sys2Proof.Machine.execPipeSwapRequest o h s
  | .fenceSample h => Sys2Proof.Machine.execFenceSample h s
  | .latchPoint h => Sys2Proof.Machine.execLatchPoint h s
  | .frameStart h minLeadUs e => Sys2Proof.Machine.execFrameStart h minLeadUs e s
  | .frameEnd h => Sys2Proof.Machine.execFrameEnd h s
  | .headStart o h => Sys2Proof.Machine.execHeadStart o h s
  | .headStop o h => Sys2Proof.Machine.execHeadStop o h s
  | .holdoverEntry h => Sys2Proof.Machine.execHoldoverEntry h s
  | .teEdge h minLeadUs => Sys2Proof.Machine.execTeEdge h minLeadUs s
  | .teMiss h minLeadUs => Sys2Proof.Machine.execTeMiss h minLeadUs s
  | .layerUnderrun h l y x => Sys2Proof.Machine.execLayerUnderrun h l y x s
  | .pauseGrant leads => Sys2Proof.Machine.execPauseGrant leads s
  | .witnessResult h actual decode noRef proofMade => Sys2Proof.Machine.execWitnessResult h actual decode noRef proofMade s
  | .witnessRestore o h => Sys2Proof.Machine.execWitnessRestore o h s
  | .witnessEventPop o => Sys2Proof.Machine.execWitnessEventPop o s
  | .hpdIrq h lockLost => Sys2Proof.Machine.execHpdIrq h lockLost s
  | .hpdUnplug h => Sys2Proof.Machine.execHpdUnplug h s
  | .hpdReplug h sink => Sys2Proof.Machine.execHpdReplug h sink s
  | .linkTrainingDone h ok => Sys2Proof.Machine.execLinkTrainingDone h ok s
  | .trainingRetry h => Sys2Proof.Machine.execTrainingRetry h s
  | .backlightOn h => Sys2Proof.Machine.execBacklightOn h s
  | .panelPowerDown h => Sys2Proof.Machine.execPanelPowerDown h s
  | .sidebandRequest o h w => Sys2Proof.Machine.execSidebandRequest o h w s
  | .sidebandDone h result reply => Sys2Proof.Machine.execSidebandDone h result reply s
  | .plkLinkUp p credits => Sys2Proof.Machine.execPlkLinkUp p credits s
  | .nrzFallback p => Sys2Proof.Machine.execNrzFallback p s
  | .plkLinkDown p => Sys2Proof.Machine.execPlkLinkDown p s
  | .portRetrain o p => Sys2Proof.Machine.execPortRetrain o p s
  | .portDisable o p => Sys2Proof.Machine.execPortDisable o p s
  | .flitReceive p corr uncorr b => Sys2Proof.Machine.execFlitReceive p corr uncorr b s
  | .hello p m => Sys2Proof.Machine.execHello p m s
  | .route p m => Sys2Proof.Machine.execRoute p m s
  | .leave p m => Sys2Proof.Machine.execLeave p m s
  | .syncReq p m => Sys2Proof.Machine.execSyncReq p m s
  | .syncRsp p m => Sys2Proof.Machine.execSyncRsp p m s
  | .wr p m => Sys2Proof.Machine.execWr p m s
  | .wrPart p m => Sys2Proof.Machine.execWrPart p m s
  | .rdReq p m => Sys2Proof.Machine.execRdReq p m s
  | .openMsg p m => Sys2Proof.Machine.execOpen p m s
  | .wrAck p m => Sys2Proof.Machine.execWrAck p m s
  | .rdData p m => Sys2Proof.Machine.execRdData p m s
  | .openRsp p m => Sys2Proof.Machine.execOpenRsp p m s
  | .subscribe p m => Sys2Proof.Machine.execSubscribe p m s
  | .subAck p m => Sys2Proof.Machine.execSubAck p m s
  | .tile p m => Sys2Proof.Machine.execTile p m s
  | .genEnd p m => Sys2Proof.Machine.execGenEnd p m s
  | .genAck p m => Sys2Proof.Machine.execGenAck p m s
  | .genCommit p m => Sys2Proof.Machine.execGenCommit p m s
  | .touch p m => Sys2Proof.Machine.execTouch p m s
  | .audioMessage p m => Sys2Proof.Machine.execAudioMessage p m s
  | .mgmt x => Sys2Proof.Machine.execMgmt x s
  | .mgmtAck p m => Sys2Proof.Machine.execMgmtAck p m s
  | .routeOriginate => Sys2Proof.Machine.execRouteOriginate s
  | .routeRefresh => Sys2Proof.Machine.execRouteRefresh s
  | .routeExpire id => Sys2Proof.Machine.execRouteExpire id s
  | .syncTick => Sys2Proof.Machine.execSyncTick s
  | .frameTick => Sys2Proof.Machine.execFrameTick s
  | .tickLost => Sys2Proof.Machine.execTickLost s
  | .stSelfFine => Sys2Proof.Machine.execStSelfFine s
  | .apertureEnable o k peer win read write fw => Sys2Proof.Machine.execApertureEnable o k peer win read write fw s
  | .apertureOpenRetry k => Sys2Proof.Machine.execApertureOpenRetry k s
  | .remoteTimeout tag => Sys2Proof.Machine.execRemoteTimeout tag s
  | .windowClose o w sizeM1 peer any read write en => Sys2Proof.Machine.execWindowClose o w sizeM1 peer any read write en s
  | .generationStart e => Sys2Proof.Machine.execGenerationStart e s
  | .genAckTimeout e => Sys2Proof.Machine.execGenAckTimeout e s
  | .importDecode k descs => Sys2Proof.Machine.execImportDecode k descs s
  | .commitInstant k => Sys2Proof.Machine.execCommitInstant k s
  | .subscribeRetry k => Sys2Proof.Machine.execSubscribeRetry k s
  | .refresh ch => Sys2Proof.Machine.execRefresh ch s
  | .refreshRatePoll rate ch => Sys2Proof.Machine.execRefreshRatePoll rate ch s
  | .scrub lines => Sys2Proof.Machine.execScrub lines s
  | .retrainRequest ch => Sys2Proof.Machine.execRetrainRequest ch s
  | .retrainPause => Sys2Proof.Machine.execRetrainPause s
  | .retrainPauseEnd eyes lengthNs => Sys2Proof.Machine.execRetrainPauseEnd eyes lengthNs s
  | .retrainSkip => Sys2Proof.Machine.execRetrainSkip s
  | .retrainNow o => Sys2Proof.Machine.execRetrainNow o s
  | .writePat o c => Sys2Proof.Machine.execWritePat o c s
  | .readCmp o c => Sys2Proof.Machine.execReadCmp o c s
  | .loop o c => Sys2Proof.Machine.execLoop o c s
  | .centre o c => Sys2Proof.Machine.execCentre o c s
  | .trainingOpDone errs eyes => Sys2Proof.Machine.execTrainingOpDone errs eyes s
  | .vrefWrite o ch code => Sys2Proof.Machine.execVrefWrite o ch code s
  | .scanStart p => Sys2Proof.Machine.execScanStart p s
  | .gateWindowEnd p step counts => Sys2Proof.Machine.execGateWindowEnd p step counts s
  | .scanProcess p => Sys2Proof.Machine.execScanProcess p s
  | .baselineSave p => Sys2Proof.Machine.execBaselineSave p s
  | .suspectClear p => Sys2Proof.Machine.execSuspectClear p s
  | .rebase o p => Sys2Proof.Machine.execRebase o p s
  | .panelProbe p valid => Sys2Proof.Machine.execPanelProbe p valid s
  | .wakeScan p sense drive => Sys2Proof.Machine.execWakeScan p sense drive s
  | .touchConsume d v => Sys2Proof.Machine.execTouchConsume d v s
  | .touchRingEnable d => Sys2Proof.Machine.execTouchRingEnable d s
  | .touchFwqPop o => Sys2Proof.Machine.execTouchFwqPop o s
  | .hapticTrigger o c k => Sys2Proof.Machine.execHapticTrigger o c k s
  | .effectPhaseEnd c => Sys2Proof.Machine.execEffectPhaseEnd c s
  | .driveOffGap c errHz emfMv => Sys2Proof.Machine.execDriveOffGap c errHz emfMv s
  | .brakeEnd c stopped => Sys2Proof.Machine.execBrakeEnd c stopped s
  | .waitTimeout c => Sys2Proof.Machine.execWaitTimeout c s
  | .hapticTick => Sys2Proof.Machine.execHapticTick s
  | .openDetect c => Sys2Proof.Machine.execOpenDetect c s
  | .clr o c => Sys2Proof.Machine.execClr o c s
  | .audioFrame x => Sys2Proof.Machine.execAudioFrame x s
  | .bankSwap o mask => Sys2Proof.Machine.execBankSwap o mask s
  | .play o v => Sys2Proof.Machine.execPlay o v s
  | .stop o v => Sys2Proof.Machine.execStop o v s
  | .streamEnable d j => Sys2Proof.Machine.execStreamEnable d j s
  | .icuSourceEvent n rise => Sys2Proof.Machine.execIcuSourceEvent n rise s
  | .claim o c => Sys2Proof.Machine.execClaim o c s
  | .complete o c n => Sys2Proof.Machine.execComplete o c n s
  | .icuSet o n => Sys2Proof.Machine.execIcuSet o n s
  | .gdis o v => Sys2Proof.Machine.execGdis o v s
  | .coreSleep t => Sys2Proof.Machine.execCoreSleep t s
  | .coreWake t o => Sys2Proof.Machine.execCoreWake t o s
  | .coreRunning t => Sys2Proof.Machine.execCoreRunning t s
  | .timerCompare c => Sys2Proof.Machine.execTimerCompare c s
  | .rtLockstep n => Sys2Proof.Machine.execRtLockstep n s
  | .hutDbell o => Sys2Proof.Machine.execHutDbell o s
  | .hutchWake => Sys2Proof.Machine.execHutchWake s
  | .hutIcuClaim o => Sys2Proof.Machine.execHutIcuClaim o s
  | .trapToCabinet n => Sys2Proof.Machine.execTrapToCabinet n s
  | .mretToOpen n => Sys2Proof.Machine.execMretToOpen n s
  | .lifeCycleRequest o target => Sys2Proof.Machine.execLifeCycleRequest o target s
  | .raiseTo o v => Sys2Proof.Machine.execRaiseTo o v s
  | .revoke o mask => Sys2Proof.Machine.execRevoke o mask s
  | .fuseBurnDone => Sys2Proof.Machine.execFuseBurnDone s
  | .extest bsr => Sys2Proof.Machine.execExtest bsr s
  | .idcode => Sys2Proof.Machine.execIdcode s
  | .samplePreload bsr => Sys2Proof.Machine.execSamplePreload bsr s
  | .clamp => Sys2Proof.Machine.execClamp s
  | .highz => Sys2Proof.Machine.execHighz s
  | .bypass => Sys2Proof.Machine.execBypass s
  | .dbg write w v => Sys2Proof.Machine.execDbg write w v s
  | .prov op => Sys2Proof.Machine.execProv op s
  | .challenge => Sys2Proof.Machine.execChallenge s
  | .submit => Sys2Proof.Machine.execSubmit s
  | .certificateVerdict => Sys2Proof.Machine.execCertificateVerdict s
  | .endSession => Sys2Proof.Machine.execEnd s
  | .read wide => Sys2Proof.Machine.execRead wide s
  | .write wide => Sys2Proof.Machine.execWrite wide s
  | .sessionExpire => Sys2Proof.Machine.execSessionExpire s
  | .nonceExpire => Sys2Proof.Machine.execNonceExpire s
  | .trstLow => Sys2Proof.Machine.execTrstLow s
  | .powerRequest o t => Sys2Proof.Machine.execPowerRequest o t s
  | .drainPhaseEnd => Sys2Proof.Machine.execDrainPhaseEnd s
  | .entryRefused => Sys2Proof.Machine.execEntryRefused s
  | .savePhaseEnd => Sys2Proof.Machine.execSavePhaseEnd s
  | .isolatePhaseEnd => Sys2Proof.Machine.execIsolatePhaseEnd s
  | .powerPhaseEnd => Sys2Proof.Machine.execPowerPhaseEnd s
  | .restorePhaseEnd => Sys2Proof.Machine.execRestorePhaseEnd s
  | .resumePhaseEnd hdr cab app eyes train => Sys2Proof.Machine.execResumePhaseEnd hdr cab app eyes train s
  | .padRelease o m => Sys2Proof.Machine.execPadRelease o m s
  | .stAlarm => Sys2Proof.Machine.execStAlarm s
  | .hardwareError e => Sys2Proof.Machine.execHardwareError e s
  | .hang blk source => Sys2Proof.Machine.execHang blk source s
  | .islandReset u => Sys2Proof.Machine.execIslandReset u s
  | .islandResetDone u => Sys2Proof.Machine.execIslandResetDone u s
  | .modReset => Sys2Proof.Machine.execModReset s
  | .drawerResetDone d => Sys2Proof.Machine.execDrawerResetDone d s
  | .drainTimeout d => Sys2Proof.Machine.execDrainTimeout d s
  | .errorAck o d n => Sys2Proof.Machine.execErrorAck o d n s
  | .swrep o v => Sys2Proof.Machine.execSwrep o v s
  | .auditFlush verified => Sys2Proof.Machine.execAuditFlush verified s
  | .adlMark o start seq => Sys2Proof.Machine.execAdlMark o start seq s
  | .initCrc o u poly ie => Sys2Proof.Machine.execInit o u poly ie s
  | .feed o u k v => Sys2Proof.Machine.execFeed o u k v s
  | .counterOverflow n inc pc mode trap => Sys2Proof.Machine.execCounterOverflow n inc pc mode trap s
  | .arm o t frz => Sys2Proof.Machine.execArm o t frz s
  | .snapshot late => Sys2Proof.Machine.execSnapshot late s
  | .bwWindow m rd wr rdOpen wrOpen => Sys2Proof.Machine.execBwWindow m rd wr rdOpen wrOpen s
  | .bwRead o m => Sys2Proof.Machine.execBwRead o m s
  | .unitTest o host => Sys2Proof.Machine.execUnitTest o host s
  | .unitRetire o host => Sys2Proof.Machine.execUnitRetire o host s
  | .memMarch o host => Sys2Proof.Machine.execMemMarch o host s
  | .dramTrain o host => Sys2Proof.Machine.execDramTrain o host s
  | .testDone n fails train => Sys2Proof.Machine.execTestDone n fails train s
  | .registerRead o a n => Sys2Proof.Machine.execRegisterRead o a n s
  | .perstNDeassert p => Sys2Proof.Machine.execPerstNDeassert p s
  | .hostLinkUp p => Sys2Proof.Machine.execHostLinkUp p s
  | .vfEnable p cfg => Sys2Proof.Machine.execVfEnable p cfg s
  | .synthesiserLock h ok sink => Sys2Proof.Machine.execSynthesiserLock h ok sink s
  | .hpdAssert h sink => Sys2Proof.Machine.execHpdAssert h sink s
  | .panelPowerUp h => Sys2Proof.Machine.execPanelPowerUp h s
  | .portTrainRetry p => Sys2Proof.Machine.execPortTrainRetry p s
  | .stSlewDone => Sys2Proof.Machine.execStSlewDone s

end Sys2Proof.Machine
end

