-- ==== Sys2Proof/Safety.lean ====
section
/-! DEFINITION. What counts as a safe run, in the terms that the statements use. -/

namespace Sys2Proof.Machine

/-- The stored form that equal states share: device memory lists its bytes with rising addresses and none that reads as an unlisted one
does, and the register store lists its elements with rising keys. -/
def State.Canonical (s : State) : Prop := Memory.wf s.memRest s.mem = true ∧ tsorted s.regs = true

/-- The command, or the clock, of this step has an effect: the device neither faults nor refuses. -/
def State.Goes (s : State) : Prop := ∃ t, step s = .next t

/-- The command answers a next state, and `p` holds of it. -/
def Does (i : Instr) (s : State) (p : State → Prop) : Prop := ∃ t, exec i s = .next t ∧ p t

/-- A register write of origin `o` to block `b` takes effect at once: the block can be reached, nothing waits, the audit buffer has room
for two entries, and the origin's world may write the block. -/
abbrev State.Reaches (s : State) (o : Origin) (b : Nat) : Prop :=
  s.blkOn b = true ∧ s.held = [] ∧ s.adl.buf.length ≤ 62 ∧ (s.cabOwned b = false ∨ o.cab = true)

/-- Nothing stands in the way of the register write `w` of origin `o`: its block can be reached (R145), no access waits before it and the
audit buffer has room for its entries (R141, R146, R685), the origin's world may write the block (R610), and R118 withholds no field of the
image from the origin. -/
abbrev State.Admits (s : State) (o : Origin) (w : RegWrite) : Prop :=
  (w.free = true ∨ s.blkOn w.blk = true) ∧ s.mustWait o w = false ∧ (w.free = true ∨ s.cabOwned w.blk = false ∨ o.cab = true)
    ∧ s.imgDenied o w = false

/-- The state in which an admitted write has its effect: its audit entry, if it is audited and the image has committed, is accepted first
(R679, R683). -/
def State.entered (s : State) (o : Origin) (w : RegWrite) : State := if w.audited && s.committed then s.auditWrite o w false 0 else s

/-- The register fields that accepting an audit entry changes. -/
def auditFields : List Fld := [F.ADL_STATUS_NEXT_SEQ, F.ADL_RING_HELD, F.HUT_ICU_PEND_PENDING]

/-- The register fields that counting an event changes, with what the counter's interrupt wakes (R587 to R592, R700). -/
def eventFields : List Fld := [F.PMU_CNT_COUNT, F.PMU_OVF_OVF, F.ICU_SRC_PENDING, F.ICU_SRC_OFFERED, F.ICU_SRC_CTX, F.ICU_SRC_LAST,
  F.ICU_STATUS_WAKING, F.ICU_STATUS_WAKES, F.CCL_CORE_STATE]

/-- The mailbox request of port `p` that nothing has served yet: its command and the Drawer that it names. -/
def State.asked (s : State) (p : Nat) : Option (Nat × Nat) :=
  (s.portOf p).job.bind (fun j => if j.rsp.isNone && !j.waiting then some (j.opcode, p * 32 + j.drawer) else none)

/-- The parts of the state beside the register store and the queue of commands. -/
inductive Part where
  | shadow | mem | memRest | now | freeCtr | phase | pd | pins
  | sup | boot | nv | fuses | flashA | flashB | latches | held
  | hostOut | reads | adl | err | pm | dbg | cores | templates
  | mutables | ports | drw | tls | jnl | layers | flipCtr | heads
  | dps | wit | shelf | tell | gpu | dmc | stalled | plk | hap
  | tch | aud | pmu | tests
  deriving DecidableEq, Repr

/-- The two states agree in this part. -/
def State.same (s t : State) : Part → Prop
  | .shadow => t.shadow = s.shadow
  | .mem => t.mem = s.mem
  | .memRest => t.memRest = s.memRest
  | .now => t.now = s.now
  | .freeCtr => t.freeCtr = s.freeCtr
  | .phase => t.phase = s.phase
  | .pd => t.pd = s.pd
  | .pins => t.pins = s.pins
  | .sup => t.sup = s.sup
  | .boot => t.boot = s.boot
  | .nv => t.nv = s.nv
  | .fuses => t.fuses = s.fuses
  | .flashA => t.flashA = s.flashA
  | .flashB => t.flashB = s.flashB
  | .latches => t.latches = s.latches
  | .held => t.held = s.held
  | .hostOut => t.hostOut = s.hostOut
  | .reads => t.reads = s.reads
  | .adl => t.adl = s.adl
  | .err => t.err = s.err
  | .pm => t.pm = s.pm
  | .dbg => t.dbg = s.dbg
  | .cores => t.cores = s.cores
  | .templates => t.templates = s.templates
  | .mutables => t.mutables = s.mutables
  | .ports => t.ports = s.ports
  | .drw => t.drw = s.drw
  | .tls => t.tls = s.tls
  | .jnl => t.jnl = s.jnl
  | .layers => t.layers = s.layers
  | .flipCtr => t.flipCtr = s.flipCtr
  | .heads => t.heads = s.heads
  | .dps => t.dps = s.dps
  | .wit => t.wit = s.wit
  | .shelf => t.shelf = s.shelf
  | .tell => t.tell = s.tell
  | .gpu => t.gpu = s.gpu
  | .dmc => t.dmc = s.dmc
  | .stalled => t.stalled = s.stalled
  | .plk => t.plk = s.plk
  | .hap => t.hap = s.hap
  | .tch => t.tch = s.tch
  | .aud => t.aud = s.aud
  | .pmu => t.pmu = s.pmu
  | .tests => t.tests = s.tests

/-- The command changes no register field but those that `chg` picks. -/
def State.OnlyFields (s t : State) (chg : List Fld) : Prop := ∀ f i, (∀ g ∈ chg, f.num ≠ g.num) → t.get f i = s.get f i

/-- From `s` to `t` only the parts of `ps`, and registers, may change, and no queued command is lost or added. -/
def State.PartsKept (s t : State) (ps : List Part) : Prop := (∀ p, p ∉ ps → s.same t p) ∧ t.pending = s.pending

/-- From `s` to `t` only the parts of `ps` and the register fields of `fs` may change, and no queued command is lost or added. -/
def State.Kept (s t : State) (ps : List Part) (fs : List Fld) : Prop := s.PartsKept t ps ∧ s.OnlyFields t fs

end Sys2Proof.Machine
end

