-- ==== Sys2Proof/WellFormed.lean ====
section
/-! DEFINITION. Which operands the hardware can bring: the ranges that the types of the operands do not already give. The meanings are total
on the other operands too; a statement that needs one of these ranges names it. -/

namespace Sys2Proof

open Machine

/-- A sequence number has 32 bits (R206). -/
def seqOk (k : Nat) : Bool := decide (k < 2 ^ 32)

/-- A device address has 48 bits (R122). -/
def addrOk (a : Nat) : Bool := decide (a < 2 ^ 48)

/-- Block IDs have 6 bits where a domain names them (R657). -/
def blkOk (b : Nat) : Bool := decide (b < 64)

/-- A fabric access to a register is of 1, 2, 4 or 8 bytes (R138). -/
def sizeOk (n : Nat) : Bool := n = 1 || n = 2 || n = 4 || n = 8

/-- The value of an access of `n` bytes. -/
def valueOk (n v : Nat) : Bool := decide (v < 2 ^ (8 * n))

/-- World and fields that Table 19.1 and Table 22.2 give an origin of each kind. -/
def originOk (o : Origin) : Bool :=
  match o.kind with
  | .loader => o.port = 0 && o.fn = 0 && o.core = 0 && o.peer = 0
  | .hutch => o.cab && o.port = 0 && o.fn = 0 && o.core = 0 && o.peer = 0
  | .core => o.port = 0 && o.fn = 0 && decide (o.core < 8) && o.peer = 0
  | .rt => o.cab && o.port = 0 && o.fn = 0 && decide (o.core < 8) && o.peer = 0
  | .mediator => !o.cab && decide (o.port < 2) && o.fn = 0 && o.peer = 0
  | .drawer => !o.cab && decide (o.port < 2) && decide (1 ≤ o.fn) && decide (o.fn ≤ 32) && o.peer = 0
  | .peer => !o.cab && o.port = 0 && o.fn = 0 && o.core = 0 && decide (o.peer < 2 ^ 14)
  | .debug => o.port = 0 && o.fn = 0 && o.core = 0 && o.peer = 0
  | .autonomous => o.cab && o.port = 0 && o.fn = 0 && o.peer = 0

/-- A message carries 16 bytes of data for each of DLEN, at most 14 (Table 13.3). -/
def msgOk (m : Msg) : Bool := decide (m.dlen ≤ 14) && decide (m.data.length = 16 * m.dlen) && decide (m.type < 256)

/-- Domains that Table 21.2 gives a code; those of an issuing master, of the block accessed or of an owning block are open. -/
def errDomain (code d : Nat) : Bool :=
  if [0x21, 0x2E, 0x30, 0x31, 0x32, 0x4B].contains code then d = 0x19
  else if code = 0x22 || code = 0x36 then d = 6
  else if code = 0x23 || (0x40 ≤ code && code ≤ 0x42) then 8 ≤ d && d ≤ 0xB
  else if code = 0x2F then d = 0xC || d = 0xD
  else if code = 0x34 then d = 0x1C
  else if code = 0x35 then d = 0x21
  else if code = 0x37 || code = 0x49 then d = 1
  else if code = 0x38 then d = 0x18
  else if code = 0x43 || code = 0x44 then d = 3 || d = 4
  else if code = 0x48 then d = 0x27
  else if code = 0x4A then d = 5
  else (0x20 ≤ code && code ≤ 0x23) || (0x28 ≤ code && code ≤ 0x38) || code = 0x45

/-- An error that hardware detects: a code of Table 21.2 in a domain of it, an 8-bit source, a lockstep pair 0 or 1 (R245), a channel below 16,
and the class that the code has. -/
def errOk (e : ErrIn) : Bool :=
  decide (e.domain < 64) && errDomain e.code e.domain && decide (e.source < 256) && e.cls.isNone
    && (e.code ≠ 0x41 || decide (e.source < 2)) && (e.domain ≠ 0x19 || decide (e.source < 16))

/-- A reset unit of Table 21.4. -/
def unitOk (u : ResetUnit) : Bool :=
  match u with
  | .bg g => decide (g < 4)
  | .rtPair n => decide (n < 2)
  | .head h => decide (h < 8)
  | _ => true

/-- A host access carries 1 to 4,096 bytes, and a write as many as it names. -/
def barOk (x : BarAccess) : Bool :=
  decide (1 ≤ x.n) && decide (x.n ≤ 4096) && (x.data.map (fun b => decide (b.length = x.n))).getD true

/-- Well-formed commands. -/
def Instr.wf (i : Instr) : Bool :=
  match i with
  | .supervisorPowerUp _ => true
  | .prechargeAbort _ => true
  | .mainSwitchClose => true
  | .inputQualified => true
  | .supervisorArm => true
  | .startEvent => true
  | .romEntry _ => true
  | .signatureVerdict _ => true
  | .sectionLoad _ => true
  | .repairApply => true
  | .openingTest _ _ durationUs => valueOk 4 durationUs
  | .dramTraining _ => true
  | .shelfLoad _ _ _ => true
  | .linkStart _ _ => true
  | .extendedTest _ _ _ _ durationUs => valueOk 4 durationUs
  | .plynlinkStart _ appBase => addrOk appBase
  | .commit => true
  | .recoveryStart => true
  | .orderlyShutdown _ => true
  | .emergencyTrigger _ => true
  | .emergencyRecord => true
  | .wakeNPulse => true
  | .ppsInEdge => true
  | .ppsTimeout => true
  | .ppsOutPulse => true
  | .supplySample _ => true
  | .throttleEval _ _ => true
  | .throttleDrop => true
  | .hapticShort _ => true
  | .canFrameRx _ _ _ data => decide (data.length ≤ 8)
  | .telltaleTimeout _ => true
  | .canStatusFrame => true
  | .lampTestEnd => true
  | .registerWrite o a n v => originOk o && addrOk a && sizeOk n && valueOk n v
  | .auditEntry => true
  | .memoryAccess o blk a n data => originOk o && blkOk blk && addrOk a && decide (n < 2 ^ 48) && (data.map (fun b => decide (b.length = n))).getD true
  | .hostBarAccess x => barOk x
  | .prtReset _ _ => true
  | .vfDisable _ => true
  | .vfFlr _ => true
  | .d3hotEntry _ _ _ => true
  | .d0Return _ _ _ => true
  | .msixUnmask _ _ _ => true
  | .moderationTimer _ _ => true
  | .query _ => true
  | .listTemplates _ => true
  | .drawerInfo _ => true
  | .eventRead _ => true
  | .create _ => true
  | .resize _ => true
  | .setShare _ => true
  | .grantWait _ => true
  | .reset _ => true
  | .destroy _ => true
  | .save _ => true
  | .restore _ => true
  | .resume _ => true
  | .quiesce _ => true
  | .drawerQuiesced _ => true
  | .quiesceTimeout _ => true
  | .dirtyStart _ => true
  | .dirtySwap _ => true
  | .dirtyStop _ => true
  | .heapExport _ => true
  | .heapImport _ _ => true
  | .regWrite _ => true
  | .regRead _ => true
  | .imageBegin _ => true
  | .imageData _ => true
  | .imageCommit _ _ => true
  | .auditRead _ => true
  | .errorRead _ => true
  | .mailboxResponse _ => true
  | .doorbell _ _ _ => true
  | .completionDoorbell _ _ _ => true
  | .queueEnable _ _ _ _ => true
  | .queueDisable _ _ => true
  | .commandFetch _ _ entry => decide (entry.length = 128)
  | .hostReadError _ _ seq _ => (seq.map seqOk).getD true
  | .nop _ _ seq => seqOk seq
  | .copy _ _ seq => seqOk seq
  | .fill _ _ seq => seqOk seq
  | .pass _ _ seq _ _ _ _ => seqOk seq
  | .compute _ _ seq => seqOk seq
  | .composeList _ _ seq => seqOk seq
  | .capture _ _ seq => seqOk seq
  | .captureTimeout _ _ seq => seqOk seq
  | .audio _ _ seq => seqOk seq
  | .unitCommit _ _ _ => true
  | .statusWordUpdate _ _ seq => seqOk seq
  | .dataVisible _ _ seq => seqOk seq
  | .reportAccept _ _ seq => seqOk seq
  | .completionRelease _ _ => true
  | .commandFault _ _ seq blk _ => seqOk seq && blkOk blk
  | .tileStart _ _ seq _ => seqOk seq
  | .tileWriteback _ _ seq _ _ => seqOk seq
  | .partialRenderFlush _ _ seq => seqOk seq
  | .shaderFault _ _ seq _ => seqOk seq
  | .windowStart => true
  | .benchOffer _ => true
  | .cxCommandRelease _ _ entry ring => decide (entry.length = 128) && addrOk ring.1
  | .preemptionPoint _ => true
  | .preemptTimeout _ => true
  | .preemptResume _ => true
  | .deadlineEval _ => true
  | .cxCutoffMiss _ => true
  | .npLimitTimeout _ _ seq => seqOk seq
  | .runLimitTimeout _ _ seq => seqOk seq
  | .layerOwnerWrite o _ _ _ _ => originOk o
  | .flipCommit _ _ => true
  | .safetyFlip o _ _ => originOk o
  | .pipeSwapRequest o _ => originOk o
  | .fenceSample _ => true
  | .latchPoint _ => true
  | .frameStart _ _ _ => true
  | .frameEnd _ => true
  | .headStart o _ => originOk o
  | .headStop o _ => originOk o
  | .holdoverEntry _ => true
  | .teEdge _ _ => true
  | .teMiss _ _ => true
  | .layerUnderrun _ _ _ _ => true
  | .pauseGrant _ => true
  | .witnessResult _ _ _ _ _ => true
  | .witnessRestore o _ => originOk o
  | .witnessEventPop o => originOk o
  | .hpdIrq _ _ => true
  | .hpdUnplug _ => true
  | .hpdReplug _ _ => true
  | .linkTrainingDone _ _ => true
  | .trainingRetry _ => true
  | .backlightOn _ => true
  | .panelPowerDown _ => true
  | .sidebandRequest o _ _ => originOk o
  | .sidebandDone _ _ _ => true
  | .plkLinkUp _ _ => true
  | .nrzFallback _ => true
  | .plkLinkDown _ => true
  | .portRetrain o _ => originOk o
  | .portDisable o _ => originOk o
  | .flitReceive _ _ _ b => decide (b.length = 256)
  | .hello _ m => msgOk m
  | .route _ m => msgOk m
  | .leave _ m => msgOk m
  | .syncReq _ m => msgOk m
  | .syncRsp _ m => msgOk m
  | .wr _ m => msgOk m
  | .wrPart _ m => msgOk m
  | .rdReq _ m => msgOk m
  | .openMsg _ m => msgOk m
  | .wrAck _ m => msgOk m
  | .rdData _ m => msgOk m
  | .openRsp _ m => msgOk m
  | .subscribe _ m => msgOk m
  | .subAck _ m => msgOk m
  | .tile _ m => msgOk m
  | .genEnd _ m => msgOk m
  | .genAck _ m => msgOk m
  | .genCommit _ m => msgOk m
  | .touch _ m => msgOk m
  | .audioMessage _ m => msgOk m
  | .mgmt _ => true
  | .mgmtAck _ m => msgOk m
  | .routeOriginate => true
  | .routeRefresh => true
  | .routeExpire _ => true
  | .syncTick => true
  | .frameTick => true
  | .tickLost => true
  | .stSelfFine => true
  | .apertureEnable o _ _ _ _ _ _ => originOk o
  | .apertureOpenRetry _ => true
  | .remoteTimeout _ => true
  | .windowClose o _ _ _ _ _ _ _ => originOk o
  | .generationStart _ => true
  | .genAckTimeout _ => true
  | .importDecode _ _ => true
  | .commitInstant _ => true
  | .subscribeRetry _ => true
  | .refresh _ => true
  | .refreshRatePoll _ _ => true
  | .scrub _ => true
  | .retrainRequest _ => true
  | .retrainPause => true
  | .retrainPauseEnd _ lengthNs => valueOk 4 lengthNs
  | .retrainSkip => true
  | .retrainNow o => originOk o
  | .writePat o _ => originOk o
  | .readCmp o _ => originOk o
  | .loop o _ => originOk o
  | .centre o _ => originOk o
  | .trainingOpDone _ _ => true
  | .vrefWrite o _ _ => originOk o
  | .scanStart _ => true
  | .gateWindowEnd _ _ _ => true
  | .scanProcess _ => true
  | .baselineSave _ => true
  | .suspectClear _ => true
  | .rebase o _ => originOk o
  | .panelProbe _ _ => true
  | .wakeScan _ _ _ => true
  | .touchConsume _ _ => true
  | .touchRingEnable _ => true
  | .touchFwqPop o => originOk o
  | .hapticTrigger o _ _ => originOk o
  | .effectPhaseEnd _ => true
  | .driveOffGap _ _ _ => true
  | .brakeEnd _ _ => true
  | .waitTimeout _ => true
  | .hapticTick => true
  | .openDetect _ => true
  | .clr o _ => originOk o
  | .audioFrame _ => true
  | .bankSwap o _ => originOk o
  | .play o _ => originOk o
  | .stop o _ => originOk o
  | .streamEnable _ _ => true
  | .icuSourceEvent _ _ => true
  | .claim o _ => originOk o
  | .complete o _ n => originOk o && decide (n < 1024)
  | .icuSet o _ => originOk o
  | .gdis o _ => originOk o
  | .coreSleep _ => true
  | .coreWake _ o => (o.map originOk).getD true
  | .coreRunning _ => true
  | .timerCompare _ => true
  | .rtLockstep _ => true
  | .hutDbell o => originOk o
  | .hutchWake => true
  | .hutIcuClaim o => originOk o
  | .trapToCabinet _ => true
  | .mretToOpen _ => true
  | .lifeCycleRequest o _ => originOk o
  | .raiseTo o _ => originOk o
  | .revoke o _ => originOk o
  | .fuseBurnDone => true
  | .extest _ => true
  | .idcode => true
  | .samplePreload _ => true
  | .clamp => true
  | .highz => true
  | .bypass => true
  | .dbg _ _ _ => true
  | .prov _ => true
  | .challenge => true
  | .submit => true
  | .certificateVerdict => true
  | .endSession => true
  | .read _ => true
  | .write _ => true
  | .sessionExpire => true
  | .nonceExpire => true
  | .trstLow => true
  | .powerRequest o _ => originOk o
  | .drainPhaseEnd => true
  | .entryRefused => true
  | .savePhaseEnd => true
  | .isolatePhaseEnd => true
  | .powerPhaseEnd => true
  | .restorePhaseEnd => true
  | .resumePhaseEnd _ _ _ _ _ => true
  | .padRelease o _ => originOk o
  | .stAlarm => true
  | .hardwareError e => errOk e
  | .hang _ source => decide (source < 256)
  | .islandReset u => unitOk u
  | .islandResetDone u => unitOk u
  | .modReset => true
  | .drawerResetDone _ => true
  | .drainTimeout _ => true
  | .errorAck o _ _ => originOk o
  | .swrep o v => originOk o && valueOk 8 v
  | .auditFlush _ => true
  | .adlMark o _ _ => originOk o
  | .initCrc o _ _ _ => originOk o
  | .feed o _ _ _ => originOk o
  | .counterOverflow _ _ _ _ _ => true
  | .arm o t _ => originOk o && valueOk 8 t
  | .snapshot _ => true
  | .bwWindow _ r w _ _ => decide (r < 2 ^ 48) && decide (w < 2 ^ 48)
  | .bwRead o _ => originOk o
  | .unitTest o _ => originOk o
  | .unitRetire o _ => originOk o
  | .memMarch o _ => originOk o
  | .dramTrain o _ => originOk o
  | .testDone _ _ _ => true
  | .registerRead o a n => originOk o && addrOk a && sizeOk n
  | .perstNDeassert _ => true
  | .hostLinkUp _ => true
  | .vfEnable _ _ => true
  | .synthesiserLock _ _ _ => true
  | .hpdAssert _ _ => true
  | .panelPowerUp _ => true
  | .portTrainRetry _ => true
  | .stSlewDone => true

end Sys2Proof
end

