-- ==== Sys2Proof/Certificates/Slice0/Obligations.lean ====
section
/-! DEFINITION. The statements for the provers. -/

open Sys2Proof Sys2Proof.Machine

/-- Power-up of the input supervisor runs to a start event, and a MOD reset starts again. (spec/02_module_connectors_hotplug.md,
spec/21_errors_and_recovery.md) -/
def Obligations.PowerUpReachesAStart : Prop :=
  (∀ (s : State) (mv : Nat), s.sup.powered = false → s.phase = .off → exec (.supervisorPowerUp mv) s = .next
    { s with sup := { powered := true, precharging := true, inputMv := mv } }) ∧
  (∀ (s : State), s.phase = .off → exec (.prechargeAbort true) s = .next { s with sup := {} }) ∧
  (∀ (s : State), s.phase = .off → Does (.prechargeAbort false) s (fun t => t.sup =
    { s.sup with precharging := false, qualified := false } ∧ t.pins.prsntN = true ∧ t.nv = s.nv ∧ t.mem = s.mem ∧ t.regs = s.regs)) ∧
  (∀ (s : State), s.sup.powered = true → s.sup.mainSwitch = false → s.sup.inputMv ≤ 15000 → exec (.mainSwitchClose) s = .next
    { s with sup := { s.sup with precharging := false, mainSwitch := true } }) ∧
  (∀ (s : State), s.sup.powered = true → s.sup.mainSwitch = true → 10500 ≤ s.sup.inputMv → s.sup.inputMv ≤ 15000 → exec
    (.inputQualified) s = .next { s with sup := { s.sup with qualified := true }, pins := { s.pins with prsntN := false } }) ∧
  (∀ (s : State), s.sup.powered = true → exec (.supervisorArm) s = .next
    { s with sup := { s.sup with armed := true }, pins := { s.pins with pwrEn := false } }) ∧
  (∀ (s : State), s.sup.armed = true → s.sup.qualified = true → s.phase = .off → Does (.startEvent) s (fun t => t.phase = .starting ∧
    t.regs = [] ∧ t.mem = [] ∧ t.sup = { s.sup with armed := false } ∧ t.nv = s.nv ∧ t.fuses = s.fuses ∧ t.flashA = s.flashA ∧ t.flashB
    = s.flashB)) ∧
  (∀ (s : State), s.err.modResetDue = true → s.phase = .running → Does (.modReset) s (fun t => t.phase = .starting ∧ t.pd = 0xFFFF ∧
    t.mem = [] ∧ t.err.modResetDue = false ∧ t.boot = {} ∧ t.templates = []))

/-- The start sequence enters ROM, accepts a copy, loads it, repairs, tests and trains. (spec/03_startup_and_config_image.md,
spec/25_self_test_and_service.md, spec/14_dram_controller.md) -/
def Obligations.StartSequenceLoadsACopy : Prop :=
  (∀ (s : State) (slot : Fin 16), s.phase = .starting → s.boot.rom = false → Does (.romEntry slot) s (fun t => t.boot.rom = true ∧
    t.boot.copyTried = 1 ∧ t.pins.slotId = slot ∧ t.pins.aliveReleased = false ∧ (if s.lifeCycleRead = .blank ∨ s.lifeCycleRead =
    .retired then t.boot.aborted = true else t.boot.aborted = false ∧ t.get F.CFG_STATUS_STAGE = 1) ∧ t.mem = s.mem ∧ t.fuses = s.fuses
    ∧ t.flashA = s.flashA ∧ t.flashB = s.flashB ∧ t.phase = .starting)) ∧
  (∀ (s : State) (c : HdrCheck), s.seqOn = true → s.boot.verified = false → Does (.signatureVerdict c) s (fun t => (if (s.verifyHeader
    s.copyNow c).1 = 0 then t.boot = { s.boot with verified := true } ∧ t.get F.CFG_STATUS_STAGE = 2 ∧ t.get F.CFG_STATUS_COPY =
    s.boot.copyTried % 4 else if s.boot.copyTried = 1 then t.boot.copyTried = 2 ∧ t.get F.CFG_STATUS_STAGE = 1 ∧ t.get
    F.CFG_STATUS_FALLBACK = 1 ∧ t.get F.CFG_FAIL_A_CAUSE = (s.verifyHeader s.copyNow c).1 % 256 else t.boot.aborted = true ∧ t.get
    F.CFG_FAIL_B_CAUSE = (s.verifyHeader s.copyNow c).1 % 256) ∧ t.mem = s.mem ∧ t.nv = s.nv ∧ t.fuses = s.fuses ∧ t.flashA = s.flashA ∧
    t.flashB = s.flashB)) ∧
  (∀ (s : State) (cs : List (Nat × SecCheck)), s.seqOn = true → s.boot.verified = true → s.boot.sectionsLoaded = false →
    s.boot.copyTried = 1 → Does (.sectionLoad cs) s (fun t => (if (s.loadConfig s.copyNow cs).2.1 = 0 then t.boot.sectionsLoaded = true
    ∧ (t.get F.CFG_STATUS_STAGE = 3 ∨ t.get F.CFG_STATUS_STAGE = 6) else t.boot.sectionsLoaded = false ∧ t.boot.copyTried = 2 ∧ t.get
    F.CFG_STATUS_STAGE = 1 ∧ t.get F.CFG_STATUS_FALLBACK = 1) ∧ t.nv = s.nv ∧ t.fuses = s.fuses ∧ t.flashA = s.flashA ∧ t.flashB =
    s.flashB)) ∧
  (∀ (s : State), s.seqOn = true → s.boot.sectionsLoaded = true → s.boot.repairsDone = false → Does (.repairApply) s (fun t =>
    t.boot.repairsDone = true ∧ t.get F.CFG_STATUS_STAGE = 4 ∧ t.mem = s.mem ∧ t.nv.repairs.length = s.nv.repairs.length)) ∧
  (∀ (s : State) (fails : List TestFail) (cov : Fin 1001) (us : Nat), s.seqOn = true → s.boot.repairsDone = true → s.boot.openingDone =
    false → Does (.openingTest fails cov us) s (fun t => t.nv.opening.kind = 1 ∧ t.nv.opening.coverage = cov ∧ t.nv.opening.durationUs =
    us ∧ t.boot.openingDone = true ∧ s.PartsKept t [.nv, .boot])) ∧
  (∀ (s : State) (xs : List ChanTrain), s.seqOn = true → s.boot.openingDone = true → s.boot.dramTrained = false → s.boot.recovery =
    false → (∀ x ∈ xs, bit (s.get F.DMC_INFO_RETIRED) x.ch = false → x.full.isSome = true) → Does (.dramTraining xs) s (fun t =>
    t.boot.dramTrained = true ∧ t.get F.CFG_STATUS_STAGE = 6 ∧ s.PartsKept t [.nv, .boot, .dmc]))

/-- The start sequence loads the Shelf, commits and releases the host ports, or ends in recovery start.
(spec/03_startup_and_config_image.md, spec/25_self_test_and_service.md, spec/22_audit_log.md) -/
def Obligations.StartSequenceCommits : Prop :=
  (∀ (s : State) (cab shelf : SecCheck) (u : Nat), s.seqOn = true → s.boot.sectionsLoaded = true → s.boot.dramTrained = true →
    s.boot.shelfLoaded = false → Does (.shelfLoad cab shelf u) s (fun t => (if (s.secOf 0x12).2.integrity s.fuses.decryptKeySet cab = 0
    ∧ (s.secOf 6).2.integrity s.fuses.decryptKeySet shelf = 0 ∧ (((s.writeBytes (u * 65536) ((s.secOf 0x12).2.plain
    s.fuses.decryptKeySet)).checker0 u ((s.secOf 0x12).2.plain s.fuses.decryptKeySet).length).loadShelf ((s.secOf 6).2.plain
    s.fuses.decryptKeySet)).2 = true then t.boot.shelfLoaded = true else t.boot.shelfLoaded = false ∧ t.boot.sectionsLoaded = false) ∧
    t.nv = s.nv ∧ t.fuses = s.fuses ∧ t.flashA = s.flashA ∧ t.flashB = s.flashB)) ∧
  (∀ (s : State) (fails : List TestFail) (ports : List PlkPort) (cov : Fin 1001) (slice : Fin 8) (us : Nat), s.seqOn = true →
    s.boot.shelfLoaded = true → s.firstFrames = true → s.boot.extNeeded = true → s.boot.extDone = false → Does (.extendedTest fails
    ports cov slice us) s (fun t => t.boot.extDone = true ∧ t.nv.opening.kind = 2 ∧ t.nv.opening.coverage = cov ∧ t.get
    F.CFG_STATUS_EXT_TEST = 1 ∧ t.get F.CFG_STATUS_STAGE = 9)) ∧
  (∀ (s : State) (app : SecCheck) (base : Nat), s.seqOn = true → s.boot.shelfLoaded = true → s.firstFrames = true → s.boot.extNeeded =
    false ∨ s.boot.extDone = true → s.boot.plynDone = false → Does (.plynlinkStart app base) s (fun t => (if (s.secOf 0x13).2.integrity
    s.fuses.decryptKeySet app = 0 then t.boot.plynDone = true ∧ t.plk.started = true else t.boot.plynDone = false ∧ t.boot.shelfLoaded =
    false) ∧ t.fuses = s.fuses ∧ t.flashA = s.flashA ∧ t.flashB = s.flashB)) ∧
  (∀ (s : State), s.seqOn = true → s.boot.plynDone = true → s.committed = false → s.auditFull = false → s.boot.shutdownWaiting = false →
    Does (.commit) s (fun t => t.committed = true ∧ t.phase = .running ∧ t.boot.portsReleased = true ∧ t.get F.CFG_STATUS_STAGE = 0xB ∧
    t.adl.buf.length = s.adl.buf.length + 1 ∧ s.Kept t [.phase, .boot, .adl] [F.CFG_STATUS_STAGE, F.CFG_STATUS_COMMITTED,
    F.HUT_ICU_PEND_PENDING, F.ADL_STATUS_NEXT_SEQ, F.ADL_RING_HELD])) ∧
  (∀ (s : State), s.seqOn = true → s.boot.plynDone = true → s.committed = false → s.auditFull = false → Does (.commit) s (fun t =>
    t.committed = true ∧ t.boot.portsReleased = true ∧ t.phase = (if s.boot.shutdownWaiting then .shutdown else .running) ∧ t.mem =
    s.mem)) ∧
  (∀ (s : State), s.phase = .starting → s.boot.rom = true → s.boot.aborted = true → Does (.recoveryStart) s (fun t => t.boot.recovery =
    true ∧ t.boot.portsReleased = true ∧ t.phase = (if s.boot.shutdownWaiting then .shutdown else .running))) ∧
  (∀ (s : State), s.phase = .starting → s.boot.rom = true → s.boot.aborted = true → s.boot.shutdownWaiting = false → Does
    (.recoveryStart) s (fun t => t.boot.recovery = true ∧ t.boot.portsReleased = true ∧ t.phase = .running ∧ t.templates = [] ∧
    t.pins.panelPwrEn = 0 ∧ t.pins.blEn = 0 ∧ t.mem = s.mem ∧ t.nv = s.nv ∧ t.fuses = s.fuses ∧ t.adl = s.adl))

/-- Orderly shutdown and the emergency record end in OFF with their cause, and throttling follows the temperatures.
(spec/02_module_connectors_hotplug.md) -/
def Obligations.ShutdownAndLossAreRecorded : Prop :=
  (∀ (s : State), s.phase = .running → s.shutdownComing = false → s.pm.inProgress = none → Does (.orderlyShutdown .request) s (fun t =>
    t.phase = .shutdown)) ∧
  (∀ (s : State), s.phase = .starting → Does (.orderlyShutdown .request) s (fun t => t.boot.shutdownWaiting = true ∧ t.phase = .starting
    ∧ t.mem = s.mem)) ∧
  (∀ (s : State) (r : PwrReq), s.phase = .running → s.shutdownComing = false → s.pm.inProgress = some r → Does (.orderlyShutdown
    .request) s (fun t => t.phase = .running ∧ t.shutdownComing = true ∧ t.pm.inProgress = some r ∧ t.mem = s.mem)) ∧
  (∀ (s : State) (fails : List TestFail) (cov : Fin 1001) (us : Nat), s.phase = .shutdown → s.fuses.burns = [] → Does (.orderlyShutdown
    (.finish fails cov us)) s (fun t => t.phase = .off ∧ t.nv.lastOff = .orderly ∧ t.pd = 0 ∧ t.mem = [])) ∧
  (∀ (s : State), s.phase = .running ∨ s.phase = .starting ∨ s.phase = .shutdown → Does (.emergencyTrigger .removal) s (fun t => t.phase
    = .emergency .removal ∧ t.pd = 1 ∧ t.pins.panelPwrEn = 0 ∧ t.pins.blEn = 0 ∧ t.err.due = [] ∧ t.err.running = [])) ∧
  (∀ (s : State) (ovr : Bool), s.phase = .running ∨ s.phase = .starting ∨ s.phase = .shutdown → Does (.emergencyTrigger (.inputLoss
    ovr)) s (fun t => t.phase = .emergency .inputLoss ∧ t.pd = 1)) ∧
  (∀ (s : State), s.phase = .running ∨ s.phase = .starting ∨ s.phase = .shutdown → Does (.emergencyTrigger .pwrEnDrop) s (fun t =>
    t.phase = .emergency .pwrEnDrop ∧ t.pd = 1)) ∧
  (∀ (s : State) (c : OffCause), s.phase = .emergency c → Does (.emergencyRecord) s (fun t => t.phase = .off ∧ t.nv.lastOff = c ∧
    t.nv.closing.kind = 255 ∧ t.nv.closing.cause = c.code ∧ t.pd = 0)) ∧
  (∀ (s : State) (mv : Nat), s.phase ≠ .off → Does (.supplySample mv) s (fun t => t.get F.PWR_SUPPLY_VIN = min 4095 (mv / 10) ∧
    t.sup.inputMv = mv ∧ (10500 ≤ mv → mv < 10800 → t.get F.PWR_SUPPLY_VIN_LOW = 1) ∧ (13200 < mv → mv ≤ 15000 → t.get
    F.PWR_SUPPLY_VIN_HIGH = 1) ∧ s.Kept t [.sup, .pm, .freeCtr] [F.PWR_SUPPLY_VIN, F.PWR_SUPPLY_VIN_LOW, F.PWR_SUPPLY_VIN_HIGH,
    F.HUT_ICU_PEND_PENDING, F.CMP_FETCH_CFG_GEN_EFF])) ∧
  (∀ (s : State) (plate die : Int), s.phase ≠ .off → s.throttleFor plate die ≠ 5 → s.get F.PWR_SUPPLY_THROTTLE < s.throttleFor plate die
    → Does (.throttleEval plate die) s (fun t => t.get F.PWR_SUPPLY_THROTTLE = s.throttleFor plate die ∧ t.get F.PWR_SUPPLY_HOT = 1 ∧
    s.Kept t [.pm, .pins, .freeCtr] [F.PWR_SUPPLY_PLATE_T, F.PWR_SUPPLY_THROTTLE, F.PWR_SUPPLY_HOT, F.HUT_ICU_PEND_PENDING,
    F.CMP_FETCH_CFG_GEN_EFF])) ∧
  (∀ (s : State) (plate die : Int), s.phase ≠ .off → s.throttleFor plate die ≤ s.get F.PWR_SUPPLY_THROTTLE → s.throttleFor plate die ≠ 5
    → Does (.throttleEval plate die) s (fun t => t.get F.PWR_SUPPLY_PLATE_T = ux plate 8 ∧ s.Kept t [.pm] [F.PWR_SUPPLY_PLATE_T])) ∧
  (∀ (s : State) (plate die : Int), s.phase = .running ∨ s.phase = .starting ∨ s.phase = .shutdown → s.throttleFor plate die = 5 → Does
    (.throttleEval plate die) s (fun t => t.phase = .emergency .thermalTrip ∧ t.pd = 1 ∧ t.pins.panelPwrEn = 0 ∧ t.pins.blEn = 0)) ∧
  (∀ (s : State), s.phase ≠ .off → s.get F.PWR_SUPPLY_THROTTLE ≠ 0 → s.get F.PWR_SUPPLY_THROTTLE < 8 → s.pm.cool.any (fun p => p.1 =
    s.get F.PWR_SUPPLY_THROTTLE && decide (p.2 + 1000000000 ≤ s.now)) = true → Does (.throttleDrop) s (fun t => t.get
    F.PWR_SUPPLY_THROTTLE = s.get F.PWR_SUPPLY_THROTTLE - 1 ∧ s.Kept t [.pm, .pins, .freeCtr] [F.PWR_SUPPLY_THROTTLE, F.PWR_SUPPLY_HOT,
    F.HUT_ICU_PEND_PENDING, F.CMP_FETCH_CFG_GEN_EFF]))

/-- A CAN frame, a time-out, the status frame and the end of the lamp test act on the telltales. (spec/03_startup_and_config_image.md)
-/
def Obligations.TelltalesFollowTheirFrames : Prop :=
  (∀ (s : State) (p : Fin 2) (ext : Bool) (id : Fin 536870912) (data : List Byte), s.canOn p = true → Does (.canFrameRx p ext id data) s
    (fun t => t.tell.entries = s.tell.entries.map (fun x => if x.canId % 2 ^ 29 = (id : Nat) && bit x.canId 29 = ext && x.frameOk p id
    data then x.take s.now data else x) ∧ tget 0 t.tell.discarded p = tget 0 s.tell.discarded p + b2n (s.tell.entries.any (fun x =>
    x.canId % 2 ^ 29 = (id : Nat) && bit x.canId 29 = ext && !(x.frameOk p id data))) ∧ s.Kept t [.tell] [])) ∧
  (∀ (s : State) (p : Fin 2) (ext : Bool) (id : Fin 536870912) (data : List Byte) (t0 : Telltale), s.canOn p = true → s.tell.entries =
    [t0] → t0.canId % 2 ^ 29 = (id : Nat) → bit t0.canId 29 = ext → t0.frameOk p id data = true → exec (.canFrameRx p ext id data) s =
    .next { s with tell := { s.tell with entries := [t0.take s.now data] } }) ∧
  (∀ (s : State) (p : Fin 2) (ext : Bool) (id : Fin 536870912) (data : List Byte) (t0 : Telltale), s.canOn p = true → s.tell.entries =
    [t0] → t0.canId % 2 ^ 29 = (id : Nat) → bit t0.canId 29 = ext → t0.frameOk p id data = false → Does (.canFrameRx p ext id data) s
    (fun t => t.tell.entries = s.tell.entries ∧ tget 0 t.tell.discarded p = tget 0 s.tell.discarded p + 1 ∧ s.Kept t [.tell] [])) ∧
  (∀ (s : State) (i : Fin 64), s.boot.firstFrame = true → (i : Nat) < s.tell.entries.length → max s.boot.firstFrameAt
    ((((s.tell.entries.getD i {}).history.head?).map (fun p => p.1)).getD 0) + s.tell.timeoutMs * 1000000 ≤ s.now → Does
    (.telltaleTimeout i) s (fun t => (t.tell.entries.getD i {}).timedOut = true ∧ s.Kept t [.tell] [])) ∧
  (∀ (s : State), s.tell.statusPeriodMs ≠ 0 → (∀ a ∈ s.tell.sentAt, a + s.tell.statusPeriodMs * 1000000 ≤ s.now) → exec
    (.canStatusFrame) s = .next
    { s with tell := { s.tell with sentAt := some s.now, sent := s.tell.sent ++ ((List.range 2).filter (fun p => s.canUp p && bit s.tell.statusId (30 + p))).map (fun p => (p, s.tell.statusId % 2 ^ 30, s.canStatus)) } }) ∧
  (∀ (s : State) (a : Nat), s.tell.lampFrom = some a → a + 2000000000 ≤ s.now → Does (.lampTestEnd) s (fun t => t.get
    F.CFG_STATUS_LAMP_ACTIVE = 0 ∧ s.Kept t [] [F.CFG_STATUS_LAMP_ACTIVE]))

/-- Register, memory and BAR accesses of an agent act on the register, bytes or buffer that they address.
(spec/04_address_map_and_ordering.md, spec/19_cabinet_world_and_lifecycle.md, spec/22_audit_log.md) -/
def Obligations.BusAccessesReachTheirTargets : Prop :=
  (∀ (s : State) (v : Nat), s.blkOn 0x10 = true → s.held = [] → s.cabOwned 0x10 = false → Does (.registerWrite
    { kind := .hutch, cab := true } 0x00F001010014 4 v) s (fun t => t.get F.HDn_LUT_VALUE 5 = v % 2 ^ 12 ∧ s.Kept t [.latches]
    [F.HDn_LUT_VALUE] ∧ (∀ i, i < 1024 → i ≠ 5 → t.get F.HDn_LUT_VALUE i = s.get F.HDn_LUT_VALUE i))) ∧
  (∀ (s : State), s.blkOn 0x10 = true → s.held = [] → s.cabOwned 0x10 = false → exec (.registerRead { kind := .hutch, cab := true }
    0x00F001010014 4) s = .next
    { s with reads := s.reads ++ [⟨{ kind := .hutch, cab := true }, 0x00F001010014, s.get F.HDn_LUT_VALUE 5⟩] }) ∧
  (∀ (s : State) (o : Origin) (v : Nat) (h : Held), s.held = [h] → h.addr / 2 ^ 20 = 0xF0010 → exec (.registerWrite o 0x00F001010014 4
    v) s = .next (s.hold { origin := o, addr := 0x00F001010014, size := 4, data := some v })) ∧
  (∀ (s : State) (o : Origin) (a n : Nat) (h : Held), s.held = [h] → h.addr / 2 ^ 20 = a / 2 ^ 20 → exec (.registerRead o a n) s = .next
    { s with held := s.held ++ [{ origin := o, addr := a, size := n, data := none }] }) ∧
  (∀ (s : State) (h : Held) (rest : List Held), s.held = h :: rest → exec (.auditEntry) s = .next ((if ((({ s with held := [] } :
    State).heldGo h).held.isEmpty = true) then { (({ s with held := [] } : State).heldGo h) with held := rest } else s))) ∧
  (∀ (s : State) (h : Held) (rest : List Held) (v : Nat), s.held = h :: rest → h =
    { origin := { kind := .hutch, cab := true }, addr := 0x00F001000A00, size := 4, data := some v, audited := true } → s.blkOn 0x10 =
    true → s.committed = true → s.adl.buf.length ≤ 62 → Does (.auditEntry) s (fun t => t.held = rest ∧ t.get F.HDn_MTX_COEF 0 = v % 2 ^
    16 ∧ t.adl.buf.length = s.adl.buf.length + 1 ∧ s.Kept t [.held, .adl, .shadow] [F.HDn_MTX_COEF, F.ADL_STATUS_NEXT_SEQ,
    F.ADL_RING_HELD, F.HUT_ICU_PEND_PENDING])) ∧
  (∀ (s : State) (o : Origin) (blk a n : Nat) (bs : List Byte), memArea a = .hutchSram → s.spanCheck o true a bs.length = 0 → Does
    (.memoryAccess o blk a n (some bs)) s (fun t => t.readBytes a bs.length = bs ∧ (∀ x, (x < a ∨ a + bs.length ≤ x) → t.peek x = s.peek
    x) ∧ s.Kept t [.mem] [])) ∧
  (∀ (s : State) (o : Origin) (blk a n : Nat) (bs : List Byte), memArea a = .dram → s.spanCheck o true a bs.length = 0 → s.dmc.bad = []
    → Does (.memoryAccess o blk a n (some bs)) s (fun t => t.readBytes a bs.length = bs ∧ (∀ x, (x < a ∨ a + bs.length ≤ x) → t.peek x =
    s.peek x) ∧ s.PartsKept t [.mem, .dmc, .cores])) ∧
  (∀ (s : State) (o : Origin) (blk a n : Nat) (bs : List Byte), memArea a = .dram → s.spanCheck o true a bs.length = 0 → s.admits a
    bs.length = true → bs ≠ [] → exec (.memoryAccess o blk a n (some bs)) s = .next (s.dramStore o a bs)) ∧
  (∀ (s : State) (o : Origin) (blk a n : Nat), memArea a = .dram → s.spanCheck o false a n = 0 → s.admits a n = true → n ≠ 0 → exec
    (.memoryAccess o blk a n none) s = .next ((s.dramFetch o a n).1.ret o a (leNat (s.dramFetch o a n).2))) ∧
  (∀ (s : State) (o : Origin) (blk a n : Nat) (bs : List Byte), memArea a = .dram → s.spanCheck o true a bs.length = 0 → s.admits a
    bs.length = false → exec (.memoryAccess o blk a n (some bs)) s = .next
    { s with stalled := s.stalled ++ [.access o blk a n (some bs)] }) ∧
  (∀ (s : State) (blk a n : Nat), memArea a = .hutchSram → s.spanCheck { kind := .hutch, cab := true } false a n = 0 → exec
    (.memoryAccess { kind := .hutch, cab := true } blk a n none) s = .next
    { s with reads := s.reads ++ [⟨{ kind := .hutch, cab := true }, a, leNat (s.readBytes a n)⟩] }) ∧
  (∀ (s : State) (o : Origin) (blk a n : Nat) (bs : List Byte), memArea a = .hutchSram ∨ memArea a = .dram ∨ memArea a = .shelf ∨
    memArea a = .journal ∨ memArea a = .mram ∨ memArea a = .unmapped → bs ≠ [] → s.spanCheck o true a bs.length ≠ 0 → exec
    (.memoryAccess o blk a n (some bs)) s = .next (s.accessError o blk (s.spanCheck o true a bs.length) a)) ∧
  (∀ (s : State) (x : BarAccess) (off : Nat) (bs : List Byte), (s.portOf x.port).linkUp = true → s.boot.portsReleased = true → x.fn = 0
    → x.bar2 = false → x.off = 0x100000 + off → off < 0x80000 → x.data = some bs → Does (.hostBarAccess x) s (fun t => (t.portOf
    x.port).request = bufPut (s.portOf x.port).request off bs ∧ s.Kept t [.ports] [] ∧ (∀ q, q ≠ (x.port : Nat) → t.portOf q = s.portOf
    q))) ∧
  (∀ (s : State) (x : BarAccess) (off : Nat) (bs : List Byte), (s.portOf x.port).linkUp = true → s.boot.portsReleased = true → x.fn = 0
    → x.bar2 = false → x.off = 0x180000 + off → off < 0x80000 → x.data = some bs → Does (.hostBarAccess x) s (fun t => (t.portOf
    x.port).response = bufPut (s.portOf x.port).response off bs ∧ s.Kept t [.ports] [])) ∧
  (∀ (s : State) (x : BarAccess) (off : Nat), (s.portOf x.port).linkUp = true → s.boot.portsReleased = true → x.fn = 0 → x.bar2 = false
    → x.off = 0x180000 + off → off < 0x80000 → x.data = none → exec (.hostBarAccess x) s = .next (s.hostOutPush x.port (.cplOk (leNat
    (bufBytes (s.portOf x.port).response off x.n))))) ∧
  (∀ (s : State) (x : BarAccess) (bs : List Byte), (s.portOf x.port).linkUp = true → s.boot.portsReleased = true → x.fn = 0 → x.bar2 =
    false → x.off < 0x100000 → x.data = some bs → exec (.hostBarAccess x) s = .next (s.regWrite (Origin.mediator x.port) (0x00F000000000
    + (0x1A + x.port) * 2 ^ 20 + x.off) bs.length (leNat bs))) ∧
  (∀ (s : State) (x : BarAccess), (s.portOf x.port).linkUp = true → s.boot.portsReleased = true → x.fn = 0 → x.bar2 = false → x.off <
    0x100000 → x.data = none → exec (.hostBarAccess x) s = .next (s.regReadOrHold (Origin.mediator x.port) (0x00F000000000 + (0x1A +
    x.port) * 2 ^ 20 + x.off) x.n)) ∧
  (∀ (s : State) (x : BarAccess) (bs : List Byte), (s.portOf x.port).linkUp = true → s.boot.portsReleased = true → (s.portOf
    x.port).vfEnable = true → x.fn ≠ 0 → s.drwState (x.port * 32 + x.fn - 1) ≠ 0 → x.bar2 = false → x.data = some bs → exec
    (.hostBarAccess x) s = .next (s.pageWrite (Origin.ofDrawer (x.port * 32 + x.fn - 1)) (x.port * 32 + x.fn - 1) x.off bs.length (leNat
    bs))) ∧
  (∀ (s : State) (x : BarAccess) (bs : List Byte), (s.portOf x.port).linkUp = true → s.boot.portsReleased = true → (s.portOf
    x.port).vfEnable = true → x.fn ≠ 0 → s.drwState (x.port * 32 + x.fn - 1) ≠ 0 → x.bar2 = true → x.data = some bs → bs ≠ [] → s.inHeap
    (x.port * 32 + x.fn - 1) x.off bs.length = true → memArea ((s.drwOf (x.port * 32 + x.fn - 1)).heapBase + x.off) = .dram →
    s.spanCheck (Origin.ofDrawer (x.port * 32 + x.fn - 1)) true ((s.drwOf (x.port * 32 + x.fn - 1)).heapBase + x.off) bs.length = 0 →
    s.admits ((s.drwOf (x.port * 32 + x.fn - 1)).heapBase + x.off) bs.length = true → exec (.hostBarAccess x) s = .next (s.dramStore
    (Origin.ofDrawer (x.port * 32 + x.fn - 1)) ((s.drwOf (x.port * 32 + x.fn - 1)).heapBase + x.off) bs)) ∧
  (∀ (s : State) (x : BarAccess), (s.portOf x.port).linkUp = true → s.boot.portsReleased = true → (s.portOf x.port).vfEnable = true →
    x.fn ≠ 0 → s.drwState (x.port * 32 + x.fn - 1) = 0 → x.data = none → exec (.hostBarAccess x) s = .next (s.hostOutPush x.port (.cplOk
    0)))

/-- A register write that is no aligned 32-bit or 64-bit access has no effect but ACCESS_SIZE, and a narrower read returns the bytes
addressed. (R138) -/
def Obligations.NarrowAndMisalignedAccesses : Prop :=
  (∀ (s : State) o a n v, ((n ≠ 4 ∧ n ≠ 8) ∨ a % n ≠ 0) → exec (.registerWrite o a n v) s = .next (s.accessError o 0 0x2B a)) ∧
  (∀ (s : State) o a n, n = 4 ∨ n = 8 → a % n ≠ 0 → s.behindHeld a = false →
    exec (.registerRead o a n) s = .next ((s.accessError o 0 0x2B a).ret o a 0)) ∧
  (∀ (s : State) o a n, n = 1 ∨ n = 2 →
    s.regRead o a n = ((s.regRead o (a / 4 * 4) 4).1, (s.regRead o (a / 4 * 4) 4).2 / 2 ^ (8 * (a % 4)) % 2 ^ (8 * n))) ∧
  (∀ (s : State) o a v r i off, a % 8 = 0 → regAt a = some (r, i, off) → r.wide = false → s.behindHeld a = false →
    s.regWrite o a 8 v = (if (regAt (a + 4)).isNone then s.regWrite o a 4 (v % 2 ^ 32)
      else (s.regWrite o a 4 (v % 2 ^ 32)).regWrite o (a + 4) 4 (v / 2 ^ 32))) ∧
  (∀ (s : State) o a r i off, a % 8 = 0 → regAt a = some (r, i, off) → r.wide = false →
    s.regRead o a 8 = (if (regAt (a + 4)).isNone then s.regRead o a 4
      else (((s.regRead o a 4).1.regRead o (a + 4) 4).1, (s.regRead o a 4).2 + ((s.regRead o a 4).1.regRead o (a + 4) 4).2 * 2 ^ 32)))

/-- Reset, link and VF events of a host port act on the port and on its Drawers. (spec/03_startup_and_config_image.md,
spec/05_drawers_guest_instances.md) -/
def Obligations.HostPortsComeAndGo : Prop :=
  (∀ (s : State) (p : PortId), Does (.perstNDeassert p) s (fun t => (t.portOf p).inReset = false ∧ t.pins.perstN = s.pins.perstN.set p
    true ∧ bit (t.get F.HUT_ICU_PEND_PENDING) (9 + p) = true ∧ s.Kept t [.ports, .pins] [F.HUT_ICU_PEND_PENDING])) ∧
  (∀ (s : State) (p : PortId), s.pdOnB 12 = true → (s.portOf p).inReset = false → bit (s.get F.PWR_PADREL_HELD) 12 = false → s.phase =
    .starting ∨ s.phase = .running → exec (.hostLinkUp p) s = .next (s.modPort p (fun w => { w with linkUp := true }))) ∧
  (∀ (s : State) (p : PortId) (cfg : PciCfg), (s.portOf p).linkUp = true → s.boot.portsReleased = true → s.boot.recovery = false → exec
    (.vfEnable p cfg) s = .next (s.modPort p (fun w =>
    { w with vfEnable := true, cfg := (if w.vfEnable then { cfg with page64 := w.cfg.page64 } else cfg) }))) ∧
  (∀ (s : State) (p : PortId) (cfg : PciCfg), (s.portOf p).linkUp = true → s.boot.portsReleased = false → exec (.vfEnable p cfg) s =
    .next (s.hostOutPush p .retryStatus)) ∧
  (∀ (s : State) (p : PortId) (c : Fin 4), Does (.prtReset p c) s (fun t => (t.portOf p).job = none ∧ (t.portOf p).image = none ∧
    (t.portOf p).vfEnable = false ∧ (t.portOf p).linkUp = (decide ((c : Nat) = 3) && (s.portOf p).linkUp) ∧ ((c : Nat) = 0 → (t.portOf
    p).inReset = true))) ∧
  (∀ (s : State) (p : PortId), exec (.vfDisable p) s = .next ((List.range 32).foldl (fun (u : State) i => u.drawerReset (p * 32 + i)
    .vfDisable none) (s.modPort p (fun w => { w with vfEnable := false })))) ∧
  (∀ (s : State) (d : DrawerId), s.drwState d ≠ 0 → (s.drwOf d).reset = none → (s.drwOf d).quiesce = none → exec (.vfFlr d) s = .next
    (((((s.shareAs d (tget 0 s.gpu.rawShare d)).put F.DRW_STATUS_STATE d 3).modDrw d (fun w =>
    { w with reset := some { cause := .flr, drain := false, hostWrites := false, toFree := false, deadline := s.now, seq := (s.get F.DRW_STATUS_RESET_SEQ d + 1) % 65536, share := tget 0 s.gpu.rawShare d } })).squash
    d).modDrw d (fun w => { w with fn := { w.fn with d3hot := false } }))) ∧
  (∀ (s : State) (d : DrawerId), exec (.vfFlr d) s = .next ((s.drawerReset d .flr none).modDrw d (fun w =>
    { w with fn := { w.fn with d3hot := false } }))) ∧
  (∀ (s : State) (d : DrawerId), s.drwState d = 0 → exec (.vfFlr d) s = .next (s.modDrw d (fun w =>
    { w with fn := { w.fn with d3hot := false } }))) ∧
  (∀ (s : State) (p : PortId) (f : Fin 33) (m : Pmcsr), (s.fnOf p f).d3hot = false → (∀ x ∈ (s.fnOf p f).vecs, x.2.events = 0) → exec
    (.d3hotEntry p f m) s = .next (s.setFn p f { ((s.fnOf p f).pmcsr m).freeze s.now with d3hot := true })) ∧
  (∀ (s : State) (p : PortId) (f : Fin 33) (m : Pmcsr), (s.fnOf p f).d3hot = false → (∃ x ∈ (s.fnOf p f).vecs, 0 < x.2.events) → exec
    (.d3hotEntry p f m) s = .next ((s.setFn p f { ((s.fnOf p f).pmcsr m).freeze s.now with d3hot := true }).pmeSignal p f)) ∧
  (∀ (s : State) (p : PortId) (f : Fin 33) (m : Pmcsr), (s.fnOf p f).d3hot = true → exec (.d3hotEntry p f m) s = .next (s.setFn p f
    ((s.fnOf p f).pmcsr m))) ∧
  (∀ (s : State) (p : PortId) (f : Fin 33) (m : Pmcsr), exec (.d0Return p f m) s = .next ((List.range 64).foldl (fun (u : State) v => if
    0 < ((u.fnOf p f).vec v).events then u.fireFn p f v else u.sendPending p f v) (s.setFn p f
    { (s.fnOf p f).pmcsr m with d3hot := false })))

/-- The mailbox commands that report answer OK with the data that the spec lays out, and the response reaches the host.
(spec/05_drawers_guest_instances.md, spec/21_errors_and_recovery.md) -/
def Obligations.MailboxReportsTheModule : Prop :=
  (∀ (s : State) (p : PortId) (d : Nat), s.asked p = some (0x0001, d) → exec (.query p) s = .next (s.respond p 0 0 (leBytes 4 (s.regWord
    1 0) ++ leBytes 4 (s.regWord 2 0) ++ leBytes 4 (s.get F.CAB_LC_STATE) ++ leBytes 4 (if s.fuses.capX32 then 1 else if s.fuses.pmaxC64
    then 2 else 0) ++ leBytes 4 s.freeTls.length ++ leBytes 12 0))) ∧
  (∀ (s : State) (p : PortId) (d : Nat), s.asked p = some (0x0002, d) → exec (.listTemplates p) s = .next (s.respond p 0 0 (leBytes 4
    (s.templates.filter (fun x => if (p : Nat) = 0 then x.onA else x.onB)).length ++ leBytes 12 0 ++ (s.templates.filter (fun x => if (p
    : Nat) = 0 then x.onA else x.onB)).flatMap (fun x => x.raw)))) ∧
  (∀ (s : State) (p : PortId) (d : Nat), s.asked p = some (0x0003, d) → exec (.drawerInfo p) s = .next (s.respond p 0 0 (leBytes 4
    (s.drwState d) ++ leBytes 4 (s.get F.DRW_INFO_TEMPLATE d) ++ leBytes 4 ((s.drwOf d).heapSize / 2 ^ 20) ++ leBytes 4 (s.get
    F.GFE_CTX_SHARE_ACTIVE d) ++ leBytes 4 (s.nextActive d) ++ leBytes 4 (s.drwOf d).layerSlots ++ leBytes 4 (s.drwOf d).tlIds.length ++
    leBytes 4 (s.get F.DRW_INFO_CLASS d)))) ∧
  (∀ (s : State) (p : PortId) (d n : Nat), s.asked p = some (0x0004, d) → s.payLE p 0 4 = n → 1 ≤ n → n ≤ 64 → exec (.eventRead p) s =
    .next ((s.modPort p (fun w => { w with events := w.events.drop n, eventsDropped := 0 })).respond p 0 (s.portOf p).eventsDropped
    (((s.portOf p).events.take n).flatMap DrwEvent.bytes))) ∧
  (∀ (s : State) (p : PortId) (d n : Nat), s.asked p = some (0x0051, d) → s.payLE p 0 4 = 0xFF → s.payLE p 4 4 = n → 1 ≤ n → n ≤ 64 →
    Does (.errorRead p) s (fun t => tget [] t.err.drawerLog p = (tget [] s.err.drawerLog p).drop n ∧ ((t.portOf p).job.bind (fun j =>
    j.rsp)).map (fun r => (r.result, r.detail, r.payload)) = some (0, tget 0 s.err.drawerLogDropped p, ((tget [] s.err.drawerLog p).take
    n).flatMap ErrRec.bytes) ∧ s.Kept t [.err, .ports] [])) ∧
  (∀ (s : State) (p : PortId) (d : Nat) (r : Reg) (i : Nat), s.asked p = some (0x0031, d) → s.namedReg p = some (r, i) → s.behindHeld
    (r.addrOf i) = false → exec (.regRead p) s = .next ((s.regReadAt (Origin.mediator p) r i 0 (r.addrOf i) (if r.wide then 8 else 4)
    true).1.respondValue p (s.regReadAt (Origin.mediator p) r i 0 (r.addrOf i) (if r.wide then 8 else 4) true).2)) ∧
  (∀ (s : State) (p : PortId) (r : MbxRsp), (s.portOf p).job.bind (fun j => j.rsp) = some r → r.payload = [] → (s.portOf p).response =
    [] → r.result = 0 → r.tag = 0 → r.detail = 0 → ((s.portOf p).pf.vec 0).masked = false → (s.portOf p).pf.fnMask = false → Does
    (.mailboxResponse p) s (fun t => (t.portOf p).job = none ∧ (t.portOf p).response = [] ∧ t.get F.HPx_MBX_STATUS_BUSY p = 0 ∧ t.get
    F.HPx_MBX_STATUS_DONE p = 1 ∧ t.hostOut = s.hostOut ++ [((p : Nat), .msix 0 0)] ∧ s.Kept t [.ports, .hostOut]
    [F.HPx_MBX_STATUS_BUSY, F.HPx_MBX_STATUS_DONE]))

/-- The mailbox commands that create, size, share, reset and free Drawers act as asked and answer. (spec/05_drawers_guest_instances.md,
spec/08_gpu_contexts_and_shares.md) -/
def Obligations.MailboxManagesDrawers : Prop :=
  (∀ (s : State) (p : PortId) (d : Nat) (t0 : Template) (base save : Nat), s.asked p = some (0x0010, d) → s.drwState d = 0 → (s.portOf
    p).vfEnable = true → s.templates.find? (fun x => x.id = s.payLE p 0 4 && (if (p : Nat) = 0 then x.onA else x.onB)) = some t0 →
    s.heapOk p (s.payLE p 4 4) t0 = true → shareOk t0 (s.payLE p 8 4) = true → s.instances p t0.id < t0.maxInstances → s.placeIn
    t0.heapRegion (s.payLE p 4 4 * 2 ^ 20) (s.drwRanges 66) = some base → s.placeIn t0.heapRegion saveBytes ((base, s.payLE p 4 4 * 2 ^
    20) :: s.drwRanges 66) = some save → t0.timelines ≤ s.freeTls.length → t0.audioPlay = 0 → t0.audioCap = 0 → exec (.create p) s =
    .next ((s.createDrawer d t0 (s.payLE p 4 4) (s.payLE p 8 4) base save).respond p 0 0 [])) ∧
  (∀ (s : State) (p : PortId) (d : Nat), s.asked p = some (0x0011, d) → s.drwState d = 1 → s.heapOk p (s.payLE p 0 4) (s.templateOf d) =
    true → (s.drwOf d).heapSize ≤ s.payLE p 0 4 * 2 ^ 20 → (s.drwOf d).heapBase + s.payLE p 0 4 * 2 ^ 20 ≤ (s.get F.DMC_RGN_A_BASE_64M
    (s.templateOf d).heapRegion + s.get F.DMC_RGN_A_SIZE_64M (s.templateOf d).heapRegion) * 2 ^ 26 → (s.drwRanges d).any (fun u =>
    overlap (s.drwOf d).heapBase (s.payLE p 0 4 * 2 ^ 20) u.1 u.2) = false → exec (.resize p) s = .next ((((s.zeroBytes ((s.drwOf
    d).heapBase + (s.drwOf d).heapSize) (s.payLE p 0 4 * 2 ^ 20 - (s.drwOf d).heapSize)).modDrw d (fun w =>
    { w with heapSize := s.payLE p 0 4 * 2 ^ 20 })).put F.DRW_INFO_HEAP_64M d (s.payLE p 0 4 / 64)).respond p 0 0 [])) ∧
  (∀ (s : State) (p : PortId) (d : Nat), s.asked p = some (0x0012, d) → s.drwState d = 1 → d < 64 → shareOk (s.templateOf d) (s.payLE p
    0 4) = true → s.payLE p 0 4 < 1024 → Does (.setShare p) s (fun t => t.get F.GFE_CTX_SHARE_SHARE d = s.payLE p 0 4 ∧ ((t.portOf
    p).job.bind (fun j => j.rsp)).map (fun r => (r.result, r.payload)) = some (0, []) ∧ s.Kept t [.ports] [F.GFE_CTX_SHARE_SHARE,
    F.GFE_CTX_SHARE_PENDING])) ∧
  (∀ (s : State) (p : PortId) (d id a b : Nat), s.asked p = some (0x0013, d) → s.payLE p 0 4 = a → s.payLE p 4 4 = b → s.payLE p 0xC 4 =
    1 → a < 32 → b < 32 → s.drwState (p * 32 + a) ≠ 0 → s.drwState (p * 32 + b) ≠ 0 → s.localTl (p * 32 + b) (s.payLE p 8 4) = some id →
    exec (.grantWait p) s = .next ((s.modTl id (fun x =>
    { x with grants := (s.tl id).grants.filter (fun g => g ≠ p * 32 + a) ++ [p * 32 + a] })).respond p 0 0 [])) ∧
  (∀ (s : State) (p : PortId) (d ms : Nat), s.asked p = some (0x0014, d) → s.payLE p 0 4 = 0 → s.payLE p 4 4 = ms → 1 ≤ ms → ms ≤ 100 →
    s.drwState d = 1 → (s.drwOf d).reset = none → (s.drwOf d).quiesce = none → exec (.reset p) s = .next (((((s.mbxWait p).shareAs d
    (tget 0 s.gpu.rawShare d)).put F.DRW_STATUS_STATE d 3).modDrw d (fun w =>
    { w with reset := some { cause := .reset, drain := true, hostWrites := true, toFree := false, deadline := s.now + ms * 1000000, seq := (s.get F.DRW_STATUS_RESET_SEQ d + 1) % 65536, share := tget 0 s.gpu.rawShare d } })))) ∧
  (∀ (s : State) (p : PortId) (d : Nat), s.asked p = some (0x0015, d) → s.drwState d = 1 → (s.drwOf d).reset = none → (s.drwOf
    d).quiesce = none → exec (.destroy p) s = .next (((((s.mbxWait p).shareAs d (tget 0 s.gpu.rawShare d)).put F.DRW_STATUS_STATE d
    3).modDrw d (fun w =>
    { w with reset := some { cause := .destroy, drain := false, hostWrites := true, toFree := true, deadline := s.now, seq := (s.get F.DRW_STATUS_RESET_SEQ d + 1) % 65536, share := tget 0 s.gpu.rawShare d } })).squash
    d)) ∧
  (∀ (s : State) (p : PortId) (d : Nat), s.asked p = some (0x0010, d) → s.drwState d = 0 → (s.portOf p).vfEnable = true → exec (.create
    p) s = .next (s.create p d)) ∧
  (∀ (s : State) (p : PortId) (d : Nat), s.asked p = some (0x0011, d) → s.drwState d = 1 ∨ s.drwState d = 2 → exec (.resize p) s = .next
    (s.resize p d)) ∧
  (∀ (s : State) (p : PortId) (d : Nat), s.asked p = some (0x0012, d) → s.drwState d = 1 ∨ s.drwState d = 2 → shareOk (s.templateOf d)
    (s.payLE p 0 4) = true → exec (.setShare p) s = .next ((s.shareWrite d (s.payLE p 0 4)).respond p 0 0 [])) ∧
  (∀ (s : State) (p : PortId) (d id : Nat), s.asked p = some (0x0013, d) → s.payLE p 0xC 4 = 0 → s.payLE p 0 4 ≤ 31 → s.payLE p 4 4 ≤ 31
    → s.drwState (p * 32 + s.payLE p 0 4) ≠ 0 → s.drwState (p * 32 + s.payLE p 4 4) ≠ 0 → s.localTl (p * 32 + s.payLE p 4 4) (s.payLE p
    8 4) = some id → exec (.grantWait p) s = .next (((s.modTl id (fun x =>
    { x with grants := (s.tl id).grants.filter (fun g => g ≠ p * 32 + s.payLE p 0 4) })).grantsChecked (p * 32 + s.payLE p 0 4)).respond
    p 0 0 [])) ∧
  (∀ (s : State) (p : PortId) (d : Nat), s.asked p = some (0x0014, d) → s.payLE p 0 4 ≤ 1 → s.payLE p 4 4 ≤ 100 → s.drwState d ≠ 0 →
    exec (.reset p) s = .next ((s.mbxWait p).drawerReset d .reset (if s.payLE p 0 4 = 0 then some (if s.payLE p 4 4 = 0 then
    (s.templateOf d).drainMs else s.payLE p 4 4) else none))) ∧
  (∀ (s : State) (p : PortId) (d : Nat), s.asked p = some (0x0015, d) → s.drwState d ≠ 0 → exec (.destroy p) s = .next ((s.mbxWait
    p).drawerReset d .destroy none))

/-- SAVE, QUIESCE, RESUME, RESTORE and the dirty log act on the Drawer that the request names. (spec/05_drawers_guest_instances.md) -/
def Obligations.MailboxMigratesDrawers : Prop :=
  (∀ (s : State) (p : PortId) (d ms : Nat), s.asked p = some (0x0028, d) → s.payLE p 0 4 = ms → 1 ≤ ms → ms ≤ 100 → s.drwState d = 1 →
    s.quiet d = true → d / 32 = p → Does (.quiesce p) s (fun t => t.drwState d = 2 ∧ (t.drwOf d).quiesce = none ∧ ((t.portOf p).job.bind
    (fun j => j.rsp)).map (fun r => (r.result, r.detail)) = some (0, 0) ∧ s.Kept t [.drw, .ports] [F.DRW_STATUS_STATE])) ∧
  (∀ (s : State) (p : PortId) (d : Nat), s.asked p = some (0x0028, d) → exec (.quiesce p) s = .next (s.quiesceBegin p d false)) ∧
  (∀ (s : State) (p : PortId) (d ms : Nat), s.asked p = some (0x0020, d) → s.payLE p 0 4 = ms → 1 ≤ ms → ms ≤ 100 → (s.templateOf
    d).migrate = true → s.drwState d = 1 → s.quiet d = true → d / 32 = p → Does (.save p) s (fun t => t.drwState d = 2 ∧ (t.drwOf
    d).quiesce = none ∧ ((t.portOf p).job.bind (fun j => j.rsp)).map (fun r => (r.result, r.detail)) = some (0, 0) ∧ s.Kept t [.drw,
    .ports] [F.DRW_STATUS_STATE])) ∧
  (∀ (s : State) (p : PortId) (d ms : Nat), s.asked p = some (0x0020, d) → s.payLE p 0 4 = ms → 1 ≤ ms → ms ≤ 100 → (s.templateOf
    d).migrate = true → s.drwState d = 2 → exec (.save p) s = .next (s.respond p 0 0 (s.saveImage d))) ∧
  (∀ (s : State) (p : PortId) (d : Nat), s.asked p = some (0x0020, d) → s.drwState d = 1 ∨ s.drwState d = 2 → (s.templateOf d).migrate =
    true → exec (.save p) s = .next (s.quiesceBegin p d true)) ∧
  (∀ (s : State) (p : PortId) (d : Nat), s.asked p = some (0x0022, d) → s.drwState d = 2 → exec (.resume p) s = .next (((s.modDrw d (fun
    w => { w with byQuiesce := false })).put F.DRW_STATUS_STATE d 1).respond p 0 0 [])) ∧
  (∀ (s : State) (p : PortId) (d : Nat) (bs : List Byte), s.asked p = some (0x0021, d) → s.drwState d = 2 → (s.drwOf d).everEnabled =
    false → (s.drwOf d).byQuiesce = true → s.reqBytes p 16 (s.reqLE p 8 4) = bs → 12 ≤ bs.length → bs.length ≤ 65536 → fieldLE bs
    (bs.length - 4) 4 = crc32 (bs.take (bs.length - 4)) → (List.range 11).map (fun i => fieldLE bs (8 * (2 + i)) 8) = (s.templateOf
    d).limits → exec (.restore p) s = .next (((s.loadImage d (fun i => fieldLE bs (8 * i) 8)).put F.DRW_STATUS_STATE d 1).respond p 0 0
    [])) ∧
  (∀ (s : State) (p : PortId) (d a n : Nat), s.asked p = some (0x0023, d) → s.payLE p 0 8 = a → s.payLE p 8 4 = n → a % 8 = 0 → 512 ≤ n
    → n ≤ 1048576 → 2 ^ n.log2 = n → s.drwState d = 1 ∨ s.drwState d = 2 → exec (.dirtyStart p) s = .next (((s.modDrw d (fun w =>
    { w with dirty := some { ringAddr := a, ringEntries := n } })).put F.DRW_STATUS_DIRTY_ON d 1).respond p 0 0 [])) ∧
  (∀ (s : State) (p : PortId) (d : Nat) (l : DirtyLog), s.asked p = some (0x0024, d) → (s.drwOf d).dirty = some l → exec (.dirtySwap p)
    s = .next ((s.modDrw d (fun w =>
    { w with dirty := some { l with active := l.retired, retired := [], sinceSwap := 0, overflow := false } })).respond p 0 0 (leBytes 4
    (b2n l.overflow) ++ leBytes 4 l.written ++ leBytes 4 ((((s.drwOf d).heapSize + 65535) / 65536 + 7) / 8) ++ leBytes 4 0 ++ bitmap
    (((s.drwOf d).heapSize + 65535) / 65536) l.active))) ∧
  (∀ (s : State) (p : PortId) (d : Nat), s.asked p = some (0x0025, d) → (s.drwOf d).dirty.isSome = true → exec (.dirtyStop p) s = .next
    (((s.modDrw d (fun w => { w with dirty := none })).put F.DRW_STATUS_DIRTY_ON d 0).respond p 0 0 []))

/-- Heap export and import, REG_WRITE, the image update and AUDIT_READ act and answer as asked. (spec/05_drawers_guest_instances.md,
spec/03_startup_and_config_image.md, spec/22_audit_log.md) -/
def Obligations.MailboxMovesDataAndImages : Prop :=
  (∀ (s : State) (p : PortId) (d : Nat), s.asked p = some (0x0026, d) → s.drwState d = 1 ∨ s.drwState d = 2 → s.heapListOk p d = true →
    exec (.heapExport p) s = .next ((((s.heapList p).foldl (fun (u : State) x => (u.heapReadErr d (0x1A + p) x.1 x.2.2).portData p x.2.1
    (u.heapRead d x.1 x.2.2)) s).respond p 0 0 []))) ∧
  (∀ (s : State) (p : PortId) (d off src n : Nat) (bs : List Byte), s.asked p = some (0x0027, d) → s.drwState d = 1 ∨ s.drwState d = 2 →
    s.heapListOk p d = true → s.heapList p = [(off, src, n)] → bs.length = n → exec (.heapImport p [bs]) s = .next (((s.portRead p src
    n).heapWrite d (0x1A + p) off bs).respond p 0 0 [])) ∧
  (∀ (s : State) (p : PortId) (d : Nat) (data : List (List Byte)), s.asked p = some (0x0027, d) → s.drwState d = 1 ∨ s.drwState d = 2 →
    s.heapListOk p d = true → exec (.heapImport p data) s = .next ((((s.heapList p).zip data).foldl (fun (u : State) x => (u.portRead p
    x.1.2.1 x.1.2.2).heapWrite d (0x1A + p) x.1.1 ((x.2 ++ List.replicate x.1.2.2 0).take x.1.2.2)) s).respond p 0 0 [])) ∧
  (∀ (s : State) (p : PortId) (d i : Nat) (r : Reg), s.asked p = some (0x0030, d) → s.namedReg p = some (r, i) → r.wide = true →
    s.granted p r i &&& s.payLE p 16 8 ≠ 0 → r.id ≠ 34 → r.id ≠ 122 → s.held = [] → s.adl.buf.length ≤ 60 → s.regEntries
    (Origin.mediator p) r i (2 ^ 64 - 1) (s.maskedWord r i (s.payLE p 8 8) (s.payLE p 16 8)) { allow := s.granted p r i, byCmd := true }
    ≤ 4 → s.cabOwned (r.ownerBlk i) = false → exec (.regWrite p) s = .next ((s.regWriteAt (Origin.mediator p) r i 0 (r.addrOf i) 8
    (s.maskedWord r i (s.payLE p 8 8) (s.payLE p 16 8)) { allow := s.granted p r i, byCmd := true }).respondValue p (s.viewWord
    (Origin.mediator p) r i))) ∧
  (∀ (s : State) (p : PortId) (d i : Nat) (r : Reg), s.asked p = some (0x0030, d) → s.namedReg p = some (r, i) → r.wide = true ∨
    (s.payLE p 8 8 < 2 ^ 32 ∧ s.payLE p 16 8 < 2 ^ 32) → s.granted p r i &&& s.payLE p 16 8 ≠ 0 → r.id ≠ 34 → r.id ≠ 122 → s.behindHeld
    (r.addrOf i) = false → s.adl.buf.length + s.regEntries (Origin.mediator p) r i (if r.wide = true then 2 ^ 64 - 1 else 2 ^ 32 - 1)
    (s.maskedWord r i (s.payLE p 8 8) (s.payLE p 16 8)) { allow := s.granted p r i, byCmd := true } ≤ 64 → s.cabOwned (r.ownerBlk i) =
    false → exec (.regWrite p) s = .next ((s.regWriteAt (Origin.mediator p) r i 0 (r.addrOf i) (if r.wide = true then 8 else 4)
    (s.maskedWord r i (s.payLE p 8 8) (s.payLE p 16 8)) { allow := s.granted p r i, byCmd := true }).respondValue p (s.viewWord
    (Origin.mediator p) r i))) ∧
  (∀ (s : State) (p : PortId) (d n : Nat), s.asked p = some (0x0040, d) → s.imageDenied = false → s.payLE p 0 4 = n → n ≤ 0x2000000 →
    exec (.imageBegin p) s = .next ((s.modPort p (fun w =>
    { w with image := some (({ len := n } : PartialImage).put 0 (s.reqBytes p 32 4096)) })).respond p 0 0 [])) ∧
  (∀ (s : State) (p : PortId) (d off n : Nat) (x : PartialImage), s.asked p = some (0x0041, d) → s.imageDenied = false → (s.portOf
    p).image = some x → s.payLE p 0 4 = off → s.reqLE p 8 4 = 16 + n → off % 16 = 0 → off + n ≤ x.len → exec (.imageData p) s = .next
    ((s.modPort p (fun w => { w with image := some (x.put off (s.reqBytes p 32 n)) })).respond p 0 0 [])) ∧
  (∀ (s : State) (p : PortId) (d : Nat) (x : PartialImage) (c : HdrCheck), s.asked p = some (0x0042, d) → s.imageDenied = false →
    (s.portOf p).image = some x → x.stage = 0 → exec (.imageCommit p c) s = .next ((if s.headerOk (parseImage x.all) {} = 0 then
    { s.imageStage p x 1 with flashB := [] } else s.imageStops p (s.headerOk (parseImage x.all) {})))) ∧
  (∀ (s : State) (p : PortId) (d : Nat) (x : PartialImage) (c : HdrCheck), s.asked p = some (0x0042, d) → s.imageDenied = false →
    (s.portOf p).image = some x → x.stage = 1 → exec (.imageCommit p c) s = .next ((if (({ s with flashB := x.all } : State).verifyCopy
    (parseImage x.all) c) = 0 then { ({ s with flashB := x.all } : State).imageStage p x 2 with flashA := [] } else
    ({ s with flashB := x.all } : State).imageStops p (({ s with flashB := x.all } : State).verifyCopy (parseImage x.all) c)))) ∧
  (∀ (s : State) (p : PortId) (d : Nat) (x : PartialImage) (c : HdrCheck), s.asked p = some (0x0042, d) → s.imageDenied = false →
    (s.portOf p).image = some x → 2 ≤ x.stage → exec (.imageCommit p c) s = .next ((if (({ s with flashA := x.all } : State).verifyCopy
    (parseImage x.all) c) = 0 then (({ s with flashA := x.all } : State).modPort p (fun w => { w with image := none })).respond p 0 0 []
    else ({ s with flashA := x.all } : State).imageStops p (({ s with flashA := x.all } : State).verifyCopy (parseImage x.all) c)))) ∧
  (∀ (s : State) (p : PortId) (d n : Nat), s.asked p = some (0x0050, d) → s.payLE p 8 4 = n → 1 ≤ n → n ≤ 4096 → s.auditHeld = [] → exec
    (.auditRead p) s = .next (s.respond p 0 0 [])) ∧
  (∀ (s : State) (p : PortId) (d n : Nat) (e : AuditEntry), s.asked p = some (0x0050, d) → s.payLE p 8 4 = n → 1 ≤ n → n ≤ 4096 →
    s.auditHeld = [e] → s.payLE p 0 8 % 2 ^ 48 = e.pos → s.sealsAmong [e] = [] → exec (.auditRead p) s = .next ((s.respond p 0 1
    e.bytes).markTo e.start ((e.seq + 1) % 2 ^ 32))) ∧
  (∀ (s : State) (p : PortId) (d n : Nat), s.asked p = some (0x0050, d) → s.payLE p 8 4 = n → 1 ≤ n → n ≤ 4096 → Does (.auditRead p) s
    (fun t => ((t.portOf p).job.bind (fun j => j.rsp)).map (fun r => r.result) = some 0 ∧ t.mem = s.mem))

/-- The end of a Drawer reset, of a DRAIN and of a QUIESCE leave the Drawer as the spec says. (spec/05_drawers_guest_instances.md) -/
def Obligations.DrawerWorkComesToItsEnd : Prop :=
  (∀ (s : State) (d : DrawerId) (j : ResetJob), (s.drwOf d).reset = some j → j.drain = false → j.toFree = true → exec (.drawerResetDone
    d) s = .next (s.resetDone d j false)) ∧
  (∀ (s : State) (d : DrawerId) (j : ResetJob), (s.drwOf d).reset = some j → j.drain = false → j.toFree = true → j.seq < 65536 →
    (s.drwOf d).cmds = [] → (s.drwOf d).tlIds = [] → Does (.drawerResetDone d) s (fun t => t.get F.DRW_STATUS_RESET_SEQ d = j.seq ∧
    t.get F.DRW_STATUS_RESET_SEEN d = 1 ∧ t.drwState d = 0 ∧ t.drwOf d = {})) ∧
  (∀ (s : State) (d : DrawerId) (j : ResetJob), (s.drwOf d).reset = some j → j.drain = true → s.cmds d = [] → exec (.drawerResetDone d)
    s = .next ((s.squash d).resetDone d { j with drain := false } true)) ∧
  (∀ (s : State) (d : DrawerId) (j : ResetJob), (s.drwOf d).reset = some j → j.drain = true → j.deadline ≤ s.now → s.quiet d = false →
    exec (.drainTimeout d) s = .next (s.squash d)) ∧
  (∀ (s : State) (d : DrawerId) (j : QuiesceJob), s.quiet d = true → (s.drwOf d).quiesce = some j → j.save = false → exec
    (.drawerQuiesced d) s = .next (((s.modDrw d (fun w => { w with quiesce := none, byQuiesce := true })).put F.DRW_STATUS_STATE d
    2).respond (d / 32) 0 0 [])) ∧
  (∀ (s : State) (d : DrawerId), s.quiet d = true → exec (.drawerQuiesced d) s = .next (s.quiesced d)) ∧
  (∀ (s : State) (d : DrawerId) (j : QuiesceJob), s.quiet d = true → (s.drwOf d).quiesce = some j → j.deadline ≤ s.now → exec
    (.quiesceTimeout d) s = .next (s.quiesced d)) ∧
  (∀ (s : State) (d : DrawerId) (j : QuiesceJob), s.quiet d = false → (s.drwOf d).quiesce = some j → j.deadline ≤ s.now → exec
    (.quiesceTimeout d) s = .next ((s.modDrw d (fun w => { w with quiesce := none })).respond (d / 32) 6 0 [])) ∧
  (∀ (s : State) (d : DrawerId), (s.drwOf d).reset = none → exec (.drawerResetDone d) s = .next (s)) ∧
  (∀ (s : State) (d : DrawerId), (s.drwOf d).reset = none → exec (.drainTimeout d) s = .next (s))

/-- Doorbells move TAIL and CONSUMED, and DRW_Q_CTRL opens and closes a queue. (spec/05_drawers_guest_instances.md,
spec/06_submission_journal_replay.md) -/
def Obligations.DoorbellsAndQueueEnables : Prop :=
  (∀ (s : State) (d : DrawerId) (q : QueueId) (v : Fin 4294967296), s.drwState d = 1 ∨ s.drwState d = 2 → s.on F.DRW_Q_CTRL_ENABLE (qIx
    d q) = true → ((v : Nat) + 2 ^ 32 - s.get F.DRW_Q_POS_HEAD (qIx d q)) % 2 ^ 32 ≤ 2 ^ s.get F.DRW_Q_RING_SIZE_LOG2 (qIx d q) → ((v :
    Nat) + 2 ^ 32 - s.get F.DRW_Q_POS_TAIL (qIx d q)) % 2 ^ 32 ≤ 2 ^ s.get F.DRW_Q_RING_SIZE_LOG2 (qIx d q) → exec (.doorbell d q v) s =
    .next (s.put F.DRW_Q_POS_TAIL (qIx d q) v)) ∧
  (∀ (s : State) (d : DrawerId) (q : QueueId) (v : Fin 4294967296), s.drwState d = 1 ∨ s.drwState d = 2 → s.on F.DRW_Q_CTRL_ENABLE (qIx
    d q) = true → 2 ^ s.get F.DRW_Q_RING_SIZE_LOG2 (qIx d q) < ((v : Nat) + 2 ^ 32 - s.get F.DRW_Q_POS_HEAD (qIx d q)) % 2 ^ 32 → exec
    (.doorbell d q v) s = .next (s.guestError d 1 q)) ∧
  (∀ (s : State) (d : DrawerId) (q : QueueId) (v : Fin 4294967296), s.drwState d = 1 ∨ s.drwState d = 2 → s.on F.DRW_Q_CTRL_ENABLE (qIx
    d q) = false → exec (.doorbell d q v) s = .next (s.guestError d 2 q)) ∧
  (∀ (s : State) (d : DrawerId) (q : QueueId) (v : Fin 4294967296), s.drwState d = 1 ∨ s.drwState d = 2 → s.on F.DRW_Q_CTRL_ENABLE (qIx
    d q) = true → ((v : Nat) + 2 ^ 32 - s.get F.DRW_Q_CPOS_CONSUMED (qIx d q)) % 2 ^ 32 ≤ 2 ^ s.get F.DRW_Q_CPL_SIZE_LOG2 (qIx d q) →
    (s.get F.DRW_Q_CPOS_WRITTEN (qIx d q) + 2 ^ 32 - (v : Nat)) % 2 ^ 32 ≤ 2 ^ s.get F.DRW_Q_CPL_SIZE_LOG2 (qIx d q) → exec
    (.completionDoorbell d q v) s = .next (s.put F.DRW_Q_CPOS_CONSUMED (qIx d q) v)) ∧
  (∀ (s : State) (d : DrawerId) (q : QueueId) (v : Fin 4294967296), s.drwState d = 1 ∨ s.drwState d = 2 → s.on F.DRW_Q_CTRL_ENABLE (qIx
    d q) = false → s.on F.DRW_Q_CTRL_CLOSING (qIx d q) = false → exec (.completionDoorbell d q v) s = .next (s.guestError d 2 q)) ∧
  (∀ (s : State) (d : DrawerId) (q : QueueId) (v : Fin 4294967296), s.drwState d = 1 ∨ s.drwState d = 2 → s.on F.DRW_Q_CTRL_CLOSING (qIx
    d q) = true → ((v : Nat) + 2 ^ 32 - s.get F.DRW_Q_CPOS_CONSUMED (qIx d q)) % 2 ^ 32 ≤ 2 ^ s.get F.DRW_Q_CPL_SIZE_LOG2 (qIx d q) →
    (s.get F.DRW_Q_CPOS_WRITTEN (qIx d q) + 2 ^ 32 - (v : Nat)) % 2 ^ 32 ≤ 2 ^ s.get F.DRW_Q_CPL_SIZE_LOG2 (qIx d q) → exec
    (.completionDoorbell d q v) s = .next (s.put F.DRW_Q_CPOS_CONSUMED (qIx d q) v)) ∧
  (∀ (s : State) (d : DrawerId) (q : QueueId) (e : Fin 4) (v : VecId), s.drwState d = 1 ∨ s.drwState d = 2 → s.on F.DRW_Q_CTRL_ENABLE
    (qIx d q) = false → s.enableBad d q = false → Does (.queueEnable d q e v) s (fun t => t.on F.DRW_Q_CTRL_ENABLE (qIx d q) = true ∧
    t.get F.DRW_Q_CTRL_ENGINE (qIx d q) = e ∧ t.get F.DRW_Q_CTRL_VECTOR (qIx d q) = v ∧ t.get F.DRW_Q_POS_HEAD (qIx d q) = 0 ∧ t.get
    F.DRW_Q_POS_TAIL (qIx d q) = 0 ∧ t.get F.DRW_Q_CPOS_WRITTEN (qIx d q) = 0 ∧ t.get F.DRW_Q_CPOS_CONSUMED (qIx d q) = 0 ∧ s.Kept t
    [.drw] [F.DRW_Q_CTRL_ENABLE, F.DRW_Q_CTRL_ENGINE, F.DRW_Q_CTRL_VECTOR, F.DRW_Q_POS_HEAD, F.DRW_Q_POS_TAIL, F.DRW_Q_CPOS_WRITTEN,
    F.DRW_Q_CPOS_CONSUMED])) ∧
  (∀ (s : State) (d : DrawerId) (q : QueueId) (e : Fin 4) (v : VecId), s.drwState d = 1 ∨ s.drwState d = 2 → s.on F.DRW_Q_CTRL_ENABLE
    (qIx d q) = false → s.enableBad d q = true → exec (.queueEnable d q e v) s = .next (s.guestError d 6 q)) ∧
  (∀ (s : State) (d : DrawerId) (q : QueueId) (e : Fin 4) (v : VecId), s.drwState d ≠ 0 → s.on F.DRW_Q_CTRL_ENABLE (qIx d q) = true →
    exec (.queueEnable d q e v) s = .next (s.put F.DRW_Q_CTRL_VECTOR (qIx d q) v)) ∧
  (∀ (s : State) (d : DrawerId) (q : QueueId) (e : Fin 4) (v : VecId), s.drwState d ≠ 0 → s.on F.DRW_Q_CTRL_ENABLE (qIx d q) = false →
    exec (.queueEnable d q e v) s = .next (s.queueEnable d q e v)) ∧
  (∀ (s : State) (d : DrawerId) (q : QueueId), s.on F.DRW_Q_CTRL_ENABLE (qIx d q) = true → Does (.queueDisable d q) s (fun t => t.on
    F.DRW_Q_CTRL_ENABLE (qIx d q) = false ∧ t.on F.DRW_Q_CTRL_CLOSING (qIx d q) = (s.cmds d).any (fun c => c.queue = q) ∧ s.Kept t []
    [F.DRW_Q_CTRL_ENABLE, F.DRW_Q_CTRL_CLOSING]))

/-- COMMAND_FETCH takes the next entry, HOST_READ_ERROR ends it in error, and NOP completes. (spec/06_submission_journal_replay.md) -/
def Obligations.CommandsAreFetchedAndRun : Prop :=
  (∀ (s : State) (d : DrawerId) (q : QueueId) (e : List Byte), s.canFetch d q = true → 8 ≤ s.jnlFree d → exec (.commandFetch d q e) s =
    .next (((s.portRead (d / 32) (s.ringSlot d q (s.get F.DRW_Q_POS_HEAD (qIx d q))) 128).takeEntry d q ((e ++ List.replicate 128
    0).take 128) true).screenCmd d q (s.get F.DRW_Q_POS_HEAD (qIx d q)))) ∧
  (∀ (s : State) (d : DrawerId) (q : QueueId) (e : List Byte), s.canFetch d q = true → s.jnlFree d < 8 → exec (.commandFetch d q e) s =
    .next (s.setStall d q none true)) ∧
  (∀ (s : State) (d : DrawerId) (q : QueueId) (e : List Byte), s.canFetch d q = true → 8 ≤ s.jnlFree d → s.cmds d = [] → e.length = 128
    → headerOk false e = true → fieldLE e 8 8 % 8 = 0 → fieldLE e 0 1 = 0 → fieldLE e 1 1 = 0 → fieldLE e 2 1 = 0 → Does (.commandFetch
    d q e) s (fun t => (t.cmds d).map (fun c => (c.queue, c.seq, c.entry, c.stage)) = [((q : Nat), s.get F.DRW_Q_POS_HEAD (qIx d q), e,
    .fetched)] ∧ t.get F.DRW_Q_POS_HEAD (qIx d q) = (s.get F.DRW_Q_POS_HEAD (qIx d q) + 1) % 2 ^ 32 ∧ t.mem = s.mem ∧ t.tls = s.tls ∧
    t.hostOut = (s.portRead (d / 32) (s.ringSlot d q (s.get F.DRW_Q_POS_HEAD (qIx d q))) 128).hostOut ∧ t.err = s.err)) ∧
  (∀ (s : State) (d : DrawerId) (q : QueueId) (how : HostReadEnd), s.canFetch d q = true → 8 ≤ s.jnlFree d → s.cmds d = [] → Does
    (.hostReadError d q none how) s (fun t => (t.cmds d).map (fun c => (c.queue, c.seq, c.stage, c.state, c.code)) = [((q : Nat), s.get
    F.DRW_Q_POS_HEAD (qIx d q), .finished, 4, 5)] ∧ t.get F.DRW_Q_POS_HEAD (qIx d q) = (s.get F.DRW_Q_POS_HEAD (qIx d q) + 1) % 2 ^ 32 ∧
    t.mem = s.mem ∧ t.tls = s.tls)) ∧
  (∀ (s : State) (d : DrawerId) (q : QueueId) (how : HostReadEnd), s.canFetch d q = true → 8 ≤ s.jnlFree d → exec (.hostReadError d q
    none how) s = .next ((((s.portRead (d / 32) (s.ringSlot d q (s.get F.DRW_Q_POS_HEAD (qIx d q))) 128).aerError (d / 32) (d % 32 + 1)
    how).takeEntry d q (List.replicate 128 0) false).endCmd d q (s.get F.DRW_Q_POS_HEAD (qIx d q)) 4 5)) ∧
  (∀ (s : State) (d : DrawerId) (q : QueueId) (k : Nat) (how : HostReadEnd) (c : Cmd), s.cmd? d q k = some c → c.stage = .running → exec
    (.hostReadError d q (some k) how) s = .next ((s.aerError (d / 32) (d % 32 + 1) how).endCmd d q k 4 5)) ∧
  (∀ (s : State) (d : CtxId) (q : QueueId) (seq : Nat) (c : Cmd), s.cmds d = [c] → c.queue = q → c.seq = seq → c.opcode = 0 → c.flags =
    0 → c.waits = 0 → c.stage = .fetched → c.statusAddr = 0 → c.attempt = 0 → 1 ≤ s.jnlFree d → Does (.nop d q seq) s (fun t => (t.cmds
    d).map (fun x => (x.stage, x.state, x.visible, x.entry)) = [(.finished, 3, true, c.entry)] ∧ (t.cmds d).map (fun x => (x.committed,
    x.total)) = [(1, 1)] ∧ s.Kept t [.drw, .jnl, .gpu, .pmu, .cores] (eventFields ++ [F.JNL_STATUS_USED, F.JNL_STATUS_USED_HWM,
    F.JNL_STATUS_FETCH_STALL]))) ∧
  (∀ (s : State) (d : CtxId) (q : QueueId) (seq : Nat) (c : Cmd), s.cmd? d q seq = some c → c.opcode = 0 → s.dispatchable d c = true → 1
    + b2n c.signal ≤ s.jnlFree d → exec (.nop d q seq) s = .next (((((s.startCmd d c 1 1 17).unitDone d { c with total := 1 } 1 0).cmd?
    d q seq).elim ((s.startCmd d c 1 1 17).unitDone d { c with total := 1 } 1 0) (fun x => ((s.startCmd d c 1 1 17).unitDone d
    { c with total := 1 } 1 0).finishCmd d x 7))))

/-- Progress, report, release and fault of a command, and the vector of its queue, act on its record, Journal and status word.
(spec/05_drawers_guest_instances.md, spec/06_submission_journal_replay.md) -/
def Obligations.CommandsReportAndAreReleased : Prop :=
  (∀ (s : State) (d : CtxId) (q : QueueId) (seq : Nat) (c : Cmd), s.cmd? d q seq = some c → c.stage = .running → c.committed ≠
    c.postedCommitted → c.postedAt + 20000 ≤ s.now → exec (.statusWordUpdate d q seq) s = .next (s.postRunning d c)) ∧
  (∀ (s : State) (d : CtxId) (q : QueueId) (seq : Nat) (c : Cmd), s.cmds d = [c] → c.queue = q → c.seq = seq → (d : Nat) < 64 → c.stage
    = .running → c.committed ≠ c.postedCommitted → c.postedAt + 20000 ≤ s.now → c.statusOk = true → c.bodyKnown = true → c.statusAddr ≠
    0 → (s.drwOf d).dirty = none → (s.drwOf d).reset = none → Does (.statusWordUpdate d q seq) s (fun t => t.hostOut = s.hostOut ++ [((d
    : Nat) / 32, .write c.statusAddr (leBytes 8 c.status) false)] ∧ t.cmds d =
    [{ c with postedAt := s.now, postedCommitted := c.committed }] ∧ s.Kept t [.drw, .hostOut] [])) ∧
  (∀ (s : State) (d : CtxId) (q : QueueId) (seq : Nat) (c : Cmd), s.cmd? d q seq = some c → c.stage = .finished → tget 0 s.jnl.ccHeld
    c.source < 64 → s.get F.JNL_STATUS_CC_OCC < 4095 → Does (.reportAccept d q seq) s (fun t => tget 0 t.jnl.ccHeld c.source = tget 0
    s.jnl.ccHeld c.source + 1 ∧ t.get F.JNL_STATUS_CC_OCC = s.get F.JNL_STATUS_CC_OCC + 1 ∧ (t.cmd? d q seq).map (fun x => (x.stage,
    x.source)) = some (.reported, c.source) ∧ s.Kept t [.drw, .jnl] [F.JNL_STATUS_CC_OCC, F.JNL_STATUS_CC_HWM])) ∧
  (∀ (s : State) (d : CtxId) (q : QueueId) (seq : Nat) (c : Cmd), s.cmd? d q seq = some c → c.stage = .finished → tget 0 s.jnl.ccHeld
    c.source < 64 ∨ s.ccShared < 2816 → Does (.reportAccept d q seq) s (fun t => (t.cmd? d q seq).map (fun x => x.stage) = some
    .reported ∧ s.Kept t [.drw, .jnl] [F.JNL_STATUS_CC_OCC, F.JNL_STATUS_CC_HWM])) ∧
  (∀ (s : State) (d : CtxId) (q : QueueId) (seq : Nat) (c : Cmd), s.cmd? d q seq = some c → c.stage = .finished → 64 ≤ tget 0
    s.jnl.ccHeld c.source → 2816 ≤ s.ccShared → Does (.reportAccept d q seq) s (fun t => t.cmds d = s.cmds d ∧ s.Kept t [.jnl]
    [F.JNL_COUNT_CC_STALL])) ∧
  (∀ (s : State) (d : CtxId) (q : QueueId) (c : Cmd), s.cmd? d q (s.qWritten d q) = some c → c.stage = .reported → c.visible = true →
    exec (.completionRelease d q) s = .next (s.release d c)) ∧
  (∀ (s : State) (d : CtxId) (q : QueueId) (c : Cmd), s.cmds d = [c] → c.queue = q → (d : Nat) < 64 → c.seq = s.get F.DRW_Q_CPOS_WRITTEN
    (qIx d q) → c.stage = .reported → c.visible = true → c.state = 3 → c.flags = 8 → c.statusAddr = 0 → (s.drwOf d).dirty = none →
    (s.drwOf d).reset = none → s.on F.DRW_Q_CTRL_CLOSING (qIx d q) = false → Does (.completionRelease d q) s (fun t => t.cmds d = [] ∧
    t.get F.DRW_Q_CPOS_WRITTEN (qIx d q) = (s.get F.DRW_Q_CPOS_WRITTEN (qIx d q) + 1) % 2 ^ 32 ∧ t.hostOut = s.hostOut ++ [((d : Nat) /
    32, .write (s.cplSlot d q c.seq + 8) (s.recordTail c) false), ((d : Nat) / 32, .write (s.cplSlot d q c.seq) (recordHead c (s.cplLog
    d q)) false)] ∧ t.mem = s.mem ∧ t.tls = s.tls ∧ t.err = s.err)) ∧
  (∀ (s : State) (d : CtxId) (q : QueueId) (seq blk : Nat) (x : Fin 16) (c : Cmd), s.cmd? d q seq = some c → c.stage = .running →
    faultCode x = true → exec (.commandFault d q seq blk (some x)) s = .next ((s.jnlWrite d q seq 7 0 (leBytes 4 c.attempt ++ leBytes 4
    blk ++ leBytes 8 x ++ leBytes 8 s.st)).endCmd d q seq 4 x)) ∧
  (∀ (s : State) (d : CtxId) (q : QueueId) (seq blk : Nat) (c : Cmd), s.cmds d = [c] → c.queue = q → c.seq = seq → c.stage = .running →
    c.replayable = true → c.attempt < 3 → s.jnlHas d q seq 6 = false → (d : Nat) < 64 → c.statusAddr = 0 → Does (.commandFault d q seq
    blk none) s (fun t => (t.cmds d).map (fun x => (x.stage, x.state, x.attempt, x.entry)) = [(.running, 2, c.attempt + 1, c.entry)] ∧
    t.get F.JNL_COUNT_REPLAYS = satInc (s.get F.JNL_COUNT_REPLAYS) 16 ∧ t.mem = s.mem ∧ t.tls = s.tls ∧ t.hostOut = s.hostOut)) ∧
  (∀ (s : State) (d : CtxId) (q : QueueId) (seq blk : Nat) (c : Cmd), s.cmd? d q seq = some c → c.stage = .running → exec (.commandFault
    d q seq blk none) s = .next (s.replay d c blk)) ∧
  (∀ (s : State) (d : DrawerId) (v : VecId) (a : Nat), ((s.drwOf d).fn.vec v).timerFrom = some a → s.get F.DRW_MOD_TIME_US (qIx d v) ≠ 0
    → 0 < ((s.drwOf d).fn.vec v).events → (s.drwOf d).fn.d3hot = false → a + (s.get F.DRW_MOD_TIME_US (qIx d v) - ((s.drwOf d).fn.vec
    v).frozenUs) * 1000 ≤ s.now → exec (.moderationTimer d v) s = .next (s.fireFn (d / 32) (d % 32 + 1) v)) ∧
  (∀ (s : State) (d : DrawerId) (v : VecId) (a : Nat), ((s.drwOf d).fn.vec v).timerFrom = some a → 0 < ((s.drwOf d).fn.vec v).events →
    (s.drwOf d).fn.d3hot = false → s.get F.DRW_MOD_TIME_US (qIx d v) ≠ 0 → a + (s.get F.DRW_MOD_TIME_US (qIx d v) - ((s.drwOf d).fn.vec
    v).frozenUs) * 1000 ≤ s.now → ((s.drwOf d).fn.vec v).masked = false → (s.drwOf d).fn.fnMask = false → (s.drwOf d).reset = none →
    Does (.moderationTimer d v) s (fun t => t.hostOut = s.hostOut ++ [((d : Nat) / 32, .msix (d % 32 + 1) v)] ∧ ((t.drwOf d).fn.vec
    v).events = 0 ∧ s.Kept t [.drw, .hostOut] [])) ∧
  (∀ (s : State) (p : PortId) (f : Fin 33) (v : Fin 64), (f : Nat) = 0 ∨ (v : Nat) < 16 → ((s.fnOf p f).vec v).pendingBit = true →
    (s.fnOf p f).fnMask = false → (s.fnOf p f).d3hot = false → s.fnSilent p f = false → Does (.msixUnmask p f (some v)) s (fun t =>
    t.hostOut = s.hostOut ++ [((p : Nat), .msix f v)] ∧ ((t.fnOf p f).vec v).pendingBit = false ∧ ((t.fnOf p f).vec v).masked = false ∧
    ((t.fnOf p f).vec v).events = ((s.fnOf p f).vec v).events ∧ s.Kept t [.drw, .ports, .hostOut] [])) ∧
  (∀ (s : State) (p : PortId) (f : Fin 33) (v : Fin 64), (f : Nat) = 0 ∨ (v : Nat) < 16 → exec (.msixUnmask p f (some v)) s = .next
    ((s.setFn p f ((s.fnOf p f).setVec v { (s.fnOf p f).vec v with masked := false })).sendPending p f v)) ∧
  (∀ (s : State) (p : PortId) (f : Fin 33), exec (.msixUnmask p f none) s = .next ((List.range 64).foldl (fun (u : State) i =>
    u.sendPending p f i) (s.setFn p f { s.fnOf p f with fnMask := false })))

/-- A sound PASS and COMPUTE start, tiles are taken and written back, and their faults end them. (spec/07_gpu_passes_and_tiles.md,
spec/08_gpu_contexts_and_shares.md) -/
def Obligations.GpuCommandsRun : Prop :=
  (∀ (s : State) (d : CtxId) (q : QueueId) (seq : Nat) (binds : List (Nat × Nat)) (prims : List Prim) (stalls : List (GroupId × Nat)) (c
    : Cmd) (w : Bound), s.cmd? d q seq = some c → c.opcode = 0x10 → s.dispatchable d c = true → passRecs c + b2n c.signal ≤ s.jnlFree d
    → s.passCheck d c = 0 → (s.streamRun d (streamOps (s.heapRead d (s.passDesc d c).stream (s.passDesc d c).len) ((s.passDesc d c).len
    / 32)) binds 0 {}) = .inr w → s.passHeld (s.passTray d c :: s.passSigs d (s.passDesc d c)) = false → exec (.pass d q seq binds true
    prims stalls) s = .next (s.passGo d c (s.passDesc d c) w.draws prims stalls)) ∧
  (∀ (s : State) (d : CtxId) (q : QueueId) (seq : Nat) (binds : List (Nat × Nat)) (prims : List Prim) (stalls : List (GroupId × Nat)) (c
    : Cmd) (w : Bound), s.cmds d = [c] → c.queue = q → c.seq = seq → (d : Nat) < 64 → c.opcode = 0x10 → s.dispatchable d c = true →
    passRecs c + b2n c.signal ≤ s.jnlFree d → s.passCheck d c = 0 → (s.streamRun d (streamOps (s.heapRead d (s.passDesc d c).stream
    (s.passDesc d c).len) ((s.passDesc d c).len / 32)) binds 0 {}) = .inr w → s.passHeld (s.passTray d c :: s.passSigs d (s.passDesc d
    c)) = false → s.passTiled d c (s.passDesc d c) = false → Does (.pass d q seq binds true prims stalls) s (fun t => (t.cmds d).map
    (fun x => (x.stage, x.state, x.total)) = [(.running, 1, c.tileTotal)] ∧ t.get F.GFE_PASS_COUNT_IMMEDIATE = satInc (s.get
    F.GFE_PASS_COUNT_IMMEDIATE) 16 ∧ t.tls = s.tls)) ∧
  (∀ (s : State) (d : CtxId) (q : QueueId) (seq : Nat) (g : GroupId) (c : Cmd) (m i : Nat), s.charge.shortCheck.cmd? d q seq = some c →
    s.charge.shortCheck.offerPick g = some (m, (d : Nat)) → c.offers g = true → c.opcode = 0x10 → c.pass.tiled = true →
    s.charge.shortCheck.maskOk c g = true → c.pass.prims.length ≤ c.binEnd → s.charge.shortCheck.resident g < tileSlots c.pass.footprint
    → c.pass.next? = some i → m ≠ 3 → (c.pass.flushes = 0 && s.charge.shortCheck.tilePoisoned d c (s.charge.shortCheck.passDesc d c) i)
    = false → exec (.tileStart d q seq g) s = .next
    (({ s.charge.shortCheck with gpu := { s.charge.shortCheck.gpu with lastServed := tset 65 s.charge.shortCheck.gpu.lastServed m (d : Nat) } }
    : State).takeTile d c (s.charge.shortCheck.passDesc d c) g i)) ∧
  (∀ (s : State) (d : CtxId) (q : QueueId) (seq : Nat) (g : GroupId) (c : Cmd) (m i : Nat), s.charge.shortCheck.cmd? d q seq = some c →
    s.charge.shortCheck.offerPick g = some (m, (d : Nat)) → c.offers g = true → c.opcode = 0x10 → c.pass.tiled = true →
    s.charge.shortCheck.maskOk c g = true → c.pass.prims.length ≤ c.binEnd → s.charge.shortCheck.resident g < tileSlots c.pass.footprint
    → c.pass.next? = some i → m = 3 → (c.pass.flushes = 0 && s.charge.shortCheck.tilePoisoned d c (s.charge.shortCheck.passDesc d c) i)
    = false → exec (.tileStart d q seq g) s = .next
    ((({ s.charge.shortCheck with gpu := { s.charge.shortCheck.gpu with lastServed := tset 65 s.charge.shortCheck.gpu.lastServed m (d : Nat) } }
    : State).resumeGroup g).takeTile d c (s.charge.shortCheck.passDesc d c) g i)) ∧
  (∀ (s : State) (d : CtxId) (q : QueueId) (seq tile n : Nat) (c : Cmd) (g : Nat), s.cmds d = [c] → c.queue = q → c.seq = seq →
    c.pass.inTile = [(g, tile)] → (s.passDesc d c).cols = [] → (s.passDesc d c).depthFmt = 0 → c.body 8 8 = 0 → n = 0 → Does
    (.tileWriteback d q seq tile n) s (fun t => (t.cmds d).map (fun x => (x.pass.inTile, x.pass.written)) = [([], c.pass.written ++
    [tile])] ∧ t.mem = s.mem ∧ t.tls = s.tls ∧ t.hostOut = s.hostOut)) ∧
  (∀ (s : State) (d : CtxId) (q : QueueId) (seq tile n : Nat) (c : Cmd) (x : Nat × Nat), s.cmd? d q seq = some c → c.pass.inTile.find?
    (fun p => p.2 = tile) = some x → n ≤ 3 → exec (.tileWriteback d q seq tile n) s = .next (((s.tileRetries d x.1 n).storeTile d c (8 +
    x.1) tile (c.tileContent ((s.tileRetries d x.1 n).passDesc d c) tile)).tileLeft d q seq tile x.1)) ∧
  (∀ (s : State) (d : CtxId) (q : QueueId) (seq tile n : Nat) (c : Cmd) (x : Nat × Nat), s.cmd? d q seq = some c → c.pass.inTile.find?
    (fun p => p.2 = tile) = some x → 3 < n → exec (.tileWriteback d q seq tile n) s = .next ((s.tileRetries d x.1 3).replay d c (8 +
    x.1))) ∧
  (∀ (s : State) (d : CtxId) (q : QueueId) (seq : Nat) (c : Cmd), s.cmd? d q seq = some c → c.stage = .running → c.opcode = 0x10 →
    c.pass.tiled = true → c.binEnd < c.pass.prims.length → c.pass.binned < c.binEnd → (c.pass.flushes = 0 && (List.range
    c.tileTotal).any (s.tilePoisoned d c (s.passDesc d c))) = false → exec (.partialRenderFlush d q seq) s = .next (s.flushTiles d c)) ∧
  (∀ (s : State) (d : CtxId) (q : QueueId) (seq : Nat) (c : Cmd), s.cmds d = [c] → c.queue = q → c.seq = seq → (d : Nat) < 64 → c.stage
    = .running → c.opcode = 0x10 → c.pass.tiled = true → c.binEnd < c.pass.prims.length → c.pass.binned < c.binEnd → (c.pass.flushes = 0
    && (List.range c.tileTotal).any (s.tilePoisoned d c (s.passDesc d c))) = false → Does (.partialRenderFlush d q seq) s (fun t =>
    (t.cmds d).map (fun x => (x.pass.flushes, x.pass.binned, x.pass.inTile, x.pass.nextTile)) = [(c.pass.flushes + 1, c.binEnd, [], 0)]
    ∧ t.get F.GFE_PASS_COUNT_FLUSHES = satInc (s.get F.GFE_PASS_COUNT_FLUSHES) 16 ∧ t.tls = s.tls)) ∧
  (∀ (s : State) (d : CtxId) (q : QueueId) (seq : Nat) (c : Cmd), s.cmds d = [c] → c.queue = q → c.seq = seq → c.opcode = 0x11 → (d :
    Nat) < 64 → s.dispatchable d c = true → 1 + b2n c.signal ≤ s.jnlFree d → (s.computeCheck d c).1 = 0 → bit (c.body 0x1E 1) 0 = false
    → Does (.compute d q seq) s (fun t => (t.cmds d).map (fun x => (x.stage, x.state, x.total)) = [(.running, 1, ((c.body 0x10 4 *
    c.body 0x14 4 * c.body 0x18 4 + 255) / 256))] ∧ t.mem = s.mem ∧ t.tls = s.tls)) ∧
  (∀ (s : State) (d : CtxId) (q : QueueId) (seq : Nat) (writes : List (Nat × List Byte)) (c : Cmd), s.cmd? d q seq = some c → c.stage =
    .running → c.opcode = 0x10 ∨ c.opcode = 0x11 → exec (.shaderFault d q seq writes) s = .next ((s.progStores d (s.groupBlk d c)
    writes).1.shaderEnd d c)) ∧
  (∀ (s : State) (d : CtxId) (q : QueueId) (seq : Nat) (c : Cmd), s.cmd? d q seq = some c → c.stage = .running → c.opcode = 0x10 ∨
    c.opcode = 0x11 → c.queue = q → c.seq = seq → exec (.shaderFault d q seq []) s = .next ((s.jnlWrite d q seq 7 0 (leBytes 4 c.attempt
    ++ leBytes 4 7 ++ leBytes 8 0xD ++ leBytes 8 s.st)).endCmd d q seq 4 0xD)) ∧
  (∀ (s : State) (d : DrawerId) (q : QueueId) (seq : Nat) (c : Cmd), s.charge.cmds d = [c] → c.queue = q → c.seq = seq → c.stage =
    .running → c.nonpreempt = true → s.charge.get F.GFE_DL_CFG_NP_LIMIT_US * 1000 < c.runNs → Does (.npLimitTimeout d q seq) s (fun t =>
    (t.cmds d).map (fun x => (x.stage, x.state, x.code)) = [(.finished, 4, 0xA)] ∧ t.get F.GFE_CTX_STATUS_TIMEOUTS d = satInc (s.get
    F.GFE_CTX_STATUS_TIMEOUTS d) 8 ∧ t.mem = s.mem ∧ t.tls = s.tls ∧ t.hostOut = s.hostOut)) ∧
  (∀ (s : State) (d : DrawerId) (q : QueueId) (seq : Nat) (c : Cmd), s.charge.cmd? d q seq = some c → c.stage = .running → c.nonpreempt
    = true → s.charge.get F.GFE_DL_CFG_NP_LIMIT_US * 1000 < c.runNs → exec (.npLimitTimeout d q seq) s = .next (s.charge.ctxTimeout d q
    seq)) ∧
  (∀ (s : State) (c : CtxId) (q : QueueId) (seq : Nat) (x : Cmd), s.charge.cmd? c q seq = some x → x.stage = .running → x.opcode = 0x10
    ∨ x.opcode = 0x11 → s.charge.get F.GFE_CTX_LIMIT_RUN_LIMIT_MS c ≠ 0 → s.charge.get F.GFE_CTX_LIMIT_RUN_LIMIT_MS c * 1000000 <
    x.runNs → exec (.runLimitTimeout c q seq) s = .next (s.charge.ctxTimeout c q seq)) ∧
  (∀ (s : State) (c : CtxId) (q : QueueId) (seq : Nat) (x : Cmd), s.charge.cmds c = [x] → x.queue = q → x.seq = seq → x.stage = .running
    → x.opcode = 0x10 ∨ x.opcode = 0x11 → s.charge.get F.GFE_CTX_LIMIT_RUN_LIMIT_MS c ≠ 0 → s.charge.get F.GFE_CTX_LIMIT_RUN_LIMIT_MS c
    * 1000000 < x.runNs → Does (.runLimitTimeout c q seq) s (fun t => (t.cmds c).map (fun x => (x.stage, x.state, x.code)) =
    [(.finished, 4, 0xA)] ∧ t.get F.GFE_CTX_STATUS_TIMEOUTS c = satInc (s.get F.GFE_CTX_STATUS_TIMEOUTS c) 8 ∧ t.mem = s.mem ∧ t.tls =
    s.tls ∧ t.hostOut = s.hostOut))

/-- The Bench offers its groups, the window starts, CX commands are released, preempt and resume, and miss their cutoff.
(spec/08_gpu_contexts_and_shares.md) -/
def Obligations.ContextsShareTheBench : Prop :=
  (∀ (s : State) (g : GroupId) (m c : Nat) (x : Cmd), (s.charge.shortCheck).offerPick g = some (m, c) → m ≠ 3 →
    s.charge.shortCheck.gpuReady c g = some x → Does (.benchOffer g) s (fun t =>
    { ctx := c, q := x.queue, seq := x.seq, np := x.nonpreempt } ∈ (t.bgOf g).holds ∧ t.mem = s.mem ∧ t.hostOut = s.hostOut ∧ t.tls =
    s.tls)) ∧
  (∀ (s : State) (g : GroupId) (m c : Nat), (s.charge.shortCheck).offerPick g = some (m, c) → m = 3 → Does (.benchOffer g) s (fun t =>
    (t.bgOf g).holds = (s.bgOf g).holds ++ (s.bgOf g).resumeFirst ∧ (t.bgOf g).resumeFirst = [] ∧ t.mem = s.mem ∧ t.hostOut = s.hostOut
    ∧ t.tls = s.tls)) ∧
  (∀ (s : State), s.get F.PWR_STATUS_STATE = 0 → s.pdOnB 4 = true → s.windowDue = true → Does (.windowStart) s (fun t => t.gpu.windowAt
    = s.now ∧ t.gpu.windowUse = 0 ∧ t.get F.GFE_WINDOW_NUMBER = (s.get F.GFE_WINDOW_NUMBER + 1) % 2 ^ 32 ∧ t.gpu.groups = s.gpu.groups ∧
    t.mem = s.mem ∧ t.hostOut = s.hostOut)) ∧
  (∀ (s : State), s.get F.PWR_STATUS_STATE = 0 → s.pdOnB 4 = true → s.windowDue = true → exec (.windowStart) s = .next (s.windowStart)) ∧
  (∀ (s : State) (ctx : Fin 2) (q : QueueId) (e : List Byte) (ring : Nat × Fin 17), 8 ≤ s.charge.jnlFree (64 + (ctx : Nat)) → s.cmds (64
    + (ctx : Nat)) = [] → e.length = 128 → Does (.cxCommandRelease ctx q e ring) s (fun t => t.gpu.cxCtr = s.gpu.cxCtr + 1 ∧
    (t.gpu.cx.getLast?).map (fun x => (x.id, x.ctx, x.q, x.head)) = some (s.gpu.cxCtr, 64 + (ctx : Nat), (q : Nat), fieldLE e 0x30 1 %
    8) ∧ (t.cmds (64 + (ctx : Nat))).map (fun x => (x.queue, x.seq, x.entry)) = [((q : Nat), (s.iqOf (64 + (ctx : Nat)) q).next, e)] ∧
    t.mem = s.mem ∧ t.hostOut = s.hostOut)) ∧
  (∀ (s : State) (ctx : Fin 2) (q : QueueId) (e : List Byte) (ring : Nat × Fin 17), s.charge.jnlFree (64 + (ctx : Nat)) < 8 → exec
    (.cxCommandRelease ctx q e ring) s = .next (s.charge.setStall (64 + (ctx : Nat)) q none true)) ∧
  (∀ (s : State) (g : GroupId) (c : Nat) (x : CxCmd), (s.bgOf g).preemptFor = some c → c < 66 → (s.charge.discardTiles g).cxWork c =
    some x → Does (.preemptionPoint g) s (fun t => (t.bgOf g).preemptFor = none ∧ (t.bgOf g).holds =
    [{ ctx := c, q := x.q, seq := x.seq }] ∧ (t.bgOf g).resumeFirst = (s.bgOf g).resumeFirst ++ (s.bgOf g).holds ∧ t.mem = s.mem ∧
    t.hostOut = s.hostOut ∧ t.tls = s.tls)) ∧
  (∀ (s : State) (g : GroupId) (c : Nat), (s.bgOf g).preemptFor = some c → 66 ≤ c → (s.bgOf g).holds.any (fun h => h.np) = false → Does
    (.preemptionPoint g) s (fun t => (t.bgOf g).preemptFor = none ∧ (t.bgOf g).holds = [] ∧ t.get F.BGn_STATUS_STATE g = 2 ∧ t.mem =
    s.mem ∧ t.hostOut = s.hostOut ∧ t.tls = s.tls)) ∧
  (∀ (s : State) (g : GroupId), (s.bgOf g).preemptFor.isSome = true → (s.bgOf g).preemptAt + 60000 ≤ s.now → exec (.preemptTimeout g) s
    = .next (s.recordError { domain := 8 + g, code := 0x42, source := 0 })) ∧
  (∀ (s : State) (g : GroupId), (s.bgOf g).holds.any (fun h => decide (64 ≤ h.ctx)) = true → Does (.preemptResume g) s (fun t => (t.bgOf
    g).holds = (s.bgOf g).holds.filter (fun h => h.ctx < 64) ∧ t.mem = s.mem ∧ t.hostOut = s.hostOut ∧ t.tls = s.tls)) ∧
  (∀ (s : State) (g : GroupId), (s.bgOf g).holds.any (fun h => decide (64 ≤ h.ctx)) = false → Does (.preemptResume g) s (fun t =>
    (t.bgOf g).holds = (s.bgOf g).holds ++ (s.bgOf g).resumeFirst ∧ (t.bgOf g).resumeFirst = [] ∧ (t.bgOf g).restoreFor = none ∧ t.mem =
    s.mem ∧ t.hostOut = s.hostOut ∧ t.tls = s.tls)) ∧
  (∀ (s : State) (id : Nat) (x : CxCmd) (c : Cmd), s.charge.gpu.cx.find? (fun y => y.id = id) = some x → s.charge.cmd? x.ctx x.q x.seq =
    some c → (s.charge.cxLate x c && !s.charge.preemptible.isEmpty && !s.charge.saving) = false → exec (.deadlineEval id) s = .next
    (s.charge)) ∧
  (∀ (s : State) (id : Nat) (x : CxCmd) (c : Cmd), s.charge.gpu.cx.find? (fun y => y.id = id) = some x → s.charge.cmd? x.ctx x.q x.seq =
    some c → s.charge.cxLate x c = true → s.charge.preemptible ≠ [] → s.charge.saving = false → Does (.deadlineEval id) s (fun t => (∀ g
    ∈ s.charge.preemptible, (t.bgOf g).preemptFor = some x.ctx) ∧ t.get F.GFE_DL_STATUS_ESCALATIONS = satInc (s.get
    F.GFE_DL_STATUS_ESCALATIONS) 7 ∧ t.mem = s.mem ∧ t.hostOut = s.hostOut ∧ t.tls = s.tls)) ∧
  (∀ (s : State) (id : Nat) (x : CxCmd), s.gpu.cx.find? (fun y => y.id = id) = some x → x.missed = false → x.cutoff ≤ s.now → x.head < 8
    → Does (.cxCutoffMiss id) s (fun t => bit (t.get F.GFE_DL_STATUS_MISS_HEADS) x.head = true ∧ t.get F.GFE_DL_STATUS_MISSES = satInc
    (s.get F.GFE_DL_STATUS_MISSES) 16 ∧ (t.headOf x.head).cxMiss = true ∧ t.mem = s.mem ∧ t.drw = s.drw ∧ t.hostOut = s.hostOut))

/-- Copies, fills and offline compositions start on the lowest free engine, commit their units and become visible.
(spec/06_submission_journal_replay.md, spec/09_layers_and_composition.md) -/
def Obligations.CopiesAndCompositionsRun : Prop :=
  (∀ (s : State) (d : DrawerId) (q : QueueId) (seq : Nat) (c : Cmd) (x : Nat), s.cmds d = [c] → c.queue = q → c.seq = seq → c.opcode = 1
    → s.dispatchable d c = true → 1 + b2n c.signal ≤ s.jnlFree d → s.copyCheck d c false = 0 → s.freeEngine 4 8 = some x → Does (.copy d
    q seq) s (fun t => (t.cmds d).map (fun x => (x.stage, x.state, x.total)) = [(.running, 1, ((c.body 0x10 8 + 65535) / 65536))] ∧
    (t.cmds d).map (fun y => y.source) = [x] ∧ t.mem = s.mem ∧ t.tls = s.tls)) ∧
  (∀ (s : State) (d : DrawerId) (q : QueueId) (seq : Nat) (c : Cmd) (x : Nat), s.cmds d = [c] → c.queue = q → c.seq = seq → c.opcode = 2
    → s.dispatchable d c = true → 1 + b2n c.signal ≤ s.jnlFree d → s.copyCheck d c true = 0 → s.freeEngine 4 8 = some x → Does (.fill d
    q seq) s (fun t => (t.cmds d).map (fun x => (x.stage, x.state, x.total)) = [(.running, 1, ((c.body 0x10 8 + 65535) / 65536))] ∧
    (t.cmds d).map (fun y => y.source) = [x] ∧ t.mem = s.mem ∧ t.tls = s.tls)) ∧
  (∀ (s : State) (d : DrawerId) (q : QueueId) (seq : Nat) (c : Cmd) (x : Nat), s.cmds d = [c] → c.queue = q → c.seq = seq → c.opcode =
    0x20 → s.dispatchable d c = true → 1 + b2n c.signal ≤ s.jnlFree d → c.body 0 1 = 0 → s.listCheck d c = 0 → s.freeEngine 12 4 = some
    x → Does (.composeList d q seq) s (fun t => (t.cmds d).map (fun x => (x.stage, x.state, x.total)) = [(.running, 1, ((c.body 6 2 +
    31) / 32))] ∧ (t.cmds d).map (fun y => y.source) = [x] ∧ t.mem = s.mem ∧ t.tls = s.tls)) ∧
  (∀ (s : State) (d : DrawerId) (q : QueueId) (seq : Nat) (c : Cmd) (x : Nat), s.cmds d = [c] → c.queue = q → c.seq = seq → c.opcode =
    0x20 → s.dispatchable d c = true → 1 + b2n c.signal ≤ s.jnlFree d → c.body 0 1 = 1 → s.captureCheck d c = 0 → s.freeEngine 12 4 =
    some x → Does (.capture d q seq) s (fun t => (t.cmds d).map (fun x => (x.stage, x.state, x.total)) = [(.running, 1, ((s.get
    F.HDn_V_VACTIVE (c.body 2 1) + 31) / 32))] ∧ (t.cmds d).map (fun y => y.source) = [x] ∧ t.mem = s.mem ∧ t.tls = s.tls)) ∧
  (∀ (s : State) (d : DrawerId) (q : QueueId) (seq : Nat) (c : Cmd), s.cmd? d q seq = some c → c.stage = .running → c.opcode = 0x20 →
    c.body 0 1 = 1 → s.captureOf d c = none → c.startedAt + 100000000 ≤ s.now → exec (.captureTimeout d q seq) s = .next (s.endCmd d q
    seq 4 0x0A)) ∧
  (∀ (s : State) (d : CtxId) (q : QueueId) (seq : Nat) (data : List Byte) (writes : List (Nat × List Byte)) (c : Cmd) (src dst n : Nat),
    s.cmds d = [c] → c.queue = q → c.seq = seq → c.stage = .running → c.opcode = 1 → c.committed < c.total → c.copyBody = (src, dst, n,
    1, 1) → s.cmdReqs d c = [] → c.statusAddr = 0 → s.dmc.bad = [] → Does (.unitCommit (.command d q seq) data writes) s (fun t =>
    (t.cmds d).map (fun y => (y.stage, y.committed, y.total)) = [(.running, c.committed + 1, c.total)] ∧ t.mem = (s.heapWrite d 0xD (dst
    + c.committed * 65536) (s.heapRead d (src + c.committed * 65536) (min 65536 (n - c.committed * 65536)))).mem ∧ t.tls = s.tls ∧
    t.hostOut = s.hostOut)) ∧
  (∀ (s : State) (d : CtxId) (q : QueueId) (seq : Nat) (data : List Byte) (writes : List (Nat × List Byte)) (c : Cmd), s.cmd? d q seq =
    some c → c.stage = .running → c.committed < c.total → c.opcode = 1 ∨ c.opcode = 2 → exec (.unitCommit (.command d q seq) data
    writes) s = .next (s.copyUnit d c data)) ∧
  (∀ (s : State) (d : CtxId) (q : QueueId) (seq : Nat) (data : List Byte) (writes : List (Nat × List Byte)) (c : Cmd), s.cmd? d q seq =
    some c → c.stage = .running → c.committed < c.total → c.opcode = 0x20 → exec (.unitCommit (.command d q seq) data writes) s = .next
    (s.composeUnit d c)) ∧
  (∀ (s : State) (d : CtxId) (q : QueueId) (seq : Nat) (data : List Byte) (writes : List (Nat × List Byte)) (c : Cmd), s.cmd? d q seq =
    some c → c.stage = .running → c.committed < c.total → c.opcode = 0x30 → exec (.unitCommit (.command d q seq) data writes) s = .next
    (s.captureUnit d c)) ∧
  (∀ (s : State) (d : CtxId) (q : QueueId) (seq : Nat) (data : List Byte) (writes : List (Nat × List Byte)) (c : Cmd), s.cmd? d q seq =
    some c → c.stage = .running → c.committed < c.total → c.opcode = 0x10 ∨ c.opcode = 0x11 → s.gpuUnitReady d c (leNat data) = true →
    exec (.unitCommit (.command d q seq) data writes) s = .next (s.gpuUnit d c (leNat data) writes)) ∧
  (∀ (s : State) (d : CtxId) (q : QueueId) (seq : Nat) (data : List Byte) (c : Cmd), s.cmds d = [c] → c.queue = q → c.seq = seq →
    c.stage = .running → c.opcode = 0x10 → c.committed < c.total → c.pass.tiled = true → c.pass.written = [3] → c.statusAddr = 0 → Does
    (.unitCommit (.command d q seq) data []) s (fun t => (t.cmds d).map (fun y => (y.committed, y.pass.done, y.pass.written)) =
    [(c.committed + 1, c.pass.done ++ [3], [])] ∧ t.mem = s.mem ∧ t.tls = s.tls ∧ t.hostOut = s.hostOut)) ∧
  (∀ (s : State) (d : CtxId) (q : QueueId) (seq : Nat) (data : List Byte) (c : Cmd), s.cmds d = [c] → c.queue = q → c.seq = seq →
    c.stage = .running → c.opcode = 0x10 → c.committed < c.total → c.pass.tiled = false → s.gpuUnitReady d c (leNat data) = true → exec
    (.unitCommit (.command d q seq) data []) s = .next (s.immediateTile d c (leNat data))) ∧
  (∀ (s : State) (data : List Byte) (writes : List (Nat × List Byte)) (n : Fin 7) (fails : List TestFail), exec (.unitCommit (.test n
    fails) data writes) s = .next (s.bstUnit n fails)) ∧
  (∀ (s : State) (d : CtxId) (q : QueueId) (seq : Nat) (c : Cmd), s.cmds d = [c] → c.queue = q → c.seq = seq → (d : Nat) < 64 → c.stage
    = .running → c.committed = c.total → c.opcode ≠ 0x10 → c.unordered = false → c.attempt = 0 → Does (.dataVisible d q seq) s (fun t =>
    (t.cmds d).map (fun y => (y.stage, y.state, y.visible)) = [(.finished, 3, true)] ∧ t.tls = s.tls ∧ t.hostOut = s.hostOut)) ∧
  (∀ (s : State) (d : CtxId) (q : QueueId) (seq : Nat) (c : Cmd), s.cmd? d q seq = some c → c.stage = .running → c.committed = c.total →
    exec (.dataVisible d q seq) s = .next ((if c.opcode = 0x10 then s.passSigEnd d c else s).finishCmd d c (engineBlk c.opcode))) ∧
  (∀ (s : State) (d : CtxId) (q : QueueId) (seq : Nat) (c : Cmd), s.cmd? d q seq = some c → c.stage = .finished ∨ c.stage = .reported →
    c.visible = false → s.unacked d q seq = false → exec (.dataVisible d q seq) s = .next ((s.dropReqs d c).modCmd d q seq (fun x =>
    { x with visible := true })))

/-- Layers change owner, flips are committed, sampled and decided, safety windows and pipe banks ask for their swap.
(spec/09_layers_and_composition.md) -/
def Obligations.LayersFlip : Prop :=
  (∀ (s : State) (o : Origin) (h : HeadId) (l : Fin 9) (owner : Fin 128) (slot : Fin 64), s.Reaches o (0x10 + (h : Nat)) → (owner : Nat)
    < 0x41 ∨ (owner : Nat) = 0x7F → Does (.layerOwnerWrite o h l owner slot) s (fun t => t.get F.HDn_LOWN_OWNER ((h : Nat) * 9 + l) =
    owner ∧ t.get F.HDn_LOWN_SLOT ((h : Nat) * 9 + l) = slot ∧ t.mem = s.mem ∧ t.drw = s.drw ∧ t.heads = s.heads ∧ t.hostOut =
    s.hostOut)) ∧
  (∀ (s : State) (group : Bool) (d : DrawerId), s.drwState d = 1 → s.commitCheck d (((List.range 64).filter (fun sl => bit (s.get
    F.DRW_FLIP_SEL_SLOTS d) sl)).map (fun sl => (sl, s.staged d sl))) group = (0, 0) → Does (.flipCommit (.drawer d) group) s (fun t =>
    t.get F.DRW_FLIP_STATUS_SEQ d = (s.get F.DRW_FLIP_STATUS_SEQ d + 1) % 2 ^ 16 ∧ t.flipCtr = s.flipCtr + 64 ∧ s.PartsKept t [.layers,
    .flipCtr])) ∧
  (∀ (s : State) (group : Bool) (descs : List (Nat × List Byte)) (cx : Option Nat) (sel : List (Nat × Desc)), sel = descs.map (fun p =>
    (p.1, Desc.parse p.2)) → (s.commitCheck 0x40 sel group).1 = 0 → exec (.flipCommit (.firmware descs cx) group) s = .next
    (s.commitApply 0x40 sel group 0 cx)) ∧
  (∀ (s : State) (group : Bool) (d : DrawerId), s.drwState d = 1 → s.get F.DRW_FLIP_SEL_SLOTS d = 0 → exec (.flipCommit (.drawer d)
    group) s = .next (((s.put F.DRW_FLIP_STATUS_RESULT d 2).put F.DRW_FLIP_STATUS_SLOT d 0).guestError d 6 0)) ∧
  (∀ (s : State) (group : Bool) (d : DrawerId), s.drwState d ≠ 0 → exec (.flipCommit (.drawer d) group) s = .next (s.flipGo d group)) ∧
  (∀ (s : State) (group : Bool) (descs : List (Nat × List Byte)) (cx : Option Nat), exec (.flipCommit (.firmware descs cx) group) s =
    .next ((if (s.commitCheck 0x40 (descs.map (fun p => (p.1, Desc.parse p.2))) group).1 = 0 then s.commitApply 0x40 (descs.map (fun p
    => (p.1, Desc.parse p.2))) group 0 cx else s))) ∧
  (∀ (s : State) (o : Origin) (h : HeadId) (w : Fin 65536), s.Reaches o (0x10 + (h : Nat)) → o.cab = true ∨ (w : Nat) = s.get
    F.HDn_SFLIP_WINDOWS h → s.get F.HDn_SFLIP_WINDOWS h < 65536 → Does (.safetyFlip o h w) s (fun t => t.get F.HDn_SFLIP_WINDOWS h =
    (s.get F.HDn_SFLIP_WINDOWS h ||| (w : Nat)) ∧ s.Kept t [.adl, .heads] (auditFields ++ [F.HDn_SFLIP_WINDOWS]))) ∧
  (∀ (s : State) (o : Origin) (h : HeadId), s.Reaches o (0x10 + (h : Nat)) → Does (.pipeSwapRequest o h) s (fun t => t.get
    F.HDn_PIPE_SWAP h = 1 ∧ s.Kept t [.adl, .heads] (auditFields ++ [F.HDn_PIPE_SWAP]))) ∧
  (∀ (s : State) (h : HeadId), Does (.fenceSample h) s (fun t => s.Kept t [.layers] [])) ∧
  (∀ (s : State) (h : HeadId) (l : Fin 8) (f : Flip), s.layers = [((h : Nat) * 9 + l, { pend := some f })] → f.cross = false → f.tl =
    none → f.cx = none → Does (.fenceSample h) s (fun t => (t.layer h l).pend = some { f with ready := some true }))

/-- Heads start and stop, latch, start and end frames, follow TE, hold over and report underruns. (spec/10_heads_and_scanout.md) -/
def Obligations.HeadsRunTheirFrames : Prop :=
  (∀ (s : State) (o : Origin) (h : HeadId), s.Reaches o (0x10 + (h : Nat)) → s.get F.HDn_CTRL_RUN h = 0 → s.get F.HDn_STATUS_STATE h = 0
    → s.startErr h = 0 → s.boot.recovery = false → s.imgFree o (0x10 + (h : Nat)) = true → Does (.headStart o h) s (fun t => t.get
    F.HDn_CTRL_RUN h = 1 ∧ t.get F.HDn_STATUS_STATE h = 1 ∧ (t.headOf h).first = true ∧ t.mem = s.mem ∧ t.drw = s.drw ∧ t.hostOut =
    s.hostOut)) ∧
  (∀ (s : State) (o : Origin) (h : HeadId), s.Reaches o (0x10 + (h : Nat)) → s.imgFree o (0x10 + (h : Nat)) = true → s.get
    F.HDn_CTRL_RUN h = 1 → s.get F.HDn_STATUS_STATE h = 2 → (s.headOf h).running = true → Does (.headStop o h) s (fun t => t.get
    F.HDn_CTRL_RUN h = 0 ∧ t.get F.HDn_STATUS_STATE h = 2 ∧ (t.headOf h).stopReq = true ∧ s.Kept t [.adl, .heads, .shadow] (auditFields
    ++ [F.HDn_CTRL_RUN]))) ∧
  (∀ (s : State) (o : Origin) (h : HeadId), s.Reaches o (0x10 + (h : Nat)) → s.imgFree o (0x10 + (h : Nat)) = true → s.get
    F.HDn_CTRL_RUN h = 1 → s.get F.HDn_STATUS_STATE h = 1 → Does (.headStop o h) s (fun t => t.get F.HDn_CTRL_RUN h = 0 ∧ t.get
    F.HDn_STATUS_STATE h = 0 ∧ (t.headOf h).running = false ∧ t.mem = s.mem ∧ t.drw = s.drw ∧ t.hostOut = s.hostOut)) ∧
  (∀ (s : State) (h : HeadId) (sink : Sink), s.get F.HDn_STATUS_STATE h = 1 → (s.headOf h).synthLocked = false → exec (.synthesiserLock
    h false sink) s = .next ((s.put F.HDn_STATUS_START_ERR h 5).put F.HDn_STATUS_STATE h 0)) ∧
  (∀ (s : State) (h : HeadId) (sink : Sink), s.get F.HDn_STATUS_STATE h = 1 → (s.headOf h).synthLocked = false → (s.headOf h).imageStart
    = false → exec (.synthesiserLock h true sink) s = .next ((s.modHead h (fun r => { r with synthLocked := true })).linkStart h sink)) ∧
  (∀ (s : State) (h : HeadId) (sink : Sink), s.get F.HDn_STATUS_STATE h = 1 → (s.headOf h).synthLocked = false → (s.headOf h).imageStart
    = true → exec (.synthesiserLock h true sink) s = .next (s.modHead h (fun r => { r with synthLocked := true }))) ∧
  (∀ (s : State) (h : HeadId), s.get F.HDn_STATUS_STATE h = 2 → (s.headOf h).latched = false → s.get F.HDn_CTRL_MODE h ≠ 4 ∨ s.candTaken
    h s.now = true → Does (.latchPoint h) s (fun t => (t.headOf h).latched = true ∧ (t.headOf h).latchedAt = s.now ∧ (t.headOf h).next =
    t.takeSnap h (if (s.headOf h).first then 0 else s.get F.HDn_FRAME_NUMBER h + 1) ∧ t.get F.HDn_STATUS_STATE h = 2 ∧ t.mem = s.mem ∧
    t.dps = s.dps ∧ t.gpu = s.gpu)) ∧
  (∀ (s : State) (h : HeadId) (minLeadUs : Nat) (e : Int), s.get F.HDn_STATUS_STATE h = 2 → (s.headOf h).latched = true → (s.headOf
    h).first = false → s.get F.HDn_FRAME_NUMBER h < 2 ^ 32 - 1 → Does (.frameStart h minLeadUs e) s (fun t => t.get F.HDn_FRAME_NUMBER h
    = s.get F.HDn_FRAME_NUMBER h + 1 ∧ t.get F.HDn_FSTART_ST h = s.st % 2 ^ 62 ∧ (t.headOf h).running = true ∧ (t.headOf h).latched =
    false ∧ (t.headOf h).startAt = s.now ∧ t.mem = s.mem ∧ t.drw = s.drw ∧ t.layers = s.layers ∧ t.hostOut = s.hostOut)) ∧
  (∀ (s : State) (h : HeadId), s.get F.HDn_STATUS_STATE h = 2 → (s.headOf h).running = true → (s.headOf h).stopReq = false → s.get
    F.HDn_FRAME_NUMBER h < 2 ^ 62 → Does (.frameEnd h) s (fun t => t.get F.HDn_FRPT_WORD (((h : Nat) * 8 + s.get F.HDn_FRAME_NUMBER h %
    8) * 4) = s.get F.HDn_FRAME_NUMBER h ∧ t.get F.HDn_STATUS_STATE h = 2 ∧ s.PartsKept t [.heads, .cores])) ∧
  (∀ (s : State) (h : HeadId), s.get F.HDn_STATUS_STATE h = 2 → (s.headOf h).running = true → (s.headOf h).stopReq = true → Does
    (.frameEnd h) s (fun t => t.get F.HDn_STATUS_STATE h = 0 ∧ (t.headOf h).running = false ∧ t.mem = s.mem ∧ t.drw = s.drw ∧ t.hostOut
    = s.hostOut)) ∧
  (∀ (s : State) (h : HeadId), s.get F.HDn_CTRL_MODE h = 1 ∨ s.get F.HDn_CTRL_MODE h = 2 → s.get F.HDn_STATUS_STATE h = 2 → s.refPresent
    h = false → s.get F.HDn_STATUS_HOLDOVER h = 0 → Does (.holdoverEntry h) s (fun t => t.get F.HDn_STATUS_HOLDOVER h = 1 ∧ t.get
    F.HDn_STATUS_LOCKED h = 0 ∧ t.get F.HDn_TRIM_TRIM h = s.get F.HDn_TRIM_TRIM h ∧ s.PartsKept t [.heads, .cores])) ∧
  (∀ (s : State) (h : HeadId) (minLeadUs : Nat), s.get F.HDn_CTRL_MODE h = 3 → s.get F.HDn_STATUS_STATE h = 2 → (s.headOf h).latched =
    false → (s.headOf h).teEdges.length < 4 → Does (.teEdge h minLeadUs) s (fun t => (t.headOf h).teEdges = (s.headOf h).teEdges ++
    [s.now] ∧ (t.headOf h).latchAt = s.now + t.tePeriod h - s.linesNs h (s.get F.HDn_CTRL_PREFETCH_LINES h) - 20000 ∧ s.Kept t [.heads]
    [F.HDn_TE_PERIOD_US])) ∧
  (∀ (s : State) (h : HeadId) (minLeadUs : Nat), s.get F.HDn_CTRL_MODE h = 3 → s.get F.HDn_STATUS_STATE h = 2 → (s.headOf h).latched =
    true → (s.headOf h).first = false → (s.headOf h).latchedAt + s.linesNs h (s.get F.HDn_CTRL_PREFETCH_LINES h) ≤ s.now → s.get
    F.HDn_FRAME_NUMBER h < 2 ^ 32 - 1 → Does (.teEdge h minLeadUs) s (fun t => t.get F.HDn_FRAME_NUMBER h = s.get F.HDn_FRAME_NUMBER h +
    1 ∧ (t.headOf h).latched = false ∧ t.mem = s.mem ∧ t.drw = s.drw ∧ t.layers = s.layers ∧ t.hostOut = s.hostOut)) ∧
  (∀ (s : State) (h : HeadId) (minLeadUs : Nat), s.get F.HDn_CTRL_MODE h = 3 → s.get F.HDn_STATUS_STATE h = 2 → (s.headOf h).latched =
    true → (s.headOf h).first = false → (s.headOf h).latchedAt + s.linesNs h (s.get F.HDn_CTRL_PREFETCH_LINES h) + s.periodNs h / 2 ≤
    s.now → s.get F.HDn_FRAME_NUMBER h < 2 ^ 32 - 1 → Does (.teMiss h minLeadUs) s (fun t => t.get F.HDn_STATUS_TE_MISS h = 1 ∧ t.get
    F.HDn_TE_MISSES h = satInc (s.get F.HDn_TE_MISSES h) 8 ∧ t.get F.HDn_FRAME_NUMBER h = s.get F.HDn_FRAME_NUMBER h + 1 ∧ (t.headOf
    h).teMissNow = true ∧ t.mem = s.mem ∧ t.drw = s.drw ∧ t.hostOut = s.hostOut)) ∧
  (∀ (s : State) (h : HeadId) (l : Fin 8) (y x : Nat), (s.headOf h).running = true → (s.headOf h).snap.witState = 0 → (s.headOf
    h).snap.scans l x y = true → bit (s.headOf h).underrun l = false → Does (.layerUnderrun h l y x) s (fun t => t.get
    F.HDn_STATUS_UNDERRUN h = 1 ∧ (t.headOf h).underrun = setBit (s.headOf h).underrun l ∧ (t.headOf h).snap.underruns = (s.headOf
    h).snap.underruns ++ [((l : Nat), y, x)] ∧ t.mem = s.mem ∧ t.drw = s.drw ∧ t.layers = s.layers ∧ t.hostOut = s.hostOut))

/-- A Witness result ends a frame, a restore is asked for, and the event queue is read. (spec/11_witness_output_verification.md) -/
def Obligations.WitnessesCompare : Prop :=
  (∀ (s : State) (h : HeadId) (r a : Nat), s.comparing h = true → s.transmitting h = true → s.liveRegions h = [r] → r < 16 → a < 2 ^ 64
    → a ≠ s.regionSig (s.headOf h).snap ((s.region h r).x, (s.region h r).y, (s.region h r).w, (s.region h r).h) → s.get
    F.HDn_FRAME_NUMBER h % 64 ≠ 63 → Does (.witnessResult h [(r, a)] 0 0 false) s (fun t => t.get F.WIT_HSTATUS_FAIL h = 2 ^ r ∧ t.get
    F.WIT_HSTATUS_STATE h = s.get F.WIT_HSTATUS_STATE h ∧ t.mem = s.mem ∧ t.heads = s.heads ∧ t.layers = s.layers ∧ t.drw = s.drw ∧
    t.hostOut = s.hostOut)) ∧
  (∀ (s : State) (h : HeadId) (act : List (Nat × Nat)) (dec nr : Nat) (made : Bool), s.comparing h = true → Does (.witnessResult h act
    dec nr made) s (fun t => t.get F.WIT_HSTATUS_FAIL h = (resMask (s.witResults h act dec nr) 1 + resMask (s.witResults h act dec nr) 2
    + resMask (s.witResults h act dec nr) 3) % 2 ^ 16 ∧ t.mem = s.mem ∧ t.heads = s.heads ∧ t.layers = s.layers ∧ t.drw = s.drw ∧
    t.hostOut = s.hostOut)) ∧
  (∀ (s : State) (o : Origin) (h : HeadId), s.Reaches o 0x18 → o.cab = true → Does (.witnessRestore o h) s (fun t => t.get
    F.WIT_HCTRL_RESTORE h = 1 ∧ s.Kept t [.adl] (auditFields ++ [F.WIT_HCTRL_RESTORE]))) ∧
  (∀ (s : State) (o : Origin), s.Reaches o 0x18 → exec (.witnessEventPop o) s = .next (s.witPop))

/-- Links start, train, fail over, lose and regain their sink, and serve the sideband. (spec/12_display_links.md) -/
def Obligations.DisplayLinksTrain : Prop :=
  (∀ (s : State) (h : HeadId) (sink : Sink), s.pins.panelPwrEn.getLsbD h = true → (s.dpOf h).panelOnAt + 5000000 + (s.headOf
    h).entry.panelDelayMs * 1000000 ≤ s.now → (s.dpOf h).linkStarted = false → s.on F.HDn_CTRL_RUN h = true → s.get F.HDn_STATUS_STATE h
    = 2 → s.get F.CFG_STATUS_STAGE ≠ 7 → s.get F.HDn_PORT_CFG_MODE h ≠ 0 ∨ s.on F.HDn_PORT_STATUS_HPD h = true → exec (.linkStart h
    sink) s = .next ((s.readSink h sink).trainBegin h false)) ∧
  (∀ (s : State) (h : HeadId) (sink : Sink), s.pins.panelPwrEn.getLsbD h = true → (s.dpOf h).panelOnAt + 5000000 + (s.headOf
    h).entry.panelDelayMs * 1000000 ≤ s.now → (s.dpOf h).linkStarted = false → s.on F.HDn_CTRL_RUN h = true → s.get F.HDn_STATUS_STATE h
    = 2 → s.get F.CFG_STATUS_STAGE ≠ 7 → s.get F.HDn_PORT_CFG_MODE h = 0 → s.on F.HDn_PORT_STATUS_HPD h = false → Does (.linkStart h
    sink) s (fun t => (t.dpOf h).waitHpd = true ∧ (t.dpOf h).linkStarted = true ∧ s.Kept t [.dps] [])) ∧
  (∀ (s : State) (h : HeadId) (sink : Sink), s.pins.panelPwrEn.getLsbD h = true → (s.dpOf h).panelOnAt + 5000000 + (s.headOf
    h).entry.panelDelayMs * 1000000 ≤ s.now → (s.dpOf h).linkStarted = false → s.on F.HDn_CTRL_RUN h = true → s.get F.HDn_STATUS_STATE h
    = 2 ∨ (s.get F.HDn_STATUS_STATE h = 1 ∧ (s.headOf h).synthLocked = true ∧ (s.headOf h).imageStart = true) → exec (.linkStart h sink)
    s = .next ((if s.get F.CFG_STATUS_STAGE = 7 then s.put F.CFG_STATUS_STAGE 0 8 else s).linkStart h sink)) ∧
  (∀ (s : State) (h : HeadId) (sink : Sink), s.hpdUsed h = true → (s.dpOf h).waitHpd = true → exec (.hpdAssert h sink) s = .next
    ((((s.put F.HDn_PORT_STATUS_HPD h 1).modDp h (fun p => { p with waitHpd := false })).readSink h sink).trainBegin h false)) ∧
  (∀ (s : State) (h : HeadId) (sink : Sink), s.hpdUsed h = true → (s.dpOf h).waitHpd = false → Does (.hpdAssert h sink) s (fun t =>
    t.get F.HDn_PORT_STATUS_HPD h = 1 ∧ s.Kept t [] [F.HDn_PORT_STATUS_HPD])) ∧
  (∀ (s : State) (h : HeadId) (lockLost : Bool), s.get F.HDn_PORT_CFG_MODE h < 2 → (s.dpOf h).training = false → lockLost = false ∨
    s.get F.HDn_PORT_STATUS_LINK h ≠ 2 → Does (.hpdIrq h lockLost) s (fun t => t.get F.HDn_PORT_STATUS_IRQ_HPD h = 1 ∧ s.PartsKept t
    [.cores])) ∧
  (∀ (s : State) (h : HeadId) (lockLost : Bool), s.get F.HDn_PORT_CFG_MODE h < 2 → (s.dpOf h).training = true → exec (.hpdIrq h
    lockLost) s = .next (s.modDp h (fun p => { p with irqLater := some lockLost }))) ∧
  (∀ (s : State) (h : HeadId) (lockLost : Bool), s.get F.HDn_PORT_CFG_MODE h < 2 → (s.dpOf h).training = false → exec (.hpdIrq h
    lockLost) s = .next (s.hpdIrq h lockLost)) ∧
  (∀ (s : State) (h : HeadId), s.hpdUsed h = true → (s.dpOf h).sb = none → Does (.hpdUnplug h) s (fun t => t.get F.HDn_PORT_STATUS_HPD h
    = 0 ∧ t.get F.HDn_PORT_STATUS_UNPLUG h = 1 ∧ t.get F.HDn_PORT_STATUS_LINK h = 0 ∧ t.get F.HDn_PORT_STATUS_EDID_BLOCKS h = 0 ∧
    (t.dpOf h).unplugged = true ∧ t.get F.HDn_STATUS_STATE h = s.get F.HDn_STATUS_STATE h ∧ s.PartsKept t [.dps, .cores])) ∧
  (∀ (s : State) (h : HeadId), s.hpdUsed h = true → Does (.hpdUnplug h) s (fun t => t.get F.HDn_PORT_STATUS_HPD h = 0 ∧ t.get
    F.HDn_PORT_STATUS_UNPLUG h = 1 ∧ t.get F.HDn_PORT_STATUS_LINK h = 0 ∧ (t.dpOf h).unplugged = true ∧ s.PartsKept t [.dps, .cores])) ∧
  (∀ (s : State) (h : HeadId) (sink : Sink), s.hpdUsed h = true → (s.dpOf h).unplugged = true → s.get F.HDn_STATUS_STATE h = 0 → exec
    (.hpdReplug h sink) s = .next (((s.put F.HDn_PORT_STATUS_HPD h 1).modDp h (fun p =>
    { p with unplugged := false, waitHpd := false })).readSink h sink)) ∧
  (∀ (s : State) (h : HeadId) (sink : Sink), s.hpdUsed h = true → (s.dpOf h).unplugged = true → s.get F.HDn_STATUS_STATE h = 1 ∨ s.get
    F.HDn_STATUS_STATE h = 2 → exec (.hpdReplug h sink) s = .next ((((s.put F.HDn_PORT_STATUS_HPD h 1).modDp h (fun p =>
    { p with unplugged := false, waitHpd := false })).readSink h sink).trainBegin h false)) ∧
  (∀ (s : State) (h : HeadId), (s.dpOf h).training = true → (s.dpOf h).irqLater = none → s.get F.HDn_STATUS_STATE h = 2 → Does
    (.linkTrainingDone h true) s (fun t => t.get F.HDn_PORT_STATUS_LINK h = 2 ∧ (t.dpOf h).training = false ∧ (t.dpOf h).resume = true ∧
    s.Kept t [.dps] [F.HDn_PORT_STATUS_LINK, F.HDn_PORT_STATUS_RATE_ACT, F.HDn_PORT_STATUS_LANES_ACT, F.HDn_PORT_STATUS_CODING])) ∧
  (∀ (s : State) (h : HeadId), (s.dpOf h).training = true → (s.dpOf h).irqLater = none → s.get F.HDn_STATUS_STATE h = 1 → Does
    (.linkTrainingDone h true) s (fun t => t.get F.HDn_PORT_STATUS_LINK h = 2 ∧ t.get F.HDn_STATUS_STATE h = 2 ∧ t.get
    F.WIT_HSTATUS_STATE h = 0 ∧ (t.headOf h).first = true ∧ t.mem = s.mem ∧ t.layers = s.layers ∧ t.drw = s.drw)) ∧
  (∀ (s : State) (h : HeadId), (s.dpOf h).training = true → (s.dpOf h).attempts < 2 → exec (.linkTrainingDone h false) s = .next
    (s.modDp h (fun p => { p with attempts := p.attempts + 1 }))) ∧
  (∀ (s : State) (h : HeadId), (s.dpOf h).training = true → 2 ≤ (s.dpOf h).attempts → (s.dpOf h).retrain = true → exec
    (.linkTrainingDone h false) s = .next (s.trainFailed h)) ∧
  (∀ (s : State) (h : HeadId) (r : Nat) (rest : List Nat), (s.dpOf h).training = true → 2 ≤ (s.dpOf h).attempts → (s.dpOf h).retrain =
    false → (s.rateLadder h).filter (fun x => (s.dpOf h).rateTry < x) = r :: rest → exec (.linkTrainingDone h false) s = .next (s.modDp
    h (fun p => { p with attempts := 0, rateTry := r }))) ∧
  (∀ (s : State) (h : HeadId), (s.dpOf h).training = true → 2 ≤ (s.dpOf h).attempts → (s.rateLadder h).filter (fun x => (s.dpOf
    h).rateTry < x) = [] → exec (.linkTrainingDone h false) s = .next (s.trainFailed h)) ∧
  (∀ (s : State) (h : HeadId), (s.dpOf h).training = true → Does (.linkTrainingDone h true) s (fun t => (t.dpOf h).irqLater = none ∧
    t.mem = s.mem ∧ t.drw = s.drw ∧ t.layers = s.layers)) ∧
  (∀ (s : State) (h : HeadId), (s.dpOf h).retryWait = true → (s.dpOf h).retryFrom + 1000000000 ≤ s.now → s.on F.HDn_CTRL_RUN h = true →
    s.get F.HDn_PORT_CFG_MODE h ≠ 0 ∨ s.on F.HDn_PORT_STATUS_HPD h = true → exec (.trainingRetry h) s = .next (s.trainBegin h (s.dpOf
    h).retrain)) ∧
  (∀ (s : State) (o : Origin) (h : HeadId) (w : Fin 4294967296), s.Reaches o (0x10 + (h : Nat)) → s.on F.HDn_SB_STATUS_BUSY h = false →
    bit w 2 = false → Does (.sidebandRequest o h w) s (fun t => t.get F.HDn_SB_STATUS_BUSY h = 1 ∧ (t.dpOf h).sb = some (s.sbOf h w) ∧
    s.Kept t [.adl, .dps] (auditFields ++ [F.HDn_SB_STATUS_BUSY]))) ∧
  (∀ (s : State) (h : HeadId) (r : SbReq) (result : Fin 5) (reply : List (Fin 4294967296)), (s.dpOf h).sb = some r → r.write = true ∨
    (result : Nat) ≠ 0 → (result : Nat) ≠ 2 ∨ r.at_ + 50000000 ≤ s.now → Does (.sidebandDone h result reply) s (fun t => t.get
    F.HDn_SB_STATUS_BUSY h = 0 ∧ t.get F.HDn_SB_STATUS_DONE h = 1 ∧ t.get F.HDn_SB_STATUS_RESULT h = result ∧ (t.dpOf h).sb = none ∧
    s.PartsKept t [.dps, .cores])) ∧
  (∀ (s : State) (h : HeadId) (r : SbReq) (a b c e : Fin 4294967296), (s.dpOf h).sb = some r → r.write = false → Does (.sidebandDone h 0
    [a, b, c, e]) s (fun t => t.get F.HDn_SB_STATUS_BUSY h = 0 ∧ t.get F.HDn_SB_STATUS_DONE h = 1 ∧ t.get F.HDn_SB_STATUS_RESULT h = 0 ∧
    (List.range 4).map (fun i => t.get F.HDn_SB_DATA_DATA ((h : Nat) * 4 + i)) = [(a : Nat), b, c, e] ∧ (t.dpOf h).sb = none ∧
    s.PartsKept t [.dps, .cores])) ∧
  (∀ (s : State) (h : HeadId) (r : SbReq) (result : Fin 5) (reply : List (Fin 4294967296)), (s.dpOf h).sb = some r → (result : Nat) ≠ 2
    ∨ r.at_ + 50000000 ≤ s.now → Does (.sidebandDone h result reply) s (fun t => t.get F.HDn_SB_STATUS_BUSY h = 0 ∧ t.get
    F.HDn_SB_STATUS_RESULT h = result ∧ (t.dpOf h).sb = none ∧ s.PartsKept t [.dps, .cores]))

/-- Backlight and panel power follow their order. (spec/12_display_links.md) -/
def Obligations.PanelsFollowTheirOrder : Prop :=
  (∀ (s : State) (h : HeadId), (s.headOf h).entry.enable = true → (s.headOf h).running = true → (s.headOf h).first = false → (s.headOf
    h).firstAt + (s.headOf h).entry.blDelayMs * 1000000 ≤ s.now → s.on F.HDn_PANEL_BL h = true → Does (.backlightOn h) s (fun t =>
    (t.dpOf h).blPermitted = true ∧ t.pins.blEn.getLsbD h = true ∧ s.Kept t [.pins, .dps] [])) ∧
  (∀ (s : State) (h : HeadId), (s.headOf h).entry.enable = true → (s.headOf h).running = true → (s.headOf h).first = false → (s.headOf
    h).firstAt + (s.headOf h).entry.blDelayMs * 1000000 ≤ s.now → exec (.backlightOn h) s = .next ((s.modDp h (fun p =>
    { p with blPermitted := true })).blDrive h)) ∧
  (∀ (s : State) (h : HeadId), s.pins.panelPwrEn.getLsbD h = true → (s.dpOf h).blOffAt + s.get F.HDn_PANEL_T_BL_OFF_MS h * 1000000 ≤
    s.now → s.get F.HDn_PANEL_PWR h = 0 ∨ (s.dpOf h).downPending = true → Does (.panelPowerDown h) s (fun t => t.pins.panelPwrEn.getLsbD
    h = false ∧ t.pins.blEn.getLsbD h = false ∧ (t.dpOf h).panelOffAt = s.now ∧ t.get F.HDn_PORT_STATUS_LANES_ACT h = 0 ∧ s.Kept t
    [.pins, .dps] [F.HDn_PORT_STATUS_LINK, F.HDn_PORT_STATUS_RATE_ACT, F.HDn_PORT_STATUS_LANES_ACT])) ∧
  (∀ (s : State) (h : HeadId), (s.dpOf h).panelWant = true → (s.dpOf h).panelOffAt + s.get F.HDn_PANEL_T_OFF_MIN_MS h * 1000000 ≤ s.now
    → Does (.panelPowerUp h) s (fun t => t.pins.panelPwrEn.getLsbD h = true ∧ (t.dpOf h).panelWant = false ∧ s.Kept t [.pins, .dps] [])) ∧
  (∀ (s : State) (h : HeadId), (s.dpOf h).panelWant = true → (s.dpOf h).panelOffAt ≠ 0 → s.now < (s.dpOf h).panelOffAt + s.get
    F.HDn_PANEL_T_OFF_MIN_MS h * 1000000 → exec (.panelPowerUp h) s = .next (s.modDp h (fun p => { p with panelWant := true }))) ∧
  (∀ (s : State) (h : HeadId), (s.dpOf h).panelWant = true → exec (.panelPowerUp h) s = .next (s.panelRaise h))

/-- PlynLink ports come up, fall back, go down and retrain, and take flits. (spec/13_plynlink.md) -/
def Obligations.PlynLinkPortsComeAndGo : Prop :=
  (∀ (s : State) (p : PlkPort) (credits : List Nat), s.get F.PLK_PORT_STATUS_STATE p = 1 → s.on F.PLK_PORT_CTRL_EN p = true → Does
    (.plkLinkUp p credits) s (fun t => t.get F.PLK_PORT_STATUS_STATE p = 2 ∧ t.get F.PLK_PORT_STATUS_PAM4 p = b2n (!(s.pport p).nrz) ∧
    t.mem = s.mem ∧ t.drw = s.drw ∧ t.layers = s.layers ∧ t.hostOut = s.hostOut)) ∧
  (∀ (s : State) (p : PlkPort), s.get F.PLK_PORT_STATUS_STATE p = 1 → (s.pport p).nrz = false → (s.pport p).trainAt + 100000000 ≤ s.now
    → Does (.nrzFallback p) s (fun t => (t.pport p).nrz = true ∧ t.get F.PLK_PORT_CNT_FALLBACKS p = satInc (s.get
    F.PLK_PORT_CNT_FALLBACKS p) 8 ∧ s.Kept t [.plk] [F.PLK_PORT_CNT_FALLBACKS])) ∧
  (∀ (s : State) (p : PlkPort), s.plkUp p = true → s.on F.PLK_PORT_CTRL_EN p = true → s.plk.routes = [] → s.plk.imports = [] → Does
    (.plkLinkDown p) s (fun t => t.get F.PLK_PORT_STATUS_STATE p = 1 ∧ t.get F.PLK_PORT_CNT_LINK_DOWNS p = satInc (s.get
    F.PLK_PORT_CNT_LINK_DOWNS p) 8 ∧ (t.pport p).unacked = [] ∧ s.PartsKept t [.plk, .cores])) ∧
  (∀ (s : State) (p : PlkPort), s.plkUp p = true → exec (.plkLinkDown p) s = .next ((s.plkDown p 1).plkTrain p)) ∧
  (∀ (s : State) (p : PlkPort), s.get F.PLK_PORT_STATUS_STATE p = 3 ∨ s.get F.PLK_PORT_STATUS_STATE p = 1 → s.on F.PLK_PORT_CTRL_EN p =
    true → s.boot.recovery = false → (s.pport p).trainAt + 1000000000 ≤ s.now → Does (.portTrainRetry p) s (fun t => t.get
    F.PLK_PORT_STATUS_STATE p = 1 ∧ (t.pport p).nrz = s.on F.PLK_PORT_CTRL_NRZ_ONLY p ∧ s.Kept t [.plk] [F.PLK_PORT_STATUS_STATE])) ∧
  (∀ (s : State) (p : PlkPort), s.get F.PLK_PORT_STATUS_STATE p = 3 ∨ s.get F.PLK_PORT_STATUS_STATE p = 1 → (s.pport p).trainAt +
    1000000000 ≤ s.now → exec (.portTrainRetry p) s = .next (s.plkTrain p)) ∧
  (∀ (s : State) (o : Origin) (p : PlkPort), s.Reaches o 0x1C → s.get F.PLK_PORT_STATUS_STATE p = 2 → s.on F.PLK_PORT_CTRL_EN p = true →
    s.boot.recovery = false → s.plk.routes = [] → s.plk.imports = [] → Does (.portRetrain o p) s (fun t => t.get F.PLK_PORT_STATUS_STATE
    p = 1 ∧ (t.pport p).unacked = [] ∧ t.mem = s.mem ∧ t.drw = s.drw ∧ t.hostOut = s.hostOut)) ∧
  (∀ (s : State) (o : Origin) (p : PlkPort), s.Reaches o 0x1C → s.imgFree o 0x1C = true → s.get F.PLK_PORT_STATUS_STATE p = 1 → Does
    (.portDisable o p) s (fun t => t.get F.PLK_PORT_CTRL_EN p = 0 ∧ t.get F.PLK_PORT_STATUS_STATE p = 0 ∧ s.Kept t [.adl, .plk, .shadow]
    (auditFields ++ [F.PLK_PORT_CTRL_EN, F.PLK_PORT_STATUS_STATE, F.PLK_PORT_STATUS_PAM4]))) ∧
  (∀ (s : State) (p : PlkPort) (corr uncorr : Bool) (b : List Byte), s.plkUp p = true → corr = false → uncorr = true → (s.pport
    p).nakOut = false → (s.pport p).uncRun < 7 → Does (.flitReceive p corr uncorr b) s (fun t => t.get F.PLK_PORT_CNT_CW_UNCORR p =
    satInc (s.get F.PLK_PORT_CNT_CW_UNCORR p) 16 ∧ (t.pport p).nakOut = true ∧ (t.plk.out.getLast?).map (fun x => (x.1, x.2.kind,
    x.2.nak, x.2.ack)) = some ((p : Nat), 0, true, ((s.pport p).rxNext + 4095) % 4096) ∧ t.mem = s.mem ∧ t.drw = s.drw ∧ t.hostOut =
    s.hostOut)) ∧
  (∀ (s : State) (p : PlkPort) (b : List Byte), s.plkUp p = true → flitCrcOk b = false → exec (.flitReceive p false false b) s = .next
    ((s.modPport p (fun r => { r with uncRun := 0 })).sendNak p)) ∧
  (∀ (s : State) (p : PlkPort) (corr uncorr : Bool) (b : List Byte), s.plkUp p = true → exec (.flitReceive p corr uncorr b) s = .next
    (s.flitIn p corr uncorr b))

/-- A message for this module returns its credit and reaches the unit of its type. (spec/13_plynlink.md) -/
def Obligations.MessagesReachTheirUnits : Prop :=
  (∀ (s : State) (p : PlkPort) (m : Msg), s.plkUp p = true → s.isMine m = true → exec (.hello p m) s = .next ((s.creditBack p 1
    { m with type := 0x01 }).helloIn p { m with type := 0x01 })) ∧
  (∀ (s : State) (p : PlkPort) (m : Msg), s.plkUp p = true → s.isMine m = true → exec (.route p m) s = .next ((s.creditBack p 1
    { m with type := 0x02 }).routeIn p { m with type := 0x02 })) ∧
  (∀ (s : State) (p : PlkPort) (m : Msg), s.plkUp p = true → s.isMine m = true → exec (.leave p m) s = .next ((s.creditBack p 1
    { m with type := 0x03 }).leaveIn p)) ∧
  (∀ (s : State) (p : PlkPort) (m : Msg), s.plkUp p = true → s.isMine m = true → exec (.syncReq p m) s = .next ((s.creditBack p 0
    { m with type := 0x08 }).syncReq p { m with type := 0x08 })) ∧
  (∀ (s : State) (p : PlkPort) (m : Msg), s.plkUp p = true → s.isMine m = true → exec (.syncRsp p m) s = .next ((s.creditBack p 0
    { m with type := 0x09 }).syncRsp p { m with type := 0x09 })) ∧
  (∀ (s : State) (p : PlkPort) (m : Msg), s.plkUp p = true → s.isMine m = true → exec (.rdReq p m) s = .next ((s.creditBack p 3
    { m with type := 0x11 }).rdIn { m with type := 0x11 })) ∧
  (∀ (s : State) (p : PlkPort) (m : Msg), s.plkUp p = true → s.isMine m = true → exec (.openMsg p m) s = .next ((s.creditBack p 3
    { m with type := 0x12 }).openReq { m with type := 0x12 })) ∧
  (∀ (s : State) (p : PlkPort) (m : Msg), s.plkUp p = true → s.isMine m = true → exec (.wr p m) s = .next ((s.creditBack p 3
    { m with type := 0x10 }).wrIn { m with type := 0x10 } m.data (2 ^ 256 - 1))) ∧
  (∀ (s : State) (p : PlkPort) (m : Msg), s.plkUp p = true → s.isMine m = true → exec (.wrPart p m) s = .next ((s.creditBack p 3
    { m with type := 0x13 }).wrIn { m with type := 0x13 } (m.data.take 16) (fieldLE m.data 16 2))) ∧
  (∀ (s : State) (p : PlkPort) (m : Msg), s.plkUp p = true → s.isMine m = true → exec (.wrAck p m) s = .next ((s.creditBack p 2
    { m with type := 0x18 }).remoteRsp { m with type := 0x18 } true)) ∧
  (∀ (s : State) (p : PlkPort) (m : Msg), s.plkUp p = true → s.isMine m = true → exec (.rdData p m) s = .next ((s.creditBack p 2
    { m with type := 0x19 }).remoteRsp { m with type := 0x19 } false)) ∧
  (∀ (s : State) (p : PlkPort) (m : Msg), s.plkUp p = true → s.isMine m = true → exec (.openRsp p m) s = .next ((s.creditBack p 2
    { m with type := 0x1A }).openRsp { m with type := 0x1A })) ∧
  (∀ (s : State) (p : PlkPort) (m : Msg), s.plkUp p = true → s.isMine m = true → exec (.subscribe p m) s = .next ((s.creditBack p 5
    { m with type := 0x20 }).subscribeReq { m with type := 0x20 })) ∧
  (∀ (s : State) (p : PlkPort) (m : Msg), s.plkUp p = true → s.isMine m = true → exec (.tile p m) s = .next ((s.creditBack p 5
    { m with type := 0x21 }).tileIn { m with type := 0x21 })) ∧
  (∀ (s : State) (p : PlkPort) (m : Msg), s.plkUp p = true → s.isMine m = true → exec (.genEnd p m) s = .next ((s.creditBack p 5
    { m with type := 0x22 }).genEnd { m with type := 0x22 })) ∧
  (∀ (s : State) (p : PlkPort) (m : Msg), s.plkUp p = true → s.isMine m = true → exec (.genAck p m) s = .next ((s.creditBack p 2
    { m with type := 0x23 }).genAck { m with type := 0x23 })) ∧
  (∀ (s : State) (p : PlkPort) (m : Msg), s.plkUp p = true → s.isMine m = true → exec (.genCommit p m) s = .next ((s.creditBack p 1
    { m with type := 0x24 }).genCommitIn { m with type := 0x24 })) ∧
  (∀ (s : State) (p : PlkPort) (m : Msg), s.plkUp p = true → s.isMine m = true → exec (.subAck p m) s = .next ((s.creditBack p 2
    { m with type := 0x25 }).subAck { m with type := 0x25 })) ∧
  (∀ (s : State) (p : PlkPort) (m : Msg), s.plkUp p = true → s.isMine m = true → exec (.touch p m) s = .next ((s.creditBack p 4
    { m with type := 0x28 }).touchIn { m with type := 0x28 })) ∧
  (∀ (s : State) (p : PlkPort) (m : Msg), s.plkUp p = true → s.isMine m = true → exec (.audioMessage p m) s = .next ((s.creditBack p 4
    { m with type := 0x29 }).audioIn { m with type := 0x29 })) ∧
  (∀ (s : State) (p : PlkPort) (m : Msg), s.plkUp p = true → s.isMine m = true → exec (.mgmtAck p m) s = .next ((s.creditBack p 2
    { m with type := 0x31 }).mgmtAckIn { m with type := 0x31 })) ∧
  (∀ (s : State) (p : PlkPort) (m : Msg), s.plkUp p = true → s.isMine { m with type := 0x01 } = false → exec (.hello p m) s = .next
    ((s.creditBack p 1 { m with type := 0x01 }).forward { m with type := 0x01 })) ∧
  (∀ (s : State) (p : PlkPort) (m : Msg), s.plkUp p = true → s.isMine { m with type := 0x02 } = false → exec (.route p m) s = .next
    ((s.creditBack p 1 { m with type := 0x02 }).forward { m with type := 0x02 })) ∧
  (∀ (s : State) (p : PlkPort) (m : Msg), s.plkUp p = true → s.isMine { m with type := 0x03 } = false → exec (.leave p m) s = .next
    ((s.creditBack p 1 { m with type := 0x03 }).forward { m with type := 0x03 })) ∧
  (∀ (s : State) (p : PlkPort) (m : Msg), s.plkUp p = true → s.isMine { m with type := 0x08 } = false → exec (.syncReq p m) s = .next
    ((s.creditBack p 0 { m with type := 0x08 }).forward { m with type := 0x08 })) ∧
  (∀ (s : State) (p : PlkPort) (m : Msg), s.plkUp p = true → s.isMine { m with type := 0x09 } = false → exec (.syncRsp p m) s = .next
    ((s.creditBack p 0 { m with type := 0x09 }).forward { m with type := 0x09 })) ∧
  (∀ (s : State) (p : PlkPort) (m : Msg), s.plkUp p = true → s.isMine { m with type := 0x11 } = false → exec (.rdReq p m) s = .next
    ((s.creditBack p 3 { m with type := 0x11 }).forward { m with type := 0x11 })) ∧
  (∀ (s : State) (p : PlkPort) (m : Msg), s.plkUp p = true → s.isMine { m with type := 0x12 } = false → exec (.openMsg p m) s = .next
    ((s.creditBack p 3 { m with type := 0x12 }).forward { m with type := 0x12 })) ∧
  (∀ (s : State) (p : PlkPort) (m : Msg), s.plkUp p = true → s.isMine { m with type := 0x10 } = false → exec (.wr p m) s = .next
    ((s.creditBack p 3 { m with type := 0x10 }).forward { m with type := 0x10 })) ∧
  (∀ (s : State) (p : PlkPort) (m : Msg), s.plkUp p = true → s.isMine { m with type := 0x13 } = false → exec (.wrPart p m) s = .next
    ((s.creditBack p 3 { m with type := 0x13 }).forward { m with type := 0x13 })) ∧
  (∀ (s : State) (p : PlkPort) (m : Msg), s.plkUp p = true → s.isMine { m with type := 0x18 } = false → exec (.wrAck p m) s = .next
    ((s.creditBack p 2 { m with type := 0x18 }).forward { m with type := 0x18 })) ∧
  (∀ (s : State) (p : PlkPort) (m : Msg), s.plkUp p = true → s.isMine { m with type := 0x19 } = false → exec (.rdData p m) s = .next
    ((s.creditBack p 2 { m with type := 0x19 }).forward { m with type := 0x19 })) ∧
  (∀ (s : State) (p : PlkPort) (m : Msg), s.plkUp p = true → s.isMine { m with type := 0x1A } = false → exec (.openRsp p m) s = .next
    ((s.creditBack p 2 { m with type := 0x1A }).forward { m with type := 0x1A })) ∧
  (∀ (s : State) (p : PlkPort) (m : Msg), s.plkUp p = true → s.isMine { m with type := 0x20 } = false → exec (.subscribe p m) s = .next
    ((s.creditBack p 5 { m with type := 0x20 }).forward { m with type := 0x20 })) ∧
  (∀ (s : State) (p : PlkPort) (m : Msg), s.plkUp p = true → s.isMine { m with type := 0x21 } = false → exec (.tile p m) s = .next
    ((s.creditBack p 5 { m with type := 0x21 }).forward { m with type := 0x21 })) ∧
  (∀ (s : State) (p : PlkPort) (m : Msg), s.plkUp p = true → s.isMine { m with type := 0x22 } = false → exec (.genEnd p m) s = .next
    ((s.creditBack p 5 { m with type := 0x22 }).forward { m with type := 0x22 })) ∧
  (∀ (s : State) (p : PlkPort) (m : Msg), s.plkUp p = true → s.isMine { m with type := 0x23 } = false → exec (.genAck p m) s = .next
    ((s.creditBack p 2 { m with type := 0x23 }).forward { m with type := 0x23 })) ∧
  (∀ (s : State) (p : PlkPort) (m : Msg), s.plkUp p = true → s.isMine { m with type := 0x24 } = false → exec (.genCommit p m) s = .next
    ((s.creditBack p 1 { m with type := 0x24 }).forward { m with type := 0x24 })) ∧
  (∀ (s : State) (p : PlkPort) (m : Msg), s.plkUp p = true → s.isMine { m with type := 0x25 } = false → exec (.subAck p m) s = .next
    ((s.creditBack p 2 { m with type := 0x25 }).forward { m with type := 0x25 })) ∧
  (∀ (s : State) (p : PlkPort) (m : Msg), s.plkUp p = true → s.isMine { m with type := 0x28 } = false → exec (.touch p m) s = .next
    ((s.creditBack p 4 { m with type := 0x28 }).forward { m with type := 0x28 })) ∧
  (∀ (s : State) (p : PlkPort) (m : Msg), s.plkUp p = true → s.isMine { m with type := 0x29 } = false → exec (.audioMessage p m) s =
    .next ((s.creditBack p 4 { m with type := 0x29 }).forward { m with type := 0x29 })) ∧
  (∀ (s : State) (p : PlkPort) (m : Msg), s.plkUp p = true → s.isMine { m with type := 0x31 } = false → exec (.mgmtAck p m) s = .next
    ((s.creditBack p 2 { m with type := 0x31 }).forward { m with type := 0x31 })) ∧
  (∀ (s : State) (p : PlkPort) (m : Msg), s.plkUp p = true → s.isMine { m with type := 0x30 } = false → exec (.mgmt (.arrive p m)) s =
    .next ((s.creditBack p 3 { m with type := 0x30 }).forward { m with type := 0x30 })) ∧
  (∀ (s : State) (cab : Bool) (dest : Fin 16384) (tag : Fin 256) (data : List Byte), exec (.mgmt (.send cab dest tag data)) s = .next
    (s.mgmtSend cab dest tag data)) ∧
  (∀ (s : State) (p : PlkPort) (m : Msg), s.plkUp p = true → s.isMine m = true → exec (.mgmt (.arrive p m)) s = .next ((s.creditBack p 3
    { m with type := 0x30 }).mgmtIn { m with type := 0x30 })) ∧
  (∀ (s : State) (cab : Bool), exec (.mgmt (.take cab)) s = .next (s.mgmtTake cab))

/-- What arriving messages change: neighbour, time, sessions, remote memory and answers, mirrors, touch and management.
(spec/13_plynlink.md) -/
def Obligations.MessagesDoWhatTheySay : Prop :=
  (∀ (s : State) (p : PlkPort) (m : Msg), s.plkUp p = true → s.isMine m = true → Does (.hello p m) s (fun t => t.get
    F.PLK_PORT_STATUS_PEER_ID p = fieldLE m.data 0 2 % 2 ^ 14 ∧ s.Kept t [.plk] [F.PLK_PORT_STATUS_PEER_ID,
    F.PLK_PORT_STATUS_PEER_PORT])) ∧
  (∀ (s : State) (p : PlkPort) (m : Msg), s.plkUp p = true → s.isMine m = true → s.on F.PLK_PORT_CTRL_EN p = true → s.plk.routes = [] →
    s.plk.imports = [] → Does (.leave p m) s (fun t => t.get F.PLK_PORT_STATUS_STATE p = 1 ∧ t.get F.PLK_PORT_CNT_LINK_DOWNS p = satInc
    (s.get F.PLK_PORT_CNT_LINK_DOWNS p) 8 ∧ s.PartsKept t [.plk, .cores])) ∧
  (∀ (s : State) (p : PlkPort) (m : Msg), s.plkUp p = true → s.isMine m = true → s.parentPort = none → s.plk.selfFrom = none → Does
    (.syncRsp p m) s (fun t => t.get F.PLK_PORT_STATUS_DELAY_NS p = min 65535 ((((s.st : Int) - m.arg) - ((fieldLE m.data 8 8 : Int) -
    fieldLE m.data 0 8)) / 2).toNat ∧ s.Kept t [.plk] [F.PLK_PORT_STATUS_DELAY_NS])) ∧
  (∀ (s : State) (p : PlkPort) (m : Msg) (a : Nat), s.plkUp p = true → s.isMine m = true → m.data.length ≤ 224 → s.remoteCheck m true
    m.data.length = (0, a) → s.plk.ports = [] → Does (.wr p m) s (fun t => t.mem = (s.memStore { kind := .peer, peer := m.src } 0x1C a
    m.data).mem ∧ t.drw = s.drw ∧ t.layers = s.layers ∧ t.hostOut = s.hostOut)) ∧
  (∀ (s : State) (p : PlkPort) (m : Msg), s.plkUp p = true → m.toLocal = true → s.on F.PLK_WIN_CTRL_EN (m.arg % 32) = true → s.get
    F.PLK_WIN_CTRL_ANY_PEER (m.arg % 32) = 1 → s.get F.PLK_WIN_CTRL_READ (m.arg % 32) = 1 → s.get F.PLK_WIN_CTRL_WRITE (m.arg % 32) = 0
    → s.plk.sessions = [] → Does (.openMsg p { m with data := leBytes 8 (s.token s.ownId m.src (m.arg % 32) 1) ++ leBytes 8 1 }) s (fun
    t => t.plk.sessions = [{ id := 0, win := m.arg % 32, peer := m.src, read := true, write := false }] ∧ t.get F.PLK_WIN_CTRL_SESSIONS
    (m.arg % 32) = 1 ∧ t.mem = s.mem ∧ t.drw = s.drw ∧ t.hostOut = s.hostOut)) ∧
  (∀ (s : State) (p : PlkPort) (m : Msg), s.plkUp p = true → s.isMine m = true → s.on F.PLK_WIN_CTRL_EN (m.arg % 32) = false → Does
    (.openMsg p m) s (fun t => t.plk.sessions = s.plk.sessions ∧ t.mem = s.mem ∧ t.drw = s.drw ∧ t.hostOut = s.hostOut)) ∧
  (∀ (s : State) (p : PlkPort) (m : Msg) (r : RemoteReq) (x : Nat), s.plkUp p = true → s.isMine m = true → s.plk.reqs = [r] → r.tag =
    some x → x = m.arg % 4096 → r.done = false → r.write = true → r.cmd = none → s.get F.PLK_AP_CTRL_PEER r.ap = m.src → bits m.arg 12 4
    = 0 → (∀ q : Fin 4, (s.pport q).leaving = none) → Does (.wrAck p m) s (fun t => t.plk.reqs = [] ∧ t.reads = s.reads ∧ s.Kept t
    [.plk] [])) ∧
  (∀ (s : State) (p : PlkPort) (m : Msg) (r : RemoteReq) (x : Nat), s.plkUp p = true → s.isMine m = true → s.plk.reqs = [r] → r.tag =
    some x → x = m.arg % 4096 → r.done = false → r.write = false → r.cmd = none → r.origin.kind = .core → s.get F.PLK_AP_CTRL_PEER r.ap
    = m.src → bits m.arg 12 4 = 0 → (∀ q : Fin 4, (s.pport q).leaving = none) → Does (.rdData p m) s (fun t => t.plk.reqs = [] ∧ t.reads
    = s.reads ++ [⟨r.origin, r.addr, fieldLE m.data (r.addr % 16) r.size⟩] ∧ s.Kept t [.plk, .reads] [])) ∧
  (∀ (s : State) (p : PlkPort) (m : Msg) (k : Nat), s.plkUp p = true → s.isMine m = true → s.plk.opening = [k] → k < 64 → s.get
    F.PLK_AP_CTRL_PEER k = m.src → bits m.arg 16 4 = 0 → Does (.openRsp p m) s (fun t => t.get F.PLK_AP_CTRL_STATE k = 2 ∧ t.get
    F.PLK_AP_CTRL_SIZE_M1 k = bits m.arg 20 20 ∧ t.plk.opening = [] ∧ s.Kept t [.plk] [F.PLK_AP_CTRL_STATE, F.PLK_AP_CTRL_SIZE_M1])) ∧
  (∀ (s : State) (p : PlkPort) (m : Msg) (i : Nat), s.plkUp p = true → s.isMine m = true → s.impOf m = some i → (s.imp i).v16 = none →
    (s.imp i).staged = [] → (s.imp i).complete = [] → bit m.arg 33 = true → bits m.arg 20 13 = 0 → Does (.tile p m) s (fun t => (t.imp
    i).staged = tset [] [] (bits m.arg 0 20) m.data ∧ (t.imp i).complete = [bits m.arg 0 20] ∧ (t.imp i).v16 = some (bits m.arg 34 16) ∧
    s.Kept t [.plk] [])) ∧
  (∀ (s : State) (p : PlkPort) (m : Msg), s.plkUp p = true → s.isMine m = true → (s.exp_ (m.aux % 16)).gen = some m.arg → ((s.exp_
    (m.aux % 16)).subs.any (fun b => b.inGen && !b.acked && decide (b.peer ≠ m.src))) = true → Does (.genAck p m) s (fun t => (t.exp_
    (m.aux % 16)).gen = some m.arg ∧ (t.exp_ (m.aux % 16)).subs = (s.exp_ (m.aux % 16)).subs.map (fun b => if b.peer = m.src && b.inGen
    then { b with acked := true } else b) ∧ s.Kept t [.plk] [F.PLK_EXP_STATUS_SUBS])) ∧
  (∀ (s : State) (p : PlkPort) (m : Msg) (i : Nat), s.plkUp p = true → s.isMine m = true → s.impOf m = some i → m.arg % 16 = 6 → Does
    (.subAck p m) s (fun t => t.get F.PLK_IMP_STATUS_BUSY i = satInc (s.get F.PLK_IMP_STATUS_BUSY i) 13 ∧ t.get F.PLK_IMP_STATUS_STATE i
    = 1 ∧ (t.imp i).retry = true ∧ s.Kept t [.plk] [F.PLK_IMP_STATUS_BUSY, F.PLK_IMP_STATUS_STATE])) ∧
  (∀ (s : State) (p : PlkPort) (m : Msg) (i : Nat), s.plkUp p = true → s.isMine m = true → s.impOf m = some i → bit (s.impField i 0x1F
    1) 1 = false → Does (.genCommit p m) s (fun t => t.get F.PLK_IMP_STATUS_GENS i = satInc (s.get F.PLK_IMP_STATUS_GENS i) 32 ∧ s.Kept
    t [.plk, .tls] [F.PLK_IMP_STATUS_GENS, F.PLK_EXP_STATUS_COALESCED])) ∧
  (∀ (s : State) (p : PlkPort) (m : Msg), s.plkUp p = true → s.isMine m = true → s.on F.TCH_RCFG_REMOTE_OK (TchRec.parse m.data).region
    = false → Does (.touch p m) s (fun t => t.tch.remoteLost = s.tch.remoteLost + 1 ∧ s.Kept t [.plk, .tch] [])) ∧
  (∀ (s : State) (p : PlkPort) (m : Msg), s.plkUp p = true → s.isMine m = true → m.arg % 2 = 1 → (tget [] s.plk.mgmt 1).length < 16 →
    Does (.mgmt (.arrive p m)) s (fun t => tget [] t.plk.mgmt 1 = tget [] s.plk.mgmt 1 ++ [{ m with type := 0x30 }] ∧ t.mem = s.mem ∧
    t.drw = s.drw ∧ t.hostOut = s.hostOut)) ∧
  (∀ (s : State) (dest : Fin 16384) (tag : Fin 256) (data : List Byte), 1 ≤ data.length → data.length ≤ 224 → Does (.mgmt (.send true
    dest tag data)) s (fun t => t.plk.mgmtSent.length = s.plk.mgmtSent.length + 1 ∧ t.mem = s.mem ∧ t.drw = s.drw ∧ t.hostOut =
    s.hostOut)) ∧
  (∀ (s : State) (p : PlkPort) (m x : Msg), s.plkUp p = true → s.isMine m = true → s.plk.mgmtSent = [x] → x.dest = m.src → bit m.arg 0 =
    false → Does (.mgmtAck p m) s (fun t => t.plk.mgmtSent = [] ∧ s.Kept t [.plk] []))

/-- Routes are originated, refreshed and expire, and synchronisation, frame ticks and their loss act on time. (spec/13_plynlink.md,
spec/20_power_clocks_time.md) -/
def Obligations.RoutesAndTicksKeepTime : Prop :=
  (∀ (s : State), s.plk.started = true → s.plk.origAt + s.get F.PLK_CFG_ORIG_US * 1000 ≤ s.now → exec (.routeOriginate) s = .next
    (s.originate)) ∧
  (∀ (s : State), s.plk.started = true → s.upPorts = [] → s.plk.origAt + s.get F.PLK_CFG_ORIG_US * 1000 ≤ s.now → Does (.routeOriginate)
    s (fun t => t.plk.ownSeq = (s.plk.ownSeq / 2 * 2 + 2) % 65536 ∧ s.PartsKept t [.plk, .cores])) ∧
  (∀ (s : State), s.plk.started = true → s.plk.tableAt + 100000000 ≤ s.now → exec (.routeRefresh) s = .next ((s.modPlk (fun k =>
    { k with tableAt := s.now })).advertise s.upPorts s.allRoutes)) ∧
  (∀ (s : State) (id : Fin 16384), (id : Nat) ≠ s.ownId → s.reachable id = true → (s.route id).freshAt + 4 * s.get F.PLK_CFG_ORIG_US *
    1000 ≤ s.now → exec (.routeExpire id) s = .next (s.setRoutes [((id : Nat), { s.route id with hops := 63 })])) ∧
  (∀ (s : State) (id : Fin 16384), (id : Nat) ≠ s.ownId → s.reachable id = true → (s.route id).freshAt + 4 * s.get F.PLK_CFG_ORIG_US *
    1000 ≤ s.now → s.upPorts = [] → s.plk.exports = [] → (∀ k : Fin 64, s.get F.PLK_AP_CTRL_PEER k ≠ (id : Nat)) → Does (.routeExpire
    id) s (fun t => t.route id = { s.route id with hops := 63 } ∧ t.reachable id = false ∧ s.PartsKept t [.plk, .cores])) ∧
  (∀ (s : State) (p : Nat), s.plk.started = true → s.parentPort = some p → s.plk.syncAt + 1000000 ≤ s.now → exec (.syncTick) s = .next
    ((s.modPlk (fun k => { k with syncAt := s.now })).sendLocal p { type := 8, arg := s.st })) ∧
  (∀ (s : State), s.plk.started = true → s.parentPort = none → s.stState = 2 → s.upPorts = [] → s.plk.syncAt + 1000000 ≤ s.now → exec
    (.syncTick) s = .next (s.modPlk (fun k => { k with syncAt := s.now, selfFrom := some (k.selfFrom.getD s.now) }))) ∧
  (∀ (s : State), s.plk.started = true → s.parentPort = none → s.stState ≠ 2 → s.plk.syncAt + 1000000 ≤ s.now → exec (.syncTick) s =
    .next (s.modPlk (fun k => { k with syncAt := s.now }))) ∧
  (∀ (s : State), s.get F.PLK_STATUS_TICK_OK = 1 → s.get F.PLK_TICK_PERIOD_Q ≠ 0 → (s.plk.ticked && s.get F.PLK_TICK_NUM_K = s.tickNum)
    = false → s.pm.frameSyncPlyn = true → s.tickNum < 2 ^ 64 → Does (.frameTick) s (fun t => t.get F.PLK_TICK_NUM_K = s.tickNum ∧
    t.pins.frameSync = true ∧ t.plk.ticked = true ∧ s.Kept t [.pins, .plk] [F.PLK_TICK_NUM_K])) ∧
  (∀ (s : State), s.get F.PLK_STATUS_TICK_OK = 1 → s.get F.PLK_TICK_PERIOD_Q ≠ 0 → (s.plk.ticked && s.get F.PLK_TICK_NUM_K = s.tickNum)
    = false → s.pm.frameSyncPlyn = false → s.tickNum < 2 ^ 64 → Does (.frameTick) s (fun t => t.get F.PLK_TICK_NUM_K = s.tickNum ∧
    t.plk.ticked = true ∧ s.Kept t [.plk] [F.PLK_TICK_NUM_K])) ∧
  (∀ (s : State), s.plk.rspAt + 10000000 ≤ s.now → s.get F.PLK_STATUS_MASTER_HOPS ≠ 0 → Does (.tickLost) s (fun t => t.get
    F.PLK_STATUS_TICK_OK = 0 ∧ t.plk.parentOk = false ∧ t.plk.goodEx = 0 ∧ s.PartsKept t [.plk, .pins, .cores])) ∧
  (∀ (s : State), s.now < s.plk.rspAt + 10000000 → s.pm.frameSyncPlyn = false → exec (.tickLost) s = .next (s.plkTickOk))

/-- Apertures ask for and lose their windows, windows close their sessions, requests time out. (spec/13_plynlink.md) -/
def Obligations.AperturesAndWindowsOpenAndClose : Prop :=
  (∀ (s : State) (o : Origin) (k : Fin 64) (peer : Fin 16384) (win : Fin 32) (read write fw : Bool), s.Reaches o 0x1C → o.cab = true →
    s.imgFree o 0x1C = true → s.reachable peer = false → Does (.apertureEnable o k peer win read write fw) s (fun t => t.get
    F.PLK_AP_CTRL_EN k = 1 ∧ t.get F.PLK_AP_CTRL_PEER k = peer ∧ t.get F.PLK_AP_CTRL_STATE k = 4 ∧ t.mem = s.mem ∧ t.drw = s.drw ∧
    t.hostOut = s.hostOut)) ∧
  (∀ (s : State) (o : Origin) (k : Fin 64) (peer : Fin 16384) (win : Fin 32) (read write fw : Bool), s.Reaches o 0x1C → o.cab = true →
    s.imgFree o 0x1C = true → s.reachable peer = true → (peer : Nat) ≠ s.ownId → Does (.apertureEnable o k peer win read write fw) s
    (fun t => t.get F.PLK_AP_CTRL_EN k = 1 ∧ t.get F.PLK_AP_CTRL_WIN k = win ∧ t.get F.PLK_AP_CTRL_STATE k = 1 ∧ (k : Nat) ∈
    t.plk.opening ∧ t.mem = s.mem ∧ t.drw = s.drw ∧ t.hostOut = s.hostOut)) ∧
  (∀ (s : State) (k : Fin 64), s.get F.PLK_AP_CTRL_EN k = 1 → s.get F.PLK_AP_CTRL_STATE k = 0 ∨ s.get F.PLK_AP_CTRL_STATE k = 4 → tget 0
    s.plk.openAt k + 100000000 ≤ s.now → exec (.apertureOpenRetry k) s = .next (s.apOpen k)) ∧
  (∀ (s : State) (k : Fin 64), s.get F.PLK_AP_CTRL_EN k = 1 → s.get F.PLK_AP_CTRL_STATE k = 0 ∨ s.get F.PLK_AP_CTRL_STATE k = 4 → tget 0
    s.plk.openAt k + 100000000 ≤ s.now → s.reachable (s.get F.PLK_AP_CTRL_PEER k) = true → s.get F.PLK_AP_CTRL_PEER k ≠ s.ownId → Does
    (.apertureOpenRetry k) s (fun t => t.get F.PLK_AP_CTRL_STATE k = 1 ∧ (k : Nat) ∈ t.plk.opening ∧ t.mem = s.mem ∧ t.drw = s.drw ∧
    t.hostOut = s.hostOut)) ∧
  (∀ (s : State) (o : Origin) (w : Fin 32) (sizeM1 : Fin 1048576) (peer : Fin 16384) (any read write en : Bool), s.Reaches o 0x1C →
    o.cab = true → s.imgFree o 0x1C = true → s.get F.PLK_WIN_CTRL_EN w = 1 → en = false → s.regWord 91 w ≠ (sizeM1 : Nat) + peer * 2 ^
    20 + b2n any * 2 ^ 34 + b2n read * 2 ^ 35 + b2n write * 2 ^ 36 + s.get F.PLK_WIN_CTRL_SESSIONS w * 2 ^ 38 → Does (.windowClose o w
    sizeM1 peer any read write en) s (fun t => t.get F.PLK_WIN_CTRL_EN w = 0 ∧ t.get F.PLK_WIN_CTRL_SESSIONS w = 0 ∧ t.plk.sessions =
    s.plk.sessions.filter (fun x => x.win ≠ (w : Nat)) ∧ t.mem = s.mem ∧ t.drw = s.drw ∧ t.hostOut = s.hostOut)) ∧
  (∀ (s : State) (tag : Fin 4096) (r : RemoteReq), s.plk.reqs.find? (fun q => q.tag = some (tag : Nat) && !q.done) = some r → r.issuedAt
    + s.get F.PLK_CFG_REQ_TIMEOUT * 100000 ≤ s.now → exec (.remoteTimeout tag) s = .next (s.remoteFail r)) ∧
  (∀ (s : State) (tag : Fin 4096) (r : RemoteReq), s.plk.reqs = [r] → r.tag = some (tag : Nat) → r.done = false → r.cmd = none → r.write
    = true → r.origin.kind = .core → r.issuedAt + s.get F.PLK_CFG_REQ_TIMEOUT * 100000 ≤ s.now → (∀ q : Fin 4, (s.pport q).leaving =
    none) → Does (.remoteTimeout tag) s (fun t => t.plk.reqs = [] ∧ t.reads = s.reads ∧ t.mem = s.mem ∧ t.drw = s.drw))

/-- Exports send generations and imports decode, commit and subscribe. (spec/13_plynlink.md) -/
def Obligations.MirrorsFollowTheirGenerations : Prop :=
  (∀ (s : State) (e : Fin 16), s.expEn e = true → (s.exp_ e).gen = none → (s.exp_ e).subs = [] → (s.exp_ e).last < (s.tl (s.expField e
    0x22 2 % 4096)).value → Does (.generationStart e) s (fun t => (t.exp_ e).last = (s.tl (s.expField e 0x22 2 % 4096)).value ∧ (t.exp_
    e).gen = none ∧ (t.exp_ e).subs = [] ∧ t.mem = s.mem ∧ t.drw = s.drw ∧ t.layers = s.layers ∧ t.hostOut = s.hostOut)) ∧
  (∀ (s : State) (e : Fin 16), s.expEn e = true → (s.exp_ e).gen = none → (s.exp_ e).last < (s.tl (s.expField e 0x22 2 % 4096)).value →
    exec (.generationStart e) s = .next (s.genRun e (s.tl (s.expField e 0x22 2 % 4096)).value (fun _ => true))) ∧
  (∀ (s : State) (e : Fin 16), (s.exp_ e).endAt + 20000000 ≤ s.now → exec (.genAckTimeout e) s = .next (s.genCommit e)) ∧
  (∀ (s : State) (e : Fin 16), (s.exp_ e).endAt + 20000000 ≤ s.now → (s.exp_ e).gen.isSome = true → ((s.exp_ e).subs.all (fun b =>
    !b.acked)) = true → Does (.genAckTimeout e) s (fun t => (t.exp_ e).gen = none ∧ (t.exp_ e).subs = (s.exp_ e).subs.map (fun b =>
    { b with inGen := false, acked := false, resync := b.resync || b.inGen }) ∧ t.mem = s.mem ∧ t.drw = s.drw ∧ t.hostOut = s.hostOut)) ∧
  (∀ (s : State) (i : Fin 16) (descs : List (Nat × List Byte)) (v fmt w h : Nat), (s.imp i).ended = some (v, fmt, w, h) → (s.imp
    i).staged = [] → (s.imp i).changed = [] → s.mirrorIn (s.impField i (8 * (1 - s.impFront i)) 8) false = false → s.mirrorIn
    (s.impField i (8 * (1 - s.impFront i)) 8) true = false → Does (.importDecode i descs) s (fun t => (t.imp i).ended = none ∧ t.get
    F.PLK_IMP_STATUS_STATE i = 2 ∧ t.mem = s.mem ∧ t.drw = s.drw ∧ t.hostOut = s.hostOut)) ∧
  (∀ (s : State) (i : Fin 16), exec (.commitInstant i) s = .next (((s.imp i).commits.filter (fun c => c.2 ≤ s.st)).foldl (fun s c =>
    s.impRaise i c.1) (s.modImp i (fun x => { x with commits := x.commits.filter (fun c => s.st < c.2) })))) ∧
  (∀ (s : State) (i : Fin 16) (v at_ : Nat), (s.imp i).commits = [(v, at_)] → at_ ≤ s.st → exec (.commitInstant i) s = .next ((s.modImp
    i (fun x => { x with commits := [] })).impRaise i v)) ∧
  (∀ (s : State) (i : Fin 16), s.impEn i = true → (s.imp i).retry = true → (s.imp i).sentAt + 100000000 ≤ s.now → exec (.subscribeRetry
    i) s = .next (s.subscribe i 1)) ∧
  (∀ (s : State) (i : Fin 16), s.impEn i = true → (s.imp i).retry = true → (s.imp i).sentAt + 100000000 ≤ s.now → Does (.subscribeRetry
    i) s (fun t => (t.imp i).retry = false ∧ (t.imp i).staged = [] ∧ t.get F.PLK_IMP_STATUS_STATE i = 1 ∧ t.mem = s.mem ∧ t.drw = s.drw
    ∧ t.hostOut = s.hostOut))

/-- Refresh, scrub, retraining with its grants and skips, and the refresh rate. (spec/14_dram_controller.md,
spec/10_heads_and_scanout.md) -/
def Obligations.MemoryIsRefreshedScrubbedAndRetrained : Prop :=
  (∀ (s : State) (ch : ChanId), bit (s.get F.DMC_INFO_RETIRED) ch = false → s.pdOnB 9 = true → tget 0 s.dmc.refAt ch + s.refreshNs ≤
    s.now → Does (.refresh ch) s (fun t => tget 0 t.dmc.refPair ch = (tget 0 s.dmc.refPair ch + 1) % 8 ∧ tget 0 t.dmc.refAt ch = s.now ∧
    s.Kept t [.dmc] [])) ∧
  (∀ (s : State) (ch : ChanId), bit (s.get F.DMC_INFO_RETIRED) ch = false → s.pdOnB 9 = true → tget 0 s.dmc.refAt ch + s.refreshNs ≤
    s.now → exec (.refresh ch) s = .next (s.modDmc (fun m =>
    { m with refAt := tset 0 m.refAt ch s.now, refPair := tset 0 m.refPair ch ((tget 0 s.dmc.refPair ch + 1) % 8), openRows := terase (terase m.openRows (ch * 16 + tget 0 s.dmc.refPair ch)) (ch * 16 + tget 0 s.dmc.refPair ch + 8) }))) ∧
  (∀ (s : State) (a : Nat), s.on F.DMC_SCRUB_EN = true → s.dramServes = true → s.dmc.scrubAt + s.get F.DMC_SCRUB_SCRUB_US * 1000 ≤ s.now
    → ((s.dramRegion (a / 64 * 64)).map (fun i => s.on F.DMC_RGN_B_ECC i)) = some true → Does (.scrub [a]) s (fun t => (t.dmc.bad.all
    (fun p => !(p.1 = a / 64 * 64 && p.2 ≠ 0x1FF))) = true ∧ t.dmc.scrubAt = s.now ∧ t.mem = s.mem ∧ t.drw = s.drw ∧ t.layers = s.layers
    ∧ t.hostOut = s.hostOut)) ∧
  (∀ (s : State) (lines : List Nat), s.on F.DMC_SCRUB_EN = true → s.dramServes = true → s.dmc.scrubAt + s.get F.DMC_SCRUB_SCRUB_US *
    1000 ≤ s.now → exec (.scrub lines) s = .next ((s.onePerChan lines).foldl (fun s a => if ((s.dramRegion (a / 64 * 64)).map (fun i =>
    s.on F.DMC_RGN_B_ECC i)).getD false then (s.dramAccess Origin.hw false (a / 64 * 64) 64).modDmc (fun m =>
    { m with bad := m.bad.filter (fun p => !(p.1 = a / 64 * 64 && p.2 ≠ 0x1FF)) }) else s) (s.modDmc (fun m =>
    { m with scrubAt := s.now })))) ∧
  (∀ (s : State) (ch : ChanId), s.on F.DMC_RT_CTRL_EN = true → bit (s.get F.DMC_INFO_RETIRED) ch = false → s.dramServes = true → tget 0
    s.dmc.askedAt ch + s.get F.DMC_RT_CTRL_PERIOD_MS * 1000000 ≤ s.now → exec (.retrainRequest ch) s = .next ((s.modDmc (fun m =>
    { m with askedAt := tset 0 m.askedAt ch s.now })).retrainAsk ch (s.retrainDir ch))) ∧
  (∀ (s : State) (ch : ChanId), s.on F.DMC_RT_CTRL_EN = true → bit (s.get F.DMC_INFO_RETIRED) ch = false → s.dramServes = true → tget 0
    s.dmc.askedAt ch + s.get F.DMC_RT_CTRL_PERIOD_MS * 1000000 ≤ s.now → s.dmc.retrain = none → Does (.retrainRequest ch) s (fun t =>
    t.dmc.retrain = some { ch := ch, dir := s.retrainDir ch, since := s.now } ∧ t.get F.DMC_TRN_CTRL_BUSY = 1 ∧ tget 0 t.dmc.askedAt ch
    = s.now ∧ s.Kept t [.dmc] [F.DMC_TRN_CTRL_BUSY])) ∧
  (∀ (s : State) (ch : ChanId) (r : Retrain), s.on F.DMC_RT_CTRL_EN = true → bit (s.get F.DMC_INFO_RETIRED) ch = false → s.dramServes =
    true → tget 0 s.dmc.askedAt ch + s.get F.DMC_RT_CTRL_PERIOD_MS * 1000000 ≤ s.now → s.dmc.retrain = some r → Does (.retrainRequest
    ch) s (fun t => t.dmc.retrain = some r ∧ t.dmc.waiting = s.dmc.waiting ++ [((ch : Nat), s.retrainDir ch)] ∧ s.Kept t [.dmc] [])) ∧
  (∀ (s : State) (o : Origin), s.Reaches o 0x19 → s.dramServes = true → s.dmc.retrain.isSome = true → s.dmc.waiting = [] → Does
    (.retrainNow o) s (fun t => t.dmc.waiting = s.activeChans.map (fun c => (c, s.retrainDir c)) ∧ t.dmc.retrain = s.dmc.retrain ∧
    s.Kept t [.adl, .dmc] auditFields)) ∧
  (∀ (s : State) (r : Retrain) (leads : List (HeadId × Nat)), s.dmc.retrain = some r → r.granted = false → (leads.all (fun p => s.get
    F.HDn_STATUS_STATE p.1 ≠ 2 || decide (22000 ≤ p.2))) = true → Does (.pauseGrant leads) s (fun t => t.dmc.retrain = some
    { r with granted := true } ∧ t.get F.CMP_FETCH_STATUS_PAUSES = satInc (s.get F.CMP_FETCH_STATUS_PAUSES) 16 ∧ s.Kept t [.dmc]
    [F.CMP_FETCH_STATUS_PAUSES, F.CMP_FETCH_STATUS_PAUSE_WAIT_US])) ∧
  (∀ (s : State) (r : Retrain) (leads : List (HeadId × Nat)), s.dmc.retrain = some r → r.granted = false → (leads.any (fun p => s.get
    F.HDn_STATUS_STATE p.1 = 2 && decide (p.2 < 22000))) = true → exec (.pauseGrant leads) s = .next (s)) ∧
  (∀ (s : State) (r : Retrain), s.dmc.retrain = some r → r.paused = false → r.granted = true ∨ s.anyHeadRuns = false → s.plkGrant (fun p
    => (s.pport p).heldCredit) = true → Does (.retrainPause) s (fun t => t.dmc.retrain = some { r with paused := true } ∧ t.get
    F.DMC_RT_STATUS_ACTIVE = 1 ∧ t.get F.DMC_RT_STATUS_PAUSES = satInc (s.get F.DMC_RT_STATUS_PAUSES) 16 ∧ s.Kept t [.dmc]
    [F.DMC_RT_STATUS_ACTIVE, F.DMC_RT_STATUS_LAST_CH, F.DMC_RT_STATUS_PAUSES])) ∧
  (∀ (s : State) (lengthNs : Nat) (r : Retrain), s.dmc.retrain = some r → r.paused = true → s.dmc.waiting = [] → s.stalled = [] → Does
    (.retrainPauseEnd [] lengthNs) s (fun t => t.dmc.retrain = none ∧ tget 0 t.dmc.nextDir r.ch = 1 - r.dir ∧ t.dmc.fifo = 0 ∧ t.get
    F.DMC_RT_STATUS_ACTIVE = 0 ∧ t.get F.DMC_TRN_CTRL_BUSY = 0 ∧ s.PartsKept t [.dmc, .cores])) ∧
  (∀ (s : State) (eyes : List Eye) (lengthNs : Nat) (r : Retrain), s.dmc.retrain = some r → r.paused = true → Does (.retrainPauseEnd
    eyes lengthNs) s (fun t => t.stalled = [] ∧ t.dmc.retrain = none ∨ t.dmc.retrain ≠ some r ∧ t.get F.DMC_RT_STATUS_ACTIVE = 0)) ∧
  (∀ (s : State) (r : Retrain), s.dmc.retrain = some r → r.paused = false → r.since + 50000000 ≤ s.now → tget 0 s.dmc.skips r.ch < 3 →
    exec (.retrainSkip) s = .next (((s.incSat F.DMC_RT_STATUS_SKIPS).modDmc (fun m =>
    { m with skips := tset 0 m.skips r.ch (tget 0 s.dmc.skips r.ch + 1) })).retrainNext)) ∧
  (∀ (s : State) (r : Retrain), s.dmc.retrain = some r → r.paused = false → r.since + 50000000 ≤ s.now → 3 ≤ tget 0 s.dmc.skips r.ch →
    exec (.retrainSkip) s = .next ((((s.incSat F.DMC_RT_STATUS_SKIPS).modDmc (fun m =>
    { m with skips := tset 0 m.skips r.ch 0 })).recordError { domain := 0x19, code := 0x32, source := r.ch }).retrainNext)) ∧
  (∀ (s : State) (r : Retrain), s.dmc.retrain = some r → r.paused = false → r.since + 50000000 ≤ s.now → s.dmc.waiting = [] → tget 0
    s.dmc.skips r.ch < 3 → Does (.retrainSkip) s (fun t => t.dmc.retrain = none ∧ tget 0 t.dmc.skips r.ch = tget 0 s.dmc.skips r.ch + 1
    ∧ t.get F.DMC_RT_STATUS_SKIPS = satInc (s.get F.DMC_RT_STATUS_SKIPS) 16 ∧ s.Kept t [.dmc] [F.DMC_RT_STATUS_SKIPS,
    F.DMC_TRN_CTRL_BUSY])) ∧
  (∀ (s : State) (rate : Fin 3) (ch : ChanId), s.pdOnB 9 = true → s.dmc.pollAt + 16000000 ≤ s.now → (rate : Nat) ≠ 2 → s.get
    F.DMC_REF_RATE = rate → Does (.refreshRatePoll rate ch) s (fun t => t.get F.DMC_REF_RATE = rate ∧ t.get F.DMC_REF_HOT_CH = ch ∧
    t.dmc.pollAt = s.now ∧ s.Kept t [.dmc] [F.DMC_REF_RATE, F.DMC_REF_HOT_CH])) ∧
  (∀ (s : State) (rate : Fin 3) (ch : ChanId), s.pdOnB 9 = true → s.dmc.pollAt + 16000000 ≤ s.now → (rate : Nat) ≠ 2 → s.get
    F.DMC_REF_RATE ≠ rate → exec (.refreshRatePoll rate ch) s = .next (((((s.modDmc (fun m => { m with pollAt := s.now })).put
    F.DMC_REF_RATE 0 rate).put F.DMC_REF_HOT_CH 0 ch).retrainAll.hutchRaise 11))) ∧
  (∀ (s : State) (rate : Fin 3) (ch : ChanId), s.pdOnB 9 = true → s.dmc.pollAt + 16000000 ≤ s.now → (rate : Nat) = 2 → Does
    (.refreshRatePoll rate ch) s (fun t => t.get F.DMC_REF_HOT = 1 ∨ t.phase ≠ s.phase ∧ t.dmc.pollAt = s.now))

/-- Training operations start one at a time and show their counts when they end. (spec/14_dram_controller.md) -/
def Obligations.TrainingOperationsRun : Prop :=
  (∀ (s : State) (o : Origin) (c : TrnCfg), s.Reaches o 0x19 → s.trnAllowed o = true → c.pattern < 5 → s.on F.DMC_TRN_CTRL_BUSY = false
    → s.dramServes = true → exec (.writePat o c) s = .next (s.trnGo 1 c)) ∧
  (∀ (s : State) (o : Origin) (c : TrnCfg), s.Reaches o 0x19 → s.trnAllowed o = true → c.pattern < 5 → s.on F.DMC_TRN_CTRL_BUSY = false
    → s.dramServes = true → exec (.readCmp o c) s = .next (s.trnGo 2 c)) ∧
  (∀ (s : State) (o : Origin) (c : TrnCfg), s.Reaches o 0x19 → s.trnAllowed o = true → c.pattern < 5 → s.on F.DMC_TRN_CTRL_BUSY = false
    → s.dramServes = true → exec (.loop o c) s = .next (s.trnGo 3 c)) ∧
  (∀ (s : State) (o : Origin) (c : TrnCfg), s.Reaches o 0x19 → s.trnAllowed o = true → c.pattern < 5 → s.on F.DMC_TRN_CTRL_BUSY = false
    → s.dramServes = true → s.anyHeadRuns = false → exec (.centre o c) s = .next (s.trnGo 4 c)) ∧
  (∀ (s : State) (o : Origin) (c : TrnCfg), s.Reaches o 0x19 → s.trnAllowed o = true → c.pattern < 5 → s.on F.DMC_TRN_CTRL_BUSY = false
    → s.dramServes = true → Does (.writePat o c) s (fun t => t.dmc.op = some (1, c) ∧ t.get F.DMC_TRN_CTRL_BUSY = 1 ∧ t.get
    F.DMC_TRN_CTRL_OP = 1 ∧ t.get F.DMC_TRN_ERR_COUNT 17 = 0 ∧ s.PartsKept t [.dmc])) ∧
  (∀ (s : State) (o : Origin) (c : TrnCfg), s.Reaches o 0x19 → s.trnAllowed o = true → c.pattern < 5 → s.on F.DMC_TRN_CTRL_BUSY = false
    → s.dramServes = true → Does (.readCmp o c) s (fun t => t.dmc.op = some (2, c) ∧ t.get F.DMC_TRN_CTRL_BUSY = 1 ∧ t.get
    F.DMC_TRN_CTRL_OP = 2 ∧ t.get F.DMC_TRN_ERR_COUNT 17 = 0 ∧ s.PartsKept t [.dmc])) ∧
  (∀ (s : State) (o : Origin) (c : TrnCfg), s.Reaches o 0x19 → s.trnAllowed o = true → c.pattern < 5 → s.on F.DMC_TRN_CTRL_BUSY = false
    → s.dramServes = true → Does (.loop o c) s (fun t => t.dmc.op = some (3, c) ∧ t.get F.DMC_TRN_CTRL_BUSY = 1 ∧ t.get
    F.DMC_TRN_CTRL_OP = 3 ∧ t.get F.DMC_TRN_ERR_COUNT 17 = 0 ∧ s.PartsKept t [.dmc])) ∧
  (∀ (s : State) (o : Origin) (c : TrnCfg), s.Reaches o 0x19 → s.trnAllowed o = true → c.pattern < 5 → s.on F.DMC_TRN_CTRL_BUSY = false
    → s.dramServes = true → s.anyHeadRuns = false → Does (.centre o c) s (fun t => t.dmc.op = some (4, c) ∧ t.get F.DMC_TRN_CTRL_BUSY =
    1 ∧ t.get F.DMC_TRN_CTRL_OP = 4 ∧ t.get F.DMC_TRN_ERR_COUNT 17 = 0 ∧ s.PartsKept t [.dmc])) ∧
  (∀ (s : State) (op : Nat) (c : TrnCfg), s.dmc.op = some (op, c) → op ≠ 4 → Does (.trainingOpDone [5, 0] []) s (fun t => t.dmc.op =
    none ∧ t.get F.DMC_TRN_CTRL_BUSY = 0 ∧ t.get F.DMC_TRN_ERR_COUNT = 5 ∧ t.get F.DMC_TRN_ERR_COUNT 1 = 0 ∧ s.PartsKept t [.dmc])) ∧
  (∀ (s : State) (errs : List Nat) (eyes : List (ChanId × List Eye)) (op : Nat) (c : TrnCfg), s.dmc.op = some (op, c) → exec
    (.trainingOpDone errs eyes) s = .next (((((if op = 4 then eyes.foldl (fun s p => s.centreDelays p.1 c.dir p.2) ((errs.take
    18).zipIdx.foldl (fun s p => s.put F.DMC_TRN_ERR_COUNT p.2 (min p.1 (2 ^ 32 - 1))) s) else (errs.take 18).zipIdx.foldl (fun s p =>
    s.put F.DMC_TRN_ERR_COUNT p.2 (min p.1 (2 ^ 32 - 1))) s)).modDmc (fun m => { m with op := none })).put F.DMC_TRN_CTRL_BUSY 0
    0).hutchRaise 11)) ∧
  (∀ (s : State) (o : Origin) (ch : ChanId) (code : Fin 128), s.Reaches o 0x19 → s.trnAllowed o = true → Does (.vrefWrite o ch code) s
    (fun t => t.get F.DMC_VREF_DRAM ch = code ∧ tget 0x40 t.dmc.vrefDev ch = (code : Nat) ∧ s.Kept t [.dmc] [F.DMC_VREF_DRAM]))

/-- Panels start, scan, settle and vanish, keep baselines, wake, and feed rings and queue. (spec/15_touch_sensing.md) -/
def Obligations.TouchPanelsScan : Prop :=
  (∀ (s : State) (p : PanelId), s.get F.TCH_PNL_CFG_MODE p ≠ 0 → s.pdOnB 14 = true → s.get F.PWR_STATUS_STATE < 2 → 2 ≤ s.panelState p →
    (s.panel p).scanAt + s.scanNs p ≤ s.now → exec (.scanStart p) s = .next ((s.pmuEvent 0x1D 1 p 1 none true).modPanel p (fun q =>
    { q with scanning := true, raw := [], selfS := [], selfD := [], fired := [], gates := 0, scanAt := s.now }))) ∧
  (∀ (s : State) (p : PanelId), s.get F.TCH_PNL_CFG_MODE p ≠ 0 → s.pdOnB 14 = true → s.get F.PWR_STATUS_STATE < 2 → 2 ≤ s.panelState p →
    (s.panel p).scanAt + s.scanNs p ≤ s.now → Does (.scanStart p) s (fun t => (t.panel p).scanning = true ∧ (t.panel p).raw = [] ∧
    (t.panel p).gates = 0 ∧ t.panelState p = s.panelState p ∧ t.mem = s.mem ∧ t.drw = s.drw ∧ t.hostOut = s.hostOut)) ∧
  (∀ (s : State) (p : PanelId), s.get F.TCH_PNL_CFG_MODE p ≠ 0 → s.pdOnB 14 = true → s.get F.PWR_STATUS_STATE < 2 → s.panelState p = 0 →
    s.boot.recovery = false → (s.panel p).scanAt + s.scanNs p ≤ s.now → Does (.scanStart p) s (fun t => t.panelState p = 2 ∧ (t.panel
    p).scanning = true ∧ t.mem = s.mem ∧ t.hostOut = s.hostOut)) ∧
  (∀ (s : State) (p : PanelId) (counts : List Gate) (d : Fin 40), (s.panel p).scanning = true → (d : Nat) = (s.panel p).gates → (d :
    Nat) < s.drives p → s.panelState p ≠ 3 → Does (.gateWindowEnd p (.mutualSense d) counts) s (fun t => (t.panel p).raw = (s.panel
    p).raw ++ gateVals (nodeNum d) (counts.take (s.senses p)) ∧ (t.panel p).gates = (s.panel p).gates + 1 ∧ s.Kept t [.tch] [])) ∧
  (∀ (s : State) (p : PanelId) (counts : List Gate), (s.panel p).scanning = true → s.stepNow p .selfSense = true → Does (.gateWindowEnd
    p .selfSense counts) s (fun t => (t.panel p).selfS = gateVals id counts ∧ (t.panel p).gates = (s.panel p).gates + 1 ∧ s.Kept t
    [.tch] [])) ∧
  (∀ (s : State) (p : PanelId) (counts : List Gate), (s.panel p).scanning = true → s.stepNow p .selfDrive = true → Does (.gateWindowEnd
    p .selfDrive counts) s (fun t => (t.panel p).selfD = gateVals id counts ∧ (t.panel p).gates = (s.panel p).gates + 1 ∧ s.Kept t
    [.tch] [])) ∧
  (∀ (s : State) (p : PanelId), (s.panel p).scanning = true → (s.panel p).gates = s.gatesOf p → (s.panel p).rebase = false → (s.panel
    p).fresh < 3 → (s.nodes p).length ≤ ((s.nodes p).filter (fun n => ((s.panel p).rawOf n).isSome)).length * 10 → s.tch.resync = [] →
    Does (.scanProcess p) s (fun t => t.get F.TCH_PNL_STATUS_SCAN_SEQ p = (s.get F.TCH_PNL_STATUS_SCAN_SEQ p + 1) % 2 ^ 32 ∧ (t.panel
    p).fresh = (s.panel p).fresh + 1 ∧ (t.panel p).scanning = false ∧ t.panelState p = s.panelState p ∧ s.PartsKept t [.tch, .cores])) ∧
  (∀ (s : State) (p : PanelId), (s.panel p).scanning = true → (s.panel p).gates = s.gatesOf p → (s.panel p).absent = 2 → ((s.nodes
    p).filter (fun n => ((s.panel p).rawOf n).isSome)).length * 10 < (s.nodes p).length → (s.panel p).touches = [] → s.tch.resync = [] →
    Does (.scanProcess p) s (fun t => t.panelState p = 1 ∧ t.get F.TCH_PNL_STATUS_ABSENT_EVT p = 1 ∧ (t.panel p).scanning = false)) ∧
  (∀ (s : State) (p : PanelId), (s.panel p).scanning = true → (s.panel p).gates = s.gatesOf p → Does (.scanProcess p) s (fun t =>
    (t.panel p).scanning = false ∧ t.get F.TCH_PNL_STATUS_SCAN_SEQ p = (s.get F.TCH_PNL_STATUS_SCAN_SEQ p + 1) % 2 ^ 32)) ∧
  (∀ (s : State) (p : PanelId), s.panelState p = 4 → (s.panel p).cands.isEmpty = true → (s.panel p).candAt + 500000000 ≤ s.now → exec
    (.suspectClear p) s = .next ((s.rebaseNow p).put F.TCH_PNL_STATUS_STATE p 3)) ∧
  (∀ (s : State) (p : PanelId), s.panelState p = 4 → (s.panel p).cands = [] → (s.panel p).candAt + 500000000 ≤ s.now → Does
    (.suspectClear p) s (fun t => t.panelState p = 3 ∧ (t.panel p).neg = [] ∧ s.PartsKept t [.tch])) ∧
  (∀ (s : State) (o : Origin) (p : PanelId), s.Reaches o 0x1D → (s.panel p).touches = [] → Does (.rebase o p) s (fun t => (t.panel
    p).rebase = true ∧ t.mem = s.mem ∧ t.drw = s.drw ∧ t.hostOut = s.hostOut)) ∧
  (∀ (s : State) (p : PanelId) (valid : Nat), s.panelState p = 1 → (s.panel p).probeAt + 100000000 ≤ s.now → 9 * (s.drives p * s.senses
    p) ≤ 10 * valid → (s.panel p).probes < 2 → exec (.panelProbe p valid) s = .next (s.modPanel p (fun q =>
    { q with probeAt := s.now, probes := q.probes + 1 }))) ∧
  (∀ (s : State) (p : PanelId) (valid : Nat), s.panelState p = 1 → (s.panel p).probeAt + 100000000 ≤ s.now → 10 * valid < 9 * (s.drives
    p * s.senses p) → exec (.panelProbe p valid) s = .next (s.modPanel p (fun q => { q with probeAt := s.now, probes := 0 }))) ∧
  (∀ (s : State) (p : PanelId) (valid : Nat), s.panelState p = 1 → s.boot.recovery = false → (s.panel p).probeAt + 100000000 ≤ s.now → 9
    * (s.drives p * s.senses p) ≤ 10 * valid → 2 ≤ (s.panel p).probes → Does (.panelProbe p valid) s (fun t => t.panelState p = 2 ∧
    t.get F.TCH_PNL_STATUS_SCAN_SEQ p = 0 ∧ s.PartsKept t [.tch])) ∧
  (∀ (s : State) (p : PanelId), (s.panel p).touches.isEmpty = true → (s.panel p).savedAt + 600000000000 ≤ s.now → exec (.baselineSave p)
    s = .next (s.baselineWrite p)) ∧
  (∀ (s : State) (p : PanelId), (s.panel p).touches = [] → (s.panel p).savedAt + 600000000000 ≤ s.now → s.panelState p = 3 → Does
    (.baselineSave p) s (fun t => (tget {} t.nv.baselines p).temp = s.plateT ∧ (tget {} t.nv.baselines p).base = ((s.nodes p).map (fun n
    => (n, s.baseOf p n))).filter (fun x => x.2 ≠ 0) ∧ (t.panel p).savedAt = s.now ∧ s.Kept t [.nv, .tch] [])) ∧
  (∀ (s : State) (p : PanelId) (sense drive : List Gate), s.get F.PWR_STATUS_STATE = 2 → s.on F.TCH_PNL_CFG_WAKE_EN p = true → s.get
    F.TCH_PNL_CFG_MODE p ≠ 0 → (s.panel p).probeAt + 50000000 ≤ s.now → Does (.wakeScan p sense drive) s (fun t => (t.panel p).probeAt =
    s.now ∧ t.mem = s.mem ∧ t.layers = s.layers)) ∧
  (∀ (s : State) (p : PanelId), s.get F.PWR_STATUS_STATE = 2 → s.on F.TCH_PNL_CFG_WAKE_EN p = true → s.get F.TCH_PNL_CFG_MODE p ≠ 0 →
    (s.panel p).probeAt + 50000000 ≤ s.now → exec (.wakeScan p [] []) s = .next (s.modPanel p (fun q =>
    { q with probeAt := s.now, wakeHits := [] }))) ∧
  (∀ (s : State) (d : DrawerId) (v : Fin 4294967296), s.drwState d = 1 → s.on F.DRW_TCH_CTRL_EN d = true → ((v : Nat) + 2 ^ 32 - s.get
    F.DRW_TCH_POS_CONSUMED d) % 2 ^ 32 ≤ 2 ^ s.get F.DRW_TCH_RING_SIZE_LOG2 d → (s.get F.DRW_TCH_POS_WRITTEN d + 2 ^ 32 - v) % 2 ^ 32 ≤
    2 ^ s.get F.DRW_TCH_RING_SIZE_LOG2 d → Does (.touchConsume d v) s (fun t => t.get F.DRW_TCH_POS_CONSUMED d = v ∧ s.Kept t []
    [F.DRW_TCH_POS_CONSUMED])) ∧
  (∀ (s : State) (d : DrawerId) (v : Fin 4294967296), exec (.touchConsume d v) s = .next (s.tchConsume d v)) ∧
  (∀ (s : State) (d : DrawerId), s.drwState d = 1 → s.get F.DRW_TCH_CTRL_EN d = 0 → 4 ≤ s.get F.DRW_TCH_RING_SIZE_LOG2 d → s.get
    F.DRW_TCH_RING_SIZE_LOG2 d ≤ 12 → s.tch.panels = [] → Does (.touchRingEnable d) s (fun t => t.get F.DRW_TCH_CTRL_EN d = 1 ∧ t.get
    F.DRW_TCH_POS_WRITTEN d = 0 ∧ t.get F.DRW_TCH_POS_CONSUMED d = 0 ∧ s.Kept t [] [F.DRW_TCH_CTRL_EN, F.DRW_TCH_POS_WRITTEN,
    F.DRW_TCH_POS_CONSUMED])) ∧
  (∀ (s : State) (d : DrawerId), s.drwState d ≠ 0 → exec (.touchRingEnable d) s = .next (s.tchEnable d)) ∧
  (∀ (s : State) (o : Origin), s.Reaches o 0x1D → Does (.touchFwqPop o) s (fun t => t.tch.fwq = s.tch.fwq.drop 1 ∧ s.PartsKept t [.tch,
    .cores]))

/-- Haptic effects start, change phase, follow their frequency, brake, wait and stop on faults. (spec/16_haptic_drive.md) -/
def Obligations.HapticEffectsRun : Prop :=
  (∀ (s : State) (o : Origin) (c : HapId) (i : Fin 64) (e : Effect), s.Reaches o 0x1E → s.hapRefuse c i = false → s.hapPhase c = 0 →
    s.hap.effects[(i : Nat)]? = some e → Does (.hapticTrigger o c i) s (fun t => t.hapPhase c = e.firstPhase ∧ t.get
    F.HAP_CH_STATUS_EFFECT c = i ∧ (t.hapCh c).freq4 = 4 * ((if e.track then s.get F.HAP_CH_CFG_F0_HZ c else e.freqHz : Nat) : Int) ∧
    (t.hapCh c).hiZ = false ∧ s.Kept t [.hap] [F.HAP_CH_STATUS_EFFECT, F.HAP_CH_STATUS_PHASE, F.HAP_CH_STATUS_FREQ])) ∧
  (∀ (s : State) (o : Origin) (c : HapId) (i : Fin 64), s.Reaches o 0x1E → s.hapRefuse c i = true → Does (.hapticTrigger o c i) s (fun t
    => t.get F.HAP_CH_CNT_REFUSED c = satInc (s.get F.HAP_CH_CNT_REFUSED c) 16 ∧ s.Kept t [] [F.HAP_CH_CNT_REFUSED])) ∧
  (∀ (s : State) (o : Origin) (c : HapId) (i : Fin 64) (e : Effect), s.Reaches o 0x1E → s.hapRefuse c i = false → s.hapPhase c = 3 →
    s.hap.effects[(i : Nat)]? = some e → e.urgent = false → (s.hapCh c).waiting = none → Does (.hapticTrigger o c i) s (fun t =>
    (t.hapCh c).waiting = some (i : Nat) ∧ t.get F.HAP_CH_STATUS_WAITING c = 1 ∧ t.hapPhase c = 3 ∧ s.Kept t [.hap]
    [F.HAP_CH_STATUS_WAITING])) ∧
  (∀ (s : State) (o : Origin) (c : HapId) (i : Fin 64), s.Reaches o 0x1E → exec (.hapticTrigger o c i) s = .next (s.hapTrigger c i)) ∧
  (∀ (s : State) (o : Origin) (c : HapId) (i : Fin 64) (e : Effect), s.Reaches o 0x1E → s.hapRefuse c i = false → s.hapPhase c = 1 ∨
    s.hapPhase c = 2 → s.hap.effects[(i : Nat)]? = some e → Does (.hapticTrigger o c i) s (fun t => t.hapPhase c = e.firstPhase ∧ t.get
    F.HAP_CH_STATUS_EFFECT c = i ∧ (t.hapCh c).freq4 = (s.hapCh c).freq4 ∧ s.Kept t [.hap] [F.HAP_CH_STATUS_EFFECT,
    F.HAP_CH_STATUS_PHASE])) ∧
  (∀ (s : State) (c : HapId), s.hapPhase c = 1 → s.hapLasted c (s.hapEffect c).attackMs = true → (s.hapEffect c).sustainMs ≠ 0 → Does
    (.effectPhaseEnd c) s (fun t => t.hapPhase c = 2 ∧ s.Kept t [.hap] [F.HAP_CH_STATUS_PHASE])) ∧
  (∀ (s : State) (c : HapId), s.hapPhase c = 1 → s.hapLasted c (s.hapEffect c).attackMs = true → (s.hapEffect c).sustainMs = 0 → Does
    (.effectPhaseEnd c) s (fun t => t.hapPhase c = 3 ∧ s.Kept t [.hap] [F.HAP_CH_STATUS_PHASE])) ∧
  (∀ (s : State) (c : HapId), s.hapPhase c = 2 → s.hapLasted c (s.hapEffect c).sustainMs = true → Does (.effectPhaseEnd c) s (fun t =>
    t.hapPhase c = 3 ∧ s.Kept t [.hap] [F.HAP_CH_STATUS_PHASE])) ∧
  (∀ (s : State) (c : HapId) (errHz : Int) (emfMv : Nat) (e : Effect), s.hapPhase c = 1 ∨ s.hapPhase c = 2 → s.hap.effects[s.get
    F.HAP_CH_STATUS_EFFECT c]? = some e → e.track = true → Does (.driveOffGap c errHz emfMv) s (fun t => (t.hapCh c).freq4 = clampI
    ((s.hapCh c).freq4 + errHz) (4 * (s.get F.HAP_CH_CFG_F_MIN_HZ c : Int)) (4 * (s.get F.HAP_CH_CFG_F_MAX_HZ c : Int)) ∧ s.Kept t
    [.hap] [F.HAP_CH_STATUS_FREQ])) ∧
  (∀ (s : State) (c : HapId) (errHz : Int) (emfMv : Nat), s.hapPhase c = 3 → emfMv < s.get F.HAP_CH_CFG_STOP_MV c → (s.hapCh c).waiting
    = none → Does (.driveOffGap c errHz emfMv) s (fun t => t.hapPhase c = 0 ∧ (t.hapCh c).hiZ = true ∧ s.Kept t [.hap]
    [F.HAP_CH_STATUS_PHASE])) ∧
  (∀ (s : State) (c : HapId) (errHz : Int) (emfMv : Nat), s.hapPhase c = 3 → emfMv < s.get F.HAP_CH_CFG_STOP_MV c → exec (.driveOffGap c
    errHz emfMv) s = .next (s.hapBrakeEnd c)) ∧
  (∀ (s : State) (c : HapId), s.hapPhase c = 3 → s.hapLasted c (s.hapEffect c).brakeMs = true → (s.hapCh c).waiting = none → Does
    (.brakeEnd c false) s (fun t => t.hapPhase c = 0 ∧ (t.hapCh c).hiZ = true ∧ t.get F.HAP_CH_CNT_BRAKE_TIMEOUT c = satInc (s.get
    F.HAP_CH_CNT_BRAKE_TIMEOUT c) 16 ∧ s.Kept t [.hap] [F.HAP_CH_STATUS_PHASE, F.HAP_CH_CNT_BRAKE_TIMEOUT])) ∧
  (∀ (s : State) (c : HapId), s.hapPhase c = 3 → s.hapLasted c (s.hapEffect c).brakeMs = true → exec (.brakeEnd c false) s = .next
    ((s.incSat F.HAP_CH_CNT_BRAKE_TIMEOUT c).hapBrakeEnd c)) ∧
  (∀ (s : State) (c : HapId), s.hapPhase c = 3 → exec (.brakeEnd c true) s = .next (s.hapBrakeEnd c)) ∧
  (∀ (s : State) (c : HapId) (i : Nat) (e : Effect), s.hapPhase c = 3 → (s.hapCh c).waitAt + 2000000 ≤ s.now → (s.hapCh c).waiting =
    some i → i < 64 → s.hap.effects[i]? = some e → Does (.waitTimeout c) s (fun t => t.hapPhase c = e.firstPhase ∧ t.get
    F.HAP_CH_STATUS_EFFECT c = i ∧ (t.hapCh c).waiting = none ∧ s.Kept t [.hap] [F.HAP_CH_STATUS_PHASE, F.HAP_CH_STATUS_EFFECT,
    F.HAP_CH_STATUS_WAITING, F.HAP_CH_STATUS_FREQ])) ∧
  (∀ (s : State) (c : HapId) (i : Nat), s.hapPhase c = 3 → (s.hapCh c).waitAt + 2000000 ≤ s.now → (s.hapCh c).waiting = some i → exec
    (.waitTimeout c) s = .next ((s.hapWait c none).hapStart c i false)) ∧
  (∀ (s : State), s.hap.tickAt + 100000 ≤ s.now → s.hapDriving = [] → Does (.hapticTick) s (fun t => ((List.range 8).all (fun c => s.get
    F.HAP_CH_CFG_R_COIL c = 0 || decide ((t.hapCh c).e = (((s.hapCh c).e : Int) - roundOpen (s.hapCh c).e (1000 * s.get
    F.HAP_CH_THERM_TAU_DS c)).toNat))) = true ∧ s.Kept t [.hap] [F.HAP_CH_STATUS_E, F.HAP_CH_STATUS_THERM_LOCK])) ∧
  (∀ (s : State), s.hap.tickAt + 100000 ≤ s.now → Does (.hapticTick) s (fun t => t.hap.tickAt = s.now ∧ s.Kept t [.hap]
    [F.HAP_CH_STATUS_E, F.HAP_CH_STATUS_THERM_LOCK, F.HAP_CH_STATUS_PHASE, F.HAP_CH_CNT_BUDGET_LIM])) ∧
  (∀ (s : State) (c : HapId), 1 ≤ s.hapPhase c → s.hapPhase c ≤ 3 → (s.hapCh c).driveAt + 2000000 ≤ s.now → Does (.openDetect c) s (fun
    t => t.get F.HAP_CH_STATUS_OPEN c = 1 ∧ (t.hapCh c).hiZ = true ∧ s.PartsKept t [.hap])) ∧
  (∀ (s : State) (c : HapId), Does (.hapticShort c) s (fun t => t.get F.HAP_CH_STATUS_SHORT c = 1 ∧ (t.hapCh c).hiZ = true ∧ s.PartsKept
    t [.hap])) ∧
  (∀ (s : State) (o : Origin) (c : HapId), s.Reaches o 0x1E → s.adl.buf.length ≤ 60 → Does (.clr o c) s (fun t => t.get
    F.HAP_CH_STATUS_OPEN c = 0 ∧ t.get F.HAP_CH_STATUS_SHORT c = 0 ∧ s.Kept t [.adl] (auditFields ++ [F.HAP_CH_STATUS_OPEN,
    F.HAP_CH_STATUS_SHORT])))

/-- Streams and audio commands start, voices play and stop, filter banks swap, and each frame is mixed. (spec/17_audio_graph.md) -/
def Obligations.AudioRunsFrameByFrame : Prop :=
  (∀ (s : State) (d : DrawerId) (j : Fin 32), s.on F.DRW_AUD_CFG_EN ((d : Nat) * 32 + j) = false → s.on F.DRW_Q_CTRL_ENABLE (qIx d
    (s.get F.DRW_AUD_CFG_QUEUE ((d : Nat) * 32 + j))) = true → s.get F.DRW_Q_CTRL_ENGINE (qIx d (s.get F.DRW_AUD_CFG_QUEUE ((d : Nat) *
    32 + j))) = 3 → (j : Nat) ∈ (s.drwOf d).streams → Does (.streamEnable d j) s (fun t => t.get F.DRW_AUD_CFG_EN ((d : Nat) * 32 + j) =
    1 ∧ t.stream ((d : Nat) * 32 + j) = {} ∧ s.Kept t [.aud] [F.DRW_AUD_CFG_EN])) ∧
  (∀ (s : State) (d : DrawerId) (j : Fin 32), exec (.streamEnable d j) s = .next (s.streamEnable d j)) ∧
  (∀ (s : State) (d : DrawerId) (q : QueueId) (seq : Nat) (c : Cmd), s.cmds d = [c] → c.queue = q → c.seq = seq → c.opcode = 0x30 →
    c.signal = false → c.statusAddr = 0 → s.dispatchable d c = true → 1 ≤ s.jnlFree d → s.audioCheck d c = 0 → (s.stream ((d : Nat) * 32
    + c.body 0x0E 1)).cmd = none → Does (.audio d q seq) s (fun t => (t.cmds d).map (fun x => (x.stage, x.state, x.total)) = [(.running,
    1, (c.body 0x0C 2))] ∧ (t.stream ((d : Nat) * 32 + c.body 0x0E 1)).cmd = some ((q : Nat), seq) ∧ (t.stream ((d : Nat) * 32 + c.body
    0x0E 1)).period = c.body 8 4 ∧ t.mem = s.mem ∧ t.tls = s.tls ∧ t.hostOut = s.hostOut)) ∧
  (∀ (s : State) (d : DrawerId) (q : QueueId) (seq : Nat) (c : Cmd), s.cmd? d q seq = some c → c.opcode = 0x30 → s.dispatchable d c =
    true → 1 + b2n c.signal ≤ s.jnlFree d → s.audioCheck d c = 0 → exec (.audio d q seq) s = .next (((((s.streamSettle ((d : Nat) * 32 +
    c.body 0x0E 1)).startCmd d c (c.body 0x0C 2) 1 16).modCmd d q seq (fun x => { x with replayable := false })).modStream ((d : Nat) *
    32 + c.body 0x0E 1) (fun r =>
    { r with cmd := some ((q : Nat), seq), period := c.body 8 4, addr := c.body 0 8, frames := 0, buf := if bit (c.body 0x0F 1) 0 then r.buf.filter (fun p => c.body 0x10 8 ≤ p.1) else r.buf })))) ∧
  (∀ (s : State) (d : DrawerId) (q : QueueId) (seq : Nat) (c : Cmd), s.cmd? d q seq = some c → c.opcode = 0x30 → s.dispatchable d c =
    true → 1 + b2n c.signal ≤ s.jnlFree d → s.audioCheck d c = 1 → exec (.audio d q seq) s = .next (s.endCmd d q seq 4 1)) ∧
  (∀ (s : State) (d : DrawerId) (q : QueueId) (seq : Nat) (c : Cmd), s.cmd? d q seq = some c → c.opcode = 0x30 → s.dispatchable d c =
    true → 1 + b2n c.signal ≤ s.jnlFree d → s.audioCheck d c = 2 → exec (.audio d q seq) s = .next ((s.guestError d 4 q).endCmd d q seq
    4 2)) ∧
  (∀ (s : State) (o : Origin) (v : Fin 8), s.Reaches o 0x1F → o.cab = true → s.boot.recovery = false → s.adl.buf.length ≤ 60 → Does
    (.play o v) s (fun t => t.get F.AUD_VOICE_PLAYING v = 1 ∧ (t.voice v).pos = 0 ∧ s.Kept t [.adl, .aud] (auditFields ++
    [F.AUD_VOICE_PLAYING]))) ∧
  (∀ (s : State) (o : Origin) (v : Fin 8), s.Reaches o 0x1F → o.cab = true → s.on F.AUD_VOICE_PLAYING v = true → (s.voice v).stopLeft =
    none → Does (.stop o v) s (fun t => (t.voice v).stopLeft = some (5 * s.audKhz) ∧ t.get F.AUD_VOICE_PLAYING v = s.get
    F.AUD_VOICE_PLAYING v ∧ s.Kept t [.adl, .aud] auditFields)) ∧
  (∀ (s : State) (o : Origin) (mask : Fin 4294967296), s.Reaches o 0x1F → o.cab = true → s.get F.AUD_BQ_SWAP_MASK < 2 ^ 32 → Does
    (.bankSwap o mask) s (fun t => t.get F.AUD_BQ_SWAP_MASK = (s.get F.AUD_BQ_SWAP_MASK ||| (mask : Nat)) ∧ s.Kept t [.adl] (auditFields
    ++ [F.AUD_BQ_SWAP_MASK]))) ∧
  (∀ (s : State) (x : AudioIn), s.audRuns = true → s.frameDue = true → s.st < 2 ^ 62 → s.drw = [] → Does (.audioFrame x) s (fun t =>
    t.get F.AUD_STATUS_FRAME_ST = s.st ∧ t.get F.AUD_STATUS_ST_STATE = s.stState ∧ t.aud.sdo.length = 32 ∧ t.mem = s.mem ∧ t.hostOut =
    s.hostOut)) ∧
  (∀ (s : State) (x : AudioIn), s.audRuns = true → s.frameDue = true → s.st < 2 ^ 62 → Does (.audioFrame x) s (fun t => t.get
    F.AUD_STATUS_FRAME_ST = s.st ∧ t.get F.AUD_STATUS_ST_STATE = s.stState ∧ t.aud.frameAt = s.now ∧ t.aud.sdo.length = 32 ∧ t.layers =
    s.layers))

/-- PPS edges, their loss, the PPS output, slews, self-set fineness and the alarm. (spec/20_power_clocks_time.md) -/
def Obligations.TimeIsDisciplined : Prop :=
  (∀ (s : State), s.pdOnB 1 = true → s.refPps = false → Does (.ppsInEdge) s (fun t => t.get F.TIM_PPS_EDGE_ST = s.st % 2 ^ 62 ∧ bit
    (t.get F.HUT_ICU_PEND_PENDING) 7 = true ∧ t.pm.ppsAt = s.now ∧ s.Kept t [.pm] [F.TIM_PPS_EDGE_ST, F.HUT_ICU_PEND_PENDING])) ∧
  (∀ (s : State), s.pdOnB 1 = true → s.refPps = true → s.masterOrNone = true → s.stState = 2 → s.on F.TIM_PPS_ARM_ARMED = true → Does
    (.ppsInEdge) s (fun t => t.st = s.get F.TIM_PPS_ARM_SEC * 10 ^ 9 ∧ t.stState = 1 ∧ t.get F.TIM_PPS_ARM_ARMED = 0 ∧ t.get
    F.TIM_STATUS_SOURCE = 1 ∧ t.get F.TIM_STATUS_UNC = 4 ∧ t.mem = s.mem ∧ t.drw = s.drw ∧ t.hostOut = s.hostOut)) ∧
  (∀ (s : State), s.pdOnB 1 = true → s.refPps = true → s.masterOrNone = true → s.stState ≠ 2 → Does (.ppsInEdge) s (fun t => t.get
    F.TIM_STATUS_SOURCE = 1 ∧ t.pm.ppsAt = s.now ∧ t.mem = s.mem ∧ t.drw = s.drw ∧ t.hostOut = s.hostOut)) ∧
  (∀ (s : State), s.pdOnB 1 = false → exec (.ppsInEdge) s = .next (s.hutchRaise 7)) ∧
  (∀ (s : State), s.refPps = true → s.masterOrNone = true → s.stState = 0 → s.pm.ppsAt + 1500000000 ≤ s.now → Does (.ppsTimeout) s (fun
    t => t.stState = 1 ∧ t.pm.ppsEdges = 0 ∧ s.Kept t [.pm] [F.TIM_STATUS_STATE])) ∧
  (∀ (s : State), s.stState ≠ 2 → s.ppsLow = false → s.pins.padsHeldEmergency = false → s.pdOnB 1 = true → s.offSecond ≤ (if s.stState =
    0 then 10 else s.get F.TIM_STATUS_UNC) → Does (.ppsOutPulse) s (fun t => t.pins.ppsOut = true ∧ t.pins.ppsOutFall = s.now +
    s.pm.ppsOutUs * 1000 ∧ s.Kept t [.pins] [])) ∧
  (∀ (s : State), s.stState = 2 ∨ s.ppsLow = true ∨ s.pins.padsHeldEmergency = true ∨ (if s.stState = 0 then 10 else s.get
    F.TIM_STATUS_UNC) < s.offSecond → exec (.ppsOutPulse) s = .next (s)) ∧
  (∀ (s : State), s.pm.slew = 0 → Does (.stSlewDone) s (fun t => t.get F.TIM_STATUS_SLEWING = 0 ∧ t.get F.TIM_STATUS_BEHIND = 0 ∧
    t.pm.slew = 0 ∧ s.Kept t [.pm] [F.TIM_STATUS_SLEWING, F.TIM_STATUS_BEHIND])) ∧
  (∀ (s : State), s.stState = 2 → s.masterOrNone = true → s.refPps = false → (s.plk.selfFrom.map (fun t => decide (t + 10000000 ≤
    s.now))) = some true → Does (.stSelfFine) s (fun t => t.stState = 0 ∧ t.get F.TIM_STATUS_UNC = 0 ∧ s.Kept t [] [F.TIM_STATUS_STATE,
    F.TIM_STATUS_UNC])) ∧
  (∀ (s : State), s.alarmDue = true → Does (.stAlarm) s (fun t => bit (t.get F.HUT_ICU_PEND_PENDING) 8 = true ∧ s.PartsKept t [.cores])) ∧
  (∀ (s : State), exec (.stAlarm) s = .next (s.fireAlarm))

/-- The interrupt controller takes source events, claims and completions; the Hutch has its own.
(spec/18_control_cores_and_interrupts.md) -/
def Obligations.InterruptsAreOfferedAndClaimed : Prop :=
  (∀ (s : State) (n : SrcId), icuExists n = true → Does (.icuSourceEvent n true) s (fun t => t.get F.ICU_SRC_PENDING n = 1 ∧ s.PartsKept
    t [.cores])) ∧
  (∀ (s : State) (n : SrcId), icuIsLevel n = true → Does (.icuSourceEvent n false) s (fun t => t.get F.ICU_SRC_PENDING n = 0 ∧
    s.PartsKept t [])) ∧
  (∀ (s : State) (n : SrcId), exec (.icuSourceEvent n true) s = .next (s.icuRaise n)) ∧
  (∀ (s : State) (n : SrcId), exec (.icuSourceEvent n false) s = .next (s.icuLower n)) ∧
  (∀ (s : State) (o : Origin) (c : IcuCtx) (n : Nat), s.blkOn 0x20 = true → s.behindHeld (icuAddr (0x2004 + 0x100 * c)) = false →
    s.cabOwned 0x20 = false ∨ o.cab = true → (c : Nat) < 4 ∨ o.cab = true → s.claimPick c = some n → n < 512 → Does (.claim o c) s (fun
    t => t.get F.ICU_SRC_INSERVICE n = 1 ∧ icuIsLevel n = true ∨ t.get F.ICU_SRC_PENDING n = 0 ∧ t.reads = s.reads ++ [⟨o, icuAddr
    (0x2004 + 0x100 * c), n⟩] ∧ s.PartsKept t [.reads])) ∧
  (∀ (s : State) (o : Origin) (c : IcuCtx), s.blkOn 0x20 = true → s.behindHeld (icuAddr (0x2004 + 0x100 * c)) = false → s.cabOwned 0x20
    = false ∨ o.cab = true → s.claimPick c = none → Does (.claim o c) s (fun t => t.reads = s.reads ++ [⟨o, icuAddr (0x2004 + 0x100 *
    c), 1023⟩] ∧ s.Kept t [.reads] [])) ∧
  (∀ (s : State) (o : Origin) (c : IcuCtx) (n : Nat), s.Reaches o 0x20 → (c : Nat) < 4 ∨ o.cab = true → n < 512 → s.on
    F.ICU_SRC_INSERVICE n = true → s.get F.ICU_SRC_CTX n = c → s.get F.ICU_SRC_PENDING n = 0 → Does (.complete o c n) s (fun t => t.get
    F.ICU_SRC_INSERVICE n = 0 ∧ s.Kept t [] [F.ICU_SRC_INSERVICE])) ∧
  (∀ (s : State) (o : Origin) (c : IcuCtx) (n : Nat), s.Reaches o 0x20 → (c : Nat) < 4 ∨ o.cab = true → s.on F.ICU_SRC_INSERVICE n =
    false → Does (.complete o c n) s (fun t => t.get F.ICU_STATUS_BAD_COMPLETE = 1 ∧ s.Kept t [] [F.ICU_STATUS_BAD_COMPLETE])) ∧
  (∀ (s : State) (o : Origin) (n : SrcId), s.Reaches o 0x20 → 1 ≤ (n : Nat) → (n : Nat) ≤ 15 → o.cab = true → Does (.icuSet o n) s (fun
    t => t.get F.ICU_SRC_PENDING n = 1 ∧ s.PartsKept t [.cores])) ∧
  (∀ (s : State) (o : Origin) (v : Bool), s.Reaches o 0x20 → o.cab = true → Does (.gdis o v) s (fun t => t.get F.ICU_GDIS_GDIS = b2n v ∧
    s.PartsKept t [.adl, .cores])) ∧
  (∀ (s : State) (o : Origin), s.Reaches o 1 → o.kind = .rt → Does (.hutDbell o) s (fun t => bit (t.get F.HUT_ICU_PEND_PENDING) (20 +
    o.core % 2) = true ∧ s.Kept t [] [F.HUT_ICU_PEND_PENDING])) ∧
  (∀ (s : State), s.hutchPick ≠ 0xFF → Does (.hutchWake) s (fun t => t.cores.hutchWfi = false ∧ s.Kept t [.cores] [])) ∧
  (∀ (s : State) (o : Origin), s.blkOn 1 = true → s.behindHeld 0x00F000100110 = false → s.cabOwned 1 = false ∨ o.cab = true → o.kind =
    .hutch → Does (.hutIcuClaim o) s (fun t => t.reads = s.reads ++ [⟨o, 0x00F000100110, s.hutchPick⟩] ∧ s.Kept t [.reads]
    [F.HUT_ICU_PEND_PENDING]))

/-- Cores sleep, wake, run, fire their timers, change worlds, and a lockstep mismatch stops an RT core.
(spec/18_control_cores_and_interrupts.md, spec/19_cabinet_world_and_lifecycle.md) -/
def Obligations.CoresSleepWakeAndChangeWorlds : Prop :=
  (∀ (s : State) (n : Target), (n : Nat) < 4 → s.coreSleepBit n = true → s.awake n = true → s.inServiceAt n = true → Does (.coreSleep n)
    s (fun t => t.get F.CCL_CORE_REFUSED n = 1 ∧ s.Kept t [] [F.CCL_CORE_REFUSED])) ∧
  (∀ (s : State) (n : Target), (n : Nat) < 4 → s.coreSleepBit n = true → s.awake n = true → s.inServiceAt n = false → ((List.range
    512).all (fun k => !s.on F.ICU_SRC_OFFERED k)) = true → Does (.coreSleep n) s (fun t => t.get F.CCL_CORE_STATE n = 1 ∧ t.awake n =
    false ∧ s.PartsKept t [.cores])) ∧
  (∀ (s : State) (n : Target), s.coreSleepBit n = true → s.awake n = true → s.inServiceAt n = false → exec (.coreSleep n) s = .next ((if
    (n : Nat) < 4 then s.put F.CCL_CORE_STATE n 1 else s.put F.RTx_CTRL_STATE ((n : Nat) - 4) 1).targetAsleep n)) ∧
  (∀ (s : State) (n : Target), s.coreSleepBit n = true → s.awake n = true → s.inServiceAt n = true → exec (.coreSleep n) s = .next ((if
    (n : Nat) < 4 then s.put F.CCL_CORE_REFUSED n 1 else s.put F.RTx_CTRL_REFUSED ((n : Nat) - 4) 1))) ∧
  (∀ (s : State) (n : Target), s.coreSleepBit n = false → exec (.coreSleep n) s = .next (s)) ∧
  (∀ (s : State) (n : Target), (n : Nat) < 4 → s.get F.CCL_CORE_STATE n = 1 → Does (.coreWake n none) s (fun t => t.get F.CCL_CORE_STATE
    n = 2 ∧ bit (t.get F.ICU_STATUS_WAKING) n = true ∧ t.get F.CCL_CORE_SLEEP n = 0 ∧ s.Kept t [] [F.CCL_CORE_STATE, F.CCL_CORE_SLEEP,
    F.ICU_STATUS_WAKING])) ∧
  (∀ (s : State) (n : Target), exec (.coreWake n none) s = .next (s.coreWakeEffect n)) ∧
  (∀ (s : State) (n : Target), (n : Nat) < 4 → s.coreState n = 2 → Does (.coreRunning n) s (fun t => t.awake n = true ∧ t.get
    F.CCL_CORE_STATE n = 0 ∧ s.PartsKept t [.cores])) ∧
  (∀ (s : State) (n : Target), 4 ≤ (n : Nat) → s.coreState n = 2 → Does (.coreRunning n) s (fun t => t.awake n = true ∧ t.get
    F.RTx_CTRL_STATE ((n : Nat) - 4) = 0 ∧ s.PartsKept t [.cores])) ∧
  (∀ (s : State) (c : Fin 7) (v : Nat), s.timersOf c = { mtimecmp := some v, stimecmp := none } → v ≤ s.st → Does (.timerCompare c) s
    (fun t => t.timersOf c = {} ∧ t.cores.timerIrq = s.cores.timerIrq ++ [2 * (c : Nat)] ∧ s.Kept t [.cores] [F.CCL_CORE_STATE,
    F.CCL_CORE_SLEEP, F.RTx_CTRL_STATE, F.RTx_CTRL_SLEEP, F.ICU_STATUS_WAKING])) ∧
  (∀ (s : State) (c : Fin 7), exec (.timerCompare c) s = .next (s.fireTimers c)) ∧
  (∀ (s : State) (n : Fin 4), Does (.trapToCabinet n) s (fun t => t.get F.CCL_CORE_WORLD n = 1 ∧ (n : Nat) ∈ t.cores.countersStopped ∧
    (n : Nat) ∈ t.cores.tlbCabValid ∧ s.Kept t [.cores] [F.CCL_CORE_WORLD])) ∧
  (∀ (s : State) (n : Fin 4), Does (.mretToOpen n) s (fun t => t.get F.CCL_CORE_WORLD n = 0 ∧ (n : Nat) ∈ t.cores.regsZeroed ∧ (n : Nat)
    ∉ t.cores.countersStopped ∧ (n : Nat) ∉ t.cores.tlbCabValid ∧ s.Kept t [.cores] [F.CCL_CORE_WORLD])) ∧
  (∀ (s : State) (n : Fin 2), Does (.rtLockstep n) s (fun t => t.get F.RTx_CTRL_STATE n = 3 ∧ t.get F.RTx_CTRL_MISMATCHES n = satInc
    (s.get F.RTx_CTRL_MISMATCHES n) 8 ∧ t.awake (4 + (n : Nat)) = false ∧ t.drw = s.drw ∧ t.layers = s.layers))

/-- Lifecycle requests, revocations and version floors start burns, whose end is fixed in the fuses.
(spec/19_cabinet_world_and_lifecycle.md) -/
def Obligations.FusesBurnAndLifecycleAdvances : Prop :=
  (∀ (s : State) (o : Origin), s.Reaches o 0x21 → s.get F.CAB_LC_STATE = 1 → s.get F.CAB_LC_NEXT = 1 → s.adl.buf.length ≤ 60 → Does
    (.lifeCycleRequest o 2) s (fun t => t.get F.CAB_LC_NEXT = 2 ∧ t.get F.CAB_FUSE_BUSY = 1 ∧ t.fuses.burns = s.fuses.burns ++
    [.toField] ∧ s.Kept t [.adl, .fuses] (auditFields ++ [F.CAB_LC_NEXT, F.CAB_FUSE_BUSY]))) ∧
  (∀ (s : State) (o : Origin), s.Reaches o 0x21 → s.get F.CAB_LC_STATE = 4 → Does (.lifeCycleRequest o 2) s (fun t => t.get
    F.CAB_LC_REQ_ERR = 1 ∧ t.fuses = s.fuses ∧ s.Kept t [.adl] (auditFields ++ [F.CAB_LC_REQ_ERR]))) ∧
  (∀ (s : State) (o : Origin) (v : Fin 128), s.Reaches o 0x21 → s.get F.CAB_FUSE_SVN_FLOOR < (v : Nat) → (v : Nat) ≤ min 64 s.runningSvn
    → Does (.raiseTo o v) s (fun t => t.get F.CAB_FUSE_BUSY = 1 ∧ t.fuses.burns = s.fuses.burns ++ [.svn v] ∧ s.Kept t [.adl, .fuses]
    (auditFields ++ [F.CAB_FUSE_BUSY]))) ∧
  (∀ (s : State) (o : Origin) (v : Fin 128), s.Reaches o 0x21 → 1 ≤ (v : Nat) → (v : Nat) ≤ s.get F.CAB_FUSE_SVN_FLOOR → Does (.raiseTo
    o v) s (fun t => t.get F.CAB_FUSE_FUSE_ERR = 1 ∧ t.fuses = s.fuses ∧ s.Kept t [.adl] (auditFields ++ [F.CAB_FUSE_FUSE_ERR]))) ∧
  (∀ (s : State) (o : Origin) (mask : Fin 16), s.Reaches o 0x21 → (mask : Nat) ≠ 0 → bit mask (s.get F.CAB_FUSE_ROOT_SLOT) = false →
    s.fuses.burns = [] → (s.get F.CAB_FUSE_REVOKED ||| (mask : Nat)) % 16 ≠ 15 → Does (.revoke o mask) s (fun t => t.get F.CAB_FUSE_BUSY
    = 1 ∧ t.fuses.burns = s.fuses.burns ++ [.revoke mask] ∧ s.Kept t [.adl, .fuses] (auditFields ++ [F.CAB_FUSE_BUSY]))) ∧
  (∀ (s : State) (v : Nat), s.fuses.burns = [.svn v] → v < 128 → s.fuses.svnFloor < 128 → Does (.fuseBurnDone) s (fun t =>
    t.fuses.svnFloor = max s.fuses.svnFloor v ∧ t.get F.CAB_FUSE_SVN_FLOOR = max s.fuses.svnFloor v ∧ t.fuses.burns = [] ∧ t.get
    F.CAB_FUSE_BUSY = 0 ∧ s.PartsKept t [.fuses, .cores])) ∧
  (∀ (s : State), s.fuses.burns = [.toField] → Does (.fuseBurnDone) s (fun t => t.fuses.pairField = true ∧ t.fuses.burns = [] ∧ t.get
    F.CAB_FUSE_BUSY = 0 ∧ t.nv = s.nv ∧ s.PartsKept t [.fuses, .cores])) ∧
  (∀ (s : State) (b : Burn) (rest : List Burn), s.fuses.burns = b :: rest → exec (.fuseBurnDone) s = .next
    { (s.burnDone b).putB F.CAB_FUSE_BUSY 0 (!rest.isEmpty) with fuses := { (s.burnDone b).fuses with burns := rest } }) ∧
  (∀ (s : State) (slot : Nat) (d : List Byte), tapPermitted (s.get F.CAB_LC_STATE) 0x21 = true → s.phase ≠ .off → slot < 4 →
    (s.fuses.rootDigest.any (fun p => p.1 = slot)) = false → Does (.prov (.rootDigest slot d)) s (fun t => t.fuses.rootDigest =
    s.fuses.rootDigest ++ [(slot, d)] ∧ s.Kept t [.dbg, .fuses] [])) ∧
  (∀ (s : State), tapPermitted (s.get F.CAB_LC_STATE) 0x21 = true → s.phase ≠ .off → Does (.prov .decryptKey) s (fun t =>
    t.fuses.decryptKeySet = true ∧ t.dbg.tapInstr = 0x21 ∧ s.Kept t [.dbg, .fuses] [])) ∧
  (∀ (s : State) (n : Nat), tapPermitted (s.get F.CAB_LC_STATE) 0x21 = true → s.phase ≠ .off → n ≤ 64 → s.fuses.svnFloor ≤ n → Does
    (.prov (.svnFloor n)) s (fun t => t.fuses.svnFloor = n ∧ t.get F.CAB_FUSE_SVN_FLOOR = n ∧ s.Kept t [.dbg, .fuses]
    [F.CAB_FUSE_SVN_FLOOR])) ∧
  (∀ (s : State), tapPermitted (s.get F.CAB_LC_STATE) 0x21 = true → s.phase ≠ .off → (s.fuses.rootDigest.any (fun p => p.1 = 0)) = true
    → s.fuses.decryptKeySet = true → s.get F.CAB_LC_NEXT = 0 → s.adl.buf.length ≤ 60 → Does (.prov .burnProvisioned) s (fun t => t.get
    F.CAB_LC_NEXT = 1 ∧ t.get F.CAB_FUSE_BUSY = 1 ∧ t.fuses.burns = s.fuses.burns ++ [.provisioned] ∧ s.PartsKept t [.dbg, .fuses,
    .adl]))

/-- TAP instructions that the lifecycle permits are loaded and act; one that it does not is BYPASS.
(spec/19_cabinet_world_and_lifecycle.md) -/
def Obligations.TheTapServesItsInstructions : Prop :=
  (∀ (s : State) (bsr : Nat), s.phase ≠ .off → tapPermitted (s.get F.CAB_LC_STATE) 0 = true → Does (.extest bsr) s (fun t =>
    t.dbg.tapInstr = 0 ∧ t.dbg.boundary = bsr ∧ t.dbg.pinsDriven = true ∧ s.Kept t [.dbg] [])) ∧
  (∀ (s : State), s.phase ≠ .off → tapPermitted (s.get F.CAB_LC_STATE) 1 = true → Does (.idcode) s (fun t => t.dbg.tapInstr = 1 ∧
    t.dbg.pinsDriven = false ∧ t.dbg.pinsHiZ = false ∧ s.Kept t [.dbg] [])) ∧
  (∀ (s : State) (bsr : Nat), s.phase ≠ .off → tapPermitted (s.get F.CAB_LC_STATE) 2 = true → Does (.samplePreload bsr) s (fun t =>
    t.dbg.tapInstr = 2 ∧ t.dbg.boundary = bsr ∧ t.dbg.pinsDriven = false ∧ s.Kept t [.dbg] [])) ∧
  (∀ (s : State), s.phase ≠ .off → tapPermitted (s.get F.CAB_LC_STATE) 4 = true → Does (.clamp) s (fun t => t.dbg.tapInstr = 4 ∧
    t.dbg.boundary = s.dbg.boundary ∧ t.dbg.pinsDriven = true ∧ s.Kept t [.dbg] [])) ∧
  (∀ (s : State), s.phase ≠ .off → tapPermitted (s.get F.CAB_LC_STATE) 5 = true → Does (.highz) s (fun t => t.dbg.tapInstr = 5 ∧
    t.dbg.pinsHiZ = true ∧ s.Kept t [.dbg] [])) ∧
  (∀ (s : State), s.phase ≠ .off → Does (.bypass) s (fun t => t.dbg.tapInstr = 0x3F ∧ t.dbg.pinsDriven = false ∧ t.dbg.pinsHiZ = false ∧
    s.Kept t [.dbg] [])) ∧
  (∀ (s : State), s.phase = .off → exec (.bypass) s = .next (s)) ∧
  (∀ (s : State) (bsr : Nat), s.phase = .off → exec (.extest bsr) s = .next (s)) ∧
  (∀ (s : State) (bsr : Nat), s.phase ≠ .off → tapPermitted (s.get F.CAB_LC_STATE) 0 = false → Does (.extest bsr) s (fun t =>
    t.dbg.tapInstr = 0x3F ∧ t.dbg.pinsDriven = false ∧ s.Kept t [.dbg] [])) ∧
  (∀ (s : State) (w : Fin 128) (v : Fin 4294967296), s.phase ≠ .off → exec (.dbg true w v) s = .next ((s.tapLoad 0x20).tapWrite w v)) ∧
  (∀ (s : State) (w : Fin 128) (v : Fin 4294967296), s.phase ≠ .off → regAt (0x00F002900000 + 4 * w) = none → Does (.dbg false w v) s
    (fun t => t.dbg.tapCapture = 0 ∧ t.reads = s.reads ++ [⟨tapOrigin, 0x00F002900000 + 4 * (w : Nat), s.dbg.tapCapture⟩] ∧ s.Kept t
    [.dbg, .reads] [])) ∧
  (∀ (s : State) (w : Fin 128) (v : Fin 4294967296) (r : Reg) (i off : Nat), s.phase ≠ .off → regAt (0x00F002900000 + 4 * w) = some (r,
    i, off) → Does (.dbg false w v) s (fun t => t.reads = s.reads ++ [⟨tapOrigin, 0x00F002900000 + 4 * (w : Nat), s.dbg.tapCapture⟩] ∧
    t.mem = s.mem ∧ t.layers = s.layers ∧ t.drw = s.drw))

/-- Debug challenge, certificate, session, its accesses and its end. (spec/19_cabinet_world_and_lifecycle.md,
spec/25_self_test_and_service.md) -/
def Obligations.DebugSessionsAreChallengedOpenedAndClosed : Prop :=
  (∀ (s : State), s.dbgIdle = true → s.dbg.verifying = none → s.dbg.session = none → s.get F.DBG_STATUS_FAILS < 8 → s.dbgLocked = false
    → Does (.challenge) s (fun t => t.dbg.nonce = some (leBytes 48 (Config.freeValue s.freeCtr)) ∧ t.dbg.nonceAt = s.now ∧ t.get
    F.DBG_STATUS_RESULT = 0 ∧ t.get F.DBG_STATUS_STATE = 1 ∧ t.freeCtr = s.freeCtr + 1 ∧ s.PartsKept t [.dbg, .freeCtr])) ∧
  (∀ (s : State), s.dbgIdle = true → Does (.challenge) s (fun t => t.dbg.nonce = some (leBytes 48 (Config.freeValue s.freeCtr)) ∧
    t.dbg.nonceAt = s.now ∧ t.get F.DBG_STATUS_RESULT = 0 ∧ t.dbg.session = s.dbg.session ∧ s.PartsKept t [.dbg, .freeCtr])) ∧
  (∀ (s : State), s.dbgIdle = false → exec (.challenge) s = .next (s)) ∧
  (∀ (s : State), s.dbgIdle = true → s.dbgLocked = true → exec (.submit) s = .next (s.put F.DBG_STATUS_RESULT 0 7)) ∧
  (∀ (s : State), s.dbgIdle = true → s.dbgLocked = false → Does (.submit) s (fun t => t.dbg.nonce = none ∧ t.dbg.verifying.map (fun x =>
    x.1) = some s.dbgBuf ∧ t.get F.DBG_STATUS_BUSY = 1 ∧ t.get F.DBG_STATUS_STATE = 2 ∧ s.Kept t [.dbg] [F.DBG_STATUS_BUSY,
    F.DBG_STATUS_STATE, F.HUT_ICU_PEND_PENDING])) ∧
  (∀ (s : State) (c : List Byte) (n : Bool), s.dbg.verifying = some (c, n) → s.adl.buf.length ≤ 62 → exec (.certificateVerdict) s =
    .next ((if s.certResult c n ≠ 0 then State.submitFails (if s.certResult c n = 6 ∧ 3 ≤ fieldLE c 6 1 then State.put
    { s.put F.DBG_STATUS_BUSY 0 0 with dbg := { s.dbg with verifying := none } } F.CAB_LC_REQ_ERR 0 1 else
    { s.put F.DBG_STATUS_BUSY 0 0 with dbg := { s.dbg with verifying := none } }) (s.certResult c n) else if 3 ≤ fieldLE c 6 1 then
    State.lcScope { s.put F.DBG_STATUS_BUSY 0 0 with dbg := { s.dbg with verifying := none } } (fieldLE c 6 1) (fieldLE c 8 8) (certKey
    c) else State.openSession { s.put F.DBG_STATUS_BUSY 0 0 with dbg := { s.dbg with verifying := none } } (fieldLE c 6 1) (fieldLE c 8
    8) (fieldLE c 0x50 2)))) ∧
  (∀ (s : State) (c : List Byte) (n : Bool), s.dbg.verifying = some (c, n) → fieldLE c 6 1 = 1 → s.adl.buf.length ≤ 60 → s.dbgLocked =
    false → Does (.certificateVerdict) s (fun t => s.certResult c n = 0 → t.dbg.session = some ⟨{ kind := .debug, cab := false },
    fieldLE c 8 8, s.now, fieldLE c 0x50 2⟩ ∧ s.certResult c n = 0 → (t.get F.DBG_STATUS_RESULT = 0 ∧ t.get F.DBG_STATUS_STATE = 3) ∧
    s.certResult c n ≠ 0 → (t.dbg.session = s.dbg.session ∧ t.get F.DBG_STATUS_RESULT = s.certResult c n ∧ t.get F.DBG_STATUS_FAILS =
    satInc (s.get F.DBG_STATUS_FAILS) 4) ∧ t.get F.DBG_STATUS_BUSY = 0 ∧ t.dbg.verifying = none ∧ s.PartsKept t [.dbg, .adl, .cores])) ∧
  (∀ (s : State) (c : List Byte), s.dbg.verifying = some (c, false) → s.get F.DBG_STATUS_FAILS < 7 → Does (.certificateVerdict) s (fun t
    => t.get F.DBG_STATUS_RESULT = 1 ∧ t.get F.DBG_STATUS_FAILS = s.get F.DBG_STATUS_FAILS + 1 ∧ t.get F.DBG_STATUS_BUSY = 0 ∧
    t.dbg.verifying = none ∧ t.dbg.session = s.dbg.session ∧ s.PartsKept t [.dbg])) ∧
  (∀ (s : State) (wide : Bool), s.dbgIdle = true → s.dbg.session = none → exec (.read wide) s = .next (s.put F.DBG_STATUS_RESULT 0 8)) ∧
  (∀ (s : State) (wide : Bool) (x : Session), s.dbgIdle = true → s.dbg.session = some x → exec (.read wide) s = .next ((s.put
    F.DBG_STATUS_RESULT 0 0).busAccess x.origin 0x29 (s.get F.DBG_ACC_ADDR_ADDR) (if wide then 8 else 4) none)) ∧
  (∀ (s : State) (wide : Bool) (x : Session), s.dbgIdle = true → s.dbg.session = some x → exec (.write wide) s = .next ((s.put
    F.DBG_STATUS_RESULT 0 0).busAccess x.origin 0x29 (s.get F.DBG_ACC_ADDR_ADDR) (if wide then 8 else 4) (some (leBytes (if wide then 8
    else 4) (s.get F.DBG_ACC_DATA_DATA))))) ∧
  (∀ (s : State) (wide : Bool), s.dbgIdle = true → s.dbg.session = none → exec (.write wide) s = .next (s.put F.DBG_STATUS_RESULT 0 8)) ∧
  (∀ (s : State), s.dbgIdle = true → s.dbg.session.isSome = true → Does (.endSession) s (fun t => t.dbg.session = none ∧ t.get
    F.DBG_STATUS_RESULT = 0 ∧ t.get F.DBG_STATUS_MIN_LEFT = 0 ∧ s.PartsKept t [.dbg, .adl, .cores])) ∧
  (∀ (s : State) (x : Session), s.dbg.session = some x → x.openedAt + x.maxMin * 60000000000 ≤ s.now → Does (.sessionExpire) s (fun t =>
    t.dbg.session = none ∧ t.get F.DBG_STATUS_MIN_LEFT = 0 ∧ s.PartsKept t [.dbg, .adl, .cores])) ∧
  (∀ (s : State), s.dbg.nonce.isSome = true → s.dbg.nonceAt + 300000000000 ≤ s.now → Does (.nonceExpire) s (fun t => t.dbg.nonce = none
    ∧ s.Kept t [.dbg] [F.DBG_STATUS_STATE])) ∧
  (∀ (s : State), Does (.trstLow) s (fun t => t.dbg.session = none ∧ t.dbg.nonce = none ∧ t.dbg.verifying = none ∧ t.dbg.tapInstr = 0x3F
    ∧ t.get F.DBG_STATUS_BUSY = 0 ∧ s.PartsKept t [.dbg, .adl, .cores]))

/-- Power requests are answered, entries drain, save and isolate, exits power, restore and resume. (spec/20_power_clocks_time.md) -/
def Obligations.PowerStatesChangeInPhases : Prop :=
  (∀ (s : State) (o : Origin) (q : Nat), s.Reaches o 0x22 → s.pm.inProgress = none → s.shutdownComing = false → s.pwrState = 0 →
    s.pm.seqCount = q → q < 65536 → Does (.powerRequest o 0) s (fun t => t.get F.PWR_OUTCOME_SEQ (q % 8) = q ∧ t.get
    F.PWR_OUTCOME_RESULT (q % 8) = 1 ∧ t.pwrState = 0 ∧ t.pm.inProgress = none ∧ t.pm.seqCount = (q + 1) % 65536 ∧ s.PartsKept t [.adl,
    .pm])) ∧
  (∀ (s : State) (o : Origin) (q : Nat), s.Reaches o 0x22 → s.pm.inProgress = none → s.shutdownComing = false → s.pwrState = 0 →
    s.pm.seqCount = q → q < 65536 → s.requestRefuse o 1 = none → Does (.powerRequest o 1) s (fun t => t.pm.inProgress = some
    { seq := q, target := 1, origin := o } ∧ t.get F.PWR_STATUS_PHASE = 1 ∧ t.get F.PWR_STATUS_TARGET = 1 ∧ t.get F.PWR_STATUS_CUR_SEQ =
    q ∧ t.pwrState = 0 ∧ t.mem = s.mem ∧ t.pd = s.pd)) ∧
  (∀ (s : State) (r : PwrReq), s.pm.inProgress = some r → r.target = 1 → s.pwrState = 0 → s.get F.PWR_STATUS_PHASE = 1 → s.drainLeft 1 =
    [] → Does (.drainPhaseEnd) s (fun t => t.get F.PWR_STATUS_PHASE = 2 ∧ t.pm.inProgress = some r ∧ s.Kept t [.pm]
    [F.PWR_STATUS_PHASE])) ∧
  (∀ (s : State) (r : PwrReq), s.pm.inProgress = some r → s.get F.PWR_STATUS_PHASE = 1 → s.drainLeft r.target = [] → Does
    (.drainPhaseEnd) s (fun t => t.get F.PWR_STATUS_PHASE = 2 ∧ t.pm.inProgress = some r ∧ s.Kept t [.pm, .pins] [F.PWR_STATUS_PHASE])) ∧
  (∀ (s : State) (r : PwrReq), s.pm.inProgress = some r → s.drainLeft r.target ≠ [] → exec (.drainPhaseEnd) s = .next (s)) ∧
  (∀ (s : State) (r : PwrReq) (b : Nat), s.pm.inProgress = some r → r.target = 1 → s.get F.PWR_STATUS_PHASE = 1 → s.drainOver r.target =
    true → s.drainLeft r.target = [b] → s.pm.next = none → Does (.entryRefused) s (fun t => t.pm.inProgress = none ∧ t.get
    F.PWR_STATUS_PHASE = 0 ∧ t.pwrState = s.pwrState ∧ t.get F.PWR_CNT_REFUSED = satInc (s.get F.PWR_CNT_REFUSED) 16 ∧ t.mem = s.mem ∧
    t.pd = s.pd)) ∧
  (∀ (s : State) (r : PwrReq) (b : Nat) (bs : List Nat), s.pm.inProgress = some r → s.get F.PWR_STATUS_PHASE = 1 → s.drainOver r.target
    = true → s.drainLeft r.target = b :: bs → exec (.entryRefused) s = .next (((((s.endRequests (r.seq :: s.pm.merged) 4 (bs.foldl min
    b) 0).countEntry F.PWR_CNT_REFUSED r.target (bs.foldl min b) 0).clearTransition).entryUndone).nextStarts)) ∧
  (∀ (s : State), s.pm.inProgress.isSome = true → s.get F.PWR_STATUS_PHASE = 2 → exec (.savePhaseEnd) s = .next (s.put
    F.PWR_STATUS_PHASE 0 3)) ∧
  (∀ (s : State) (r : PwrReq), s.pm.inProgress = some r → r.target = 1 → s.pwrState = 0 → s.get F.PWR_STATUS_PHASE = 3 → s.pm.next =
    none → s.pm.nextMerged = [] → Does (.isolatePhaseEnd) s (fun t => t.pwrState = 1 ∧ t.get F.PWR_STATUS_PHASE = 0 ∧ t.pm.inProgress =
    none ∧ t.pd &&& (s.turnsOff 1) = 0 ∧ (s.turnsOff 1).toNat &&& t.get F.PWR_PADREL_HELD = (s.turnsOff 1).toNat ∧ t.mem = s.mem ∧ t.drw
    = s.drw)) ∧
  (∀ (s : State) (r : PwrReq), s.pm.inProgress = some r → s.get F.PWR_STATUS_PHASE = 3 → s.pm.next = none → r.target < 8 → Does
    (.isolatePhaseEnd) s (fun t => t.pwrState = r.target ∧ t.get F.PWR_STATUS_PHASE = 0 ∧ t.pm.inProgress = none ∧ t.pd = s.pd &&&
    ~~~(s.turnsOff r.target))) ∧
  (∀ (s : State) (r : PwrReq), s.pm.inProgress = some r → r.target = 0 → s.get F.PWR_STATUS_PHASE = 4 → Does (.powerPhaseEnd) s (fun t
    => t.get F.PWR_STATUS_PHASE = 5 ∧ t.pd &&& pdsOf 0 = pdsOf 0 ∧ t.pm.inProgress = some r)) ∧
  (∀ (s : State) (r : PwrReq), s.pm.inProgress = some r → s.get F.PWR_STATUS_PHASE = 4 → Does (.powerPhaseEnd) s (fun t => t.get
    F.PWR_STATUS_PHASE = 5 ∧ t.pd &&& pdsOf r.target = pdsOf r.target ∧ t.pm.inProgress = some r)) ∧
  (∀ (s : State) (r : PwrReq), s.pm.inProgress = some r → r.target = 0 → s.pwrState = 1 → s.get F.PWR_STATUS_PHASE = 5 → Does
    (.restorePhaseEnd) s (fun t => t.get F.PWR_STATUS_PHASE = 6 ∧ t.pm.inProgress = some r ∧ t.mem = s.mem)) ∧
  (∀ (s : State) (r : PwrReq), s.pm.inProgress = some r → s.get F.PWR_STATUS_PHASE = 5 → Does (.restorePhaseEnd) s (fun t => t.get
    F.PWR_STATUS_PHASE = 6 ∧ t.pm.inProgress = some r ∧ t.mem = s.mem)) ∧
  (∀ (s : State) (hdr : HdrCheck) (cab app : SecCheck) (eyes : List (ChanId × List Eye × List Eye)) (train : List ChanTrain) (r :
    PwrReq), s.pm.inProgress = some r → r.target = 0 → s.pwrState = 1 → s.get F.PWR_STATUS_PHASE = 6 → s.pm.next = none →
    s.pm.nextMerged = [] → Does (.resumePhaseEnd hdr cab app eyes train) s (fun t => t.pwrState = 0 ∧ t.get F.PWR_STATUS_PHASE = 0 ∧
    t.pm.inProgress = none ∧ t.mem = s.mem)) ∧
  (∀ (s : State) (hdr : HdrCheck) (cab app : SecCheck) (eyes : List (ChanId × List Eye × List Eye)) (train : List ChanTrain) (r :
    PwrReq), s.pm.inProgress = some r → s.get F.PWR_STATUS_PHASE = 6 → s.pwrState ≠ 3 → r.target < 8 → s.pm.next = none → Does
    (.resumePhaseEnd hdr cab app eyes train) s (fun t => t.pwrState = r.target ∧ t.get F.PWR_STATUS_PHASE = 0 ∧ t.pm.inProgress = none)) ∧
  (∀ (s : State) (hdr : HdrCheck) (cab app : SecCheck) (eyes : List (ChanId × List Eye × List Eye)) (train : List ChanTrain) (r :
    PwrReq), s.pm.inProgress = some r → s.get F.PWR_STATUS_PHASE = 6 → s.pwrState = 3 → r.target < 8 → s.pm.next = none → Does
    (.resumePhaseEnd hdr cab app eyes train) s (fun t => if s.holdChecks hdr cab app then t.pwrState = r.target else t.err.modResetDue =
    true ∧ t.pm.inProgress = none)) ∧
  (∀ (s : State) (o : Origin) (m : Fin 65536), s.Reaches o 0x22 → s.pins.padsHeldEmergency = false → bit m 10 = false → bit m 13 = false
    → bit m 14 = false → s.get F.PWR_PADREL_HELD < 65536 → Does (.padRelease o m) s (fun t => ((List.range 16).all (fun d => bit (t.get
    F.PWR_PADREL_HELD) d = (bit (s.get F.PWR_PADREL_HELD) d && !(bit m d && s.pdOnB d)))) = true ∧ s.Kept t [.adl] (auditFields ++
    [F.PWR_PADREL_HELD]))) ∧
  (∀ (s : State) (o : Origin) (m : Fin 65536), s.Reaches o 0x22 → s.pins.padsHeldEmergency = false → s.get F.PWR_PADREL_HELD < 65536 →
    Does (.padRelease o m) s (fun t => ((List.range 16).all (fun d => bit (t.get F.PWR_PADREL_HELD) d = (bit (s.get F.PWR_PADREL_HELD) d
    && !(bit m d && s.pdOnB d)))) = true)) ∧
  (∀ (s : State), s.phase = .running → s.pwrState ≠ 0 ∨ (s.pm.inProgress.isSome = true ∧ 1 ≤ s.get F.PWR_STATUS_PHASE ∧ s.get
    F.PWR_STATUS_PHASE ≤ 3) → s.pm.wakeNEn = false → Does (.wakeNPulse) s (fun t => bit (t.get F.HUT_ICU_PEND_PENDING) 0 = true ∧ s.Kept
    t [] [F.HUT_ICU_PEND_PENDING])) ∧
  (∀ (s : State), s.phase = .running → s.pwrState ≠ 0 ∨ (s.pm.inProgress.isSome = true ∧ 1 ≤ s.get F.PWR_STATUS_PHASE ∧ s.get
    F.PWR_STATUS_PHASE ≤ 3) → s.pm.wakeNEn = true → exec (.wakeNPulse) s = .next ((s.hutchRaise 0).guarded Origin.hutch
    { addr := 0x00F002200000, blk := 0x22 } 0 (fun x => x.powerRequest Origin.hutch 0))) ∧
  (∀ (s : State), s.phase ≠ .running ∨ (s.pwrState = 0 ∧ s.pm.inProgress = none) → exec (.wakeNPulse) s = .next (s))

/-- A hardware error is recorded in its domain, hangs and software reports with it, acknowledged in order, and resets run.
(spec/21_errors_and_recovery.md) -/
def Obligations.ErrorsAreRecordedAndAcknowledged : Prop :=
  (∀ (s : State) (e : ErrIn), s.phase ≠ .off → hasQueue e.domain = true → s.classOf e ≤ 1 → (s.errq e.domain).recs.length < 16 →
    ((s.errq e.domain).recs.all (fun r => !(r.code = e.code && r.cls = s.classOf e && r.source = e.source))) = true → Does
    (.hardwareError e) s (fun t => ((t.errq e.domain).recs.getLast?).map (fun r => (r.code, r.cls, r.source, r.count, r.seq)) = some
    (e.code, s.classOf e, e.source % 256, 1, s.get F.FAB_ERR_Q_NEXT_SEQ e.domain) ∧ (t.errq e.domain).recs.dropLast = (s.errq
    e.domain).recs ∧ t.get F.FAB_ERR_Q_NEXT_SEQ e.domain = (s.get F.FAB_ERR_Q_NEXT_SEQ e.domain + 1) % 2 ^ 16 ∧ t.mem = s.mem ∧ t.drw =
    s.drw ∧ t.hostOut = s.hostOut)) ∧
  (∀ (s : State) (e : ErrIn), s.phase ≠ .off → hasQueue e.domain = true → s.classOf e = 0 → (s.errq e.domain).recs.length = 16 →
    ((s.errq e.domain).recs.all (fun r => !(r.code = e.code && r.cls = s.classOf e && r.source = e.source))) = true → 0 ≤ s.classOf e →
    Does (.hardwareError e) s (fun t => t.errq e.domain = s.errq e.domain ∧ t.get F.FAB_ERR_Q_OVERFLOW e.domain = 1 ∧ t.get
    F.FAB_ERR_Q_LOST e.domain = satInc (s.get F.FAB_ERR_Q_LOST e.domain) 16 ∧ s.Kept t [] [F.FAB_ERR_Q_OVERFLOW, F.FAB_ERR_Q_LOST,
    F.FAB_ERR_Q_LOST_CODE])) ∧
  (∀ (s : State) (e : ErrIn), s.phase ≠ .off → exec (.hardwareError e) s = .next (s.recordError e)) ∧
  (∀ (s : State) (e : ErrIn), s.phase = .off → exec (.hardwareError e) s = .next (s)) ∧
  (∀ (s : State) (blk : DomainId) (source : Nat), s.phase ≠ .off → exec (.hang blk source) s = .next (s.recordError
    { domain := blk, code := 0x45, source := source, origin := Origin.hw.word })) ∧
  (∀ (s : State) (o : Origin) (d : DomainId) (r : ErrRec), s.cabOwned d = false ∨ o.cab = true → (s.errq d).recs = [r] → r.seq < 65536 →
    Does (.errorAck o d (Fin.ofNat 65536 r.seq)) s (fun t => (t.errq d).recs = [] ∧ (t.errq d).head = ((s.errq d).head + 1) % 16 ∧
    s.PartsKept t [.err, .cores])) ∧
  (∀ (s : State) (o : Origin) (d : DomainId) (n : Fin 65536), s.cabOwned d = false ∨ o.cab = true → exec (.errorAck o d n) s = .next
    (s.ackTo d n)) ∧
  (∀ (s : State) (o : Origin) (v : Nat), s.held = [] → s.adl.buf.length ≤ 60 → s.cabOwned 5 = false ∨ o.cab = true → bit v 26 = false →
    Does (.swrep o v) s (fun t => s.Kept t [.adl] auditFields)) ∧
  (∀ (s : State) (o : Origin) (v : Nat), s.held = [] → s.committed = false → bit v 26 = true → bits v 8 8 = 0xE0 → hasQueue (bits v 0 8)
    = true → bits v 16 2 < 2 → exec (.swrep o v) s = .next (s.recordError
    { domain := bits v 0 8, code := bits v 8 8, cls := some (bits v 16 2), source := bits v 18 8, origin := o.word })) ∧
  (∀ (s : State) (r : ResetDue), s.err.due = [r] → s.get F.PWR_STATUS_PHASE = 0 → s.pdOnB r.unit.pd = true → s.overLimit r.unit = false
    → exec (.islandReset r.unit) s = .next (({ s with err := { s.err with due := [] } }).unitReset r.unit r.esc)) ∧
  (∀ (s : State) (u : ResetUnit) (r : ResetDue), s.err.due.find? (fun (x : ResetDue) => x.unit = u) = some r → s.get F.PWR_STATUS_PHASE
    ≠ 2 → s.get F.PWR_STATUS_PHASE ≠ 3 → s.pdOnB (u).pd = true → s.overLimit u = false → exec (.islandReset u) s = .next
    (State.unitReset { s with err := { s.err with due := s.err.due.filter (fun (x : ResetDue) => decide (x.unit ≠ u)) } } u r.esc)) ∧
  (∀ (s : State) (g : Nat) (r : ResetDue), s.err.due.find? (fun (x : ResetDue) => x.unit = .bg g) = some r → s.get F.PWR_STATUS_PHASE ≠
    2 → s.get F.PWR_STATUS_PHASE ≠ 3 → s.pdOnB (ResetUnit.bg g).pd = true → s.overLimit (.bg g) = true → exec (.islandReset (.bg g)) s =
    .next ((State.unitWork { s with err := { s.err with due := s.err.due.filter (fun (x : ResetDue) => decide (x.unit ≠ .bg g)) } } (.bg
    g)).setBg g 3)) ∧
  (∀ (s : State) (u : ResetUnit) (r : ResetDue), s.err.due.find? (fun (x : ResetDue) => x.unit = u) = some r → s.get F.PWR_STATUS_PHASE
    ≠ 2 → s.get F.PWR_STATUS_PHASE ≠ 3 → s.pdOnB (u).pd = true → s.overLimit u = true → (u matches .bg _) = false → exec (.islandReset
    u) s = .next (State.moduleAction
    { s with err := { s.err with due := s.err.due.filter (fun (x : ResetDue) => decide (x.unit ≠ u)) } } r.domain r.code)) ∧
  (∀ (s : State) (g : Nat), s.err.running = [.bg g] → Does (.islandResetDone (.bg g)) s (fun t => t.err.running = [] ∧ t.get
    F.FAB_ERR_ISL_IN_PROGRESS (ResetUnit.bg g).pd = 0 ∧ s.Kept t [.err] [F.FAB_ERR_ISL_IN_PROGRESS])) ∧
  (∀ (s : State) (u : ResetUnit), s.err.running.contains u = true → Does (.islandResetDone u) s (fun t => t.err.running =
    s.err.running.filter (fun x => decide (x ≠ u)) ∧ (t.err.headsRan.any (fun h => u.covers (0x10 + h))) = false))

/-- A flush moves the oldest entry to the ring, a mark moves forward. (spec/22_audit_log.md) -/
def Obligations.TheAuditLogIsFlushedAndMarked : Prop :=
  (∀ (s : State) (e : AuditEntry) (rest : List AuditEntry), s.adl.buf = e :: rest → (s.adl.flushAt.map (fun x => decide (s.now < x +
    1000))).getD false = false → s.adl.blockOpen = true → s.nv.ring.length = 1 → ((s.nv.ring.getLast?.map (fun b =>
    b.entries.length)).getD 0) < 60 → (((s.nv.ring.getLast?.bind (fun b => b.entries.head?)).map (fun x => x.st)).getD e.st) + 2 ^ 46 >
    e.st → Does (.auditFlush true) s (fun t => t.adl.buf = rest ∧ (t.nv.ring.getLast?.bind (fun b => b.entries.getLast?)) = some e ∧
    s.PartsKept t [.adl, .nv, .cores])) ∧
  (∀ (s : State), s.adl.buf.isEmpty = false → (s.adl.flushAt.map (fun x => decide (s.now < x + 1000))).getD false = false → exec
    (.auditFlush true) s = .next (State.flushOne { s with adl := { s.adl with flushAt := some s.now } })) ∧
  (∀ (s : State), s.adl.buf.isEmpty = false → (s.adl.flushAt.map (fun x => decide (s.now < x + 1000))).getD false = false → exec
    (.auditFlush false) s = .next (State.flushOne (State.slotFails { s with adl := { s.adl with flushAt := some s.now } }))) ∧
  (∀ (s : State) (o : Origin) (start : Fin 65536) (seq : Fin 4294967296), s.Reaches o 0x23 → s.adl.buf.length ≤ 60 → o.cab = true →
    s.auditMark ≤ auditPos start seq → Does (.adlMark o start seq) s (fun t => t.get F.ADL_MARK_START = start ∧ t.get F.ADL_MARK_SEQ =
    seq ∧ t.nv.markSeq = (seq : Nat) ∧ t.nv.markStart = (start : Nat) ∧ s.PartsKept t [.adl, .nv, .cores]))

/-- CRC units start and take bytes; counters overflow, arm, snapshot, and the bandwidth windows are read. (spec/23_crc_units.md,
spec/24_performance_counters.md) -/
def Obligations.CrcUnitsAndCountersCount : Prop :=
  (∀ (s : State) (o : Origin) (u poly : Fin 4) (ie : Bool), s.Reaches o 0x24 → Does (.initCrc o u poly ie) s (fun t => t.get
    F.CRC_CTRL_POLY u = poly ∧ t.get F.CRC_VAL_VAL u = (crcParams (poly : Nat)).2.2.1 ∧ t.get F.CRC_COUNT_COUNT u = 0 ∧ t.get
    F.CRC_CTRL_DONE u = 0 ∧ t.get F.CRC_CTRL_MATCH u = 0 ∧ s.PartsKept t [.cores])) ∧
  (∀ (s : State) (o : Origin) (u : Fin 4) (v : Fin 4294967296), s.Reaches o 0x24 → s.get F.CRC_COUNT_LEN u = 0 → s.get F.CRC_CTRL_POLY u
    < 4 → Does (.feed o u 0 v) s (fun t => t.get F.CRC_VAL_VAL u = crcByte (s.get F.CRC_CTRL_POLY u) (s.get F.CRC_VAL_VAL u) ((v : Nat)
    % 256) % 2 ^ 64 ∧ t.get F.CRC_COUNT_COUNT u = satInc (s.get F.CRC_COUNT_COUNT u) 32 ∧ s.Kept t [] [F.CRC_VAL_VAL,
    F.CRC_COUNT_COUNT])) ∧
  (∀ (s : State) (n : Fin 128) (inc pc : Nat) (mode : Fin 4) (trap : Bool), s.pmuLive n = true → s.get F.PMU_CNT_COUNT n + inc < 2 ^ 48
    → Does (.counterOverflow n inc pc mode trap) s (fun t => t.get F.PMU_CNT_COUNT n = s.get F.PMU_CNT_COUNT n + inc ∧ s.Kept t []
    [F.PMU_CNT_COUNT])) ∧
  (∀ (s : State) (n : Fin 128) (inc pc : Nat) (mode : Fin 4) (trap : Bool), s.pmuLive n = true → 2 ^ 48 ≤ s.get F.PMU_CNT_COUNT n + inc
    → Does (.counterOverflow n inc pc mode trap) s (fun t => t.get F.PMU_CNT_COUNT n = (s.get F.PMU_CNT_COUNT n + inc) % 2 ^ 48 ∧ bit
    (t.get F.PMU_OVF_OVF ((n : Nat) / 32)) ((n : Nat) % 32) = true ∧ s.PartsKept t [.pmu, .cores])) ∧
  (∀ (s : State) (n : Fin 128) (inc pc : Nat) (mode : Fin 4) (trap : Bool), s.pmuLive n = false → exec (.counterOverflow n inc pc mode
    trap) s = .next (s)) ∧
  (∀ (s : State) (o : Origin) (t0 : Nat) (frz : Bool), s.Reaches o 0x25 → t0 < 2 ^ 62 → Does (.arm o t0 frz) s (fun t => t.get
    F.PMU_TRIG_ST = t0 ∧ t.get F.PMU_TRIG_ARM = 1 ∧ t.get F.PMU_TRIG_FRZ = b2n frz ∧ t.pmu.armSt = s.st ∧ t.pmu.armCab = o.cab ∧ s.Kept
    t [.pmu] [F.PMU_TRIG_ST, F.PMU_TRIG_ARM, F.PMU_TRIG_FRZ])) ∧
  (∀ (s : State) (late : Bool), s.on F.PMU_TRIG_ARM = true → s.get F.PMU_TRIG_ST ≤ s.st → ((List.range 128).all (fun n => decide (s.get
    F.PMU_CNT_COUNT n < 2 ^ 48))) = true → Does (.snapshot late) s (fun t => ((List.range 128).all (fun n => decide (t.get
    F.PMU_SNAP_COUNT n = s.get F.PMU_CNT_COUNT n))) = true ∧ t.get F.PMU_TRIG_ARM = 0 ∧ t.get F.PMU_SNAP_STATUS_VALID = 1 ∧ s.PartsKept
    t [])) ∧
  (∀ (s : State) (late : Bool), s.on F.PMU_TRIG_ARM = true → s.get F.PMU_TRIG_ST ≤ s.st → Does (.snapshot late) s (fun t => t.get
    F.PMU_TRIG_ARM = 0 ∧ t.get F.PMU_SNAP_STATUS_VALID = 1 ∧ t.get F.PMU_SNAP_STATUS_SEQ = (s.get F.PMU_SNAP_STATUS_SEQ + 1) % 2 ^
    F.PMU_SNAP_STATUS_SEQ.width ∧ s.PartsKept t [])) ∧
  (∀ (s : State) (m : Fin 24) (rd wr rdOpen wrOpen : Nat), s.on F.PMU_BW_CFG_EN m = true → tget 0 s.pmu.bwAt m < s.bwWindowNo m → rd < 2
    ^ 48 → wr < 2 ^ 48 → Does (.bwWindow m rd wr rdOpen wrOpen) s (fun t => t.get F.PMU_BW_RD_BYTES m = rd ∧ t.get F.PMU_BW_WR_BYTES m =
    wr ∧ t.get F.PMU_BW_CFG_WSEQ m = (s.get F.PMU_BW_CFG_WSEQ m + 1) % 2 ^ 32 ∧ t.get F.PMU_BW_CFG_STEPPED m = b2n (s.pmu.bwCut.contains
    (m : Nat)) ∧ s.Kept t [.pmu] [F.PMU_BW_RD_BYTES, F.PMU_BW_WR_BYTES, F.PMU_BW_PEAK_BYTES, F.PMU_BW_CFG_WSEQ, F.PMU_BW_CFG_STEPPED])) ∧
  (∀ (s : State) (o : Origin) (m : Fin 24), s.blkOn 0x25 = true → s.behindHeld (pmuAddr (0x4008 + 0x20 * m)) = false → o.cab = true →
    Does (.bwRead o m) s (fun t => t.reads = s.reads ++ [⟨o, pmuAddr (0x4008 + 0x20 * m), s.get F.PMU_BW_RD_BYTES m⟩] ∧ s.Kept t [.pmu,
    .reads] []))

/-- Test commands that are not refused start their jobs, and a job that is done reports and decides its unit.
(spec/25_self_test_and_service.md) -/
def Obligations.TestsRunAndReport : Prop :=
  (∀ (s : State) (o : Origin), s.Reaches o 0x26 → o.cab = true → fieldLE (s.bstDesc none) 0 1 = 1 → s.testRefuse (s.bstDesc none)
    (testOf none (s.bstDesc none) s.now) = 0 → Does (.unitTest o none) s (fun t => (t.tests.getLast?).map (fun j => (j.op, j.cls,
    j.committed, j.total)) = some (1, fieldLE (s.bstDesc none) 1 1, 0, 100) ∧ t.drw = s.drw ∧ t.layers = s.layers ∧ t.flashA =
    s.flashA)) ∧
  (∀ (s : State) (o : Origin), s.Reaches o 0x26 → o.cab = true → fieldLE (s.bstDesc none) 0 1 = 2 → s.testRefuse (s.bstDesc none)
    (testOf none (s.bstDesc none) s.now) = 0 → Does (.unitRetire o none) s (fun t => (t.tests.getLast?).map (fun j => (j.op, j.cls,
    j.committed, j.total)) = some (2, fieldLE (s.bstDesc none) 1 1, 0, 1) ∧ t.drw = s.drw ∧ t.layers = s.layers ∧ t.flashA = s.flashA)) ∧
  (∀ (s : State) (o : Origin), s.Reaches o 0x26 → o.cab = true → fieldLE (s.bstDesc none) 0 1 = 3 → s.testRefuse (s.bstDesc none)
    (testOf none (s.bstDesc none) s.now) = 0 → Does (.memMarch o none) s (fun t => (t.tests.getLast?).map (fun j => (j.op, j.cls,
    j.committed, j.total)) = some (3, fieldLE (s.bstDesc none) 1 1, 0, s.memMib (fieldLE (s.bstDesc none) 1 1)) ∧ t.drw = s.drw ∧
    t.layers = s.layers ∧ t.flashA = s.flashA)) ∧
  (∀ (s : State) (o : Origin), s.Reaches o 0x26 → o.cab = true → fieldLE (s.bstDesc none) 0 1 = 4 → s.testRefuse (s.bstDesc none)
    (testOf none (s.bstDesc none) s.now) = 0 → Does (.dramTrain o none) s (fun t => (t.tests.getLast?).map (fun j => (j.op, j.cls,
    j.committed, j.total)) = some (4, fieldLE (s.bstDesc none) 1 1, 0, 18) ∧ t.drw = s.drw ∧ t.layers = s.layers ∧ t.flashA = s.flashA)) ∧
  (∀ (s : State) (o : Origin), s.Reaches o 0x26 → o.cab = true → fieldLE (s.bstDesc none) 0 1 = 1 → s.testRefuse (s.bstDesc none)
    (testOf none (s.bstDesc none) s.now) = 6 → fieldLE (s.bstDesc none) 8 8 = 0 → fieldLE (s.bstDesc none) 16 8 = 0 → Does (.unitTest o
    none) s (fun t => t.get F.BST_STATUS_REASON = 6 ∧ t.tests = s.tests ∧ s.PartsKept t [.adl, .cores])) ∧
  (∀ (s : State) (j : TestJob), s.tests = [j] → j.op = 1 → j.cls = 4 → j.host = none → j.statusAddr = 0 → j.progAddr = 0 → j.index < 8 →
    s.hapPhase j.index = 4 → j.fails = 0 → Does (.testDone 4 [] none) s (fun t => t.tests = [] ∧ t.hapPhase j.index = 0 ∧ s.PartsKept t
    [.tests, .hap, .cores])) ∧
  (∀ (s : State) (j : TestJob), s.tests = [j] → j.op = 2 → j.cls = 4 → j.host = none → j.statusAddr = 0 → j.progAddr = 0 → j.index < 8 →
    s.hapPhase j.index = 4 → Does (.testDone 4 [] none) s (fun t => t.tests = [] ∧ t.hapPhase j.index = 5 ∧ s.PartsKept t [.tests, .hap,
    .cores])) ∧
  (∀ (s : State) (n : Fin 7) (fails : List TestFail) (train : Option TrainRec) (j : TestJob), s.job n = some j → s.unitOut j = true →
    Does (.testDone n fails train) s (fun t => t.job n = none)) ∧
  (∀ (s : State) (n : Fin 7) (fails : List TestFail) (train : Option TrainRec) (j : TestJob), s.job n = some j → s.unitOut j = false →
    exec (.testDone n fails train) s = .next (s.unitEnter j)) ∧
  (∀ (s : State) (n : Fin 7) (fails : List TestFail) (train : Option TrainRec), s.job n = none → exec (.testDone n fails train) s =
    .next (s))

/-- A step takes the command at the front of the queue and runs it on the state with the queue's rest.
(spec/04_address_map_and_ordering.md, spec/95_what_each_step_holds.md) -/
def Obligations.StepRunsTheFrontCommand : Prop :=
  ∀ (c : Instr) (s : State) (q : List Instr), step { s with pending := c :: q } = exec c { s with pending := q }

/-- With no command waiting a step is one clock of the time base (the model's choice, log entry 1). (spec/20_power_clocks_time.md) -/
def Obligations.EmptyQueueIsOneClock : Prop :=
  (∀ (s : State), s.pending = [] → step s = .next s.idle) ∧
  (∀ (s : State), (∀ p, p < 4 → (s.pport p).leaving = none) → s.idle = s.stTick) ∧
  (∀ (s : State), s.stTick.now = s.now + 1 ∧ s.PartsKept s.stTick [.now, .pins, .pm]) ∧
  (∀ (s : State), s.pdOnB 1 = true → s.pm.slew = 0 → s.stTick.st = (s.st + 1) % 2 ^ 64) ∧
  (∀ (s : State), s.pdOnB 1 = true → s.pm.slewPhase = 1999 → 0 < s.pm.slew → s.stTick.st = (s.st + 2) % 2 ^ 64) ∧
  (∀ (s : State), s.pdOnB 1 = true → s.pm.slewPhase = 1999 → s.pm.slew < 0 → s.stTick.st = s.st % 2 ^ 64) ∧
  (∀ (s : State), s.pdOnB 1 = false → s.stTick.st = s.st)

/-- Every command, in every state, answers a next state; so does a step without one. (spec/04_address_map_and_ordering.md) -/
def Obligations.EveryStepGoesOn : Prop :=
  (∀ (c : Instr) (s : State), ∃ t, exec c s = .next t) ∧ (∀ (s : State), s.Goes)

/-- Every step keeps the one form of memory and registers: each byte and each register has one stored value.
(spec/04_address_map_and_ordering.md, spec/00_scope.md) -/
def Obligations.EveryStepKeepsTheCanonicalForm : Prop :=
  ∀ (s t : State), s.Canonical → step s = .next t → t.Canonical

/-- The state right after reset has the canonical form, waits for no command and lists no byte. (spec/03_startup_and_config_image.md) -/
def Obligations.ResetIsCanonical : Prop :=
  State.reset.Canonical ∧ State.reset.pending = [] ∧ State.reset.mem = [] ∧ State.reset.held = []

/-- After power-on reset every register holds the reset value of its table, and nothing runs. (spec/03_startup_and_config_image.md,
spec/09_layers_and_composition.md, spec/10_heads_and_scanout.md, spec/12_display_links.md, spec/13_plynlink.md,
spec/14_dram_controller.md, spec/18_control_cores_and_interrupts.md, spec/19_cabinet_world_and_lifecycle.md,
spec/20_power_clocks_time.md, spec/23_crc_units.md, spec/24_performance_counters.md) -/
def Obligations.ResetLeavesItsValues : Prop :=
  (∀ (f : Fld) (i : Nat), State.reset.get f i = f.rstv i) ∧
  State.reset.get F.CFG_FAIL_A_CAUSE = 0xFF ∧ State.reset.get F.CFG_FAIL_B_CAUSE = 0xFF ∧
  (∀ h, State.reset.get F.HDn_CTRL_PREFETCH_LINES h = 8) ∧ (∀ k, State.reset.get F.HDn_LOWN_OWNER k = 0x7F) ∧
  (∀ i, i < 1024 → State.reset.get F.HDn_LUT_VALUE i = 4 * i) ∧
  (∀ i, i < 9 → State.reset.get F.HDn_MTX_COEF i = if i % 4 = 0 then 0x1000 else 0) ∧
  (∀ h, State.reset.get F.HDn_PANEL_DUTY h = 1000) ∧ (∀ i, State.reset.get F.DMC_VREF_CTRL i = 0x40) ∧
  (∀ i, State.reset.get F.PLK_ROUTE_HOPS i = 0x3F) ∧ State.reset.get F.TIM_STATUS_STATE = 2 ∧
  State.reset.get F.TIM_CAL_RATIO = 0x773594000000 ∧ (∀ u, State.reset.get F.CRC_VAL_VAL u = 0xFFFFFFFF) ∧
  (∀ n, State.reset.get F.PMU_EVSEL_SUB n = 0xFF) ∧
  (∀ b, b < 64 → State.reset.cabOwned b = decide (b ∈ [1, 3, 4, 0x21, 0x27, 0x29])) ∧
  State.reset.phase = .off ∧ State.reset.pd = 0 ∧ State.reset.latches = [] ∧ State.reset.tls = [] ∧ State.reset.drw = []

/-- A read of the range just written by an access that the rules admit returns the bytes written, and no other byte changes.
(spec/04_address_map_and_ordering.md, spec/14_dram_controller.md) -/
def Obligations.MemoryReadsWhatWasWritten : Prop :=
  (∀ (s : State) (o : Origin) (blk blk' a n : Nat) (bs : List Byte), memArea a ∈ [.shelf, .hutchSram, .mram, .tcm 0, .tcm 1] →
    s.spanCheck o true a bs.length = 0 → s.spanCheck o false a bs.length = 0 →
    Does (.memoryAccess o blk a n (some bs)) s (fun t =>
      exec (.memoryAccess o blk' a bs.length none) t = .next (t.ret o a (leNat bs)) ∧
      (∀ c, c < a ∨ a + bs.length ≤ c → t.peek c = s.peek c) ∧ s.Kept t [.mem] [])) ∧
  (∀ (s : State) (o : Origin) (blk blk' a n : Nat) (bs : List Byte), memArea a = .dram → s.dmc.bad = [] → s.dmc.retrain = none → o.kind = .hutch →
    s.spanCheck o true a bs.length = 0 → s.spanCheck o false a bs.length = 0 →
    Does (.memoryAccess o blk a n (some bs)) s (fun t =>
      Does (.memoryAccess o blk' a bs.length none) t (fun u =>
        u.reads = s.reads ++ [⟨o, a, leNat bs⟩] ∧ u.mem = t.mem ∧ u.memRest = t.memRest ∧
        (∀ c, c < a ∨ a + bs.length ≤ c → u.peek c = s.peek c))))

/-- A claim returns the offered source of the context with the highest PRIO above THRESH, ties to the lower ID, and takes it into
service. (R591) -/
def Obligations.ClaimsTakeTheHighestPriority : Prop :=
  (∀ (s : State) (o : Origin) (c : IcuCtx) (n : Nat), s.blkOn 0x20 = true → s.behindHeld (icuAddr (0x2004 + 0x100 * c)) = false → s.cabOwned 0x20 = false ∨ o.cab = true → (c : Nat) < 4 ∨ o.cab = true →
    s.on F.ICU_GDIS_GDIS = false → n < 512 → s.on F.ICU_SRC_OFFERED n = true → s.get F.ICU_SRC_CTX n = c →
    s.get F.ICU_THRESH_THRESH c < s.get F.ICU_SRC_PRIO n →
    (∀ m, m < 512 → s.on F.ICU_SRC_OFFERED m = true → s.get F.ICU_SRC_CTX m = c →
      s.get F.ICU_SRC_PRIO m < s.get F.ICU_SRC_PRIO n ∨ (s.get F.ICU_SRC_PRIO m = s.get F.ICU_SRC_PRIO n ∧ n ≤ m)) →
    exec (.claim o c) s = .next ((s.icuTake n).ret o (icuAddr (0x2004 + 0x100 * c)) n)) ∧
  (∀ (s : State) (o : Origin) (c : IcuCtx), s.blkOn 0x20 = true → s.behindHeld (icuAddr (0x2004 + 0x100 * c)) = false → s.cabOwned 0x20 = false ∨ o.cab = true → (c : Nat) < 4 ∨ o.cab = true →
    s.on F.ICU_GDIS_GDIS = true ∨ (∀ m, m < 512 → s.on F.ICU_SRC_OFFERED m = true → s.get F.ICU_SRC_CTX m = c →
      s.get F.ICU_SRC_PRIO m ≤ s.get F.ICU_THRESH_THRESH c) →
    exec (.claim o c) s = .next (s.ret o (icuAddr (0x2004 + 0x100 * c)) 1023)) ∧
  (∀ (s : State) (n : Nat), n < 512 →
    (s.icuTake n).on F.ICU_SRC_INSERVICE n = true ∧ (s.icuTake n).get F.ICU_SRC_CTX n = s.get F.ICU_SRC_CTX n ∧
    (icuIsLevel n = false → (s.icuTake n).on F.ICU_SRC_PENDING n = false) ∧
    (icuIsLevel n = true → (s.icuTake n).get F.ICU_SRC_PENDING n = s.get F.ICU_SRC_PENDING n) ∧
    s.Kept (s.icuTake n) [] [F.ICU_SRC_OFFERED, F.ICU_SRC_INSERVICE, F.ICU_SRC_PENDING] ∧
    (∀ m, m < 512 → m ≠ n → (s.icuTake n).get F.ICU_SRC_OFFERED m = s.get F.ICU_SRC_OFFERED m ∧
      (s.icuTake n).get F.ICU_SRC_INSERVICE m = s.get F.ICU_SRC_INSERVICE m ∧
      (s.icuTake n).get F.ICU_SRC_PENDING m = s.get F.ICU_SRC_PENDING m))

/-- A completion ends the service of its source, which is offered anew while it is pending; any other ID only sets BAD_COMPLETE. (R592)
-/
def Obligations.CompletionsEndTheService : Prop :=
  (∀ (s : State) (o : Origin) (c : IcuCtx) (n : Nat), s.Reaches o 0x20 → (c : Nat) < 4 ∨ o.cab = true → n < 512 →
    s.on F.ICU_SRC_INSERVICE n = true → s.get F.ICU_SRC_CTX n = c →
    exec (.complete o c n) s = .next ((s.put F.ICU_SRC_INSERVICE n 0).icuTry n)) ∧
  (∀ (s : State) (n : Nat), n < 512 → s.on F.ICU_SRC_PENDING n = false →
    (s.put F.ICU_SRC_INSERVICE n 0).icuTry n = s.put F.ICU_SRC_INSERVICE n 0) ∧
  (∀ (s : State) (n t : Nat), n < 512 → s.on F.ICU_SRC_PENDING n = true → s.on F.ICU_GDIS_GDIS = false → s.get F.ICU_SRC_PRIO n ≠ 0 →
    s.pdOnB 1 = true → t < 6 → s.icuElig n t = true →
    ((s.put F.ICU_SRC_INSERVICE n 0).icuTry n).on F.ICU_SRC_OFFERED n = true ∧
    ((s.put F.ICU_SRC_INSERVICE n 0).icuTry n).on F.ICU_SRC_INSERVICE n = false) ∧
  (∀ (s : State) (o : Origin) (c : IcuCtx) (n : Nat), s.Reaches o 0x20 → (c : Nat) < 4 ∨ o.cab = true →
    512 ≤ n ∨ s.on F.ICU_SRC_INSERVICE n = false ∨ s.get F.ICU_SRC_CTX n ≠ c →
    exec (.complete o c n) s = .next (s.put F.ICU_STATUS_BAD_COMPLETE 0 1))

/-- A signal raises its timeline to the larger of its value and SIG_VALUE, and never one that is abandoned. (R213) -/
def Obligations.SignalsOnlyRaiseTimelines : Prop :=
  (∀ (s : State) (id v : Nat), (s.tl id).abandoned = false → (s.tlRaise id v).tl id = { s.tl id with value := max (s.tl id).value v }) ∧
  (∀ (s : State) (id v : Nat), v ≤ (s.tl id).value → (s.tlRaise id v).tl id = s.tl id) ∧
  (∀ (s : State) (id v : Nat), (s.tl id).abandoned = true → (s.tlRaise id v).tl id = s.tl id) ∧
  (∀ (s : State) (id v k : Nat), k ≠ id → (s.tlRaise id v).tl k = s.tl k) ∧
  (∀ (s : State) (id v : Nat), s.Kept (s.tlRaise id v) [.tls] [F.PLK_EXP_STATUS_COALESCED])

/-- CRC_CTRL applies POLY, then INIT loads VAL and clears COUNT, DONE and MATCH; POLY alone only cuts VAL to its new width. (R700) -/
def Obligations.CrcControlInitialises : Prop :=
  (∀ (s : State) (o : Origin) (u : Fin 4) (poly : Fin 4) (ie : Bool), s.Reaches o 0x24 →
    Does (.initCrc o u poly ie) s (fun t => t.get F.CRC_CTRL_POLY u = poly ∧ t.get F.CRC_COUNT_COUNT u = 0 ∧ t.get F.CRC_CTRL_DONE u = 0 ∧
      t.get F.CRC_CTRL_MATCH u = 0 ∧ t.get F.CRC_VAL_VAL u = [0xFFFFFFFF, 0xFFFFFFFF, 0xFFFF, 0].getD poly 0)) ∧
  (∀ (s : State) (u : Fin 4) (poly : Fin 4), s.blkOn 0x24 = true → s.held = [] → s.cabOwned 0x24 = false →
    Does (.registerWrite { kind := .hutch, cab := true } (crcAddr u 0) 4 poly) s (fun t => t.get F.CRC_CTRL_POLY u = poly ∧
      t.get F.CRC_VAL_VAL u = s.get F.CRC_VAL_VAL u % 2 ^ [32, 32, 16, 64].getD poly 0 ∧
      t.get F.CRC_COUNT_COUNT u = s.get F.CRC_COUNT_COUNT u ∧ t.get F.CRC_CTRL_DONE u = s.get F.CRC_CTRL_DONE u ∧
      t.get F.CRC_CTRL_MATCH u = s.get F.CRC_CTRL_MATCH u))

/-- An Open-world access to a Cabinet-owned block has no effect but its error and, if the register is audited, a refused entry.
(spec/19_cabinet_world_and_lifecycle.md, spec/04_address_map_and_ordering.md, spec/22_audit_log.md) -/
def Obligations.CabinetBlocksRefuseTheOpenWorld : Prop :=
  (∀ (s : State) (o : Origin) (c : IcuCtx) (n : Nat), o.cab = false → s.blkOn 0x20 = true → s.held = [] → s.cabOwned 0x20 = true →
    exec (.complete o c n) s = .next (s.accessError o 0 0x29 (icuAddr (0x2008 + 0x100 * c))) ∧
    exec (.claim o c) s = .next ((s.accessError o 0 0x29 (icuAddr (0x2004 + 0x100 * c))).ret o (icuAddr (0x2004 + 0x100 * c)) 0)) ∧
  (∀ (s : State) (o : Origin) (n : SrcId), o.cab = false → s.blkOn 0x20 = true → s.held = [] → s.cabOwned 0x20 = true →
    exec (.icuSet o n) s = .next (s.accessError o 0 0x29 (icuAddr 0x180))) ∧
  (∀ (s : State) (o : Origin) (v : Bool), o.cab = false → s.blkOn 0x20 = true → s.held = [] → s.cabOwned 0x20 = true →
    s.adl.buf.length ≤ 63 → s.committed = true →
    exec (.gdis o v) s = .next ((s.auditReg o (icuAddr 0) (s.get F.ICU_GDIS_GDIS % 2 ^ 32) (b2n v % 2 ^ 32) false true 4).accessError o 0 0x29 (icuAddr 0))) ∧
  (∀ (s : State) (o : Origin), o.cab = false → s.blkOn 1 = true → s.held = [] → s.cabOwned 1 = true →
    exec (.hutDbell o) s = .next (s.accessError o 0 0x29 0x00F000100200)) ∧
  (∀ (s : State) (o : Origin) (u poly : Fin 4) (ie : Bool), o.cab = false → s.blkOn 0x24 = true → s.held = [] → s.cabOwned 0x24 = true →
    exec (.initCrc o u poly ie) s = .next (s.accessError o 0 0x29 (crcAddr u 0))) ∧
  (∀ (s : State) (o : Origin) (u : Fin 4) (k : Fin 3) (v : Fin 4294967296), o.cab = false → s.blkOn 0x24 = true → s.held = [] → s.cabOwned 0x24 = true →
    exec (.feed o u k v) s = .next (s.accessError o 0 0x29 (crcAddr u (8 + 4 * k))))

/-- A register command that nothing stands in the way of has its effect, after its audit entry. (spec/04_address_map_and_ordering.md,
spec/19_cabinet_world_and_lifecycle.md, spec/22_audit_log.md) -/
def Obligations.RegisterCommandsTakeEffect : Prop :=
  (∀ (s : State) (o : Origin) (h : HeadId) (l : Fin 9) (owner : Fin 128) (slot : Fin 64), s.Admits o
    { addr := blkAddr (0x10 + h) (0x800 + 4 * l), blk := 0x10 + h, old := s.get F.HDn_LOWN_OWNER ((h : Nat) * 9 + l) + 128 * s.get F.HDn_LOWN_SLOT ((h : Nat) * 9 + l), new := (owner : Nat) + 128 * slot }
    → exec (.layerOwnerWrite o h l owner slot) s = .next ((s.entered o
    { addr := blkAddr (0x10 + h) (0x800 + 4 * l), blk := 0x10 + h, old := s.get F.HDn_LOWN_OWNER ((h : Nat) * 9 + l) + 128 * s.get F.HDn_LOWN_SLOT ((h : Nat) * 9 + l), new := (owner : Nat) + 128 * slot }).lownWrite
    o h l owner slot)) ∧
  (∀ (s : State) (o : Origin) (h : HeadId) (w : Fin 65536), s.Admits o
    { addr := blkAddr (0x10 + h) 0x910, blk := 0x10 + h, old := s.get F.HDn_SFLIP_WINDOWS h, new := w } → o.cab = true ∨ (w : Nat) =
    s.get F.HDn_SFLIP_WINDOWS h → exec (.safetyFlip o h w) s = .next ((s.entered o
    { addr := blkAddr (0x10 + h) 0x910, blk := 0x10 + h, old := s.get F.HDn_SFLIP_WINDOWS h, new := w }).sflipWrite h w)) ∧
  (∀ (s : State) (o : Origin) (h : HeadId), s.Admits o
    { addr := blkAddr (0x10 + h) 0x900, blk := 0x10 + h, old := s.get F.HDn_PIPE_MTX_EN h + 2 * s.get F.HDn_PIPE_LUT_EN h + 4 * s.get F.HDn_PIPE_DITHER_EN h + 8 * s.get F.HDn_PIPE_BANK h + 16 * s.get F.HDn_PIPE_SWAP h, new := s.get F.HDn_PIPE_MTX_EN h + 2 * s.get F.HDn_PIPE_LUT_EN h + 4 * s.get F.HDn_PIPE_DITHER_EN h + 8 * s.get F.HDn_PIPE_BANK h + 16 }
    → exec (.pipeSwapRequest o h) s = .next ((s.entered o
    { addr := blkAddr (0x10 + h) 0x900, blk := 0x10 + h, old := s.get F.HDn_PIPE_MTX_EN h + 2 * s.get F.HDn_PIPE_LUT_EN h + 4 * s.get F.HDn_PIPE_DITHER_EN h + 8 * s.get F.HDn_PIPE_BANK h + 16 * s.get F.HDn_PIPE_SWAP h, new := s.get F.HDn_PIPE_MTX_EN h + 2 * s.get F.HDn_PIPE_LUT_EN h + 4 * s.get F.HDn_PIPE_DITHER_EN h + 8 * s.get F.HDn_PIPE_BANK h + 16 }).swapRequest
    h)) ∧
  (∀ (s : State) (o : Origin) (h : HeadId), s.Admits o
    { addr := blkAddr (0x10 + h) 0, blk := 0x10 + h, old := s.ctrlWord h 0, new := s.ctrlWord h 1, img := 1 } → s.get F.HDn_CTRL_RUN h ≠
    1 → exec (.headStart o h) s = .next ((s.entered o
    { addr := blkAddr (0x10 + h) 0, blk := 0x10 + h, old := s.ctrlWord h 0, new := s.ctrlWord h 1, img := 1 }).headStart h false)) ∧
  (∀ (s : State) (o : Origin) (h : HeadId), s.Admits o
    { addr := blkAddr (0x10 + h) 0, blk := 0x10 + h, old := s.ctrlWord h 1, new := s.ctrlWord h 0, img := 1 } → s.get F.HDn_CTRL_RUN h ≠
    0 → exec (.headStop o h) s = .next ((s.entered o
    { addr := blkAddr (0x10 + h) 0, blk := 0x10 + h, old := s.ctrlWord h 1, new := s.ctrlWord h 0, img := 1 }).headStop h)) ∧
  (∀ (s : State) (o : Origin) (h : HeadId), s.Admits o
    { addr := blkAddr 0x18 (0x100 + 0x10 * h), blk := 0x18, old := s.get F.WIT_HCTRL_FORCE h + 4 * s.get F.WIT_HCTRL_RESTORE h, new := s.get F.WIT_HCTRL_FORCE h + 4 }
    → o.cab = true ∨ s.on F.WIT_HCTRL_RESTORE h = true → exec (.witnessRestore o h) s = .next ((s.entered o
    { addr := blkAddr 0x18 (0x100 + 0x10 * h), blk := 0x18, old := s.get F.WIT_HCTRL_FORCE h + 4 * s.get F.WIT_HCTRL_RESTORE h, new := s.get F.WIT_HCTRL_FORCE h + 4 }).put
    F.WIT_HCTRL_RESTORE h 1)) ∧
  (∀ (s : State) (o : Origin), s.Admits o { addr := blkAddr 0x18 0x30, blk := 0x18, new := 1, audited := false } → exec
    (.witnessEventPop o) s = .next (s.witPop)) ∧
  (∀ (s : State) (o : Origin) (h : HeadId) (w : Fin 4294967296), s.Admits o
    { addr := blkAddr (0x10 + h) 0x2020, blk := 0x10 + h, new := w } → exec (.sidebandRequest o h w) s = .next ((s.entered o
    { addr := blkAddr (0x10 + h) 0x2020, blk := 0x10 + h, new := w }).sbStart h ((s.entered o
    { addr := blkAddr (0x10 + h) 0x2020, blk := 0x10 + h, new := w }).sbOf h w))) ∧
  (∀ (s : State) (o : Origin) (p : PlkPort), s.Admits o
    { addr := plkAddr (0x100 + 0x40 * p), blk := 0x1C, old := s.get F.PLK_PORT_CTRL_EN p + 2 * s.get F.PLK_PORT_CTRL_NRZ_ONLY p, new := s.get F.PLK_PORT_CTRL_EN p + 2 * s.get F.PLK_PORT_CTRL_NRZ_ONLY p + 4 }
    → exec (.portRetrain o p) s = .next ((s.entered o
    { addr := plkAddr (0x100 + 0x40 * p), blk := 0x1C, old := s.get F.PLK_PORT_CTRL_EN p + 2 * s.get F.PLK_PORT_CTRL_NRZ_ONLY p, new := s.get F.PLK_PORT_CTRL_EN p + 2 * s.get F.PLK_PORT_CTRL_NRZ_ONLY p + 4 }).portRetrain
    p)) ∧
  (∀ (s : State) (o : Origin) (p : PlkPort), s.Admits o
    { addr := plkAddr (0x100 + 0x40 * p), blk := 0x1C, old := s.get F.PLK_PORT_CTRL_EN p + 2 * s.get F.PLK_PORT_CTRL_NRZ_ONLY p, new := 2 * s.get F.PLK_PORT_CTRL_NRZ_ONLY p, img := 1 }
    → exec (.portDisable o p) s = .next ((s.entered o
    { addr := plkAddr (0x100 + 0x40 * p), blk := 0x1C, old := s.get F.PLK_PORT_CTRL_EN p + 2 * s.get F.PLK_PORT_CTRL_NRZ_ONLY p, new := 2 * s.get F.PLK_PORT_CTRL_NRZ_ONLY p, img := 1 }).portDisable
    p)) ∧
  (∀ (s : State) (o : Origin) (k : Fin 64) (peer : Fin 16384) (win : Fin 32) (read write fw : Bool), s.Admits o
    { addr := plkAddr (0x2000 + 0x10 * k), blk := 0x1C, wide := true, old := s.regWord 92 k, new := ((peer : Nat) + win * 2 ^ 14 + b2n read * 2 ^ 19 + b2n write * 2 ^ 20 + 2 ^ 21 + b2n fw * 2 ^ 22 + (s.get F.PLK_AP_CTRL_STATE k * 2 ^ 23 + s.get F.PLK_AP_CTRL_SIZE_M1 k * 2 ^ 26)), img := s.regWord 92 k ^^^ ((peer : Nat) + win * 2 ^ 14 + b2n read * 2 ^ 19 + b2n write * 2 ^ 20 + 2 ^ 21 + b2n fw * 2 ^ 22 + (s.get F.PLK_AP_CTRL_STATE k * 2 ^ 23 + s.get F.PLK_AP_CTRL_SIZE_M1 k * 2 ^ 26)) }
    → o.cab = true → exec (.apertureEnable o k peer win read write fw) s = .next ((((((((s.entered o
    { addr := plkAddr (0x2000 + 0x10 * k), blk := 0x1C, wide := true, old := s.regWord 92 k, new := ((peer : Nat) + win * 2 ^ 14 + b2n read * 2 ^ 19 + b2n write * 2 ^ 20 + 2 ^ 21 + b2n fw * 2 ^ 22 + (s.get F.PLK_AP_CTRL_STATE k * 2 ^ 23 + s.get F.PLK_AP_CTRL_SIZE_M1 k * 2 ^ 26)), img := s.regWord 92 k ^^^ ((peer : Nat) + win * 2 ^ 14 + b2n read * 2 ^ 19 + b2n write * 2 ^ 20 + 2 ^ 21 + b2n fw * 2 ^ 22 + (s.get F.PLK_AP_CTRL_STATE k * 2 ^ 23 + s.get F.PLK_AP_CTRL_SIZE_M1 k * 2 ^ 26)) }).putImg
    F.PLK_AP_CTRL_PEER k peer).putImg F.PLK_AP_CTRL_WIN k win).putImg F.PLK_AP_CTRL_READ k (b2n read)).putImg F.PLK_AP_CTRL_WRITE k (b2n
    write)).putImg F.PLK_AP_CTRL_EN k 1).putImg F.PLK_AP_CTRL_FW k (b2n fw)).apWrite k)) ∧
  (∀ (s : State) (o : Origin) (w : Fin 32) (sizeM1 : Fin 1048576) (peer : Fin 16384) (any read write en : Bool), s.Admits o
    { addr := plkAddr (0x1008 + 0x10 * w), blk := 0x1C, wide := true, old := s.regWord 91 w, new := ((sizeM1 : Nat) + peer * 2 ^ 20 + b2n any * 2 ^ 34 + b2n read * 2 ^ 35 + b2n write * 2 ^ 36 + b2n en * 2 ^ 37 + s.get F.PLK_WIN_CTRL_SESSIONS w * 2 ^ 38), img := s.regWord 91 w ^^^ ((sizeM1 : Nat) + peer * 2 ^ 20 + b2n any * 2 ^ 34 + b2n read * 2 ^ 35 + b2n write * 2 ^ 36 + b2n en * 2 ^ 37 + s.get F.PLK_WIN_CTRL_SESSIONS w * 2 ^ 38) }
    → o.cab = true → s.regWord 91 w ≠ ((sizeM1 : Nat) + peer * 2 ^ 20 + b2n any * 2 ^ 34 + b2n read * 2 ^ 35 + b2n write * 2 ^ 36 + b2n
    en * 2 ^ 37 + s.get F.PLK_WIN_CTRL_SESSIONS w * 2 ^ 38) → exec (.windowClose o w sizeM1 peer any read write en) s = .next
    ((((((((s.entered o
    { addr := plkAddr (0x1008 + 0x10 * w), blk := 0x1C, wide := true, old := s.regWord 91 w, new := ((sizeM1 : Nat) + peer * 2 ^ 20 + b2n any * 2 ^ 34 + b2n read * 2 ^ 35 + b2n write * 2 ^ 36 + b2n en * 2 ^ 37 + s.get F.PLK_WIN_CTRL_SESSIONS w * 2 ^ 38), img := s.regWord 91 w ^^^ ((sizeM1 : Nat) + peer * 2 ^ 20 + b2n any * 2 ^ 34 + b2n read * 2 ^ 35 + b2n write * 2 ^ 36 + b2n en * 2 ^ 37 + s.get F.PLK_WIN_CTRL_SESSIONS w * 2 ^ 38) }).putImg
    F.PLK_WIN_CTRL_SIZE_M1 w sizeM1).putImg F.PLK_WIN_CTRL_PEER w peer).putImg F.PLK_WIN_CTRL_ANY_PEER w (b2n any)).putImg
    F.PLK_WIN_CTRL_READ w (b2n read)).putImg F.PLK_WIN_CTRL_WRITE w (b2n write)).putImg F.PLK_WIN_CTRL_EN w (b2n en)).windowChanged w)) ∧
  (∀ (s : State) (o : Origin), s.Admits o { addr := dmcAddr 0x300, blk := 0x19, new := 2 ^ 13 } → exec (.retrainNow o) s = .next
    ((s.entered o { addr := dmcAddr 0x300, blk := 0x19, new := 2 ^ 13 }).retrainAll)) ∧
  (∀ (s : State) (o : Origin) (c : TrnCfg), s.Admits o { addr := dmcAddr 0x1000, blk := 0x19, audited := false } → s.trnAllowed o = true
    → c.pattern < 5 → s.on F.DMC_TRN_CTRL_BUSY = false → s.dramServes = true → exec (.writePat o c) s = .next (s.trnGo 1 c)) ∧
  (∀ (s : State) (o : Origin) (c : TrnCfg), s.Admits o { addr := dmcAddr 0x1000, blk := 0x19, audited := false } → s.trnAllowed o = true
    → c.pattern < 5 → s.on F.DMC_TRN_CTRL_BUSY = false → s.dramServes = true → exec (.readCmp o c) s = .next (s.trnGo 2 c)) ∧
  (∀ (s : State) (o : Origin) (c : TrnCfg), s.Admits o { addr := dmcAddr 0x1000, blk := 0x19, audited := false } → s.trnAllowed o = true
    → c.pattern < 5 → s.on F.DMC_TRN_CTRL_BUSY = false → s.dramServes = true → exec (.loop o c) s = .next (s.trnGo 3 c)) ∧
  (∀ (s : State) (o : Origin) (c : TrnCfg), s.Admits o { addr := dmcAddr 0x1000, blk := 0x19, audited := false } → s.trnAllowed o = true
    → c.pattern < 5 → s.on F.DMC_TRN_CTRL_BUSY = false → s.dramServes = true → exec (.centre o c) s = .next (s.trnGo 4 c)) ∧
  (∀ (s : State) (o : Origin) (ch : ChanId) (code : Fin 128), s.Admits o
    { addr := dmcAddr (0x2048 + 0x80 * ch), blk := 0x19, audited := false } → s.trnAllowed o = true → exec (.vrefWrite o ch code) s =
    .next ((s.put F.DMC_VREF_DRAM ch code).modDmc (fun m => { m with vrefDev := tset 0x40 m.vrefDev ch code }))) ∧
  (∀ (s : State) (o : Origin) (p : PanelId), s.Admits o
    { addr := tchAddr (0x128 + 0x40 * p), blk := 0x1D, old := 2 * s.get F.TCH_PNL_CMD_EVT_EN p, new := 2 * s.get F.TCH_PNL_CMD_EVT_EN p + 1 }
    → exec (.rebase o p) s = .next ((s.entered o
    { addr := tchAddr (0x128 + 0x40 * p), blk := 0x1D, old := 2 * s.get F.TCH_PNL_CMD_EVT_EN p, new := 2 * s.get F.TCH_PNL_CMD_EVT_EN p + 1 }).panelRebase
    p)) ∧
  (∀ (s : State) (o : Origin), s.Admits o { addr := tchAddr 0x820, blk := 0x1D, audited := false } → exec (.touchFwqPop o) s = .next
    (s.fwqPop)) ∧
  (∀ (s : State) (o : Origin) (c : HapId) (i : Fin 64), s.Admits o { addr := hapAddr 0x10, blk := 0x1E, audited := false } → exec
    (.hapticTrigger o c i) s = .next (s.hapTrigger c i)) ∧
  (∀ (s : State) (o : Origin) (c : HapId), s.Admits o { addr := hapAddr (0x100 + 0x20 * c), blk := 0x1E, new := 2 ^ 47, wide := true } →
    exec (.clr o c) s = .next ((s.entered o { addr := hapAddr (0x100 + 0x20 * c), blk := 0x1E, new := 2 ^ 47, wide := true }).hapClr c)) ∧
  (∀ (s : State) (o : Origin) (mask : Fin 4294967296), s.Admits o
    { addr := audAddr 0xE00, blk := 0x1F, old := s.get F.AUD_BQ_SWAP_MASK, new := mask } → o.cab = true → exec (.bankSwap o mask) s =
    .next (((List.range 32).filter (fun b => bit mask b)).foldl (fun (u : State) b => u.putBit F.AUD_BQ_SWAP_MASK 0 b true) (s.entered o
    { addr := audAddr 0xE00, blk := 0x1F, old := s.get F.AUD_BQ_SWAP_MASK, new := mask }))) ∧
  (∀ (s : State) (o : Origin) (v : Fin 8), s.Admits o
    { addr := audAddr (0xC00 + 0x10 * v), blk := 0x1F, wide := true, old := s.regWord 145 v, new := s.regWord 145 v + 2 ^ 42 } → o.cab =
    true → exec (.play o v) s = .next ((s.entered o
    { addr := audAddr (0xC00 + 0x10 * v), blk := 0x1F, wide := true, old := s.regWord 145 v, new := s.regWord 145 v + 2 ^ 42 }).voicePlay
    v)) ∧
  (∀ (s : State) (o : Origin) (v : Fin 8), s.Admits o
    { addr := audAddr (0xC00 + 0x10 * v), blk := 0x1F, wide := true, old := s.regWord 145 v, new := s.regWord 145 v + 2 ^ 43 } → o.cab =
    true → exec (.stop o v) s = .next ((s.entered o
    { addr := audAddr (0xC00 + 0x10 * v), blk := 0x1F, wide := true, old := s.regWord 145 v, new := s.regWord 145 v + 2 ^ 43 }).voiceStop
    v)) ∧
  (∀ (s : State) (o : Origin) (c : IcuCtx) (n : Nat), s.Admits o
    { addr := icuAddr (0x2008 + 0x100 * c), blk := 0x20, new := n, audited := false } → exec (.complete o c n) s = .next
    (s.completeWrite o c n)) ∧
  (∀ (s : State) (o : Origin) (n : SrcId), s.Admits o { addr := icuAddr 0x180, blk := 0x20, new := n, audited := false } → exec (.icuSet
    o n) s = .next (s.icuSetWrite o n)) ∧
  (∀ (s : State) (o : Origin) (v : Bool), s.Admits o { addr := icuAddr 0, blk := 0x20, old := s.get F.ICU_GDIS_GDIS, new := b2n v } →
    o.cab = true → exec (.gdis o v) s = .next ((s.entered o
    { addr := icuAddr 0, blk := 0x20, old := s.get F.ICU_GDIS_GDIS, new := b2n v }).gdisEffect v)) ∧
  (∀ (s : State) (o : Origin) (n : Target), s.Admits o
    { addr := if (n : Nat) < 4 then 0x00F000200100 + 0x10 * n else 0x00F000300000 + 0x100000 * (n - 4), blk := blkOfTarget n, new := 2, audited := false }
    → (n : Nat) < 4 ∨ o.cab = true → exec (.coreWake n (some o)) s = .next (s.coreWakeEffect n)) ∧
  (∀ (s : State) (o : Origin), s.Admits o { addr := 0x00F000100200, blk := 1, new := 1, audited := false } → exec (.hutDbell o) s =
    .next (s.dbellWrite o)) ∧
  (∀ (s : State) (o : Origin) (n : Fin 8), s.Admits o
    { addr := cabAddr 0, blk := 0x21, old := s.get F.CAB_LC_STATE, new := (n : Nat) * 256, more := if (n : Nat) = 0 then 0 else 1 } → (n
    : Nat) ≠ 0 → exec (.lifeCycleRequest o n) s = .next ((s.entered o
    { addr := cabAddr 0, blk := 0x21, old := s.get F.CAB_LC_STATE, new := (n : Nat) * 256, more := if (n : Nat) = 0 then 0 else 1 }).lcRequest
    o n)) ∧
  (∀ (s : State) (o : Origin) (v : Fin 128), s.Admits o { addr := cabAddr 8, blk := 0x21, new := (v : Nat) * 2 ^ 16 } → (v : Nat) ≠ 0 →
    exec (.raiseTo o v) s = .next ((s.entered o { addr := cabAddr 8, blk := 0x21, new := (v : Nat) * 2 ^ 16 }).raiseTo v)) ∧
  (∀ (s : State) (o : Origin) (mask : Fin 16), s.Admits o { addr := cabAddr 8, blk := 0x21, new := (mask : Nat) * 2 ^ 23 } → (mask :
    Nat) ≠ 0 → exec (.revoke o mask) s = .next ((s.entered o { addr := cabAddr 8, blk := 0x21, new := (mask : Nat) * 2 ^ 23 }).revoke
    mask)) ∧
  (∀ (s : State) (o : Origin) (n : Fin 8), s.Admits o { addr := 0x00F002200000, blk := 0x22, new := n } → s.requestReason o n = 0 → exec
    (.powerRequest o n) s = .next ((s.entered o { addr := 0x00F002200000, blk := 0x22, new := n }).powerRequest o n)) ∧
  (∀ (s : State) (o : Origin) (m : Fin 65536), s.Admits o
    { addr := 0x00F002200018, blk := 0x22, old := s.get F.PWR_PADREL_HELD, new := m } → exec (.padRelease o m) s = .next ((s.entered o
    { addr := 0x00F002200018, blk := 0x22, old := s.get F.PWR_PADREL_HELD, new := m }).padRelease m)) ∧
  (∀ (s : State) (o : Origin) (v : Nat), s.Admits o { addr := 0x00F0005A0200, blk := 5, new := v, wide := true, free := true } → exec
    (.swrep o v) s = .next ((s.entered o { addr := 0x00F0005A0200, blk := 5, new := v, wide := true, free := true }).swrepEffect o v)) ∧
  (∀ (s : State) (o : Origin) (start : Fin 65536) (seq : Fin 4294967296), s.Admits o
    { addr := 0x00F002300018, blk := 0x23, old := s.auditMark, new := auditPos start seq, wide := true } → o.cab = true → exec (.adlMark
    o start seq) s = .next ((s.entered o
    { addr := 0x00F002300018, blk := 0x23, old := s.auditMark, new := auditPos start seq, wide := true }).markTo start seq)) ∧
  (∀ (s : State) (o : Origin) (u poly : Fin 4) (ie : Bool), s.Admits o { addr := crcAddr u 0, blk := 0x24, audited := false } → exec
    (.initCrc o u poly ie) s = .next (s.crcCtrl u poly true ie false)) ∧
  (∀ (s : State) (o : Origin) (u : Fin 4) (k : Fin 3) (v : Fin 4294967296), s.Admits o
    { addr := crcAddr u (8 + 4 * k), blk := 0x24, audited := false } → exec (.feed o u k v) s = .next (s.crcFeed u (2 ^ (k : Nat)) v)) ∧
  (∀ (s : State) (o : Origin) (a : Nat) (frz : Bool), s.Admits o
    { addr := pmuAddr 8, blk := 0x25, audited := false, wide := true, new := a } → exec (.arm o a frz) s = .next (s.pmuArm o a frz)) ∧
  (∀ (s : State) (o : Origin), s.Admits o { addr := bstAddr 0x20, blk := 0x26, new := 1 } → o.cab = true → fieldLE (s.bstDesc none) 0 1
    ≠ 2 ∧ fieldLE (s.bstDesc none) 0 1 ≠ 3 ∧ fieldLE (s.bstDesc none) 0 1 ≠ 4 → exec (.unitTest o none) s = .next ((s.entered o
    { addr := bstAddr 0x20, blk := 0x26, new := 1 }).bstGo none)) ∧
  (∀ (s : State) (o : Origin) (p : PortId), s.Admits o { addr := 0x00F001A00420 + 0x100000 * p, blk := 0x1A + p, new := 1 } → fieldLE
    (s.bstDesc (some p)) 0 1 ≠ 2 ∧ fieldLE (s.bstDesc (some p)) 0 1 ≠ 3 ∧ fieldLE (s.bstDesc (some p)) 0 1 ≠ 4 → exec (.unitTest o (some
    p)) s = .next ((s.entered o { addr := 0x00F001A00420 + 0x100000 * p, blk := 0x1A + p, new := 1 }).bstGo (some p))) ∧
  (∀ (s : State) (o : Origin), s.Admits o { addr := bstAddr 0x20, blk := 0x26, new := 1 } → o.cab = true → fieldLE (s.bstDesc none) 0 1
    = 2 → exec (.unitRetire o none) s = .next ((s.entered o { addr := bstAddr 0x20, blk := 0x26, new := 1 }).bstGo none)) ∧
  (∀ (s : State) (o : Origin) (p : PortId), s.Admits o { addr := 0x00F001A00420 + 0x100000 * p, blk := 0x1A + p, new := 1 } → fieldLE
    (s.bstDesc (some p)) 0 1 = 2 → exec (.unitRetire o (some p)) s = .next ((s.entered o
    { addr := 0x00F001A00420 + 0x100000 * p, blk := 0x1A + p, new := 1 }).bstGo (some p))) ∧
  (∀ (s : State) (o : Origin), s.Admits o { addr := bstAddr 0x20, blk := 0x26, new := 1 } → o.cab = true → fieldLE (s.bstDesc none) 0 1
    = 3 → exec (.memMarch o none) s = .next ((s.entered o { addr := bstAddr 0x20, blk := 0x26, new := 1 }).bstGo none)) ∧
  (∀ (s : State) (o : Origin) (p : PortId), s.Admits o { addr := 0x00F001A00420 + 0x100000 * p, blk := 0x1A + p, new := 1 } → fieldLE
    (s.bstDesc (some p)) 0 1 = 3 → exec (.memMarch o (some p)) s = .next ((s.entered o
    { addr := 0x00F001A00420 + 0x100000 * p, blk := 0x1A + p, new := 1 }).bstGo (some p))) ∧
  (∀ (s : State) (o : Origin), s.Admits o { addr := bstAddr 0x20, blk := 0x26, new := 1 } → o.cab = true → fieldLE (s.bstDesc none) 0 1
    = 4 → exec (.dramTrain o none) s = .next ((s.entered o { addr := bstAddr 0x20, blk := 0x26, new := 1 }).bstGo none)) ∧
  (∀ (s : State) (o : Origin) (p : PortId), s.Admits o { addr := 0x00F001A00420 + 0x100000 * p, blk := 0x1A + p, new := 1 } → fieldLE
    (s.bstDesc (some p)) 0 1 = 4 → exec (.dramTrain o (some p)) s = .next ((s.entered o
    { addr := 0x00F001A00420 + 0x100000 * p, blk := 0x1A + p, new := 1 }).bstGo (some p))) ∧
  (∀ (s : State) (o : Origin) (c : IcuCtx), s.blkOn 0x20 = true → s.behindHeld (icuAddr (0x2004 + 0x100 * c)) = false → s.cabOwned 0x20
    = false ∨ o.cab = true → exec (.claim o c) s = .next ((s.claimRead o c).1.ret o (icuAddr (0x2004 + 0x100 * c)) (s.claimRead o c).2)) ∧
  (∀ (s : State) (o : Origin), s.blkOn 1 = true → s.behindHeld 0x00F000100110 = false → s.cabOwned 1 = false ∨ o.cab = true → exec
    (.hutIcuClaim o) s = .next ((s.hutClaimRead o).1.ret o 0x00F000100110 (s.hutClaimRead o).2)) ∧
  (∀ (s : State) (o : Origin) (m : Fin 24), s.blkOn 0x25 = true → s.behindHeld (pmuAddr (0x4008 + 0x20 * m)) = false → s.cabOwned 0x25 =
    false ∨ o.cab = true → exec (.bwRead o m) s = .next ((s.bwRead o m).1.ret o (pmuAddr (0x4008 + 0x20 * m)) (s.bwRead o m).2))
end

