-- ==== Sys2Proof/Laws/Maps.lean ====
section
/-! SUPPORT. Sparse tables: reading after a change, and the canonical form. -/

namespace Sys2Proof.Machine

variable {β : Type}

theorem tget_tinsert_same (d : β) (m : List (Nat × β)) (k : Nat) (v : β) : tget d (tinsert m k v) k = v := by
  induction m with
  | nil => simp [tinsert, tget]
  | cons p m ih =>
    obtain ⟨j, w⟩ := p
    simp only [tinsert]
    split
    · simp [tget]
    · split
      · simp [tget]
      · rename_i h
        simp [tget, ih, Ne.symm h]

theorem tget_tinsert_ne (d : β) (m : List (Nat × β)) {k k' : Nat} (h : k' ≠ k) (v : β) :
    tget d (tinsert m k v) k' = tget d m k' := by
  induction m with
  | nil => simp [tinsert, tget, Ne.symm h]
  | cons p m ih =>
    obtain ⟨j, w⟩ := p
    simp only [tinsert]
    split
    · simp [tget, Ne.symm h]
    · split
      · rename_i e
        subst e
        simp [tget, Ne.symm h]
      · simp [tget, ih]

theorem tget_terase_same (d : β) (m : List (Nat × β)) (k : Nat) : tget d (terase m k) k = d := by
  induction m with
  | nil => rfl
  | cons p m ih =>
    obtain ⟨j, w⟩ := p
    by_cases e : j = k
    · simpa [terase, e] using ih
    · simpa [terase, List.filter_cons, e, tget] using ih

theorem tget_terase_ne (d : β) (m : List (Nat × β)) {k k' : Nat} (h : k' ≠ k) : tget d (terase m k) k' = tget d m k' := by
  induction m with
  | nil => rfl
  | cons p m ih =>
    obtain ⟨j, w⟩ := p
    by_cases e : j = k
    · subst e
      simpa [terase, tget, Ne.symm h] using ih
    · by_cases e' : j = k'
      · subst e'
        simp [terase, h, tget]
      · simpa [terase, List.filter_cons, e, tget, e'] using ih

/-- A key reads the value it was set to. -/
theorem tget_tset_same [DecidableEq β] (d : β) (m : List (Nat × β)) (k : Nat) (v : β) : tget d (tset d m k v) k = v := by
  unfold tset
  split
  · rename_i e
    rw [tget_terase_same, e]
  · exact tget_tinsert_same d m k v

/-- Setting a key leaves every other key, whatever default it reads with. -/
theorem tget_tset_ne [DecidableEq β] (d d' : β) (m : List (Nat × β)) {k k' : Nat} (h : k' ≠ k) (v : β) :
    tget d' (tset d m k v) k' = tget d' m k' := by
  unfold tset
  split
  · exact tget_terase_ne d' m h
  · exact tget_tinsert_ne d' m h v

theorem all_tinsert {P : Nat × β → Bool} (m : List (Nat × β)) (k : Nat) (v : β) (hm : m.all P = true) (hk : P (k, v) = true) :
    (tinsert m k v).all P = true := by
  induction m with
  | nil => simpa [tinsert] using hk
  | cons p m ih =>
    obtain ⟨j, w⟩ := p
    simp only [List.all_cons, Bool.and_eq_true] at hm
    simp only [tinsert]
    split
    · simp [hk, hm]
    · split
      · simp [hk, hm.2]
      · simp [hm.1, ih hm.2]

theorem tsorted_tinsert (m : List (Nat × β)) (k : Nat) (v : β) (h : tsorted m = true) : tsorted (tinsert m k v) = true := by
  induction m with
  | nil => simp [tinsert, tsorted]
  | cons p m ih =>
    obtain ⟨j, w⟩ := p
    simp only [tsorted, Bool.and_eq_true] at h
    simp only [tinsert]
    split
    · rename_i e
      have hm : m.all (fun p => decide (k < p.1)) = true := by
        rw [List.all_eq_true] at h ⊢
        intro x hx
        have := h.1 x hx
        simp only [decide_eq_true_eq] at this ⊢
        omega
      simp [tsorted, e, h.2, h.1, hm]
    · split
      · rename_i e
        subst e
        simp [tsorted, h.1, h.2]
      · have hk : j < k := by omega
        simp [tsorted, ih h.2, all_tinsert m k v h.1 (by simpa using hk)]

theorem tsorted_filter (m : List (Nat × β)) (p : Nat × β → Bool) (h : tsorted m = true) : tsorted (m.filter p) = true := by
  induction m with
  | nil => rfl
  | cons q m ih =>
    obtain ⟨j, w⟩ := q
    simp only [tsorted, Bool.and_eq_true] at h
    by_cases e : p (j, w) = true
    · simp only [List.filter_cons_of_pos e, tsorted, Bool.and_eq_true]
      refine ⟨?_, ih h.2⟩
      rw [List.all_eq_true] at h ⊢
      exact fun x hx => h.1 x (List.mem_of_mem_filter hx)
    · simpa [List.filter_cons_of_neg e] using ih h.2

theorem tsorted_tset [DecidableEq β] (d : β) (m : List (Nat × β)) (k : Nat) (v : β) (h : tsorted m = true) :
    tsorted (tset d m k v) = true := by
  unfold tset
  split
  · exact tsorted_filter m _ h
  · exact tsorted_tinsert m k v h

theorem tsorted_foldl_tset [DecidableEq β] (d : β) (xs m : List (Nat × β)) (h : tsorted m = true) :
    tsorted (xs.foldl (fun m p => tset d m p.1 p.2) m) = true := by
  induction xs generalizing m with
  | nil => exact h
  | cons x xs ih => exact ih _ (tsorted_tset d m x.1 x.2 h)

theorem tsorted_foldl_tinsert (xs m : List (Nat × β)) (h : tsorted m = true) :
    tsorted (xs.foldl (fun m (p : Nat × β) => tinsert m p.1 p.2) m) = true := by
  induction xs generalizing m with
  | nil => exact h
  | cons x xs ih => exact ih _ (tsorted_tinsert m x.1 x.2 h)

end Sys2Proof.Machine
end

