-- ==== Sys2Proof/Laws/State.lean ====
section
/-! SUPPORT. What the updates of the state leave alone, and reading a register field after a put. -/

namespace Sys2Proof.Machine

@[simp] theorem put_pending (s : State) (f : Fld) (i v : Nat) : (s.put f i v).pending = s.pending := rfl
@[simp] theorem put_shadow (s : State) (f : Fld) (i v : Nat) : (s.put f i v).shadow = s.shadow := rfl
@[simp] theorem put_mem (s : State) (f : Fld) (i v : Nat) : (s.put f i v).mem = s.mem := rfl
@[simp] theorem put_memRest (s : State) (f : Fld) (i v : Nat) : (s.put f i v).memRest = s.memRest := rfl
@[simp] theorem put_now (s : State) (f : Fld) (i v : Nat) : (s.put f i v).now = s.now := rfl
@[simp] theorem put_freeCtr (s : State) (f : Fld) (i v : Nat) : (s.put f i v).freeCtr = s.freeCtr := rfl
@[simp] theorem put_phase (s : State) (f : Fld) (i v : Nat) : (s.put f i v).phase = s.phase := rfl
@[simp] theorem put_pd (s : State) (f : Fld) (i v : Nat) : (s.put f i v).pd = s.pd := rfl
@[simp] theorem put_pins (s : State) (f : Fld) (i v : Nat) : (s.put f i v).pins = s.pins := rfl
@[simp] theorem put_sup (s : State) (f : Fld) (i v : Nat) : (s.put f i v).sup = s.sup := rfl
@[simp] theorem put_boot (s : State) (f : Fld) (i v : Nat) : (s.put f i v).boot = s.boot := rfl
@[simp] theorem put_nv (s : State) (f : Fld) (i v : Nat) : (s.put f i v).nv = s.nv := rfl
@[simp] theorem put_fuses (s : State) (f : Fld) (i v : Nat) : (s.put f i v).fuses = s.fuses := rfl
@[simp] theorem put_flashA (s : State) (f : Fld) (i v : Nat) : (s.put f i v).flashA = s.flashA := rfl
@[simp] theorem put_flashB (s : State) (f : Fld) (i v : Nat) : (s.put f i v).flashB = s.flashB := rfl
@[simp] theorem put_latches (s : State) (f : Fld) (i v : Nat) : (s.put f i v).latches = s.latches := rfl
@[simp] theorem put_held (s : State) (f : Fld) (i v : Nat) : (s.put f i v).held = s.held := rfl
@[simp] theorem put_hostOut (s : State) (f : Fld) (i v : Nat) : (s.put f i v).hostOut = s.hostOut := rfl
@[simp] theorem put_reads (s : State) (f : Fld) (i v : Nat) : (s.put f i v).reads = s.reads := rfl
@[simp] theorem put_adl (s : State) (f : Fld) (i v : Nat) : (s.put f i v).adl = s.adl := rfl
@[simp] theorem put_err (s : State) (f : Fld) (i v : Nat) : (s.put f i v).err = s.err := rfl
@[simp] theorem put_pm (s : State) (f : Fld) (i v : Nat) : (s.put f i v).pm = s.pm := rfl
@[simp] theorem put_dbg (s : State) (f : Fld) (i v : Nat) : (s.put f i v).dbg = s.dbg := rfl
@[simp] theorem put_cores (s : State) (f : Fld) (i v : Nat) : (s.put f i v).cores = s.cores := rfl
@[simp] theorem put_templates (s : State) (f : Fld) (i v : Nat) : (s.put f i v).templates = s.templates := rfl
@[simp] theorem put_mutables (s : State) (f : Fld) (i v : Nat) : (s.put f i v).mutables = s.mutables := rfl
@[simp] theorem put_ports (s : State) (f : Fld) (i v : Nat) : (s.put f i v).ports = s.ports := rfl
@[simp] theorem put_drw (s : State) (f : Fld) (i v : Nat) : (s.put f i v).drw = s.drw := rfl
@[simp] theorem put_tls (s : State) (f : Fld) (i v : Nat) : (s.put f i v).tls = s.tls := rfl
@[simp] theorem put_jnl (s : State) (f : Fld) (i v : Nat) : (s.put f i v).jnl = s.jnl := rfl
@[simp] theorem put_layers (s : State) (f : Fld) (i v : Nat) : (s.put f i v).layers = s.layers := rfl
@[simp] theorem put_flipCtr (s : State) (f : Fld) (i v : Nat) : (s.put f i v).flipCtr = s.flipCtr := rfl
@[simp] theorem put_heads (s : State) (f : Fld) (i v : Nat) : (s.put f i v).heads = s.heads := rfl
@[simp] theorem put_dps (s : State) (f : Fld) (i v : Nat) : (s.put f i v).dps = s.dps := rfl
@[simp] theorem put_wit (s : State) (f : Fld) (i v : Nat) : (s.put f i v).wit = s.wit := rfl
@[simp] theorem put_shelf (s : State) (f : Fld) (i v : Nat) : (s.put f i v).shelf = s.shelf := rfl
@[simp] theorem put_tell (s : State) (f : Fld) (i v : Nat) : (s.put f i v).tell = s.tell := rfl
@[simp] theorem put_gpu (s : State) (f : Fld) (i v : Nat) : (s.put f i v).gpu = s.gpu := rfl
@[simp] theorem put_dmc (s : State) (f : Fld) (i v : Nat) : (s.put f i v).dmc = s.dmc := rfl
@[simp] theorem put_stalled (s : State) (f : Fld) (i v : Nat) : (s.put f i v).stalled = s.stalled := rfl
@[simp] theorem put_plk (s : State) (f : Fld) (i v : Nat) : (s.put f i v).plk = s.plk := rfl
@[simp] theorem put_hap (s : State) (f : Fld) (i v : Nat) : (s.put f i v).hap = s.hap := rfl
@[simp] theorem put_tch (s : State) (f : Fld) (i v : Nat) : (s.put f i v).tch = s.tch := rfl
@[simp] theorem put_aud (s : State) (f : Fld) (i v : Nat) : (s.put f i v).aud = s.aud := rfl
@[simp] theorem put_pmu (s : State) (f : Fld) (i v : Nat) : (s.put f i v).pmu = s.pmu := rfl
@[simp] theorem put_tests (s : State) (f : Fld) (i v : Nat) : (s.put f i v).tests = s.tests := rfl

/-! ### Register fields -/

/-- Keys of two elements of register fields differ where the fields do. -/
theorem key_ne_of_num {f g : Fld} (h : g.num ≠ f.num) (i j : Nat) : g.key j ≠ f.key i := by
  unfold Fld.key
  have hi : i % 2 ^ 20 < 2 ^ 20 := Nat.mod_lt _ (by decide)
  have hj : j % 2 ^ 20 < 2 ^ 20 := Nat.mod_lt _ (by decide)
  omega

/-- Keys of two elements of one field differ where the elements do. -/
theorem key_ne_of_idx (f : Fld) {i j : Nat} (hi : i < 2 ^ 20) (hj : j < 2 ^ 20) (h : j ≠ i) : f.key j ≠ f.key i := by
  unfold Fld.key
  rw [Nat.mod_eq_of_lt hi, Nat.mod_eq_of_lt hj]
  omega

/-- A field reads what was put there, cut to its width. -/
theorem get_put_same (s : State) (f : Fld) (i v : Nat) : (s.put f i v).get f i = v % 2 ^ f.width := by
  simp [State.get, State.put, tget_tset_same]

/-- Another field keeps its value. -/
theorem get_put_of_num {f g : Fld} (h : g.num ≠ f.num) (s : State) (i j v : Nat) : (s.put f i v).get g j = s.get g j := by
  simp only [State.get, State.put]
  exact tget_tset_ne _ _ _ (key_ne_of_num h i j) _

/-- Another element of the field keeps its value. -/
theorem get_put_of_idx (s : State) (f : Fld) {i j : Nat} (hi : i < 2 ^ 20) (hj : j < 2 ^ 20) (h : j ≠ i) (v : Nat) :
    (s.put f i v).get f j = s.get f j := by
  simp only [State.get, State.put]
  exact tget_tset_ne _ _ _ (key_ne_of_idx f hi hj h) _

/-- Register fields depend on the register store alone. -/
theorem get_of_regs {s t : State} (h : s.regs = t.regs) (f : Fld) (i : Nat) : s.get f i = t.get f i := by
  simp [State.get, h]

@[simp] theorem putB_eq (s : State) (f : Fld) (i : Nat) (b : Bool) : s.putB f i b = s.put f i (b2n b) := rfl

@[simp] theorem incSat_eq (s : State) (f : Fld) (i n : Nat) :
    s.incSat f i n = s.put f i (min (s.get f i + n) (2 ^ f.width - 1)) := rfl

@[simp] theorem incWrap_eq (s : State) (f : Fld) (i n : Nat) : s.incWrap f i n = s.put f i (s.get f i + n) := rfl

@[simp] theorem putBit_eq (s : State) (f : Fld) (i b : Nat) (v : Bool) :
    s.putBit f i b v = s.put f i (if v then setBit (s.get f i) b else clrBit (s.get f i) b) := rfl

@[simp] theorem maxTo_eq (s : State) (f : Fld) (i v : Nat) : s.maxTo f i v = s.put f i (max (s.get f i) v) := rfl

theorem on_eq (s : State) (f : Fld) (i : Nat) : s.on f i = decide (s.get f i = 1) := rfl

/-! ### Updates of the records beside the registers -/

@[simp] theorem get_modAud (s : State) (g : Aud → Aud) (f : Fld) (i : Nat) : (s.modAud g).get f i = s.get f i := rfl
@[simp] theorem get_modDmc (s : State) (g : Dmc → Dmc) (f : Fld) (i : Nat) : (s.modDmc g).get f i = s.get f i := rfl
@[simp] theorem get_modHap (s : State) (c : Nat) (g : HapCh → HapCh) (f : Fld) (i : Nat) : (s.modHap c g).get f i = s.get f i := rfl
@[simp] theorem get_modHead (s : State) (h : Nat) (g : HeadRt → HeadRt) (f : Fld) (i : Nat) : (s.modHead h g).get f i = s.get f i := rfl
@[simp] theorem get_modDp (s : State) (h : Nat) (g : PortRt → PortRt) (f : Fld) (i : Nat) : (s.modDp h g).get f i = s.get f i := rfl
@[simp] theorem get_modLayer (s : State) (h l : Nat) (g : Layer → Layer) (f : Fld) (i : Nat) : (s.modLayer h l g).get f i = s.get f i := rfl
@[simp] theorem get_modPlk (s : State) (g : Plk → Plk) (f : Fld) (i : Nat) : (s.modPlk g).get f i = s.get f i := rfl
@[simp] theorem get_modPport (s : State) (p : Nat) (g : PlkPortRt → PlkPortRt) (f : Fld) (i : Nat) : (s.modPport p g).get f i = s.get f i := rfl
@[simp] theorem get_modPm (s : State) (g : Pm → Pm) (f : Fld) (i : Nat) : (s.modPm g).get f i = s.get f i := rfl
@[simp] theorem get_modDrw (s : State) (d : Nat) (g : Drw → Drw) (f : Fld) (i : Nat) : (s.modDrw d g).get f i = s.get f i := rfl
@[simp] theorem get_modPort (s : State) (p : Nat) (g : HostPort → HostPort) (f : Fld) (i : Nat) : (s.modPort p g).get f i = s.get f i := rfl
@[simp] theorem get_modTl (s : State) (id : Nat) (g : Timeline → Timeline) (f : Fld) (i : Nat) : (s.modTl id g).get f i = s.get f i := rfl
@[simp] theorem get_modCmd (s : State) (d q k : Nat) (g : Cmd → Cmd) (f : Fld) (i : Nat) : (s.modCmd d q k g).get f i = s.get f i := rfl
@[simp] theorem get_modPanel (s : State) (p : Nat) (g : Panel → Panel) (f : Fld) (i : Nat) : (s.modPanel p g).get f i = s.get f i := rfl
@[simp] theorem get_modRegion (s : State) (h r : Nat) (g : Region → Region) (f : Fld) (i : Nat) : (s.modRegion h r g).get f i = s.get f i := rfl
@[simp] theorem get_modBg (s : State) (n : Nat) (g : BenchGrp → BenchGrp) (f : Fld) (i : Nat) : (s.modBg n g).get f i = s.get f i := rfl
@[simp] theorem get_modCx (s : State) (id : Nat) (g : CxCmd → CxCmd) (f : Fld) (i : Nat) : (s.modCx id g).get f i = s.get f i := rfl
@[simp] theorem modAud_regs (s : State) (g : Aud → Aud) : (s.modAud g).regs = s.regs := rfl
@[simp] theorem modAud_mem (s : State) (g : Aud → Aud) : (s.modAud g).mem = s.mem := rfl
@[simp] theorem modAud_pending (s : State) (g : Aud → Aud) : (s.modAud g).pending = s.pending := rfl
@[simp] theorem modDmc_regs (s : State) (g : Dmc → Dmc) : (s.modDmc g).regs = s.regs := rfl
@[simp] theorem modDmc_mem (s : State) (g : Dmc → Dmc) : (s.modDmc g).mem = s.mem := rfl
@[simp] theorem modDmc_pending (s : State) (g : Dmc → Dmc) : (s.modDmc g).pending = s.pending := rfl
@[simp] theorem modHap_regs (s : State) (c : Nat) (g : HapCh → HapCh) : (s.modHap c g).regs = s.regs := rfl
@[simp] theorem modHap_mem (s : State) (c : Nat) (g : HapCh → HapCh) : (s.modHap c g).mem = s.mem := rfl
@[simp] theorem modHap_pending (s : State) (c : Nat) (g : HapCh → HapCh) : (s.modHap c g).pending = s.pending := rfl
@[simp] theorem modHead_regs (s : State) (h : Nat) (g : HeadRt → HeadRt) : (s.modHead h g).regs = s.regs := rfl
@[simp] theorem modHead_mem (s : State) (h : Nat) (g : HeadRt → HeadRt) : (s.modHead h g).mem = s.mem := rfl
@[simp] theorem modHead_pending (s : State) (h : Nat) (g : HeadRt → HeadRt) : (s.modHead h g).pending = s.pending := rfl
@[simp] theorem modDp_regs (s : State) (h : Nat) (g : PortRt → PortRt) : (s.modDp h g).regs = s.regs := rfl
@[simp] theorem modDp_mem (s : State) (h : Nat) (g : PortRt → PortRt) : (s.modDp h g).mem = s.mem := rfl
@[simp] theorem modDp_pending (s : State) (h : Nat) (g : PortRt → PortRt) : (s.modDp h g).pending = s.pending := rfl
@[simp] theorem modLayer_regs (s : State) (h l : Nat) (g : Layer → Layer) : (s.modLayer h l g).regs = s.regs := rfl
@[simp] theorem modLayer_mem (s : State) (h l : Nat) (g : Layer → Layer) : (s.modLayer h l g).mem = s.mem := rfl
@[simp] theorem modLayer_pending (s : State) (h l : Nat) (g : Layer → Layer) : (s.modLayer h l g).pending = s.pending := rfl
@[simp] theorem modPlk_regs (s : State) (g : Plk → Plk) : (s.modPlk g).regs = s.regs := rfl
@[simp] theorem modPlk_mem (s : State) (g : Plk → Plk) : (s.modPlk g).mem = s.mem := rfl
@[simp] theorem modPlk_pending (s : State) (g : Plk → Plk) : (s.modPlk g).pending = s.pending := rfl
@[simp] theorem modPport_regs (s : State) (p : Nat) (g : PlkPortRt → PlkPortRt) : (s.modPport p g).regs = s.regs := rfl
@[simp] theorem modPport_mem (s : State) (p : Nat) (g : PlkPortRt → PlkPortRt) : (s.modPport p g).mem = s.mem := rfl
@[simp] theorem modPport_pending (s : State) (p : Nat) (g : PlkPortRt → PlkPortRt) : (s.modPport p g).pending = s.pending := rfl
@[simp] theorem modPm_regs (s : State) (g : Pm → Pm) : (s.modPm g).regs = s.regs := rfl
@[simp] theorem modPm_mem (s : State) (g : Pm → Pm) : (s.modPm g).mem = s.mem := rfl
@[simp] theorem modPm_pending (s : State) (g : Pm → Pm) : (s.modPm g).pending = s.pending := rfl
@[simp] theorem modDrw_regs (s : State) (d : Nat) (g : Drw → Drw) : (s.modDrw d g).regs = s.regs := rfl
@[simp] theorem modDrw_mem (s : State) (d : Nat) (g : Drw → Drw) : (s.modDrw d g).mem = s.mem := rfl
@[simp] theorem modDrw_pending (s : State) (d : Nat) (g : Drw → Drw) : (s.modDrw d g).pending = s.pending := rfl
@[simp] theorem modPort_regs (s : State) (p : Nat) (g : HostPort → HostPort) : (s.modPort p g).regs = s.regs := rfl
@[simp] theorem modPort_mem (s : State) (p : Nat) (g : HostPort → HostPort) : (s.modPort p g).mem = s.mem := rfl
@[simp] theorem modPort_pending (s : State) (p : Nat) (g : HostPort → HostPort) : (s.modPort p g).pending = s.pending := rfl
@[simp] theorem modTl_regs (s : State) (id : Nat) (g : Timeline → Timeline) : (s.modTl id g).regs = s.regs := rfl
@[simp] theorem modTl_mem (s : State) (id : Nat) (g : Timeline → Timeline) : (s.modTl id g).mem = s.mem := rfl
@[simp] theorem modTl_pending (s : State) (id : Nat) (g : Timeline → Timeline) : (s.modTl id g).pending = s.pending := rfl
@[simp] theorem modCmd_regs (s : State) (d q k : Nat) (g : Cmd → Cmd) : (s.modCmd d q k g).regs = s.regs := rfl
@[simp] theorem modCmd_mem (s : State) (d q k : Nat) (g : Cmd → Cmd) : (s.modCmd d q k g).mem = s.mem := rfl
@[simp] theorem modCmd_pending (s : State) (d q k : Nat) (g : Cmd → Cmd) : (s.modCmd d q k g).pending = s.pending := rfl
@[simp] theorem modPanel_regs (s : State) (p : Nat) (g : Panel → Panel) : (s.modPanel p g).regs = s.regs := rfl
@[simp] theorem modPanel_mem (s : State) (p : Nat) (g : Panel → Panel) : (s.modPanel p g).mem = s.mem := rfl
@[simp] theorem modPanel_pending (s : State) (p : Nat) (g : Panel → Panel) : (s.modPanel p g).pending = s.pending := rfl
@[simp] theorem modRegion_regs (s : State) (h r : Nat) (g : Region → Region) : (s.modRegion h r g).regs = s.regs := rfl
@[simp] theorem modRegion_mem (s : State) (h r : Nat) (g : Region → Region) : (s.modRegion h r g).mem = s.mem := rfl
@[simp] theorem modRegion_pending (s : State) (h r : Nat) (g : Region → Region) : (s.modRegion h r g).pending = s.pending := rfl
@[simp] theorem modBg_regs (s : State) (n : Nat) (g : BenchGrp → BenchGrp) : (s.modBg n g).regs = s.regs := rfl
@[simp] theorem modBg_mem (s : State) (n : Nat) (g : BenchGrp → BenchGrp) : (s.modBg n g).mem = s.mem := rfl
@[simp] theorem modBg_pending (s : State) (n : Nat) (g : BenchGrp → BenchGrp) : (s.modBg n g).pending = s.pending := rfl
@[simp] theorem modCx_regs (s : State) (id : Nat) (g : CxCmd → CxCmd) : (s.modCx id g).regs = s.regs := rfl
@[simp] theorem modCx_mem (s : State) (id : Nat) (g : CxCmd → CxCmd) : (s.modCx id g).mem = s.mem := rfl
@[simp] theorem modCx_pending (s : State) (id : Nat) (g : CxCmd → CxCmd) : (s.modCx id g).pending = s.pending := rfl

end Sys2Proof.Machine
end

