-- ==== Sys2Proof/Laws/Memory.lean ====
section
/-! SUPPORT. Device memory: reading after a write, and the canonical form that every memory operation keeps. -/

namespace Sys2Proof.Machine

theorem peek_poke_same (s : State) (a : Nat) (b : Byte) : (s.poke a b).peek a = b := by
  simp [State.peek, State.poke, tget_tset_same]

theorem peek_poke_ne (s : State) {a c : Nat} (h : c ≠ a) (b : Byte) : (s.poke a b).peek c = s.peek c := by
  simp only [State.peek, State.poke]
  exact tget_tset_ne _ _ _ h _

@[simp] theorem poke_regs (s : State) (a : Nat) (b : Byte) : (s.poke a b).regs = s.regs := rfl
@[simp] theorem poke_memRest (s : State) (a : Nat) (b : Byte) : (s.poke a b).memRest = s.memRest := rfl

@[simp] theorem writeBytes_regs (s : State) (a : Nat) (bs : List Byte) : (s.writeBytes a bs).regs = s.regs := by
  induction bs generalizing s a with
  | nil => rfl
  | cons b bs ih => simp [State.writeBytes, ih]

@[simp] theorem get_writeBytes (s : State) (a : Nat) (bs : List Byte) (f : Fld) (i : Nat) :
    (s.writeBytes a bs).get f i = s.get f i := get_of_regs (by simp) f i

/-- A write of bytes leaves every byte outside its range. -/
theorem peek_writeBytes_out (s : State) (a c : Nat) (bs : List Byte) (h : c < a ∨ a + bs.length ≤ c) :
    (s.writeBytes a bs).peek c = s.peek c := by
  induction bs generalizing s a with
  | nil => rfl
  | cons b bs ih =>
    simp only [List.length_cons] at h
    simp only [State.writeBytes]
    rw [ih _ _ (by omega), peek_poke_ne _ (by omega)]

/-- Byte `k` of a write reads what was written. -/
theorem peek_writeBytes_in (s : State) (a k : Nat) (bs : List Byte) (h : k < bs.length) :
    (s.writeBytes a bs).peek (a + k) = bs[k] := by
  induction bs generalizing s a k with
  | nil => simp at h
  | cons b bs ih =>
    simp only [State.writeBytes]
    cases k with
    | zero =>
      rw [peek_writeBytes_out _ _ _ _ (by omega), Nat.add_zero, peek_poke_same]
      rfl
    | succ k =>
      rw [show a + (k + 1) = a + 1 + k by omega, ih _ _ k (by simpa using h)]
      rfl

/-- The memory of the state after reset is in canonical form. -/
theorem memory_wf_nil (n : MemRest) : Memory.wf n [] = true := by simp [Memory.wf, tsorted]

theorem memory_wf_tset {n : MemRest} {m : List Host.Cell} (h : Memory.wf n m = true) (a : Nat) (b : Byte) :
    Memory.wf n (tset (memDefault n a) m a b) = true := by
  simp only [Memory.wf, Bool.and_eq_true] at h ⊢
  refine ⟨tsorted_tset _ _ _ _ h.1, ?_⟩
  unfold tset
  split
  · rw [List.all_eq_true] at h ⊢
    exact fun x hx => h.2 x (List.mem_of_mem_filter hx)
  · exact all_tinsert _ _ _ h.2 (by simpa)

theorem memory_wf_filter {n : MemRest} {m : List Host.Cell} (h : Memory.wf n m = true) (p : Host.Cell → Bool) :
    Memory.wf n (m.filter p) = true := by
  simp only [Memory.wf, Bool.and_eq_true] at h ⊢
  refine ⟨tsorted_filter _ _ h.1, ?_⟩
  rw [List.all_eq_true] at h ⊢
  exact fun x hx => h.2 x (List.mem_of_mem_filter hx)

/-! ### The canonical form of the state -/

/-- The form rests on the register store and the memory alone. -/
theorem canonical_of_eq {s t : State} (h : s.Canonical) (hr : t.regs = s.regs) (hm : t.mem = s.mem) (he : t.memRest = s.memRest) :
    t.Canonical := by
  unfold State.Canonical
  rw [hr, hm, he]
  exact h

theorem canonical_reset : State.reset.Canonical := ⟨rfl, rfl⟩

theorem canonical_put {s : State} (h : s.Canonical) (f : Fld) (i v : Nat) : (s.put f i v).Canonical :=
  ⟨h.1, tsorted_tset _ _ _ _ h.2⟩

theorem canonical_poke {s : State} (h : s.Canonical) (a : Nat) (b : Byte) : (s.poke a b).Canonical :=
  ⟨memory_wf_tset h.1 a b, h.2⟩

theorem canonical_writeBytes {s : State} (h : s.Canonical) (a : Nat) (bs : List Byte) : (s.writeBytes a bs).Canonical := by
  induction bs generalizing s a with
  | nil => exact h
  | cons b bs ih => exact ih (canonical_poke h a b) (a + 1)

/-- A new default of a range leaves that of every address outside it. -/
theorem memDefault_memRange_out {s : State} {lo n a : Nat} (v : Option Nat) (h : a < lo ∨ lo + n ≤ a) :
    memDefault (s.memRange lo n v).memRest a = memDefault s.memRest a := by
  have : (decide (lo ≤ a) && decide (a < lo + n)) = false := by simp; omega
  unfold memDefault
  simp only [State.memRange, List.find?_cons, this]
  rfl

/-- Giving the bytes of a range a new default lists nothing there, and leaves the defaults outside it. -/
theorem canonical_memRange {s : State} (h : s.Canonical) (lo n : Nat) (v : Option Nat) : (s.memRange lo n v).Canonical := by
  have h1 := h.1
  simp only [Memory.wf, Bool.and_eq_true, List.all_eq_true] at h1
  refine ⟨?_, h.2⟩
  simp only [State.memRange, Memory.wf, Bool.and_eq_true, List.all_eq_true]
  refine ⟨tsorted_filter _ _ h1.1, fun x hx => ?_⟩
  obtain ⟨hx, ho⟩ := List.mem_filter.mp hx
  simp only [Bool.or_eq_true, decide_eq_true_eq] at ho
  exact decide_eq_true ((memDefault_memRange_out v ho).symm ▸ of_decide_eq_true (h1.2 x hx))

theorem canonical_zeroBytes {s : State} (h : s.Canonical) (a n : Nat) : (s.zeroBytes a n).Canonical := by
  unfold State.zeroBytes
  split
  · exact ⟨memory_wf_filter h.1 _, h.2⟩
  · exact canonical_memRange h _ _ _

theorem canonical_undefBytes {s : State} (h : s.Canonical) (a n : Nat) : (s.undefBytes a n).Canonical :=
  canonical_of_eq (canonical_memRange h a n (some s.freeCtr)) rfl rfl rfl

theorem canonical_applyReset {s : State} (h : s.Canonical) (d : Dom) (which : Nat → Nat → Bool) : (s.applyReset d which).Canonical :=
  ⟨h.1, tsorted_foldl_tset 0 _ _ (tsorted_filter _ _ h.2)⟩

theorem canonical_applyMod {s : State} (h : s.Canonical) : s.applyMod.Canonical := ⟨h.1, tsorted_filter _ _ h.2⟩

/-- A fold keeps the form where each of its steps does. -/
theorem canonical_foldl {α : Type} {g : State → α → State} (hg : ∀ s x, s.Canonical → (g s x).Canonical) (xs : List α) {s : State}
    (h : s.Canonical) : (xs.foldl g s).Canonical := by
  induction xs generalizing s with
  | nil => exact h
  | cons x xs ih => exact ih (hg s x h)

end Sys2Proof.Machine
end

