-- ==== Sys2Proof/Laws/Ops.lean ====
section
/-! SUPPORT. What the shared operations of Machine/Ops.lean change and what they leave alone: the interrupt controllers, audit entries,
clock limits, undefined memory, the DRAM FIFO, and register writes that have a row of their own. -/

namespace Sys2Proof.Machine

/-- A fold keeps what each of its steps keeps. -/
theorem foldl_keeps {α γ : Type} {g : State → α → State} (p : State → γ) (h : ∀ s x, p (g s x) = p s) (xs : List α) (s : State) :
    p (xs.foldl g s) = p s := by
  induction xs generalizing s with
  | nil => rfl
  | cons x xs ih => exact (ih (g s x)).trans (h s x)

/-- Fields that a test of their numbers tells apart have different numbers. -/
theorem num_ne_of (p : Nat → Bool) {f g : Fld} (hf : p f.num = true) (hg : p g.num = false) : g.num ≠ f.num := by
  intro h
  rw [h, hf] at hg
  exact absurd hg (by decide)

/-! ### The interrupt controllers -/

/-- Numbers of the register fields that offers of the main ICU touch: ICU_SRC, ICU_STATUS, CCL_CORE and RTx_CTRL. -/
def icuNum (n : Nat) : Bool := n / 64 = 153 || n / 64 = 157 || n / 64 = 151 || n / 64 = 152

/-- Put only fields that offers touch. -/
theorem get_put_icu {f g : Fld} (hf : icuNum f.num = true) (hg : icuNum g.num = false) (s : State) (i j v : Nat) :
    (s.put f i v).get g j = s.get g j := get_put_of_num (num_ne_of icuNum hf hg) s i j v

theorem get_wakeTarget {g : Fld} (h : icuNum g.num = false) (s : State) (t j : Nat) : (s.wakeTarget t).get g j = s.get g j := by
  unfold State.wakeTarget
  dsimp only
  repeat' split
  all_goals simp (disch := first | decide | exact h) [get_put_icu]

theorem get_icuGive {g : Fld} (h : icuNum g.num = false) (s : State) (n t j : Nat) : (s.icuGive n t).get g j = s.get g j := by
  unfold State.icuGive
  refine (get_of_regs (t := ((s.put F.ICU_SRC_OFFERED n 1).put F.ICU_SRC_CTX n (s.icuCtxOf n t)).put F.ICU_SRC_LAST n t) rfl g j).trans ?_
  simp (disch := first | decide | exact h) [get_put_icu]

/-- An attempt to offer a source touches only the fields that offers touch. -/
theorem get_icuTry {g : Fld} (h : icuNum g.num = false) (s : State) (n j : Nat) : (s.icuTry n).get g j = s.get g j := by
  unfold State.icuTry
  split
  · rfl
  · dsimp only
    repeat' split
    all_goals first
      | rfl
      | exact get_icuGive h s n _ j
      | simp (disch := first | decide | exact h) [get_put_icu, get_wakeTarget]

theorem get_icuRaise {g : Fld} (h : icuNum g.num = false) (s : State) (n j : Nat) : (s.icuRaise n).get g j = s.get g j := by
  unfold State.icuRaise
  split <;> simp (disch := first | decide | exact h) [get_put_icu, get_icuTry]

theorem get_icuWithdraw {g : Fld} (h : icuNum g.num = false) (s : State) (n : Nat) (b : Bool) (j : Nat) :
    (s.icuWithdraw n b).get g j = s.get g j := by
  unfold State.icuWithdraw
  split
  · dsimp only
    rw [get_icuTry h]
    split
    · refine (get_of_regs (t := (s.put F.ICU_SRC_OFFERED n 0).incSat F.ICU_STATUS_WITHDRAWN) rfl g j).trans ?_
      rw [incSat_eq, get_put_icu (by decide) h, get_put_icu (by decide) h]
    · rw [incSat_eq, get_put_icu (by decide) h, get_put_icu (by decide) h]
  · rfl

theorem get_icuLower {g : Fld} (h : icuNum g.num = false) (s : State) (n j : Nat) : (s.icuLower n).get g j = s.get g j := by
  unfold State.icuLower
  split
  · rw [get_icuWithdraw h, get_put_icu (by decide) h]
  · rfl

theorem get_icuLine {g : Fld} (h : icuNum g.num = false) (s : State) (n : Nat) (v : Bool) (j : Nat) :
    (s.icuLine n v).get g j = s.get g j := by
  cases v
  · exact get_icuLower h s n j
  · exact get_icuRaise h s n j

theorem get_icuReeval {g : Fld} (h : icuNum g.num = false) (s : State) (j : Nat) : s.icuReeval.get g j = s.get g j :=
  foldl_keeps (fun t => t.get g j) (fun t n => get_icuTry h t n j) _ s

/-- Offers change the register store and the record of the cores. -/
theorem icuTry_frame (s : State) (n : Nat) : ∃ r c, s.icuTry n = { s with regs := r, cores := c } := by
  unfold State.icuTry
  split
  · exact ⟨_, _, rfl⟩
  · dsimp only
    repeat' split
    all_goals first
      | exact ⟨_, _, rfl⟩
      | (unfold State.wakeTarget; dsimp only; repeat' split
         all_goals exact ⟨_, _, rfl⟩)

theorem icuRaise_frame (s : State) (n : Nat) : ∃ r c, s.icuRaise n = { s with regs := r, cores := c } := by
  unfold State.icuRaise
  split
  · obtain ⟨r, c, h⟩ := icuTry_frame (s.put F.ICU_SRC_PENDING n 1) n
    exact ⟨r, c, h⟩
  · exact ⟨_, _, rfl⟩

theorem icuWithdraw_frame (s : State) (n : Nat) (b : Bool) : ∃ r c, s.icuWithdraw n b = { s with regs := r, cores := c } := by
  unfold State.icuWithdraw
  split
  · dsimp only
    split
    · obtain ⟨r, c, h⟩ := icuTry_frame ({ (s.put F.ICU_SRC_OFFERED n 0).incSat F.ICU_STATUS_WITHDRAWN with
        cores := { s.cores with sleptFor := s.cores.sleptFor ++ [n] } }) n
      exact ⟨r, c, h⟩
    · obtain ⟨r, c, h⟩ := icuTry_frame ((s.put F.ICU_SRC_OFFERED n 0).incSat F.ICU_STATUS_WITHDRAWN) n
      exact ⟨r, c, h⟩
  · exact ⟨_, _, rfl⟩

theorem icuLower_frame (s : State) (n : Nat) : ∃ r c, s.icuLower n = { s with regs := r, cores := c } := by
  unfold State.icuLower
  split
  · obtain ⟨r, c, h⟩ := icuWithdraw_frame (s.put F.ICU_SRC_PENDING n 0) n false
    exact ⟨r, c, h⟩
  · exact ⟨_, _, rfl⟩

@[simp] theorem icuRaise_pending (s : State) (n : Nat) : (s.icuRaise n).pending = s.pending := by obtain ⟨_, _, h⟩ := icuRaise_frame s n; rw [h]
@[simp] theorem icuRaise_shadow (s : State) (n : Nat) : (s.icuRaise n).shadow = s.shadow := by obtain ⟨_, _, h⟩ := icuRaise_frame s n; rw [h]
@[simp] theorem icuRaise_mem (s : State) (n : Nat) : (s.icuRaise n).mem = s.mem := by obtain ⟨_, _, h⟩ := icuRaise_frame s n; rw [h]
@[simp] theorem icuRaise_memRest (s : State) (n : Nat) : (s.icuRaise n).memRest = s.memRest := by obtain ⟨_, _, h⟩ := icuRaise_frame s n; rw [h]
@[simp] theorem icuRaise_now (s : State) (n : Nat) : (s.icuRaise n).now = s.now := by obtain ⟨_, _, h⟩ := icuRaise_frame s n; rw [h]
@[simp] theorem icuRaise_freeCtr (s : State) (n : Nat) : (s.icuRaise n).freeCtr = s.freeCtr := by obtain ⟨_, _, h⟩ := icuRaise_frame s n; rw [h]
@[simp] theorem icuRaise_phase (s : State) (n : Nat) : (s.icuRaise n).phase = s.phase := by obtain ⟨_, _, h⟩ := icuRaise_frame s n; rw [h]
@[simp] theorem icuRaise_pd (s : State) (n : Nat) : (s.icuRaise n).pd = s.pd := by obtain ⟨_, _, h⟩ := icuRaise_frame s n; rw [h]
@[simp] theorem icuRaise_pins (s : State) (n : Nat) : (s.icuRaise n).pins = s.pins := by obtain ⟨_, _, h⟩ := icuRaise_frame s n; rw [h]
@[simp] theorem icuRaise_sup (s : State) (n : Nat) : (s.icuRaise n).sup = s.sup := by obtain ⟨_, _, h⟩ := icuRaise_frame s n; rw [h]
@[simp] theorem icuRaise_boot (s : State) (n : Nat) : (s.icuRaise n).boot = s.boot := by obtain ⟨_, _, h⟩ := icuRaise_frame s n; rw [h]
@[simp] theorem icuRaise_nv (s : State) (n : Nat) : (s.icuRaise n).nv = s.nv := by obtain ⟨_, _, h⟩ := icuRaise_frame s n; rw [h]
@[simp] theorem icuRaise_fuses (s : State) (n : Nat) : (s.icuRaise n).fuses = s.fuses := by obtain ⟨_, _, h⟩ := icuRaise_frame s n; rw [h]
@[simp] theorem icuRaise_flashA (s : State) (n : Nat) : (s.icuRaise n).flashA = s.flashA := by obtain ⟨_, _, h⟩ := icuRaise_frame s n; rw [h]
@[simp] theorem icuRaise_flashB (s : State) (n : Nat) : (s.icuRaise n).flashB = s.flashB := by obtain ⟨_, _, h⟩ := icuRaise_frame s n; rw [h]
@[simp] theorem icuRaise_latches (s : State) (n : Nat) : (s.icuRaise n).latches = s.latches := by obtain ⟨_, _, h⟩ := icuRaise_frame s n; rw [h]
@[simp] theorem icuRaise_held (s : State) (n : Nat) : (s.icuRaise n).held = s.held := by obtain ⟨_, _, h⟩ := icuRaise_frame s n; rw [h]
@[simp] theorem icuRaise_hostOut (s : State) (n : Nat) : (s.icuRaise n).hostOut = s.hostOut := by obtain ⟨_, _, h⟩ := icuRaise_frame s n; rw [h]
@[simp] theorem icuRaise_reads (s : State) (n : Nat) : (s.icuRaise n).reads = s.reads := by obtain ⟨_, _, h⟩ := icuRaise_frame s n; rw [h]
@[simp] theorem icuRaise_adl (s : State) (n : Nat) : (s.icuRaise n).adl = s.adl := by obtain ⟨_, _, h⟩ := icuRaise_frame s n; rw [h]
@[simp] theorem icuRaise_err (s : State) (n : Nat) : (s.icuRaise n).err = s.err := by obtain ⟨_, _, h⟩ := icuRaise_frame s n; rw [h]
@[simp] theorem icuRaise_pm (s : State) (n : Nat) : (s.icuRaise n).pm = s.pm := by obtain ⟨_, _, h⟩ := icuRaise_frame s n; rw [h]
@[simp] theorem icuRaise_dbg (s : State) (n : Nat) : (s.icuRaise n).dbg = s.dbg := by obtain ⟨_, _, h⟩ := icuRaise_frame s n; rw [h]
@[simp] theorem icuRaise_templates (s : State) (n : Nat) : (s.icuRaise n).templates = s.templates := by obtain ⟨_, _, h⟩ := icuRaise_frame s n; rw [h]
@[simp] theorem icuRaise_mutables (s : State) (n : Nat) : (s.icuRaise n).mutables = s.mutables := by obtain ⟨_, _, h⟩ := icuRaise_frame s n; rw [h]
@[simp] theorem icuRaise_ports (s : State) (n : Nat) : (s.icuRaise n).ports = s.ports := by obtain ⟨_, _, h⟩ := icuRaise_frame s n; rw [h]
@[simp] theorem icuRaise_drw (s : State) (n : Nat) : (s.icuRaise n).drw = s.drw := by obtain ⟨_, _, h⟩ := icuRaise_frame s n; rw [h]
@[simp] theorem icuRaise_tls (s : State) (n : Nat) : (s.icuRaise n).tls = s.tls := by obtain ⟨_, _, h⟩ := icuRaise_frame s n; rw [h]
@[simp] theorem icuRaise_jnl (s : State) (n : Nat) : (s.icuRaise n).jnl = s.jnl := by obtain ⟨_, _, h⟩ := icuRaise_frame s n; rw [h]
@[simp] theorem icuRaise_layers (s : State) (n : Nat) : (s.icuRaise n).layers = s.layers := by obtain ⟨_, _, h⟩ := icuRaise_frame s n; rw [h]
@[simp] theorem icuRaise_flipCtr (s : State) (n : Nat) : (s.icuRaise n).flipCtr = s.flipCtr := by obtain ⟨_, _, h⟩ := icuRaise_frame s n; rw [h]
@[simp] theorem icuRaise_heads (s : State) (n : Nat) : (s.icuRaise n).heads = s.heads := by obtain ⟨_, _, h⟩ := icuRaise_frame s n; rw [h]
@[simp] theorem icuRaise_dps (s : State) (n : Nat) : (s.icuRaise n).dps = s.dps := by obtain ⟨_, _, h⟩ := icuRaise_frame s n; rw [h]
@[simp] theorem icuRaise_wit (s : State) (n : Nat) : (s.icuRaise n).wit = s.wit := by obtain ⟨_, _, h⟩ := icuRaise_frame s n; rw [h]
@[simp] theorem icuRaise_shelf (s : State) (n : Nat) : (s.icuRaise n).shelf = s.shelf := by obtain ⟨_, _, h⟩ := icuRaise_frame s n; rw [h]
@[simp] theorem icuRaise_tell (s : State) (n : Nat) : (s.icuRaise n).tell = s.tell := by obtain ⟨_, _, h⟩ := icuRaise_frame s n; rw [h]
@[simp] theorem icuRaise_gpu (s : State) (n : Nat) : (s.icuRaise n).gpu = s.gpu := by obtain ⟨_, _, h⟩ := icuRaise_frame s n; rw [h]
@[simp] theorem icuRaise_dmc (s : State) (n : Nat) : (s.icuRaise n).dmc = s.dmc := by obtain ⟨_, _, h⟩ := icuRaise_frame s n; rw [h]
@[simp] theorem icuRaise_stalled (s : State) (n : Nat) : (s.icuRaise n).stalled = s.stalled := by obtain ⟨_, _, h⟩ := icuRaise_frame s n; rw [h]
@[simp] theorem icuRaise_plk (s : State) (n : Nat) : (s.icuRaise n).plk = s.plk := by obtain ⟨_, _, h⟩ := icuRaise_frame s n; rw [h]
@[simp] theorem icuRaise_hap (s : State) (n : Nat) : (s.icuRaise n).hap = s.hap := by obtain ⟨_, _, h⟩ := icuRaise_frame s n; rw [h]
@[simp] theorem icuRaise_tch (s : State) (n : Nat) : (s.icuRaise n).tch = s.tch := by obtain ⟨_, _, h⟩ := icuRaise_frame s n; rw [h]
@[simp] theorem icuRaise_aud (s : State) (n : Nat) : (s.icuRaise n).aud = s.aud := by obtain ⟨_, _, h⟩ := icuRaise_frame s n; rw [h]
@[simp] theorem icuRaise_pmu (s : State) (n : Nat) : (s.icuRaise n).pmu = s.pmu := by obtain ⟨_, _, h⟩ := icuRaise_frame s n; rw [h]
@[simp] theorem icuRaise_tests (s : State) (n : Nat) : (s.icuRaise n).tests = s.tests := by obtain ⟨_, _, h⟩ := icuRaise_frame s n; rw [h]
@[simp] theorem icuLower_pending (s : State) (n : Nat) : (s.icuLower n).pending = s.pending := by obtain ⟨_, _, h⟩ := icuLower_frame s n; rw [h]
@[simp] theorem icuLower_shadow (s : State) (n : Nat) : (s.icuLower n).shadow = s.shadow := by obtain ⟨_, _, h⟩ := icuLower_frame s n; rw [h]
@[simp] theorem icuLower_mem (s : State) (n : Nat) : (s.icuLower n).mem = s.mem := by obtain ⟨_, _, h⟩ := icuLower_frame s n; rw [h]
@[simp] theorem icuLower_memRest (s : State) (n : Nat) : (s.icuLower n).memRest = s.memRest := by obtain ⟨_, _, h⟩ := icuLower_frame s n; rw [h]
@[simp] theorem icuLower_now (s : State) (n : Nat) : (s.icuLower n).now = s.now := by obtain ⟨_, _, h⟩ := icuLower_frame s n; rw [h]
@[simp] theorem icuLower_freeCtr (s : State) (n : Nat) : (s.icuLower n).freeCtr = s.freeCtr := by obtain ⟨_, _, h⟩ := icuLower_frame s n; rw [h]
@[simp] theorem icuLower_phase (s : State) (n : Nat) : (s.icuLower n).phase = s.phase := by obtain ⟨_, _, h⟩ := icuLower_frame s n; rw [h]
@[simp] theorem icuLower_pd (s : State) (n : Nat) : (s.icuLower n).pd = s.pd := by obtain ⟨_, _, h⟩ := icuLower_frame s n; rw [h]
@[simp] theorem icuLower_pins (s : State) (n : Nat) : (s.icuLower n).pins = s.pins := by obtain ⟨_, _, h⟩ := icuLower_frame s n; rw [h]
@[simp] theorem icuLower_sup (s : State) (n : Nat) : (s.icuLower n).sup = s.sup := by obtain ⟨_, _, h⟩ := icuLower_frame s n; rw [h]
@[simp] theorem icuLower_boot (s : State) (n : Nat) : (s.icuLower n).boot = s.boot := by obtain ⟨_, _, h⟩ := icuLower_frame s n; rw [h]
@[simp] theorem icuLower_nv (s : State) (n : Nat) : (s.icuLower n).nv = s.nv := by obtain ⟨_, _, h⟩ := icuLower_frame s n; rw [h]
@[simp] theorem icuLower_fuses (s : State) (n : Nat) : (s.icuLower n).fuses = s.fuses := by obtain ⟨_, _, h⟩ := icuLower_frame s n; rw [h]
@[simp] theorem icuLower_flashA (s : State) (n : Nat) : (s.icuLower n).flashA = s.flashA := by obtain ⟨_, _, h⟩ := icuLower_frame s n; rw [h]
@[simp] theorem icuLower_flashB (s : State) (n : Nat) : (s.icuLower n).flashB = s.flashB := by obtain ⟨_, _, h⟩ := icuLower_frame s n; rw [h]
@[simp] theorem icuLower_latches (s : State) (n : Nat) : (s.icuLower n).latches = s.latches := by obtain ⟨_, _, h⟩ := icuLower_frame s n; rw [h]
@[simp] theorem icuLower_held (s : State) (n : Nat) : (s.icuLower n).held = s.held := by obtain ⟨_, _, h⟩ := icuLower_frame s n; rw [h]
@[simp] theorem icuLower_hostOut (s : State) (n : Nat) : (s.icuLower n).hostOut = s.hostOut := by obtain ⟨_, _, h⟩ := icuLower_frame s n; rw [h]
@[simp] theorem icuLower_reads (s : State) (n : Nat) : (s.icuLower n).reads = s.reads := by obtain ⟨_, _, h⟩ := icuLower_frame s n; rw [h]
@[simp] theorem icuLower_adl (s : State) (n : Nat) : (s.icuLower n).adl = s.adl := by obtain ⟨_, _, h⟩ := icuLower_frame s n; rw [h]
@[simp] theorem icuLower_err (s : State) (n : Nat) : (s.icuLower n).err = s.err := by obtain ⟨_, _, h⟩ := icuLower_frame s n; rw [h]
@[simp] theorem icuLower_pm (s : State) (n : Nat) : (s.icuLower n).pm = s.pm := by obtain ⟨_, _, h⟩ := icuLower_frame s n; rw [h]
@[simp] theorem icuLower_dbg (s : State) (n : Nat) : (s.icuLower n).dbg = s.dbg := by obtain ⟨_, _, h⟩ := icuLower_frame s n; rw [h]
@[simp] theorem icuLower_templates (s : State) (n : Nat) : (s.icuLower n).templates = s.templates := by obtain ⟨_, _, h⟩ := icuLower_frame s n; rw [h]
@[simp] theorem icuLower_mutables (s : State) (n : Nat) : (s.icuLower n).mutables = s.mutables := by obtain ⟨_, _, h⟩ := icuLower_frame s n; rw [h]
@[simp] theorem icuLower_ports (s : State) (n : Nat) : (s.icuLower n).ports = s.ports := by obtain ⟨_, _, h⟩ := icuLower_frame s n; rw [h]
@[simp] theorem icuLower_drw (s : State) (n : Nat) : (s.icuLower n).drw = s.drw := by obtain ⟨_, _, h⟩ := icuLower_frame s n; rw [h]
@[simp] theorem icuLower_tls (s : State) (n : Nat) : (s.icuLower n).tls = s.tls := by obtain ⟨_, _, h⟩ := icuLower_frame s n; rw [h]
@[simp] theorem icuLower_jnl (s : State) (n : Nat) : (s.icuLower n).jnl = s.jnl := by obtain ⟨_, _, h⟩ := icuLower_frame s n; rw [h]
@[simp] theorem icuLower_layers (s : State) (n : Nat) : (s.icuLower n).layers = s.layers := by obtain ⟨_, _, h⟩ := icuLower_frame s n; rw [h]
@[simp] theorem icuLower_flipCtr (s : State) (n : Nat) : (s.icuLower n).flipCtr = s.flipCtr := by obtain ⟨_, _, h⟩ := icuLower_frame s n; rw [h]
@[simp] theorem icuLower_heads (s : State) (n : Nat) : (s.icuLower n).heads = s.heads := by obtain ⟨_, _, h⟩ := icuLower_frame s n; rw [h]
@[simp] theorem icuLower_dps (s : State) (n : Nat) : (s.icuLower n).dps = s.dps := by obtain ⟨_, _, h⟩ := icuLower_frame s n; rw [h]
@[simp] theorem icuLower_wit (s : State) (n : Nat) : (s.icuLower n).wit = s.wit := by obtain ⟨_, _, h⟩ := icuLower_frame s n; rw [h]
@[simp] theorem icuLower_shelf (s : State) (n : Nat) : (s.icuLower n).shelf = s.shelf := by obtain ⟨_, _, h⟩ := icuLower_frame s n; rw [h]
@[simp] theorem icuLower_tell (s : State) (n : Nat) : (s.icuLower n).tell = s.tell := by obtain ⟨_, _, h⟩ := icuLower_frame s n; rw [h]
@[simp] theorem icuLower_gpu (s : State) (n : Nat) : (s.icuLower n).gpu = s.gpu := by obtain ⟨_, _, h⟩ := icuLower_frame s n; rw [h]
@[simp] theorem icuLower_dmc (s : State) (n : Nat) : (s.icuLower n).dmc = s.dmc := by obtain ⟨_, _, h⟩ := icuLower_frame s n; rw [h]
@[simp] theorem icuLower_stalled (s : State) (n : Nat) : (s.icuLower n).stalled = s.stalled := by obtain ⟨_, _, h⟩ := icuLower_frame s n; rw [h]
@[simp] theorem icuLower_plk (s : State) (n : Nat) : (s.icuLower n).plk = s.plk := by obtain ⟨_, _, h⟩ := icuLower_frame s n; rw [h]
@[simp] theorem icuLower_hap (s : State) (n : Nat) : (s.icuLower n).hap = s.hap := by obtain ⟨_, _, h⟩ := icuLower_frame s n; rw [h]
@[simp] theorem icuLower_tch (s : State) (n : Nat) : (s.icuLower n).tch = s.tch := by obtain ⟨_, _, h⟩ := icuLower_frame s n; rw [h]
@[simp] theorem icuLower_aud (s : State) (n : Nat) : (s.icuLower n).aud = s.aud := by obtain ⟨_, _, h⟩ := icuLower_frame s n; rw [h]
@[simp] theorem icuLower_pmu (s : State) (n : Nat) : (s.icuLower n).pmu = s.pmu := by obtain ⟨_, _, h⟩ := icuLower_frame s n; rw [h]
@[simp] theorem icuLower_tests (s : State) (n : Nat) : (s.icuLower n).tests = s.tests := by obtain ⟨_, _, h⟩ := icuLower_frame s n; rw [h]
@[simp] theorem icuLine_pending (s : State) (n : Nat) (v : Bool) : (s.icuLine n v).pending = s.pending := by cases v <;> simp [State.icuLine]
@[simp] theorem icuLine_shadow (s : State) (n : Nat) (v : Bool) : (s.icuLine n v).shadow = s.shadow := by cases v <;> simp [State.icuLine]
@[simp] theorem icuLine_mem (s : State) (n : Nat) (v : Bool) : (s.icuLine n v).mem = s.mem := by cases v <;> simp [State.icuLine]
@[simp] theorem icuLine_memRest (s : State) (n : Nat) (v : Bool) : (s.icuLine n v).memRest = s.memRest := by cases v <;> simp [State.icuLine]
@[simp] theorem icuLine_now (s : State) (n : Nat) (v : Bool) : (s.icuLine n v).now = s.now := by cases v <;> simp [State.icuLine]
@[simp] theorem icuLine_freeCtr (s : State) (n : Nat) (v : Bool) : (s.icuLine n v).freeCtr = s.freeCtr := by cases v <;> simp [State.icuLine]
@[simp] theorem icuLine_phase (s : State) (n : Nat) (v : Bool) : (s.icuLine n v).phase = s.phase := by cases v <;> simp [State.icuLine]
@[simp] theorem icuLine_pd (s : State) (n : Nat) (v : Bool) : (s.icuLine n v).pd = s.pd := by cases v <;> simp [State.icuLine]
@[simp] theorem icuLine_pins (s : State) (n : Nat) (v : Bool) : (s.icuLine n v).pins = s.pins := by cases v <;> simp [State.icuLine]
@[simp] theorem icuLine_sup (s : State) (n : Nat) (v : Bool) : (s.icuLine n v).sup = s.sup := by cases v <;> simp [State.icuLine]
@[simp] theorem icuLine_boot (s : State) (n : Nat) (v : Bool) : (s.icuLine n v).boot = s.boot := by cases v <;> simp [State.icuLine]
@[simp] theorem icuLine_nv (s : State) (n : Nat) (v : Bool) : (s.icuLine n v).nv = s.nv := by cases v <;> simp [State.icuLine]
@[simp] theorem icuLine_fuses (s : State) (n : Nat) (v : Bool) : (s.icuLine n v).fuses = s.fuses := by cases v <;> simp [State.icuLine]
@[simp] theorem icuLine_flashA (s : State) (n : Nat) (v : Bool) : (s.icuLine n v).flashA = s.flashA := by cases v <;> simp [State.icuLine]
@[simp] theorem icuLine_flashB (s : State) (n : Nat) (v : Bool) : (s.icuLine n v).flashB = s.flashB := by cases v <;> simp [State.icuLine]
@[simp] theorem icuLine_latches (s : State) (n : Nat) (v : Bool) : (s.icuLine n v).latches = s.latches := by cases v <;> simp [State.icuLine]
@[simp] theorem icuLine_held (s : State) (n : Nat) (v : Bool) : (s.icuLine n v).held = s.held := by cases v <;> simp [State.icuLine]
@[simp] theorem icuLine_hostOut (s : State) (n : Nat) (v : Bool) : (s.icuLine n v).hostOut = s.hostOut := by cases v <;> simp [State.icuLine]
@[simp] theorem icuLine_reads (s : State) (n : Nat) (v : Bool) : (s.icuLine n v).reads = s.reads := by cases v <;> simp [State.icuLine]
@[simp] theorem icuLine_adl (s : State) (n : Nat) (v : Bool) : (s.icuLine n v).adl = s.adl := by cases v <;> simp [State.icuLine]
@[simp] theorem icuLine_err (s : State) (n : Nat) (v : Bool) : (s.icuLine n v).err = s.err := by cases v <;> simp [State.icuLine]
@[simp] theorem icuLine_pm (s : State) (n : Nat) (v : Bool) : (s.icuLine n v).pm = s.pm := by cases v <;> simp [State.icuLine]
@[simp] theorem icuLine_dbg (s : State) (n : Nat) (v : Bool) : (s.icuLine n v).dbg = s.dbg := by cases v <;> simp [State.icuLine]
@[simp] theorem icuLine_templates (s : State) (n : Nat) (v : Bool) : (s.icuLine n v).templates = s.templates := by cases v <;> simp [State.icuLine]
@[simp] theorem icuLine_mutables (s : State) (n : Nat) (v : Bool) : (s.icuLine n v).mutables = s.mutables := by cases v <;> simp [State.icuLine]
@[simp] theorem icuLine_ports (s : State) (n : Nat) (v : Bool) : (s.icuLine n v).ports = s.ports := by cases v <;> simp [State.icuLine]
@[simp] theorem icuLine_drw (s : State) (n : Nat) (v : Bool) : (s.icuLine n v).drw = s.drw := by cases v <;> simp [State.icuLine]
@[simp] theorem icuLine_tls (s : State) (n : Nat) (v : Bool) : (s.icuLine n v).tls = s.tls := by cases v <;> simp [State.icuLine]
@[simp] theorem icuLine_jnl (s : State) (n : Nat) (v : Bool) : (s.icuLine n v).jnl = s.jnl := by cases v <;> simp [State.icuLine]
@[simp] theorem icuLine_layers (s : State) (n : Nat) (v : Bool) : (s.icuLine n v).layers = s.layers := by cases v <;> simp [State.icuLine]
@[simp] theorem icuLine_flipCtr (s : State) (n : Nat) (v : Bool) : (s.icuLine n v).flipCtr = s.flipCtr := by cases v <;> simp [State.icuLine]
@[simp] theorem icuLine_heads (s : State) (n : Nat) (v : Bool) : (s.icuLine n v).heads = s.heads := by cases v <;> simp [State.icuLine]
@[simp] theorem icuLine_dps (s : State) (n : Nat) (v : Bool) : (s.icuLine n v).dps = s.dps := by cases v <;> simp [State.icuLine]
@[simp] theorem icuLine_wit (s : State) (n : Nat) (v : Bool) : (s.icuLine n v).wit = s.wit := by cases v <;> simp [State.icuLine]
@[simp] theorem icuLine_shelf (s : State) (n : Nat) (v : Bool) : (s.icuLine n v).shelf = s.shelf := by cases v <;> simp [State.icuLine]
@[simp] theorem icuLine_tell (s : State) (n : Nat) (v : Bool) : (s.icuLine n v).tell = s.tell := by cases v <;> simp [State.icuLine]
@[simp] theorem icuLine_gpu (s : State) (n : Nat) (v : Bool) : (s.icuLine n v).gpu = s.gpu := by cases v <;> simp [State.icuLine]
@[simp] theorem icuLine_dmc (s : State) (n : Nat) (v : Bool) : (s.icuLine n v).dmc = s.dmc := by cases v <;> simp [State.icuLine]
@[simp] theorem icuLine_stalled (s : State) (n : Nat) (v : Bool) : (s.icuLine n v).stalled = s.stalled := by cases v <;> simp [State.icuLine]
@[simp] theorem icuLine_plk (s : State) (n : Nat) (v : Bool) : (s.icuLine n v).plk = s.plk := by cases v <;> simp [State.icuLine]
@[simp] theorem icuLine_hap (s : State) (n : Nat) (v : Bool) : (s.icuLine n v).hap = s.hap := by cases v <;> simp [State.icuLine]
@[simp] theorem icuLine_tch (s : State) (n : Nat) (v : Bool) : (s.icuLine n v).tch = s.tch := by cases v <;> simp [State.icuLine]
@[simp] theorem icuLine_aud (s : State) (n : Nat) (v : Bool) : (s.icuLine n v).aud = s.aud := by cases v <;> simp [State.icuLine]
@[simp] theorem icuLine_pmu (s : State) (n : Nat) (v : Bool) : (s.icuLine n v).pmu = s.pmu := by cases v <;> simp [State.icuLine]
@[simp] theorem icuLine_tests (s : State) (n : Nat) (v : Bool) : (s.icuLine n v).tests = s.tests := by cases v <;> simp [State.icuLine]

@[simp] theorem hutchRaise_eq (s : State) (n : Nat) :
    s.hutchRaise n = s.put F.HUT_ICU_PEND_PENDING 0 (setBit (s.get F.HUT_ICU_PEND_PENDING) n) := rfl

/-! ### Audit entries -/

/-- Numbers of the register fields that an accepted entry touches: NEXT_SEQ, HELD and the pending bits of the Hutch ICU. -/
def auditNum (n : Nat) : Bool :=
  n = F.ADL_STATUS_NEXT_SEQ.num || n = F.ADL_RING_HELD.num || n = F.HUT_ICU_PEND_PENDING.num

theorem get_put_audit {f g : Fld} (hf : auditNum f.num = true) (hg : auditNum g.num = false) (s : State) (i j v : Nat) :
    (s.put f i v).get g j = s.get g j := get_put_of_num (num_ne_of auditNum hf hg) s i j v

/-- An accepted entry changes the buffer, its SEQ and count, and the Hutch source of a filling buffer, and nothing else. -/
theorem auditAccept_frame (s : State) (e : AuditEntry) : ∃ r a, s.auditAccept e = { s with regs := r, adl := a } := by
  unfold State.auditAccept
  dsimp only
  split <;> exact ⟨_, _, rfl⟩

theorem get_auditAccept {g : Fld} (h : auditNum g.num = false) (s : State) (e : AuditEntry) (j : Nat) :
    (s.auditAccept e).get g j = s.get g j := by
  unfold State.auditAccept
  dsimp only
  split <;> simp only [hutchRaise_eq, incWrap_eq] <;> repeat rw [get_put_audit (by decide) h]
  all_goals rfl

/-- The entry joins the end of the buffer with the SEQ that was next. -/
theorem auditAccept_buf (s : State) (e : AuditEntry) :
    (s.auditAccept e).adl.buf = s.adl.buf ++
      [{ e with st := s.st % 2 ^ 62, stState := s.stState, seq := s.get F.ADL_STATUS_NEXT_SEQ, start := s.get F.ADL_STATUS_START }] := by
  unfold State.auditAccept
  dsimp only
  split <;> rfl

theorem auditWrite_frame (s : State) (o : Origin) (w : RegWrite) (b : Bool) (n : Nat) :
    ∃ r a, s.auditWrite o w b n = { s with regs := r, adl := a } := by
  unfold State.auditWrite State.auditReg
  split
  · obtain ⟨r, a, h⟩ := auditAccept_frame s { origin := o.word, addr := auditAddr w.addr, old := w.old % 2 ^ 32, new := w.new % 2 ^ 32, type := 0,
                                               refused := b, high := false, reason := n }
    rw [h]
    exact auditAccept_frame { s with regs := r, adl := a } _
  · exact auditAccept_frame _ _

theorem get_auditWrite {g : Fld} (h : auditNum g.num = false) (s : State) (o : Origin) (w : RegWrite) (b : Bool) (n j : Nat) :
    (s.auditWrite o w b n).get g j = s.get g j := by
  unfold State.auditWrite State.auditReg
  split <;> simp only [get_auditAccept h]

@[simp] theorem auditAccept_pending (s : State) (e : AuditEntry) : (s.auditAccept e).pending = s.pending := by obtain ⟨_, _, h⟩ := auditAccept_frame s e; rw [h]
@[simp] theorem auditAccept_shadow (s : State) (e : AuditEntry) : (s.auditAccept e).shadow = s.shadow := by obtain ⟨_, _, h⟩ := auditAccept_frame s e; rw [h]
@[simp] theorem auditAccept_mem (s : State) (e : AuditEntry) : (s.auditAccept e).mem = s.mem := by obtain ⟨_, _, h⟩ := auditAccept_frame s e; rw [h]
@[simp] theorem auditAccept_memRest (s : State) (e : AuditEntry) : (s.auditAccept e).memRest = s.memRest := by obtain ⟨_, _, h⟩ := auditAccept_frame s e; rw [h]
@[simp] theorem auditAccept_now (s : State) (e : AuditEntry) : (s.auditAccept e).now = s.now := by obtain ⟨_, _, h⟩ := auditAccept_frame s e; rw [h]
@[simp] theorem auditAccept_freeCtr (s : State) (e : AuditEntry) : (s.auditAccept e).freeCtr = s.freeCtr := by obtain ⟨_, _, h⟩ := auditAccept_frame s e; rw [h]
@[simp] theorem auditAccept_phase (s : State) (e : AuditEntry) : (s.auditAccept e).phase = s.phase := by obtain ⟨_, _, h⟩ := auditAccept_frame s e; rw [h]
@[simp] theorem auditAccept_pd (s : State) (e : AuditEntry) : (s.auditAccept e).pd = s.pd := by obtain ⟨_, _, h⟩ := auditAccept_frame s e; rw [h]
@[simp] theorem auditAccept_pins (s : State) (e : AuditEntry) : (s.auditAccept e).pins = s.pins := by obtain ⟨_, _, h⟩ := auditAccept_frame s e; rw [h]
@[simp] theorem auditAccept_sup (s : State) (e : AuditEntry) : (s.auditAccept e).sup = s.sup := by obtain ⟨_, _, h⟩ := auditAccept_frame s e; rw [h]
@[simp] theorem auditAccept_boot (s : State) (e : AuditEntry) : (s.auditAccept e).boot = s.boot := by obtain ⟨_, _, h⟩ := auditAccept_frame s e; rw [h]
@[simp] theorem auditAccept_nv (s : State) (e : AuditEntry) : (s.auditAccept e).nv = s.nv := by obtain ⟨_, _, h⟩ := auditAccept_frame s e; rw [h]
@[simp] theorem auditAccept_fuses (s : State) (e : AuditEntry) : (s.auditAccept e).fuses = s.fuses := by obtain ⟨_, _, h⟩ := auditAccept_frame s e; rw [h]
@[simp] theorem auditAccept_flashA (s : State) (e : AuditEntry) : (s.auditAccept e).flashA = s.flashA := by obtain ⟨_, _, h⟩ := auditAccept_frame s e; rw [h]
@[simp] theorem auditAccept_flashB (s : State) (e : AuditEntry) : (s.auditAccept e).flashB = s.flashB := by obtain ⟨_, _, h⟩ := auditAccept_frame s e; rw [h]
@[simp] theorem auditAccept_latches (s : State) (e : AuditEntry) : (s.auditAccept e).latches = s.latches := by obtain ⟨_, _, h⟩ := auditAccept_frame s e; rw [h]
@[simp] theorem auditAccept_held (s : State) (e : AuditEntry) : (s.auditAccept e).held = s.held := by obtain ⟨_, _, h⟩ := auditAccept_frame s e; rw [h]
@[simp] theorem auditAccept_hostOut (s : State) (e : AuditEntry) : (s.auditAccept e).hostOut = s.hostOut := by obtain ⟨_, _, h⟩ := auditAccept_frame s e; rw [h]
@[simp] theorem auditAccept_reads (s : State) (e : AuditEntry) : (s.auditAccept e).reads = s.reads := by obtain ⟨_, _, h⟩ := auditAccept_frame s e; rw [h]
@[simp] theorem auditAccept_err (s : State) (e : AuditEntry) : (s.auditAccept e).err = s.err := by obtain ⟨_, _, h⟩ := auditAccept_frame s e; rw [h]
@[simp] theorem auditAccept_pm (s : State) (e : AuditEntry) : (s.auditAccept e).pm = s.pm := by obtain ⟨_, _, h⟩ := auditAccept_frame s e; rw [h]
@[simp] theorem auditAccept_dbg (s : State) (e : AuditEntry) : (s.auditAccept e).dbg = s.dbg := by obtain ⟨_, _, h⟩ := auditAccept_frame s e; rw [h]
@[simp] theorem auditAccept_cores (s : State) (e : AuditEntry) : (s.auditAccept e).cores = s.cores := by obtain ⟨_, _, h⟩ := auditAccept_frame s e; rw [h]
@[simp] theorem auditAccept_templates (s : State) (e : AuditEntry) : (s.auditAccept e).templates = s.templates := by obtain ⟨_, _, h⟩ := auditAccept_frame s e; rw [h]
@[simp] theorem auditAccept_mutables (s : State) (e : AuditEntry) : (s.auditAccept e).mutables = s.mutables := by obtain ⟨_, _, h⟩ := auditAccept_frame s e; rw [h]
@[simp] theorem auditAccept_ports (s : State) (e : AuditEntry) : (s.auditAccept e).ports = s.ports := by obtain ⟨_, _, h⟩ := auditAccept_frame s e; rw [h]
@[simp] theorem auditAccept_drw (s : State) (e : AuditEntry) : (s.auditAccept e).drw = s.drw := by obtain ⟨_, _, h⟩ := auditAccept_frame s e; rw [h]
@[simp] theorem auditAccept_tls (s : State) (e : AuditEntry) : (s.auditAccept e).tls = s.tls := by obtain ⟨_, _, h⟩ := auditAccept_frame s e; rw [h]
@[simp] theorem auditAccept_jnl (s : State) (e : AuditEntry) : (s.auditAccept e).jnl = s.jnl := by obtain ⟨_, _, h⟩ := auditAccept_frame s e; rw [h]
@[simp] theorem auditAccept_layers (s : State) (e : AuditEntry) : (s.auditAccept e).layers = s.layers := by obtain ⟨_, _, h⟩ := auditAccept_frame s e; rw [h]
@[simp] theorem auditAccept_flipCtr (s : State) (e : AuditEntry) : (s.auditAccept e).flipCtr = s.flipCtr := by obtain ⟨_, _, h⟩ := auditAccept_frame s e; rw [h]
@[simp] theorem auditAccept_heads (s : State) (e : AuditEntry) : (s.auditAccept e).heads = s.heads := by obtain ⟨_, _, h⟩ := auditAccept_frame s e; rw [h]
@[simp] theorem auditAccept_dps (s : State) (e : AuditEntry) : (s.auditAccept e).dps = s.dps := by obtain ⟨_, _, h⟩ := auditAccept_frame s e; rw [h]
@[simp] theorem auditAccept_wit (s : State) (e : AuditEntry) : (s.auditAccept e).wit = s.wit := by obtain ⟨_, _, h⟩ := auditAccept_frame s e; rw [h]
@[simp] theorem auditAccept_shelf (s : State) (e : AuditEntry) : (s.auditAccept e).shelf = s.shelf := by obtain ⟨_, _, h⟩ := auditAccept_frame s e; rw [h]
@[simp] theorem auditAccept_tell (s : State) (e : AuditEntry) : (s.auditAccept e).tell = s.tell := by obtain ⟨_, _, h⟩ := auditAccept_frame s e; rw [h]
@[simp] theorem auditAccept_gpu (s : State) (e : AuditEntry) : (s.auditAccept e).gpu = s.gpu := by obtain ⟨_, _, h⟩ := auditAccept_frame s e; rw [h]
@[simp] theorem auditAccept_dmc (s : State) (e : AuditEntry) : (s.auditAccept e).dmc = s.dmc := by obtain ⟨_, _, h⟩ := auditAccept_frame s e; rw [h]
@[simp] theorem auditAccept_stalled (s : State) (e : AuditEntry) : (s.auditAccept e).stalled = s.stalled := by obtain ⟨_, _, h⟩ := auditAccept_frame s e; rw [h]
@[simp] theorem auditAccept_plk (s : State) (e : AuditEntry) : (s.auditAccept e).plk = s.plk := by obtain ⟨_, _, h⟩ := auditAccept_frame s e; rw [h]
@[simp] theorem auditAccept_hap (s : State) (e : AuditEntry) : (s.auditAccept e).hap = s.hap := by obtain ⟨_, _, h⟩ := auditAccept_frame s e; rw [h]
@[simp] theorem auditAccept_tch (s : State) (e : AuditEntry) : (s.auditAccept e).tch = s.tch := by obtain ⟨_, _, h⟩ := auditAccept_frame s e; rw [h]
@[simp] theorem auditAccept_aud (s : State) (e : AuditEntry) : (s.auditAccept e).aud = s.aud := by obtain ⟨_, _, h⟩ := auditAccept_frame s e; rw [h]
@[simp] theorem auditAccept_pmu (s : State) (e : AuditEntry) : (s.auditAccept e).pmu = s.pmu := by obtain ⟨_, _, h⟩ := auditAccept_frame s e; rw [h]
@[simp] theorem auditAccept_tests (s : State) (e : AuditEntry) : (s.auditAccept e).tests = s.tests := by obtain ⟨_, _, h⟩ := auditAccept_frame s e; rw [h]
@[simp] theorem auditWrite_pending (s : State) (o : Origin) (w : RegWrite) (b : Bool) (n : Nat) : (s.auditWrite o w b n).pending = s.pending := by
  obtain ⟨_, _, h⟩ := auditWrite_frame s o w b n; rw [h]
@[simp] theorem auditWrite_shadow (s : State) (o : Origin) (w : RegWrite) (b : Bool) (n : Nat) : (s.auditWrite o w b n).shadow = s.shadow := by
  obtain ⟨_, _, h⟩ := auditWrite_frame s o w b n; rw [h]
@[simp] theorem auditWrite_mem (s : State) (o : Origin) (w : RegWrite) (b : Bool) (n : Nat) : (s.auditWrite o w b n).mem = s.mem := by
  obtain ⟨_, _, h⟩ := auditWrite_frame s o w b n; rw [h]
@[simp] theorem auditWrite_memRest (s : State) (o : Origin) (w : RegWrite) (b : Bool) (n : Nat) : (s.auditWrite o w b n).memRest = s.memRest := by
  obtain ⟨_, _, h⟩ := auditWrite_frame s o w b n; rw [h]
@[simp] theorem auditWrite_now (s : State) (o : Origin) (w : RegWrite) (b : Bool) (n : Nat) : (s.auditWrite o w b n).now = s.now := by
  obtain ⟨_, _, h⟩ := auditWrite_frame s o w b n; rw [h]
@[simp] theorem auditWrite_freeCtr (s : State) (o : Origin) (w : RegWrite) (b : Bool) (n : Nat) : (s.auditWrite o w b n).freeCtr = s.freeCtr := by
  obtain ⟨_, _, h⟩ := auditWrite_frame s o w b n; rw [h]
@[simp] theorem auditWrite_phase (s : State) (o : Origin) (w : RegWrite) (b : Bool) (n : Nat) : (s.auditWrite o w b n).phase = s.phase := by
  obtain ⟨_, _, h⟩ := auditWrite_frame s o w b n; rw [h]
@[simp] theorem auditWrite_pd (s : State) (o : Origin) (w : RegWrite) (b : Bool) (n : Nat) : (s.auditWrite o w b n).pd = s.pd := by
  obtain ⟨_, _, h⟩ := auditWrite_frame s o w b n; rw [h]
@[simp] theorem auditWrite_pins (s : State) (o : Origin) (w : RegWrite) (b : Bool) (n : Nat) : (s.auditWrite o w b n).pins = s.pins := by
  obtain ⟨_, _, h⟩ := auditWrite_frame s o w b n; rw [h]
@[simp] theorem auditWrite_sup (s : State) (o : Origin) (w : RegWrite) (b : Bool) (n : Nat) : (s.auditWrite o w b n).sup = s.sup := by
  obtain ⟨_, _, h⟩ := auditWrite_frame s o w b n; rw [h]
@[simp] theorem auditWrite_boot (s : State) (o : Origin) (w : RegWrite) (b : Bool) (n : Nat) : (s.auditWrite o w b n).boot = s.boot := by
  obtain ⟨_, _, h⟩ := auditWrite_frame s o w b n; rw [h]
@[simp] theorem auditWrite_nv (s : State) (o : Origin) (w : RegWrite) (b : Bool) (n : Nat) : (s.auditWrite o w b n).nv = s.nv := by
  obtain ⟨_, _, h⟩ := auditWrite_frame s o w b n; rw [h]
@[simp] theorem auditWrite_fuses (s : State) (o : Origin) (w : RegWrite) (b : Bool) (n : Nat) : (s.auditWrite o w b n).fuses = s.fuses := by
  obtain ⟨_, _, h⟩ := auditWrite_frame s o w b n; rw [h]
@[simp] theorem auditWrite_flashA (s : State) (o : Origin) (w : RegWrite) (b : Bool) (n : Nat) : (s.auditWrite o w b n).flashA = s.flashA := by
  obtain ⟨_, _, h⟩ := auditWrite_frame s o w b n; rw [h]
@[simp] theorem auditWrite_flashB (s : State) (o : Origin) (w : RegWrite) (b : Bool) (n : Nat) : (s.auditWrite o w b n).flashB = s.flashB := by
  obtain ⟨_, _, h⟩ := auditWrite_frame s o w b n; rw [h]
@[simp] theorem auditWrite_latches (s : State) (o : Origin) (w : RegWrite) (b : Bool) (n : Nat) : (s.auditWrite o w b n).latches = s.latches := by
  obtain ⟨_, _, h⟩ := auditWrite_frame s o w b n; rw [h]
@[simp] theorem auditWrite_held (s : State) (o : Origin) (w : RegWrite) (b : Bool) (n : Nat) : (s.auditWrite o w b n).held = s.held := by
  obtain ⟨_, _, h⟩ := auditWrite_frame s o w b n; rw [h]
@[simp] theorem auditWrite_hostOut (s : State) (o : Origin) (w : RegWrite) (b : Bool) (n : Nat) : (s.auditWrite o w b n).hostOut = s.hostOut := by
  obtain ⟨_, _, h⟩ := auditWrite_frame s o w b n; rw [h]
@[simp] theorem auditWrite_reads (s : State) (o : Origin) (w : RegWrite) (b : Bool) (n : Nat) : (s.auditWrite o w b n).reads = s.reads := by
  obtain ⟨_, _, h⟩ := auditWrite_frame s o w b n; rw [h]
@[simp] theorem auditWrite_err (s : State) (o : Origin) (w : RegWrite) (b : Bool) (n : Nat) : (s.auditWrite o w b n).err = s.err := by
  obtain ⟨_, _, h⟩ := auditWrite_frame s o w b n; rw [h]
@[simp] theorem auditWrite_pm (s : State) (o : Origin) (w : RegWrite) (b : Bool) (n : Nat) : (s.auditWrite o w b n).pm = s.pm := by
  obtain ⟨_, _, h⟩ := auditWrite_frame s o w b n; rw [h]
@[simp] theorem auditWrite_dbg (s : State) (o : Origin) (w : RegWrite) (b : Bool) (n : Nat) : (s.auditWrite o w b n).dbg = s.dbg := by
  obtain ⟨_, _, h⟩ := auditWrite_frame s o w b n; rw [h]
@[simp] theorem auditWrite_cores (s : State) (o : Origin) (w : RegWrite) (b : Bool) (n : Nat) : (s.auditWrite o w b n).cores = s.cores := by
  obtain ⟨_, _, h⟩ := auditWrite_frame s o w b n; rw [h]
@[simp] theorem auditWrite_templates (s : State) (o : Origin) (w : RegWrite) (b : Bool) (n : Nat) : (s.auditWrite o w b n).templates = s.templates := by
  obtain ⟨_, _, h⟩ := auditWrite_frame s o w b n; rw [h]
@[simp] theorem auditWrite_mutables (s : State) (o : Origin) (w : RegWrite) (b : Bool) (n : Nat) : (s.auditWrite o w b n).mutables = s.mutables := by
  obtain ⟨_, _, h⟩ := auditWrite_frame s o w b n; rw [h]
@[simp] theorem auditWrite_ports (s : State) (o : Origin) (w : RegWrite) (b : Bool) (n : Nat) : (s.auditWrite o w b n).ports = s.ports := by
  obtain ⟨_, _, h⟩ := auditWrite_frame s o w b n; rw [h]
@[simp] theorem auditWrite_drw (s : State) (o : Origin) (w : RegWrite) (b : Bool) (n : Nat) : (s.auditWrite o w b n).drw = s.drw := by
  obtain ⟨_, _, h⟩ := auditWrite_frame s o w b n; rw [h]
@[simp] theorem auditWrite_tls (s : State) (o : Origin) (w : RegWrite) (b : Bool) (n : Nat) : (s.auditWrite o w b n).tls = s.tls := by
  obtain ⟨_, _, h⟩ := auditWrite_frame s o w b n; rw [h]
@[simp] theorem auditWrite_jnl (s : State) (o : Origin) (w : RegWrite) (b : Bool) (n : Nat) : (s.auditWrite o w b n).jnl = s.jnl := by
  obtain ⟨_, _, h⟩ := auditWrite_frame s o w b n; rw [h]
@[simp] theorem auditWrite_layers (s : State) (o : Origin) (w : RegWrite) (b : Bool) (n : Nat) : (s.auditWrite o w b n).layers = s.layers := by
  obtain ⟨_, _, h⟩ := auditWrite_frame s o w b n; rw [h]
@[simp] theorem auditWrite_flipCtr (s : State) (o : Origin) (w : RegWrite) (b : Bool) (n : Nat) : (s.auditWrite o w b n).flipCtr = s.flipCtr := by
  obtain ⟨_, _, h⟩ := auditWrite_frame s o w b n; rw [h]
@[simp] theorem auditWrite_heads (s : State) (o : Origin) (w : RegWrite) (b : Bool) (n : Nat) : (s.auditWrite o w b n).heads = s.heads := by
  obtain ⟨_, _, h⟩ := auditWrite_frame s o w b n; rw [h]
@[simp] theorem auditWrite_dps (s : State) (o : Origin) (w : RegWrite) (b : Bool) (n : Nat) : (s.auditWrite o w b n).dps = s.dps := by
  obtain ⟨_, _, h⟩ := auditWrite_frame s o w b n; rw [h]
@[simp] theorem auditWrite_wit (s : State) (o : Origin) (w : RegWrite) (b : Bool) (n : Nat) : (s.auditWrite o w b n).wit = s.wit := by
  obtain ⟨_, _, h⟩ := auditWrite_frame s o w b n; rw [h]
@[simp] theorem auditWrite_shelf (s : State) (o : Origin) (w : RegWrite) (b : Bool) (n : Nat) : (s.auditWrite o w b n).shelf = s.shelf := by
  obtain ⟨_, _, h⟩ := auditWrite_frame s o w b n; rw [h]
@[simp] theorem auditWrite_tell (s : State) (o : Origin) (w : RegWrite) (b : Bool) (n : Nat) : (s.auditWrite o w b n).tell = s.tell := by
  obtain ⟨_, _, h⟩ := auditWrite_frame s o w b n; rw [h]
@[simp] theorem auditWrite_gpu (s : State) (o : Origin) (w : RegWrite) (b : Bool) (n : Nat) : (s.auditWrite o w b n).gpu = s.gpu := by
  obtain ⟨_, _, h⟩ := auditWrite_frame s o w b n; rw [h]
@[simp] theorem auditWrite_dmc (s : State) (o : Origin) (w : RegWrite) (b : Bool) (n : Nat) : (s.auditWrite o w b n).dmc = s.dmc := by
  obtain ⟨_, _, h⟩ := auditWrite_frame s o w b n; rw [h]
@[simp] theorem auditWrite_stalled (s : State) (o : Origin) (w : RegWrite) (b : Bool) (n : Nat) : (s.auditWrite o w b n).stalled = s.stalled := by
  obtain ⟨_, _, h⟩ := auditWrite_frame s o w b n; rw [h]
@[simp] theorem auditWrite_plk (s : State) (o : Origin) (w : RegWrite) (b : Bool) (n : Nat) : (s.auditWrite o w b n).plk = s.plk := by
  obtain ⟨_, _, h⟩ := auditWrite_frame s o w b n; rw [h]
@[simp] theorem auditWrite_hap (s : State) (o : Origin) (w : RegWrite) (b : Bool) (n : Nat) : (s.auditWrite o w b n).hap = s.hap := by
  obtain ⟨_, _, h⟩ := auditWrite_frame s o w b n; rw [h]
@[simp] theorem auditWrite_tch (s : State) (o : Origin) (w : RegWrite) (b : Bool) (n : Nat) : (s.auditWrite o w b n).tch = s.tch := by
  obtain ⟨_, _, h⟩ := auditWrite_frame s o w b n; rw [h]
@[simp] theorem auditWrite_aud (s : State) (o : Origin) (w : RegWrite) (b : Bool) (n : Nat) : (s.auditWrite o w b n).aud = s.aud := by
  obtain ⟨_, _, h⟩ := auditWrite_frame s o w b n; rw [h]
@[simp] theorem auditWrite_pmu (s : State) (o : Origin) (w : RegWrite) (b : Bool) (n : Nat) : (s.auditWrite o w b n).pmu = s.pmu := by
  obtain ⟨_, _, h⟩ := auditWrite_frame s o w b n; rw [h]
@[simp] theorem auditWrite_tests (s : State) (o : Origin) (w : RegWrite) (b : Bool) (n : Nat) : (s.auditWrite o w b n).tests = s.tests := by
  obtain ⟨_, _, h⟩ := auditWrite_frame s o w b n; rw [h]

/-! ### Register writes with a row of their own -/

/-- An admitted write that no rule refuses makes its entries first, if it is audited and the image has committed, and then has its
effect (R679, R683). -/
theorem guarded_admitted {s : State} {o : Origin} {w : RegWrite} (h : s.Admits o w) (k part : State → State) :
    s.guarded o w 0 k part = k (s.entered o w) := by
  obtain ⟨h1, h2, h3, h4⟩ := h
  have h1' : (!(w.free || s.blkOn w.blk)) = false := by rcases h1 with h | h <;> simp [h]
  have h3' : (!w.free && s.cabOwned w.blk && !o.cab) = false := by rcases h3 with h | h | h <;> simp [h]
  unfold State.guarded State.entered
  rw [if_neg (by simp [h1']), if_neg (by simp [h2]), if_neg (by simp [h3'])]
  cases w.audited && s.committed <;> simp [h4]

/-- The write of an Open-world origin to a Cabinet-owned block has no effect but its error and, if audited, a refused entry (R610). -/
theorem guarded_owned {s : State} {o : Origin} {w : RegWrite} (h1 : s.blkOn w.blk = true) (h2 : s.mustWait o w = false)
    (hf : w.free = false) (h3 : s.cabOwned w.blk = true) (h4 : o.cab = false) (n : Nat) (k part : State → State) :
    s.guarded o w n k part =
      (if w.audited && s.committed then s.auditWrite o w true 4 else s).accessError o 0 0x29 w.addr := by
  unfold State.guarded
  rw [if_neg (by simp [h1]), if_neg (by simp [h2]), if_pos (by simp [hf, h3, h4])]

/-! ### Clock limits, undefined memory, the DRAM FIFO -/

/-- The limits of the GPU clock and of GEN_EFF touch registers, free values and the power manager alone (R24, R25, R80). -/
theorem clockActions_frame (s : State) : ∃ r f p, s.clockActions = { s with regs := r, freeCtr := f, pm := p } := by
  unfold State.clockActions
  by_cases h : (decide (2 ≤ s.effThrottle) && s.pm.genThrottle.isNone) = true
  · exact ⟨_, _, _, by simp only [h, if_true]; rfl⟩
  · exact ⟨_, _, _, by simp only [h]; rfl⟩

theorem powerLimits_frame (s : State) : ∃ r f p, s.powerLimits = { s with regs := r, freeCtr := f, pm := p } := by
  obtain ⟨r, f, p, h⟩ := clockActions_frame _
  exact ⟨r, f, p, h⟩

theorem enterFifo_frame (s : State) (a n : Nat) : ∃ m, s.enterFifo a n = { s with dmc := m } := by
  unfold State.enterFifo
  split
  · exact ⟨_, rfl⟩
  · exact ⟨_, rfl⟩

theorem undefBytes_frame (s : State) (lo n : Nat) : ∃ m r f, s.undefBytes lo n = { s with mem := m, memRest := r, freeCtr := f } :=
  ⟨_, _, _, rfl⟩

end Sys2Proof.Machine
end

