-- ==== Sys2Proof/Tests/Small.lean ====
section
/-! SUPPORT. Small states for the tests. -/

namespace Sys2Proof.Tests

open Machine

/-- Bytes followed by zeros, `n` in all. -/
def pad (bs : List Byte) (n : Nat) : List Byte := bs ++ List.replicate (n - bs.length) 0

/-- A module in RUN with every domain on, before any register is written. -/
def up : State := { phase := .running, pd := 0xFFFF }

/-- A module in its start sequence at the step that `b` names. -/
def starting (b : Boot) : State := { phase := .starting, pd := 0xFFFF, boot := { b with rom := true, copyTried := 1 } }

/-- Several register fields put at once. -/
def puts (s : State) (xs : List (Fld × Nat × Nat)) : State := xs.foldl (fun s x => s.put x.1 x.2.1 x.2.2) s

/-- A module in RUN with one DRAM region of 1 GiB on all channels, without ECC, under a checker that grants everything. -/
def dramUp : State :=
  puts up [(F.DMC_RGN_B_EN, 0, 1), (F.DMC_RGN_A_SIZE_64M, 0, 16), (F.DMC_RGN_A_CHMASK, 0, 0xFFFF), (F.DMC_RGN_B_GRAIN_LOG2, 0, 8),
    (F.CAB_RGN_CFG_EN, 0, 1), (F.CAB_RGN_CFG_SIZE_M1, 0, 16383), (F.CAB_RGN_CFG_CAB_R, 0, 1), (F.CAB_RGN_CFG_CAB_W, 0, 1),
    (F.CAB_RGN_CFG_OPEN_R, 0, 1), (F.CAB_RGN_CFG_OPEN_W, 0, 1), (F.CAB_RGN_CFG_KINDS, 0, 0x1FF)]

/-- `s` with host port A up and a mailbox request `op` for Drawer `d` of it in service, with this payload. -/
def asking (s : State) (op d : Nat) (pay : List Byte) : State :=
  { s with
    boot := { s.boot with portsReleased := true },
    ports := [(0, { linkUp := true, inReset := false, vfEnable := true, job := some { opcode := op, drawer := d },
                    request := ((List.range (8 + pay.length)).zip (leBytes 8 pay.length ++ pay)).filterMap
                      (fun x => if x.2 = 0 then none else some (8 + x.1, x.2)) })] }

/-- A module whose Drawer 0 is ACTIVE with a heap of 64 MiB at 0x04000000, two timelines and a template that may migrate. -/
def active : State :=
  let s := puts dramUp [(F.DRW_STATUS_STATE, 0, 1)]
  { s with
    drw := [(0, { heapBase := 0x4000000, heapSize := 0x4000000, saveBase := 0x10000000, tlIds := [0, 1] })],
    tls := [(0, { owner := some 0 }), (1, { owner := some 0, index := 1 })],
    templates := [{ onA := true, migrate := true, maxInstances := 4, queues := 4, gpuMax := 1000, timelines := 2, heapMib := 4096, drainMs := 10 }] }

/-- A save image of that Drawer with nothing configured: its limits and its CRC, no more. -/
def restoreBytes : List Byte :=
  let b := List.replicate 16 0 ++ [0, 4, 0, 0, 0, 1000, 2, 4096, 0, 0, 0].flatMap (leBytes 8)
  b ++ leBytes 4 (crc32 b)

/-- A request that restores it. -/
def restoring : State := asking ((active.put F.DRW_STATUS_STATE 0 2).modDrw 0 (fun w => { w with byQuiesce := true })) 0x21 0 restoreBytes

/-- CRC_EXPECT. -/
def expectReg : Reg := ⟨208, "CRC_EXPECT", 0x24, 0x00F002400030, [(4, 0x100)], true, true, false, .isl, [F.CRC_EXPECT_EXPECT]⟩

/-- A REG_WRITE of its low word, which the image grants. -/
def granting : State :=
  { asking up 0x30 0 (leBytes 4 0x24 ++ leBytes 4 0x30 ++ leBytes 8 5 ++ leBytes 8 0xFF) with
    mutables := [{ blk := 0x24, ports := 1, off := 0x30, mask := 0xFFFFFFFF }] }

/-- An image update that has begun, and its next bytes. -/
def imaging : State :=
  let s := asking up 0x41 0 (leBytes 16 16 ++ List.replicate 16 7)
  s.modPort 0 (fun w => { w with image := some { len := 8192 } })

/-- A new image whose header is sound for the root digest of `committing`. -/
def commitImage : PartialImage :=
  ({ len := 64 } : PartialImage).put 0 (leBytes 4 0x49485452 ++ leBytes 2 1 ++ leBytes 2 1 ++ leBytes 16 64 ++ leBytes 2 0x8460)

/-- Its commit. -/
def committing : State :=
  let s := { asking up 0x42 0 [] with fuses := { rootDigest := [(0, [1])] } }
  s.modPort 0 (fun w => { w with image := some commitImage })

/-- That Drawer with queue 0 enabled on engine `e`, and these commands fetched from it. -/
def queued (e : Nat) (cs : List Cmd) : State :=
  (puts active [(F.DRW_Q_CTRL_ENABLE, 0, 1), (F.DRW_Q_CTRL_ENGINE, 0, e), (F.DRW_INFO_QUEUES, 0, 4), (F.DRW_Q_RING_SIZE_LOG2, 0, 4),
    (F.DRW_Q_CPL_SIZE_LOG2, 0, 4), (F.DRW_Q_POS_HEAD, 0, cs.length), (F.DRW_Q_POS_TAIL, 0, cs.length + 2),
    (F.JNL_RESERVE_PER_CTX, 0, 1024)]).modDrw 0 (fun w => { w with cmds := cs, everEnabled := true })

/-- A fetched command of queue 0 whose ring entry begins with these bytes, zeros above. -/
def cmdOf (entry : List Byte) : Cmd := { entry := pad entry 128, total := 0xFFFFFF, source := 17, rsvCtx := 8 }

/-- A ring entry: header bytes, and a body. -/
def entryOf (head body : List Byte) : List Byte := pad (pad head 64 ++ body) 128

/-- A PASS over one pixel without attachments, its descriptor at heap offset 0 and no Tray. -/
def passEntry : List Byte := entryOf [0x10] (List.replicate 32 0 ++ [1, 0, 1, 0])

/-- A heap with that descriptor, one sample, and a fetched PASS. -/
def passReady : State := (queued 0 [{ cmdOf [] with entry := passEntry }]).poke 0x4000001 1

/-- A tiled PASS that runs, and Bench group 0 in service for its context. -/
def passRun : Cmd :=
  { cmdOf [] with entry := passEntry, stage := .running, state := 1, started := true, total := 1,
                  pass := { tiled := true, tilesX := 1, tilesY := 1, footprint := 4096 } }

/-- `queued` with Bench group 0 in service and a share for Drawer 0. -/
def bench (cs : List Cmd) : State :=
  let s := puts (queued 0 cs) [(F.BGn_STATUS_STATE, 0, 1), (F.GFE_CTX_SHARE_ACTIVE, 0, 500), (F.GFE_CTX_SHARE_CAP, 0, 1000)]
  { s with gpu := { s.gpu with capacity := 1000000 } }

/-- A COMPUTE of one workgroup whose program stands at heap offset 0x100. -/
def computeReady : State :=
  (queued 0 [{ cmdOf [] with entry := entryOf [0x11] ([0, 1] ++ List.replicate 14 0 ++ [1, 0, 0, 0, 1, 0, 0, 0, 1, 0, 0, 0, 32]) }]).writeBytes 0x4000100
    (leBytes 4 0x50485452 ++ [1, 0, 2, 0, 0, 1, 0, 0, 4])

/-- HDn_LUT. -/
def lutReg : Reg := ⟨38, "HDn_LUT", 0x10, 0x00F001010000, [(8, 0x100000), (3, 0x1000), (1024, 0x4)], false, false, false, .isl, [F.HDn_LUT_VALUE]⟩

/-- The Hutch core. -/
def hutchO : Origin := { kind := .hutch, cab := true }

/-- RTA. -/
def rtaO : Origin := { kind := .rt, cab := true }

/-- An application core in S or U mode. -/
def openO : Origin := { kind := .core }

/-- A running module whose RTA pair reads CAN port 0 for one telltale of identifier 0x123. -/
def canUp : State :=
  { up with boot := { shelfLoaded := true, firstFrame := true }, tell := { can0En := true, entries := [{ canId := 0x40000123 }] } }

/-- Head 0 STOPPED with the timing of 1920 by 1080 at 60 Hz. -/
def headReady : State :=
  puts up [(F.HDn_H_HTOTAL, 0, 2200), (F.HDn_H_HACTIVE, 0, 1920), (F.HDn_H_HFP, 0, 88), (F.HDn_H_HSYNC, 0, 44), (F.HDn_V_VTOTAL, 0, 1125),
    (F.HDn_V_VACTIVE, 0, 1080), (F.HDn_V_VFP, 0, 4), (F.HDn_V_VSYNC, 0, 5), (F.HDn_PCLK_KHZ, 0, 148500), (F.HDn_CTRL_PREFETCH_LINES, 0, 8)]

/-- Head 0 RUNNING within a frame that is not its first. -/
def headRun : State :=
  (headReady.put F.HDn_STATUS_STATE 0 2).modHead 0 (fun r => { r with running := true, first := false })

/-- That head transmitting a blank frame, with one Witness region of one pixel. -/
def witnessing : State :=
  let s := (headRun.modHead 0 (fun r => { r with snap := { blank := true } })).put F.HDn_PORT_STATUS_LINK 0 2
  { s with wit := { s.wit with regions := [(0, { en := true, w := 1, h := 1 })] } }

/-- Port 0 of PlynLink up, PlynLink started, no route known. -/
def linked : State :=
  { puts up [(F.PLK_PORT_CTRL_EN, 0, 1), (F.PLK_PORT_STATUS_STATE, 0, 2), (F.PLK_PORT_STATUS_PAM4, 0, 1)] with plk := { started := true } }

/-- Panel 0 of two by two lines, scanning in its first fresh scan, with every node read. -/
def touching : State :=
  (puts up [(F.TCH_PNL_CFG_MODE, 0, 1), (F.TCH_PNL_CFG_DRIVES, 0, 2), (F.TCH_PNL_CFG_SENSES, 0, 2), (F.TCH_PNL_STATUS_STATE, 0, 2)]).modPanel 0
    (fun q => { q with scanning := true, raw := [(0, 500), (1, 500), (72, 500), (73, 500)] })

/-- Haptic channel 0 with a coil of 8 ohm, and one effect of 100 Hz that sustains and tracks. -/
def buzzing : State :=
  { puts up [(F.HAP_CH_CFG_R_COIL, 0, 80), (F.PWR_SUPPLY_HAP_RES, 0, 1), (F.HAP_CH_CFG_F_MIN_HZ, 0, 50), (F.HAP_CH_CFG_F_MAX_HZ, 0, 300), (F.HAP_CH_CFG_STOP_MV, 0, 20)] with
    hap := { effects := [{ track := true, attackMs := 5, sustainMs := 20, freqHz := 100, aAttack := 500, aSustain := 400 }] } }

/-- The audio graph present, and stream 0 of Drawer 0 on queue 0. -/
def sounding (cs : List Cmd) : State :=
  let s := (queued 3 cs).modDrw 0 (fun w => { w with streams := [0] })
  { s with aud := { s.aud with present := true } }

/-- Source 45 offered to context 1. -/
def claimable : State :=
  puts up [(F.ICU_SRC_PENDING, 45, 1), (F.ICU_SRC_OFFERED, 45, 1), (F.ICU_SRC_CTX, 45, 1), (F.ICU_SRC_PRIO, 45, 3)]

end Sys2Proof.Tests
end

