-- ==== Sys2Proof/Tests/Slice0.lean ====
section
/-! SUPPORT. Tests: a witness for every statement with hypotheses, the commands that WellFormed refuses, and single steps whose results
the spec states. -/

namespace Sys2Proof.Tests

open Sys2Proof Sys2Proof.Machine

set_option Elab.async false

/-! ### Witnesses -/

/-- What Obligations.PowerUpReachesAStart assumes can hold. -/
theorem witness_PowerUpReachesAStart :
    (∃ (s : State), s.sup.powered = false ∧ s.phase = .off) ∧
    (∃ (s : State), s.phase = .off) ∧
    (∃ (s : State), s.phase = .off) ∧
    (∃ (s : State), s.sup.powered = true ∧ s.sup.mainSwitch = false ∧ s.sup.inputMv ≤ 15000) ∧
    (∃ (s : State), s.sup.powered = true ∧ s.sup.mainSwitch = true ∧ 10500 ≤ s.sup.inputMv ∧ s.sup.inputMv ≤ 15000) ∧
    (∃ (s : State), s.sup.powered = true) ∧
    (∃ (s : State), s.sup.armed = true ∧ s.sup.qualified = true ∧ s.phase = .off) ∧
    (∃ (s : State), s.err.modResetDue = true ∧ s.phase = .running) :=
  ⟨⟨.reset, by decide +kernel⟩,
   ⟨.reset, by decide +kernel⟩,
   ⟨.reset, by decide +kernel⟩,
   ⟨{ sup := { powered := true, precharging := true } }, by decide +kernel⟩,
   ⟨{ sup := { powered := true, mainSwitch := true, inputMv := 10500 } }, by decide +kernel⟩,
   ⟨{ sup := { powered := true } }, by decide +kernel⟩,
   ⟨{ sup := { powered := true, armed := true, qualified := true } }, by decide +kernel⟩,
   ⟨{ up with err := { modResetDue := true } }, by decide +kernel⟩⟩

/-- What Obligations.StartSequenceLoadsACopy assumes can hold. -/
theorem witness_StartSequenceLoadsACopy :
    (∃ (s : State), s.phase = .starting ∧ s.boot.rom = false) ∧
    (∃ (s : State), s.seqOn = true ∧ s.boot.verified = false) ∧
    (∃ (s : State), s.seqOn = true ∧ s.boot.verified = true ∧ s.boot.sectionsLoaded = false ∧ s.boot.copyTried = 1) ∧
    (∃ (s : State), s.seqOn = true ∧ s.boot.sectionsLoaded = true ∧ s.boot.repairsDone = false) ∧
    (∃ (s : State), s.seqOn = true ∧ s.boot.repairsDone = true ∧ s.boot.openingDone = false) ∧
    (∃ (s : State) (xs : List ChanTrain), s.seqOn = true ∧ s.boot.openingDone = true ∧ s.boot.dramTrained = false ∧ s.boot.recovery =
      false ∧ ((∀ x ∈ xs, bit (s.get F.DMC_INFO_RETIRED) x.ch = false → x.full.isSome = true))) :=
  ⟨⟨{ phase := .starting, fuses := { pairProvisioned := true } }, by decide +kernel⟩,
   ⟨starting {}, by decide +kernel⟩,
   ⟨starting { verified := true }, by decide +kernel⟩,
   ⟨starting { sectionsLoaded := true }, by decide +kernel⟩,
   ⟨starting { repairsDone := true }, by decide +kernel⟩,
   ⟨starting { openingDone := true }, [{ ch := 0, crcOk := false, errs := [], eyes := [], full := some {} }], by decide +kernel⟩⟩

/-- What Obligations.StartSequenceCommits assumes can hold. -/
theorem witness_StartSequenceCommits :
    (∃ (s : State), s.seqOn = true ∧ s.boot.sectionsLoaded = true ∧ s.boot.dramTrained = true ∧ s.boot.shelfLoaded = false) ∧
    (∃ (s : State), s.seqOn = true ∧ s.boot.shelfLoaded = true ∧ s.firstFrames = true ∧ s.boot.extNeeded = true ∧ s.boot.extDone =
      false) ∧
    (∃ (s : State), s.seqOn = true ∧ s.boot.shelfLoaded = true ∧ s.firstFrames = true ∧ s.boot.extNeeded = false ∨ s.boot.extDone = true
      ∧ s.boot.plynDone = false) ∧
    (∃ (s : State), s.seqOn = true ∧ s.boot.plynDone = true ∧ s.committed = false ∧ s.auditFull = false ∧ s.boot.shutdownWaiting =
      false) ∧
    (∃ (s : State), s.seqOn = true ∧ s.boot.plynDone = true ∧ s.committed = false ∧ s.auditFull = false) ∧
    (∃ (s : State), s.phase = .starting ∧ s.boot.rom = true ∧ s.boot.aborted = true) ∧
    (∃ (s : State), s.phase = .starting ∧ s.boot.rom = true ∧ s.boot.aborted = true ∧ s.boot.shutdownWaiting = false) :=
  ⟨⟨starting { sectionsLoaded := true, dramTrained := true }, by decide +kernel⟩,
   ⟨starting { shelfLoaded := true, extNeeded := true }, by decide +kernel⟩,
   ⟨starting { shelfLoaded := true }, by decide +kernel⟩,
   ⟨starting { plynDone := true }, by decide +kernel⟩,
   ⟨starting { plynDone := true, shutdownWaiting := true }, by decide +kernel⟩,
   ⟨starting { aborted := true, shutdownWaiting := true }, by decide +kernel⟩,
   ⟨starting { aborted := true }, by decide +kernel⟩⟩

/-- What Obligations.ShutdownAndLossAreRecorded assumes can hold. -/
theorem witness_ShutdownAndLossAreRecorded :
    (∃ (s : State), s.phase = .running ∧ s.shutdownComing = false ∧ s.pm.inProgress = none) ∧
    (∃ (s : State), s.phase = .starting) ∧
    (∃ (s : State) (r : PwrReq), s.phase = .running ∧ s.shutdownComing = false ∧ s.pm.inProgress = some r) ∧
    (∃ (s : State), s.phase = .shutdown ∧ s.fuses.burns = []) ∧
    (∃ (s : State), s.phase = .running ∨ s.phase = .starting ∨ s.phase = .shutdown) ∧
    (∃ (s : State), s.phase = .running ∨ s.phase = .starting ∨ s.phase = .shutdown) ∧
    (∃ (s : State), s.phase = .running ∨ s.phase = .starting ∨ s.phase = .shutdown) ∧
    (∃ (s : State) (c : OffCause), s.phase = .emergency c) ∧
    (∃ (s : State), s.phase ≠ .off) ∧
    (∃ (s : State) (plate : Int) (die : Int), s.phase ≠ .off ∧ s.throttleFor plate die ≠ 5 ∧ s.get F.PWR_SUPPLY_THROTTLE < s.throttleFor
      plate die) ∧
    (∃ (s : State) (plate : Int) (die : Int), s.phase ≠ .off ∧ s.throttleFor plate die ≤ s.get F.PWR_SUPPLY_THROTTLE ∧ s.throttleFor
      plate die ≠ 5) ∧
    (∃ (s : State) (plate : Int) (die : Int), s.phase = .running ∨ s.phase = .starting ∨ s.phase = .shutdown ∧ s.throttleFor plate die =
      5) ∧
    (∃ (s : State), s.phase ≠ .off ∧ s.get F.PWR_SUPPLY_THROTTLE ≠ 0 ∧ s.get F.PWR_SUPPLY_THROTTLE < 8 ∧ s.pm.cool.any (fun p => p.1 =
      s.get F.PWR_SUPPLY_THROTTLE && decide (p.2 + 1000000000 ≤ s.now)) = true) :=
  ⟨⟨up, by decide +kernel⟩,
   ⟨starting {}, by decide +kernel⟩,
   ⟨{ up with pm := { inProgress := some { seq := 3, target := 1 } } }, { seq := 3, target := 1 }, by decide +kernel⟩,
   ⟨{ phase := .shutdown }, by decide +kernel⟩,
   ⟨up, by decide +kernel⟩,
   ⟨up, by decide +kernel⟩,
   ⟨up, by decide +kernel⟩,
   ⟨{ phase := .emergency .removal }, .removal, by decide +kernel⟩,
   ⟨up, by decide +kernel⟩,
   ⟨up, 86, 0, by decide +kernel⟩,
   ⟨up, 20, 30, by decide +kernel⟩,
   ⟨up, 110, 0, by decide +kernel⟩,
   ⟨{ puts up [(F.PWR_SUPPLY_THROTTLE, 0, 3)] with pm := { cool := [(3, 0)] }, now := 1000000000 }, by decide +kernel⟩⟩

/-- What Obligations.TelltalesFollowTheirFrames assumes can hold. -/
theorem witness_TelltalesFollowTheirFrames :
    (∃ (s : State) (p : Fin 2), s.canOn p = true) ∧
    (∃ (s : State) (p : Fin 2) (ext : Bool) (id : Fin 536870912) (data : List Byte) (t0 : Telltale), s.canOn p = true ∧ s.tell.entries =
      [t0] ∧ t0.canId % 2 ^ 29 = (id : Nat) ∧ bit t0.canId 29 = ext ∧ t0.frameOk p id data = true) ∧
    (∃ (s : State) (p : Fin 2) (ext : Bool) (id : Fin 536870912) (data : List Byte) (t0 : Telltale), s.canOn p = true ∧ s.tell.entries =
      [t0] ∧ t0.canId % 2 ^ 29 = (id : Nat) ∧ bit t0.canId 29 = ext ∧ t0.frameOk p id data = false) ∧
    (∃ (s : State) (i : Fin 64), s.boot.firstFrame = true ∧ (i : Nat) < s.tell.entries.length ∧ max s.boot.firstFrameAt
      ((((s.tell.entries.getD i {}).history.head?).map (fun p => p.1)).getD 0) + s.tell.timeoutMs * 1000000 ≤ s.now) ∧
    (∃ (s : State), s.tell.statusPeriodMs ≠ 0 ∧ ((∀ a ∈ s.tell.sentAt, a + s.tell.statusPeriodMs * 1000000 ≤ s.now))) ∧
    (∃ (s : State) (a : Nat), s.tell.lampFrom = some a ∧ a + 2000000000 ≤ s.now) :=
  ⟨⟨canUp, 0, by decide +kernel⟩,
   ⟨canUp, 0, false, 0x123, [1], { canId := 0x40000123 }, by decide +kernel⟩,
   ⟨canUp, 0, false, 0x123, [], { canId := 0x40000123 }, by decide +kernel⟩,
   ⟨{ canUp with now := 2000000000 }, 0, by decide +kernel⟩,
   ⟨{ canUp with tell := { canUp.tell with statusPeriodMs := 100, statusId := 0x40000123 } }, by decide +kernel⟩,
   ⟨{ up with tell := { lampFrom := some 0 }, now := 2000000000 }, 0, by decide +kernel⟩⟩

/-- What Obligations.BusAccessesReachTheirTargets assumes can hold. -/
theorem witness_BusAccessesReachTheirTargets :
    (∃ (s : State), s.blkOn 0x10 = true ∧ s.held = [] ∧ s.cabOwned 0x10 = false) ∧
    (∃ (s : State), s.blkOn 0x10 = true ∧ s.held = [] ∧ s.cabOwned 0x10 = false) ∧
    (∃ (s : State) (h : Held), s.held = [h] ∧ h.addr / 2 ^ 20 = 0xF0010) ∧
    (∃ (s : State) (a : Nat) (h : Held), s.held = [h] ∧ h.addr / 2 ^ 20 = a / 2 ^ 20) ∧
    (∃ (s : State) (h : Held) (rest : List Held), s.held = h :: rest) ∧
    (∃ (s : State) (h : Held) (rest : List Held) (v : Nat), s.held = h :: rest ∧ h =
      { origin := { kind := .hutch, cab := true }, addr := 0x00F001000A00, size := 4, data := some v, audited := true } ∧ s.blkOn 0x10 =
      true ∧ s.committed = true ∧ s.adl.buf.length ≤ 62) ∧
    (∃ (s : State) (o : Origin) (a : Nat) (bs : List Byte), memArea a = .hutchSram ∧ s.spanCheck o true a bs.length = 0) ∧
    (∃ (s : State) (o : Origin) (a : Nat) (bs : List Byte), memArea a = .dram ∧ s.spanCheck o true a bs.length = 0 ∧ s.dmc.bad = []) ∧
    (∃ (s : State) (o : Origin) (a : Nat) (bs : List Byte), memArea a = .dram ∧ s.spanCheck o true a bs.length = 0 ∧ s.admits a
      bs.length = true ∧ bs ≠ []) ∧
    (∃ (s : State) (o : Origin) (a : Nat) (n : Nat), memArea a = .dram ∧ s.spanCheck o false a n = 0 ∧ s.admits a n = true ∧ n ≠ 0) ∧
    (∃ (s : State) (o : Origin) (a : Nat) (bs : List Byte), memArea a = .dram ∧ s.spanCheck o true a bs.length = 0 ∧ s.admits a
      bs.length = false) ∧
    (∃ (s : State) (a : Nat) (n : Nat), memArea a = .hutchSram ∧ s.spanCheck { kind := .hutch, cab := true } false a n = 0) ∧
    (∃ (s : State) (o : Origin) (a : Nat) (bs : List Byte), memArea a = .hutchSram ∨ memArea a = .dram ∨ memArea a = .shelf ∨ memArea a
      = .journal ∨ memArea a = .mram ∨ memArea a = .unmapped ∧ bs ≠ [] ∧ s.spanCheck o true a bs.length ≠ 0) ∧
    (∃ (s : State) (x : BarAccess) (off : Nat) (bs : List Byte), (s.portOf x.port).linkUp = true ∧ s.boot.portsReleased = true ∧ x.fn =
      0 ∧ x.bar2 = false ∧ x.off = 0x100000 + off ∧ off < 0x80000 ∧ x.data = some bs) ∧
    (∃ (s : State) (x : BarAccess) (off : Nat) (bs : List Byte), (s.portOf x.port).linkUp = true ∧ s.boot.portsReleased = true ∧ x.fn =
      0 ∧ x.bar2 = false ∧ x.off = 0x180000 + off ∧ off < 0x80000 ∧ x.data = some bs) ∧
    (∃ (s : State) (x : BarAccess) (off : Nat), (s.portOf x.port).linkUp = true ∧ s.boot.portsReleased = true ∧ x.fn = 0 ∧ x.bar2 =
      false ∧ x.off = 0x180000 + off ∧ off < 0x80000 ∧ x.data = none) ∧
    (∃ (s : State) (x : BarAccess) (bs : List Byte), (s.portOf x.port).linkUp = true ∧ s.boot.portsReleased = true ∧ x.fn = 0 ∧ x.bar2 =
      false ∧ x.off < 0x100000 ∧ x.data = some bs) ∧
    (∃ (s : State) (x : BarAccess), (s.portOf x.port).linkUp = true ∧ s.boot.portsReleased = true ∧ x.fn = 0 ∧ x.bar2 = false ∧ x.off <
      0x100000 ∧ x.data = none) ∧
    (∃ (s : State) (x : BarAccess) (bs : List Byte), (s.portOf x.port).linkUp = true ∧ s.boot.portsReleased = true ∧ (s.portOf
      x.port).vfEnable = true ∧ x.fn ≠ 0 ∧ s.drwState (x.port * 32 + x.fn - 1) ≠ 0 ∧ x.bar2 = false ∧ x.data = some bs) ∧
    (∃ (s : State) (x : BarAccess) (bs : List Byte), (s.portOf x.port).linkUp = true ∧ s.boot.portsReleased = true ∧ (s.portOf
      x.port).vfEnable = true ∧ x.fn ≠ 0 ∧ s.drwState (x.port * 32 + x.fn - 1) ≠ 0 ∧ x.bar2 = true ∧ x.data = some bs ∧ bs ≠ [] ∧
      s.inHeap (x.port * 32 + x.fn - 1) x.off bs.length = true ∧ memArea ((s.drwOf (x.port * 32 + x.fn - 1)).heapBase + x.off) = .dram ∧
      s.spanCheck (Origin.ofDrawer (x.port * 32 + x.fn - 1)) true ((s.drwOf (x.port * 32 + x.fn - 1)).heapBase + x.off) bs.length = 0 ∧
      s.admits ((s.drwOf (x.port * 32 + x.fn - 1)).heapBase + x.off) bs.length = true) ∧
    (∃ (s : State) (x : BarAccess), (s.portOf x.port).linkUp = true ∧ s.boot.portsReleased = true ∧ (s.portOf x.port).vfEnable = true ∧
      x.fn ≠ 0 ∧ s.drwState (x.port * 32 + x.fn - 1) = 0 ∧ x.data = none) :=
  ⟨⟨up, by decide +kernel⟩,
   ⟨up, by decide +kernel⟩,
   ⟨{ up with held := [{ origin := hutchO, addr := 0x00F001000000, size := 4, data := none }] }, { origin := hutchO, addr := 0x00F001000000, size := 4, data := none }, by decide +kernel⟩,
   ⟨{ up with held := [{ origin := hutchO, addr := 0x00F001000000, size := 4, data := none }] }, 0x00F001010014, { origin := hutchO, addr := 0x00F001000000, size := 4, data := none }, by decide +kernel⟩,
   ⟨{ up with held := [{ origin := hutchO, addr := 0x00F001010014, size := 4, data := some 7 }] }, { origin := hutchO, addr := 0x00F001010014, size := 4, data := some 7 }, [], by decide +kernel⟩,
   ⟨(puts up [(F.CFG_STATUS_COMMITTED, 0, 1)]).hold { origin := hutchO, addr := 0x00F001000A00, size := 4, data := some 7, audited := true }, { origin := hutchO, addr := 0x00F001000A00, size := 4, data := some 7, audited := true }, [], 7, by decide +kernel⟩,
   ⟨up, hutchO, 0x00E002000100, [1, 2, 3], by decide +kernel⟩,
   ⟨dramUp, hutchO, 0x1000, [1, 2, 3], by decide +kernel⟩,
   ⟨dramUp, hutchO, 0x1000, [1, 2, 3], by decide +kernel⟩,
   ⟨dramUp, hutchO, 0x1000, 4, by decide +kernel⟩,
   ⟨{ dramUp with dmc := { dramUp.dmc with retrain := some { ch := 0, paused := true }, fifo := 64 } }, hutchO, 0x1000, [1, 2, 3], by decide +kernel⟩,
   ⟨up, 0x00E002000100, 4, by decide +kernel⟩,
   ⟨up, hutchO, 0x00E100000000, [1], by decide +kernel⟩,
   ⟨{ up with ports := [(0, { linkUp := true })], boot := { portsReleased := true } }, { port := 0, fn := 0, bar2 := false, off := 0x100008, n := 0, data := some [1, 2] }, 8, [1, 2], by decide +kernel⟩,
   ⟨{ up with ports := [(0, { linkUp := true })], boot := { portsReleased := true } }, { port := 0, fn := 0, bar2 := false, off := 0x180008, n := 0, data := some [1, 2] }, 8, [1, 2], by decide +kernel⟩,
   ⟨{ up with ports := [(0, { linkUp := true })], boot := { portsReleased := true } }, { port := 0, fn := 0, bar2 := false, off := 0x180008, n := 4, data := none }, 8, by decide +kernel⟩,
   ⟨{ up with ports := [(0, { linkUp := true })], boot := { portsReleased := true } }, { port := 0, fn := 0, bar2 := false, off := 0x10, n := 0, data := some [1, 0, 0, 0] }, [1, 0, 0, 0], by decide +kernel⟩,
   ⟨{ up with ports := [(0, { linkUp := true })], boot := { portsReleased := true } }, { port := 0, fn := 0, bar2 := false, off := 0x10, n := 4, data := none }, by decide +kernel⟩,
   ⟨{ active with ports := [(0, { linkUp := true, vfEnable := true })], boot := { portsReleased := true } }, { port := 0, fn := 1, bar2 := false, off := 0, n := 0, data := some [1, 0, 0, 0] }, [1, 0, 0, 0], by decide +kernel⟩,
   ⟨{ active with ports := [(0, { linkUp := true, vfEnable := true })], boot := { portsReleased := true } }, { port := 0, fn := 1, bar2 := true, off := 64, n := 0, data := some [1, 2] }, [1, 2], by decide +kernel⟩,
   ⟨{ up with ports := [(0, { linkUp := true, vfEnable := true })], boot := { portsReleased := true } }, { port := 0, fn := 4, bar2 := false, off := 0, n := 4, data := none }, by decide +kernel⟩⟩

/-- What Obligations.HostPortsComeAndGo assumes can hold. -/
theorem witness_HostPortsComeAndGo :
    (∃ (s : State) (p : PortId), s.pdOnB 12 = true ∧ (s.portOf p).inReset = false ∧ bit (s.get F.PWR_PADREL_HELD) 12 = false ∧ s.phase =
      .starting ∨ s.phase = .running) ∧
    (∃ (s : State) (p : PortId), (s.portOf p).linkUp = true ∧ s.boot.portsReleased = true ∧ s.boot.recovery = false) ∧
    (∃ (s : State) (p : PortId), (s.portOf p).linkUp = true ∧ s.boot.portsReleased = false) ∧
    (∃ (s : State) (d : DrawerId), s.drwState d ≠ 0 ∧ (s.drwOf d).reset = none ∧ (s.drwOf d).quiesce = none) ∧
    (∃ (s : State) (d : DrawerId), s.drwState d = 0) ∧
    (∃ (s : State) (p : PortId) (f : Fin 33), (s.fnOf p f).d3hot = false ∧ ((∀ x ∈ (s.fnOf p f).vecs, x.2.events = 0))) ∧
    (∃ (s : State) (p : PortId) (f : Fin 33), (s.fnOf p f).d3hot = false ∧ ((∃ x ∈ (s.fnOf p f).vecs, 0 < x.2.events))) ∧
    (∃ (s : State) (p : PortId) (f : Fin 33), (s.fnOf p f).d3hot = true) :=
  ⟨⟨asking up 1 0 [], 0, by decide +kernel⟩,
   ⟨asking up 1 0 [], 0, by decide +kernel⟩,
   ⟨{ up with ports := [(0, { linkUp := true })] }, 0, by decide +kernel⟩,
   ⟨active, 0, by decide +kernel⟩,
   ⟨up, 0, by decide +kernel⟩,
   ⟨active, 0, 1, by decide +kernel⟩,
   ⟨active.modDrw 0 (fun w => { w with fn := { vecs := [(1, { events := 1 })] } }), 0, 1, by decide +kernel⟩,
   ⟨active.modDrw 0 (fun w => { w with fn := { d3hot := true } }), 0, 1, by decide +kernel⟩⟩

/-- What Obligations.MailboxReportsTheModule assumes can hold. -/
theorem witness_MailboxReportsTheModule :
    (∃ (s : State) (p : PortId) (d : Nat), s.asked p = some (0x0001, d)) ∧
    (∃ (s : State) (p : PortId) (d : Nat), s.asked p = some (0x0002, d)) ∧
    (∃ (s : State) (p : PortId) (d : Nat), s.asked p = some (0x0003, d)) ∧
    (∃ (s : State) (p : PortId) (d : Nat) (n : Nat), s.asked p = some (0x0004, d) ∧ s.payLE p 0 4 = n ∧ 1 ≤ n ∧ n ≤ 64) ∧
    (∃ (s : State) (p : PortId) (d : Nat) (n : Nat), s.asked p = some (0x0051, d) ∧ s.payLE p 0 4 = 0xFF ∧ s.payLE p 4 4 = n ∧ 1 ≤ n ∧ n
      ≤ 64) ∧
    (∃ (s : State) (p : PortId) (d : Nat) (r : Reg) (i : Nat), s.asked p = some (0x0031, d) ∧ s.namedReg p = some (r, i) ∧ s.behindHeld
      (r.addrOf i) = false) ∧
    (∃ (s : State) (p : PortId) (r : MbxRsp), (s.portOf p).job.bind (fun j => j.rsp) = some r ∧ r.payload = [] ∧ (s.portOf p).response =
      [] ∧ r.result = 0 ∧ r.tag = 0 ∧ r.detail = 0 ∧ ((s.portOf p).pf.vec 0).masked = false ∧ (s.portOf p).pf.fnMask = false) :=
  ⟨⟨asking up 1 0 [], 0, 0, by decide +kernel⟩,
   ⟨asking active 2 0 [], 0, 0, by decide +kernel⟩,
   ⟨asking active 3 0 [], 0, 0, by decide +kernel⟩,
   ⟨asking up 4 0 [3], 0, 0, 3, by decide +kernel⟩,
   ⟨asking up 0x51 0 [0xFF, 0, 0, 0, 5], 0, 0, 5, by decide +kernel⟩,
   ⟨asking up 0x31 0 [0x10, 0, 0, 0, 0, 0, 1], 0, 0, lutReg, 0, by decide +kernel⟩,
   ⟨{ up with ports := [(0, { linkUp := true, pf := { vecs := [(0, { masked := false })], fnMask := false }, job := some { rsp := some {} } })] }, 0, {}, by decide +kernel⟩⟩

/-- What Obligations.MailboxManagesDrawers assumes can hold. -/
theorem witness_MailboxManagesDrawers :
    (∃ (s : State) (p : PortId) (d : Nat) (t0 : Template) (base : Nat) (save : Nat), s.asked p = some (0x0010, d) ∧ s.drwState d = 0 ∧
      (s.portOf p).vfEnable = true ∧ s.templates.find? (fun x => x.id = s.payLE p 0 4 && (if (p : Nat) = 0 then x.onA else x.onB)) =
      some t0 ∧ s.heapOk p (s.payLE p 4 4) t0 = true ∧ shareOk t0 (s.payLE p 8 4) = true ∧ s.instances p t0.id < t0.maxInstances ∧
      s.placeIn t0.heapRegion (s.payLE p 4 4 * 2 ^ 20) (s.drwRanges 66) = some base ∧ s.placeIn t0.heapRegion saveBytes ((base, s.payLE
      p 4 4 * 2 ^ 20) :: s.drwRanges 66) = some save ∧ t0.timelines ≤ s.freeTls.length ∧ t0.audioPlay = 0 ∧ t0.audioCap = 0) ∧
    (∃ (s : State) (p : PortId) (d : Nat), s.asked p = some (0x0011, d) ∧ s.drwState d = 1 ∧ s.heapOk p (s.payLE p 0 4) (s.templateOf d)
      = true ∧ (s.drwOf d).heapSize ≤ s.payLE p 0 4 * 2 ^ 20 ∧ (s.drwOf d).heapBase + s.payLE p 0 4 * 2 ^ 20 ≤ (s.get
      F.DMC_RGN_A_BASE_64M (s.templateOf d).heapRegion + s.get F.DMC_RGN_A_SIZE_64M (s.templateOf d).heapRegion) * 2 ^ 26 ∧ (s.drwRanges
      d).any (fun u => overlap (s.drwOf d).heapBase (s.payLE p 0 4 * 2 ^ 20) u.1 u.2) = false) ∧
    (∃ (s : State) (p : PortId) (d : Nat), s.asked p = some (0x0012, d) ∧ s.drwState d = 1 ∧ d < 64 ∧ shareOk (s.templateOf d) (s.payLE
      p 0 4) = true ∧ s.payLE p 0 4 < 1024) ∧
    (∃ (s : State) (p : PortId) (d : Nat) (id : Nat) (a : Nat) (b : Nat), s.asked p = some (0x0013, d) ∧ s.payLE p 0 4 = a ∧ s.payLE p 4
      4 = b ∧ s.payLE p 0xC 4 = 1 ∧ a < 32 ∧ b < 32 ∧ s.drwState (p * 32 + a) ≠ 0 ∧ s.drwState (p * 32 + b) ≠ 0 ∧ s.localTl (p * 32 + b)
      (s.payLE p 8 4) = some id) ∧
    (∃ (s : State) (p : PortId) (d : Nat) (ms : Nat), s.asked p = some (0x0014, d) ∧ s.payLE p 0 4 = 0 ∧ s.payLE p 4 4 = ms ∧ 1 ≤ ms ∧
      ms ≤ 100 ∧ s.drwState d = 1 ∧ (s.drwOf d).reset = none ∧ (s.drwOf d).quiesce = none) ∧
    (∃ (s : State) (p : PortId) (d : Nat), s.asked p = some (0x0015, d) ∧ s.drwState d = 1 ∧ (s.drwOf d).reset = none ∧ (s.drwOf
      d).quiesce = none) ∧
    (∃ (s : State) (p : PortId) (d : Nat), s.asked p = some (0x0010, d) ∧ s.drwState d = 0 ∧ (s.portOf p).vfEnable = true) ∧
    (∃ (s : State) (p : PortId) (d : Nat), s.asked p = some (0x0011, d) ∧ s.drwState d = 1 ∨ s.drwState d = 2) ∧
    (∃ (s : State) (p : PortId) (d : Nat), s.asked p = some (0x0012, d) ∧ s.drwState d = 1 ∨ s.drwState d = 2 ∧ shareOk (s.templateOf d)
      (s.payLE p 0 4) = true) ∧
    (∃ (s : State) (p : PortId) (d : Nat) (id : Nat), s.asked p = some (0x0013, d) ∧ s.payLE p 0xC 4 = 0 ∧ s.payLE p 0 4 ≤ 31 ∧ s.payLE
      p 4 4 ≤ 31 ∧ s.drwState (p * 32 + s.payLE p 0 4) ≠ 0 ∧ s.drwState (p * 32 + s.payLE p 4 4) ≠ 0 ∧ s.localTl (p * 32 + s.payLE p 4
      4) (s.payLE p 8 4) = some id) ∧
    (∃ (s : State) (p : PortId) (d : Nat), s.asked p = some (0x0014, d) ∧ s.payLE p 0 4 ≤ 1 ∧ s.payLE p 4 4 ≤ 100 ∧ s.drwState d ≠ 0) ∧
    (∃ (s : State) (p : PortId) (d : Nat), s.asked p = some (0x0015, d) ∧ s.drwState d ≠ 0) :=
  ⟨⟨asking { active with drw := [], tls := [], regs := dramUp.regs } 0x10 0 [0, 0, 0, 0, 64], 0, 0, (active.templates.getD 0 {}), 0, 0x4000000, by decide +kernel⟩,
   ⟨asking active 0x11 0 [64], 0, 0, by decide +kernel⟩,
   ⟨asking active 0x12 0 [100], 0, 0, by decide +kernel⟩,
   ⟨asking active 0x13 0 [0, 0, 0, 0, 0, 0, 0, 0, 1, 0, 0, 0, 1], 0, 0, 1, 0, 0, by decide +kernel⟩,
   ⟨asking active 0x14 0 [0, 0, 0, 0, 10], 0, 0, 10, by decide +kernel⟩,
   ⟨asking active 0x15 0 [], 0, 0, by decide +kernel⟩,
   ⟨asking { active with drw := [], tls := [], regs := dramUp.regs } 0x10 0 [0, 0, 0, 0, 64], 0, 0, by decide +kernel⟩,
   ⟨asking active 0x11 0 [64], 0, 0, by decide +kernel⟩,
   ⟨asking active 0x12 0 [100], 0, 0, by decide +kernel⟩,
   ⟨asking active 0x13 0 [0, 0, 0, 0, 0, 0, 0, 0, 1], 0, 0, 1, by decide +kernel⟩,
   ⟨asking active 0x14 0 [0, 0, 0, 0, 10], 0, 0, by decide +kernel⟩,
   ⟨asking active 0x15 0 [], 0, 0, by decide +kernel⟩⟩

/-- What Obligations.MailboxMigratesDrawers assumes can hold. -/
theorem witness_MailboxMigratesDrawers :
    (∃ (s : State) (p : PortId) (d : Nat) (ms : Nat), s.asked p = some (0x0028, d) ∧ s.payLE p 0 4 = ms ∧ 1 ≤ ms ∧ ms ≤ 100 ∧ s.drwState
      d = 1 ∧ s.quiet d = true ∧ d / 32 = p) ∧
    (∃ (s : State) (p : PortId) (d : Nat), s.asked p = some (0x0028, d)) ∧
    (∃ (s : State) (p : PortId) (d : Nat) (ms : Nat), s.asked p = some (0x0020, d) ∧ s.payLE p 0 4 = ms ∧ 1 ≤ ms ∧ ms ≤ 100 ∧
      (s.templateOf d).migrate = true ∧ s.drwState d = 1 ∧ s.quiet d = true ∧ d / 32 = p) ∧
    (∃ (s : State) (p : PortId) (d : Nat) (ms : Nat), s.asked p = some (0x0020, d) ∧ s.payLE p 0 4 = ms ∧ 1 ≤ ms ∧ ms ≤ 100 ∧
      (s.templateOf d).migrate = true ∧ s.drwState d = 2) ∧
    (∃ (s : State) (p : PortId) (d : Nat), s.asked p = some (0x0020, d) ∧ s.drwState d = 1 ∨ s.drwState d = 2 ∧ (s.templateOf d).migrate
      = true) ∧
    (∃ (s : State) (p : PortId) (d : Nat), s.asked p = some (0x0022, d) ∧ s.drwState d = 2) ∧
    (∃ (s : State) (p : PortId) (d : Nat) (bs : List Byte), s.asked p = some (0x0021, d) ∧ s.drwState d = 2 ∧ (s.drwOf d).everEnabled =
      false ∧ (s.drwOf d).byQuiesce = true ∧ s.reqBytes p 16 (s.reqLE p 8 4) = bs ∧ 12 ≤ bs.length ∧ bs.length ≤ 65536 ∧ fieldLE bs
      (bs.length - 4) 4 = crc32 (bs.take (bs.length - 4)) ∧ (List.range 11).map (fun i => fieldLE bs (8 * (2 + i)) 8) = (s.templateOf
      d).limits) ∧
    (∃ (s : State) (p : PortId) (d : Nat) (a : Nat) (n : Nat), s.asked p = some (0x0023, d) ∧ s.payLE p 0 8 = a ∧ s.payLE p 8 4 = n ∧ a
      % 8 = 0 ∧ 512 ≤ n ∧ n ≤ 1048576 ∧ 2 ^ n.log2 = n ∧ s.drwState d = 1 ∨ s.drwState d = 2) ∧
    (∃ (s : State) (p : PortId) (d : Nat) (l : DirtyLog), s.asked p = some (0x0024, d) ∧ (s.drwOf d).dirty = some l) ∧
    (∃ (s : State) (p : PortId) (d : Nat), s.asked p = some (0x0025, d) ∧ (s.drwOf d).dirty.isSome = true) :=
  ⟨⟨asking active 0x28 0 [10], 0, 0, 10, by decide +kernel⟩,
   ⟨asking active 0x28 0 [10], 0, 0, by decide +kernel⟩,
   ⟨asking active 0x20 0 [10], 0, 0, 10, by decide +kernel⟩,
   ⟨asking (active.put F.DRW_STATUS_STATE 0 2) 0x20 0 [10], 0, 0, 10, by decide +kernel⟩,
   ⟨asking active 0x20 0 [10], 0, 0, by decide +kernel⟩,
   ⟨asking (active.put F.DRW_STATUS_STATE 0 2) 0x22 0 [], 0, 0, by decide +kernel⟩,
   ⟨restoring, 0, 0, restoreBytes, by decide +kernel⟩,
   ⟨asking active 0x23 0 [0, 0, 0, 1, 0, 0, 0, 0, 0, 2], 0, 0, 0x1000000, 512, by decide +kernel⟩,
   ⟨asking (active.modDrw 0 (fun w => { w with dirty := some { ringAddr := 0, ringEntries := 512 } })) 0x24 0 [], 0, 0, { ringAddr := 0, ringEntries := 512 }, by decide +kernel⟩,
   ⟨asking (active.modDrw 0 (fun w => { w with dirty := some { ringAddr := 0, ringEntries := 512 } })) 0x25 0 [], 0, 0, by decide +kernel⟩⟩

/-- What Obligations.MailboxMovesDataAndImages assumes can hold. -/
theorem witness_MailboxMovesDataAndImages :
    (∃ (s : State) (p : PortId) (d : Nat), s.asked p = some (0x0026, d) ∧ s.drwState d = 1 ∨ s.drwState d = 2 ∧ s.heapListOk p d = true) ∧
    (∃ (s : State) (p : PortId) (d : Nat) (off : Nat) (src : Nat) (n : Nat) (bs : List Byte), s.asked p = some (0x0027, d) ∧ s.drwState
      d = 1 ∨ s.drwState d = 2 ∧ s.heapListOk p d = true ∧ s.heapList p = [(off, src, n)] ∧ bs.length = n) ∧
    (∃ (s : State) (p : PortId) (d : Nat), s.asked p = some (0x0027, d) ∧ s.drwState d = 1 ∨ s.drwState d = 2 ∧ s.heapListOk p d = true) ∧
    (∃ (s : State) (p : PortId) (d : Nat) (i : Nat) (r : Reg), s.asked p = some (0x0030, d) ∧ s.namedReg p = some (r, i) ∧ r.wide = true
      ∧ s.granted p r i &&& s.payLE p 16 8 ≠ 0 ∧ r.id ≠ 34 ∧ r.id ≠ 122 ∧ s.held = [] ∧ s.adl.buf.length ≤ 60 ∧ s.regEntries
      (Origin.mediator p) r i (2 ^ 64 - 1) (s.maskedWord r i (s.payLE p 8 8) (s.payLE p 16 8))
      { allow := s.granted p r i, byCmd := true } ≤ 4 ∧ s.cabOwned (r.ownerBlk i) = false) ∧
    (∃ (s : State) (p : PortId) (d : Nat) (i : Nat) (r : Reg), s.asked p = some (0x0030, d) ∧ s.namedReg p = some (r, i) ∧ r.wide = true
      ∨ (s.payLE p 8 8 < 2 ^ 32 ∧ s.payLE p 16 8 < 2 ^ 32) ∧ s.granted p r i &&& s.payLE p 16 8 ≠ 0 ∧ r.id ≠ 34 ∧ r.id ≠ 122 ∧
      s.behindHeld (r.addrOf i) = false ∧ s.adl.buf.length + s.regEntries (Origin.mediator p) r i (if r.wide = true then 2 ^ 64 - 1 else
      2 ^ 32 - 1) (s.maskedWord r i (s.payLE p 8 8) (s.payLE p 16 8)) { allow := s.granted p r i, byCmd := true } ≤ 64 ∧ s.cabOwned
      (r.ownerBlk i) = false) ∧
    (∃ (s : State) (p : PortId) (d : Nat) (n : Nat), s.asked p = some (0x0040, d) ∧ s.imageDenied = false ∧ s.payLE p 0 4 = n ∧ n ≤
      0x2000000) ∧
    (∃ (s : State) (p : PortId) (d : Nat) (off : Nat) (n : Nat) (x : PartialImage), s.asked p = some (0x0041, d) ∧ s.imageDenied = false
      ∧ (s.portOf p).image = some x ∧ s.payLE p 0 4 = off ∧ s.reqLE p 8 4 = 16 + n ∧ off % 16 = 0 ∧ off + n ≤ x.len) ∧
    (∃ (s : State) (p : PortId) (d : Nat) (x : PartialImage), s.asked p = some (0x0042, d) ∧ s.imageDenied = false ∧ (s.portOf p).image
      = some x ∧ x.stage = 0) ∧
    (∃ (s : State) (p : PortId) (d : Nat) (x : PartialImage), s.asked p = some (0x0042, d) ∧ s.imageDenied = false ∧ (s.portOf p).image
      = some x ∧ x.stage = 1) ∧
    (∃ (s : State) (p : PortId) (d : Nat) (x : PartialImage), s.asked p = some (0x0042, d) ∧ s.imageDenied = false ∧ (s.portOf p).image
      = some x ∧ 2 ≤ x.stage) ∧
    (∃ (s : State) (p : PortId) (d : Nat) (n : Nat), s.asked p = some (0x0050, d) ∧ s.payLE p 8 4 = n ∧ 1 ≤ n ∧ n ≤ 4096 ∧ s.auditHeld =
      []) ∧
    (∃ (s : State) (p : PortId) (d : Nat) (n : Nat) (e : AuditEntry), s.asked p = some (0x0050, d) ∧ s.payLE p 8 4 = n ∧ 1 ≤ n ∧ n ≤
      4096 ∧ s.auditHeld = [e] ∧ s.payLE p 0 8 % 2 ^ 48 = e.pos ∧ s.sealsAmong [e] = []) ∧
    (∃ (s : State) (p : PortId) (d : Nat) (n : Nat), s.asked p = some (0x0050, d) ∧ s.payLE p 8 4 = n ∧ 1 ≤ n ∧ n ≤ 4096) :=
  ⟨⟨asking active 0x26 0 (pad [1] 48), 0, 0, by decide +kernel⟩,
   ⟨asking active 0x27 0 (pad [1] 48), 0, 0, 0, 0, 0, [], by decide +kernel⟩,
   ⟨asking active 0x27 0 (pad [1] 48), 0, 0, by decide +kernel⟩,
   ⟨granting, 0, 0, 0, expectReg, by decide +kernel⟩,
   ⟨granting, 0, 0, 0, expectReg, by decide +kernel⟩,
   ⟨asking up 0x40 0 [0, 32], 0, 0, 8192, by decide +kernel⟩,
   ⟨imaging, 0, 0, 16, 16, { len := 8192 }, by decide +kernel⟩,
   ⟨committing, 0, 0, commitImage, by decide +kernel⟩,
   ⟨{ asking up 0x42 0 [] with ports := [(0, { linkUp := true, job := some { opcode := 0x42 }, image := some { len := 4096, stage := 1 } })] }, 0, 0, { len := 4096, stage := 1 }, by decide +kernel⟩,
   ⟨{ asking up 0x42 0 [] with ports := [(0, { linkUp := true, job := some { opcode := 0x42 }, image := some { len := 4096, stage := 2 } })] }, 0, 0, { len := 4096, stage := 2 }, by decide +kernel⟩,
   ⟨asking up 0x50 0 [0, 0, 0, 0, 0, 0, 0, 0, 5], 0, 0, 5, by decide +kernel⟩,
   ⟨{ asking up 0x50 0 [0, 0, 0, 0, 0, 0, 0, 0, 5] with adl := { buf := [{}] } }, 0, 0, 5, {}, by decide +kernel⟩,
   ⟨asking up 0x50 0 [0, 0, 0, 0, 0, 0, 0, 0, 5], 0, 0, 5, by decide +kernel⟩⟩

/-- What Obligations.DrawerWorkComesToItsEnd assumes can hold. -/
theorem witness_DrawerWorkComesToItsEnd :
    (∃ (s : State) (d : DrawerId) (j : ResetJob), (s.drwOf d).reset = some j ∧ j.drain = false ∧ j.toFree = true) ∧
    (∃ (s : State) (d : DrawerId) (j : ResetJob), (s.drwOf d).reset = some j ∧ j.drain = false ∧ j.toFree = true ∧ j.seq < 65536 ∧
      (s.drwOf d).cmds = [] ∧ (s.drwOf d).tlIds = []) ∧
    (∃ (s : State) (d : DrawerId) (j : ResetJob), (s.drwOf d).reset = some j ∧ j.drain = true ∧ s.cmds d = []) ∧
    (∃ (s : State) (d : DrawerId) (j : ResetJob), (s.drwOf d).reset = some j ∧ j.drain = true ∧ j.deadline ≤ s.now ∧ s.quiet d = false) ∧
    (∃ (s : State) (d : DrawerId) (j : QuiesceJob), s.quiet d = true ∧ (s.drwOf d).quiesce = some j ∧ j.save = false) ∧
    (∃ (s : State) (d : DrawerId), s.quiet d = true) ∧
    (∃ (s : State) (d : DrawerId) (j : QuiesceJob), s.quiet d = true ∧ (s.drwOf d).quiesce = some j ∧ j.deadline ≤ s.now) ∧
    (∃ (s : State) (d : DrawerId) (j : QuiesceJob), s.quiet d = false ∧ (s.drwOf d).quiesce = some j ∧ j.deadline ≤ s.now) ∧
    (∃ (s : State) (d : DrawerId), (s.drwOf d).reset = none) ∧
    (∃ (s : State) (d : DrawerId), (s.drwOf d).reset = none) :=
  ⟨⟨{ active with drw := [(0, { reset := some { cause := .destroy, drain := false, hostWrites := true, toFree := true, deadline := 0, seq := 1 } })] }, 0, { cause := .destroy, drain := false, hostWrites := true, toFree := true, deadline := 0, seq := 1 }, by decide +kernel⟩,
   ⟨{ active with drw := [(0, { reset := some { cause := .destroy, drain := false, hostWrites := true, toFree := true, deadline := 0, seq := 1 } })] }, 0, { cause := .destroy, drain := false, hostWrites := true, toFree := true, deadline := 0, seq := 1 }, by decide +kernel⟩,
   ⟨{ active with drw := [(0, { reset := some { cause := .reset, drain := true, hostWrites := true, toFree := false, deadline := 0, seq := 1 } })] }, 0, { cause := .reset, drain := true, hostWrites := true, toFree := false, deadline := 0, seq := 1 }, by decide +kernel⟩,
   ⟨{ active with drw := [(0, { cmds := [cmdOf []], reset := some { cause := .reset, drain := true, hostWrites := true, toFree := false, deadline := 0, seq := 1 } })] }, 0, { cause := .reset, drain := true, hostWrites := true, toFree := false, deadline := 0, seq := 1 }, by decide +kernel⟩,
   ⟨active.modDrw 0 (fun w => { w with quiesce := some { save := false, deadline := 0 } }), 0, { save := false, deadline := 0 }, by decide +kernel⟩,
   ⟨active, 0, by decide +kernel⟩,
   ⟨active.modDrw 0 (fun w => { w with quiesce := some { save := false, deadline := 0 } }), 0, { save := false, deadline := 0 }, by decide +kernel⟩,
   ⟨(queued 0 [cmdOf []]).modDrw 0 (fun w => { w with quiesce := some { save := false, deadline := 0 } }), 0, { save := false, deadline := 0 }, by decide +kernel⟩,
   ⟨active, 0, by decide +kernel⟩,
   ⟨active, 0, by decide +kernel⟩⟩

/-- What Obligations.DoorbellsAndQueueEnables assumes can hold. -/
theorem witness_DoorbellsAndQueueEnables :
    (∃ (s : State) (d : DrawerId) (q : QueueId) (v : Fin 4294967296), s.drwState d = 1 ∨ s.drwState d = 2 ∧ s.on F.DRW_Q_CTRL_ENABLE
      (qIx d q) = true ∧ ((v : Nat) + 2 ^ 32 - s.get F.DRW_Q_POS_HEAD (qIx d q)) % 2 ^ 32 ≤ 2 ^ s.get F.DRW_Q_RING_SIZE_LOG2 (qIx d q) ∧
      ((v : Nat) + 2 ^ 32 - s.get F.DRW_Q_POS_TAIL (qIx d q)) % 2 ^ 32 ≤ 2 ^ s.get F.DRW_Q_RING_SIZE_LOG2 (qIx d q)) ∧
    (∃ (s : State) (d : DrawerId) (q : QueueId) (v : Fin 4294967296), s.drwState d = 1 ∨ s.drwState d = 2 ∧ s.on F.DRW_Q_CTRL_ENABLE
      (qIx d q) = true ∧ 2 ^ s.get F.DRW_Q_RING_SIZE_LOG2 (qIx d q) < ((v : Nat) + 2 ^ 32 - s.get F.DRW_Q_POS_HEAD (qIx d q)) % 2 ^ 32) ∧
    (∃ (s : State) (d : DrawerId) (q : QueueId), s.drwState d = 1 ∨ s.drwState d = 2 ∧ s.on F.DRW_Q_CTRL_ENABLE (qIx d q) = false) ∧
    (∃ (s : State) (d : DrawerId) (q : QueueId) (v : Fin 4294967296), s.drwState d = 1 ∨ s.drwState d = 2 ∧ s.on F.DRW_Q_CTRL_ENABLE
      (qIx d q) = true ∧ ((v : Nat) + 2 ^ 32 - s.get F.DRW_Q_CPOS_CONSUMED (qIx d q)) % 2 ^ 32 ≤ 2 ^ s.get F.DRW_Q_CPL_SIZE_LOG2 (qIx d
      q) ∧ (s.get F.DRW_Q_CPOS_WRITTEN (qIx d q) + 2 ^ 32 - (v : Nat)) % 2 ^ 32 ≤ 2 ^ s.get F.DRW_Q_CPL_SIZE_LOG2 (qIx d q)) ∧
    (∃ (s : State) (d : DrawerId) (q : QueueId), s.drwState d = 1 ∨ s.drwState d = 2 ∧ s.on F.DRW_Q_CTRL_ENABLE (qIx d q) = false ∧ s.on
      F.DRW_Q_CTRL_CLOSING (qIx d q) = false) ∧
    (∃ (s : State) (d : DrawerId) (q : QueueId) (v : Fin 4294967296), s.drwState d = 1 ∨ s.drwState d = 2 ∧ s.on F.DRW_Q_CTRL_CLOSING
      (qIx d q) = true ∧ ((v : Nat) + 2 ^ 32 - s.get F.DRW_Q_CPOS_CONSUMED (qIx d q)) % 2 ^ 32 ≤ 2 ^ s.get F.DRW_Q_CPL_SIZE_LOG2 (qIx d
      q) ∧ (s.get F.DRW_Q_CPOS_WRITTEN (qIx d q) + 2 ^ 32 - (v : Nat)) % 2 ^ 32 ≤ 2 ^ s.get F.DRW_Q_CPL_SIZE_LOG2 (qIx d q)) ∧
    (∃ (s : State) (d : DrawerId) (q : QueueId), s.drwState d = 1 ∨ s.drwState d = 2 ∧ s.on F.DRW_Q_CTRL_ENABLE (qIx d q) = false ∧
      s.enableBad d q = false) ∧
    (∃ (s : State) (d : DrawerId) (q : QueueId), s.drwState d = 1 ∨ s.drwState d = 2 ∧ s.on F.DRW_Q_CTRL_ENABLE (qIx d q) = false ∧
      s.enableBad d q = true) ∧
    (∃ (s : State) (d : DrawerId) (q : QueueId), s.drwState d ≠ 0 ∧ s.on F.DRW_Q_CTRL_ENABLE (qIx d q) = true) ∧
    (∃ (s : State) (d : DrawerId) (q : QueueId), s.drwState d ≠ 0 ∧ s.on F.DRW_Q_CTRL_ENABLE (qIx d q) = false) ∧
    (∃ (s : State) (d : DrawerId) (q : QueueId), s.on F.DRW_Q_CTRL_ENABLE (qIx d q) = true) :=
  ⟨⟨queued 1 [], 0, 0, 5, by decide +kernel⟩,
   ⟨queued 1 [], 0, 0, 50, by decide +kernel⟩,
   ⟨active, 0, 0, by decide +kernel⟩,
   ⟨(queued 1 []).put F.DRW_Q_CPOS_WRITTEN 0 3, 0, 0, 3, by decide +kernel⟩,
   ⟨active, 0, 0, by decide +kernel⟩,
   ⟨((queued 1 []).put F.DRW_Q_CPOS_WRITTEN 0 3).put F.DRW_Q_CTRL_CLOSING 0 1, 0, 0, 3, by decide +kernel⟩,
   ⟨(queued 1 []).put F.DRW_Q_CTRL_ENABLE 0 0, 0, 0, by decide +kernel⟩,
   ⟨active, 0, 0, by decide +kernel⟩,
   ⟨queued 1 [], 0, 0, by decide +kernel⟩,
   ⟨active, 0, 0, by decide +kernel⟩,
   ⟨queued 1 [cmdOf []], 0, 0, by decide +kernel⟩⟩

/-- What Obligations.CommandsAreFetchedAndRun assumes can hold. -/
theorem witness_CommandsAreFetchedAndRun :
    (∃ (s : State) (d : DrawerId) (q : QueueId), s.canFetch d q = true ∧ 8 ≤ s.jnlFree d) ∧
    (∃ (s : State) (d : DrawerId) (q : QueueId), s.canFetch d q = true ∧ s.jnlFree d < 8) ∧
    (∃ (s : State) (d : DrawerId) (q : QueueId) (e : List Byte), s.canFetch d q = true ∧ 8 ≤ s.jnlFree d ∧ s.cmds d = [] ∧ e.length =
      128 ∧ headerOk false e = true ∧ fieldLE e 8 8 % 8 = 0 ∧ fieldLE e 0 1 = 0 ∧ fieldLE e 1 1 = 0 ∧ fieldLE e 2 1 = 0) ∧
    (∃ (s : State) (d : DrawerId) (q : QueueId), s.canFetch d q = true ∧ 8 ≤ s.jnlFree d ∧ s.cmds d = []) ∧
    (∃ (s : State) (d : DrawerId) (q : QueueId), s.canFetch d q = true ∧ 8 ≤ s.jnlFree d) ∧
    (∃ (s : State) (d : DrawerId) (q : QueueId) (k : Nat) (c : Cmd), s.cmd? d q k = some c ∧ c.stage = .running) ∧
    (∃ (s : State) (d : CtxId) (q : QueueId) (seq : Nat) (c : Cmd), s.cmds d = [c] ∧ c.queue = q ∧ c.seq = seq ∧ c.opcode = 0 ∧ c.flags
      = 0 ∧ c.waits = 0 ∧ c.stage = .fetched ∧ c.statusAddr = 0 ∧ c.attempt = 0 ∧ 1 ≤ s.jnlFree d) ∧
    (∃ (s : State) (d : CtxId) (q : QueueId) (seq : Nat) (c : Cmd), s.cmd? d q seq = some c ∧ c.opcode = 0 ∧ s.dispatchable d c = true ∧
      1 + b2n c.signal ≤ s.jnlFree d) :=
  ⟨⟨queued 1 [], 0, 0, by decide +kernel⟩,
   ⟨(queued 1 []).put F.JNL_RESERVE_PER_CTX 0 0 |> fun s => { s with jnl := { s.jnl with sharedUsed := 100000000 } }, 0, 0, by decide +kernel⟩,
   ⟨queued 1 [], 0, 0, pad [] 128, by decide +kernel⟩,
   ⟨queued 1 [], 0, 0, by decide +kernel⟩,
   ⟨queued 1 [], 0, 0, by decide +kernel⟩,
   ⟨queued 1 [{ cmdOf [] with stage := .running }], 0, 0, 0, { cmdOf [] with stage := .running }, by decide +kernel⟩,
   ⟨queued 1 [cmdOf []], 0, 0, 0, cmdOf [], by decide +kernel⟩,
   ⟨queued 1 [cmdOf []], 0, 0, 0, cmdOf [], by decide +kernel⟩⟩

/-- What Obligations.CommandsReportAndAreReleased assumes can hold. -/
theorem witness_CommandsReportAndAreReleased :
    (∃ (s : State) (d : CtxId) (q : QueueId) (seq : Nat) (c : Cmd), s.cmd? d q seq = some c ∧ c.stage = .running ∧ c.committed ≠
      c.postedCommitted ∧ c.postedAt + 20000 ≤ s.now) ∧
    (∃ (s : State) (d : CtxId) (q : QueueId) (seq : Nat) (c : Cmd), s.cmds d = [c] ∧ c.queue = q ∧ c.seq = seq ∧ (d : Nat) < 64 ∧
      c.stage = .running ∧ c.committed ≠ c.postedCommitted ∧ c.postedAt + 20000 ≤ s.now ∧ c.statusOk = true ∧ c.bodyKnown = true ∧
      c.statusAddr ≠ 0 ∧ (s.drwOf d).dirty = none ∧ (s.drwOf d).reset = none) ∧
    (∃ (s : State) (d : CtxId) (q : QueueId) (seq : Nat) (c : Cmd), s.cmd? d q seq = some c ∧ c.stage = .finished ∧ tget 0 s.jnl.ccHeld
      c.source < 64 ∧ s.get F.JNL_STATUS_CC_OCC < 4095) ∧
    (∃ (s : State) (d : CtxId) (q : QueueId) (seq : Nat) (c : Cmd), s.cmd? d q seq = some c ∧ c.stage = .finished ∧ tget 0 s.jnl.ccHeld
      c.source < 64 ∨ s.ccShared < 2816) ∧
    (∃ (s : State) (d : CtxId) (q : QueueId) (seq : Nat) (c : Cmd), s.cmd? d q seq = some c ∧ c.stage = .finished ∧ 64 ≤ tget 0
      s.jnl.ccHeld c.source ∧ 2816 ≤ s.ccShared) ∧
    (∃ (s : State) (d : CtxId) (q : QueueId) (c : Cmd), s.cmd? d q (s.qWritten d q) = some c ∧ c.stage = .reported ∧ c.visible = true) ∧
    (∃ (s : State) (d : CtxId) (q : QueueId) (c : Cmd), s.cmds d = [c] ∧ c.queue = q ∧ (d : Nat) < 64 ∧ c.seq = s.get
      F.DRW_Q_CPOS_WRITTEN (qIx d q) ∧ c.stage = .reported ∧ c.visible = true ∧ c.state = 3 ∧ c.flags = 8 ∧ c.statusAddr = 0 ∧ (s.drwOf
      d).dirty = none ∧ (s.drwOf d).reset = none ∧ s.on F.DRW_Q_CTRL_CLOSING (qIx d q) = false) ∧
    (∃ (s : State) (d : CtxId) (q : QueueId) (seq : Nat) (x : Fin 16) (c : Cmd), s.cmd? d q seq = some c ∧ c.stage = .running ∧
      faultCode x = true) ∧
    (∃ (s : State) (d : CtxId) (q : QueueId) (seq : Nat) (c : Cmd), s.cmds d = [c] ∧ c.queue = q ∧ c.seq = seq ∧ c.stage = .running ∧
      c.replayable = true ∧ c.attempt < 3 ∧ s.jnlHas d q seq 6 = false ∧ (d : Nat) < 64 ∧ c.statusAddr = 0) ∧
    (∃ (s : State) (d : CtxId) (q : QueueId) (seq : Nat) (c : Cmd), s.cmd? d q seq = some c ∧ c.stage = .running) ∧
    (∃ (s : State) (d : DrawerId) (v : VecId) (a : Nat), ((s.drwOf d).fn.vec v).timerFrom = some a ∧ s.get F.DRW_MOD_TIME_US (qIx d v) ≠
      0 ∧ 0 < ((s.drwOf d).fn.vec v).events ∧ (s.drwOf d).fn.d3hot = false ∧ a + (s.get F.DRW_MOD_TIME_US (qIx d v) - ((s.drwOf
      d).fn.vec v).frozenUs) * 1000 ≤ s.now) ∧
    (∃ (s : State) (d : DrawerId) (v : VecId) (a : Nat), ((s.drwOf d).fn.vec v).timerFrom = some a ∧ 0 < ((s.drwOf d).fn.vec v).events ∧
      (s.drwOf d).fn.d3hot = false ∧ s.get F.DRW_MOD_TIME_US (qIx d v) ≠ 0 ∧ a + (s.get F.DRW_MOD_TIME_US (qIx d v) - ((s.drwOf
      d).fn.vec v).frozenUs) * 1000 ≤ s.now ∧ ((s.drwOf d).fn.vec v).masked = false ∧ (s.drwOf d).fn.fnMask = false ∧ (s.drwOf d).reset
      = none) ∧
    (∃ (s : State) (p : PortId) (f : Fin 33) (v : Fin 64), (f : Nat) = 0 ∨ (v : Nat) < 16 ∧ ((s.fnOf p f).vec v).pendingBit = true ∧
      (s.fnOf p f).fnMask = false ∧ (s.fnOf p f).d3hot = false ∧ s.fnSilent p f = false) ∧
    (∃ (f : Fin 33) (v : Fin 64), (f : Nat) = 0 ∨ (v : Nat) < 16) :=
  ⟨⟨{ queued 1 [{ cmdOf [0, 0, 0, 0, 0, 0, 0, 0, 8] with stage := .running, committed := 1 }] with now := 20000 }, 0, 0, 0, { cmdOf [0, 0, 0, 0, 0, 0, 0, 0, 8] with stage := .running, committed := 1 }, by decide +kernel⟩,
   ⟨{ queued 1 [{ cmdOf [0, 0, 0, 0, 0, 0, 0, 0, 8] with stage := .running, committed := 1 }] with now := 20000 }, 0, 0, 0, { cmdOf [0, 0, 0, 0, 0, 0, 0, 0, 8] with stage := .running, committed := 1 }, by decide +kernel⟩,
   ⟨queued 1 [{ cmdOf [] with stage := .finished, state := 3 }], 0, 0, 0, { cmdOf [] with stage := .finished, state := 3 }, by decide +kernel⟩,
   ⟨queued 1 [{ cmdOf [] with stage := .finished, state := 3 }], 0, 0, 0, { cmdOf [] with stage := .finished, state := 3 }, by decide +kernel⟩,
   ⟨{ queued 1 [{ cmdOf [] with stage := .finished, state := 3 }] with jnl := { ccHeld := [(17, 2880)] } }, 0, 0, 0, { cmdOf [] with stage := .finished, state := 3 }, by decide +kernel⟩,
   ⟨queued 1 [{ cmdOf [] with stage := .reported, state := 3, visible := true }], 0, 0, { cmdOf [] with stage := .reported, state := 3, visible := true }, by decide +kernel⟩,
   ⟨queued 1 [{ cmdOf [0, 8] with stage := .reported, state := 3, visible := true }], 0, 0, { cmdOf [0, 8] with stage := .reported, state := 3, visible := true }, by decide +kernel⟩,
   ⟨queued 1 [{ cmdOf [] with stage := .running }], 0, 0, 0, 5, { cmdOf [] with stage := .running }, by decide +kernel⟩,
   ⟨queued 1 [{ cmdOf [] with stage := .running }], 0, 0, 0, { cmdOf [] with stage := .running }, by decide +kernel⟩,
   ⟨queued 1 [{ cmdOf [] with stage := .running }], 0, 0, 0, { cmdOf [] with stage := .running }, by decide +kernel⟩,
   ⟨{ (active.put F.DRW_MOD_TIME_US 0 9).modDrw 0 (fun w => { w with fn := { fnMask := false, vecs := [(0, { masked := false, events := 1, timerFrom := some 0 })] } }) with now := 9000 }, 0, 0, 0, by decide +kernel⟩,
   ⟨{ (active.put F.DRW_MOD_TIME_US 0 9).modDrw 0 (fun w => { w with fn := { fnMask := false, vecs := [(0, { masked := false, events := 1, timerFrom := some 0 })] } }) with now := 9000 }, 0, 0, 0, by decide +kernel⟩,
   ⟨active.modDrw 0 (fun w => { w with fn := { fnMask := false, vecs := [(2, { pendingBit := true })] } }), 0, 1, 2, by decide +kernel⟩,
   ⟨1, 2, by decide +kernel⟩⟩

/-- What Obligations.GpuCommandsRun assumes can hold. -/
theorem witness_GpuCommandsRun :
    (∃ (s : State) (d : CtxId) (q : QueueId) (seq : Nat) (binds : List (Nat × Nat)) (c : Cmd) (w : Bound), s.cmd? d q seq = some c ∧
      c.opcode = 0x10 ∧ s.dispatchable d c = true ∧ passRecs c + b2n c.signal ≤ s.jnlFree d ∧ s.passCheck d c = 0 ∧ (s.streamRun d
      (streamOps (s.heapRead d (s.passDesc d c).stream (s.passDesc d c).len) ((s.passDesc d c).len / 32)) binds 0 {}) = .inr w ∧
      s.passHeld (s.passTray d c :: s.passSigs d (s.passDesc d c)) = false) ∧
    (∃ (s : State) (d : CtxId) (q : QueueId) (seq : Nat) (binds : List (Nat × Nat)) (c : Cmd) (w : Bound), s.cmds d = [c] ∧ c.queue = q
      ∧ c.seq = seq ∧ (d : Nat) < 64 ∧ c.opcode = 0x10 ∧ s.dispatchable d c = true ∧ passRecs c + b2n c.signal ≤ s.jnlFree d ∧
      s.passCheck d c = 0 ∧ (s.streamRun d (streamOps (s.heapRead d (s.passDesc d c).stream (s.passDesc d c).len) ((s.passDesc d c).len
      / 32)) binds 0 {}) = .inr w ∧ s.passHeld (s.passTray d c :: s.passSigs d (s.passDesc d c)) = false ∧ s.passTiled d c (s.passDesc d
      c) = false) ∧
    (∃ (s : State) (d : CtxId) (q : QueueId) (seq : Nat) (g : GroupId) (c : Cmd) (m : Nat) (i : Nat), s.charge.shortCheck.cmd? d q seq =
      some c ∧ s.charge.shortCheck.offerPick g = some (m, (d : Nat)) ∧ c.offers g = true ∧ c.opcode = 0x10 ∧ c.pass.tiled = true ∧
      s.charge.shortCheck.maskOk c g = true ∧ c.pass.prims.length ≤ c.binEnd ∧ s.charge.shortCheck.resident g < tileSlots
      c.pass.footprint ∧ c.pass.next? = some i ∧ m ≠ 3 ∧ (c.pass.flushes = 0 && s.charge.shortCheck.tilePoisoned d c
      (s.charge.shortCheck.passDesc d c) i) = false) ∧
    (∃ (s : State) (d : CtxId) (q : QueueId) (seq : Nat) (g : GroupId) (c : Cmd) (m : Nat) (i : Nat), s.charge.shortCheck.cmd? d q seq =
      some c ∧ s.charge.shortCheck.offerPick g = some (m, (d : Nat)) ∧ c.offers g = true ∧ c.opcode = 0x10 ∧ c.pass.tiled = true ∧
      s.charge.shortCheck.maskOk c g = true ∧ c.pass.prims.length ≤ c.binEnd ∧ s.charge.shortCheck.resident g < tileSlots
      c.pass.footprint ∧ c.pass.next? = some i ∧ m = 3 ∧ (c.pass.flushes = 0 && s.charge.shortCheck.tilePoisoned d c
      (s.charge.shortCheck.passDesc d c) i) = false) ∧
    (∃ (s : State) (d : CtxId) (q : QueueId) (seq : Nat) (tile : Nat) (n : Nat) (c : Cmd) (g : Nat), s.cmds d = [c] ∧ c.queue = q ∧
      c.seq = seq ∧ c.pass.inTile = [(g, tile)] ∧ (s.passDesc d c).cols = [] ∧ (s.passDesc d c).depthFmt = 0 ∧ c.body 8 8 = 0 ∧ n = 0) ∧
    (∃ (s : State) (d : CtxId) (q : QueueId) (seq : Nat) (tile : Nat) (n : Nat) (c : Cmd) (x : Nat × Nat), s.cmd? d q seq = some c ∧
      c.pass.inTile.find? (fun p => p.2 = tile) = some x ∧ n ≤ 3) ∧
    (∃ (s : State) (d : CtxId) (q : QueueId) (seq : Nat) (tile : Nat) (n : Nat) (c : Cmd) (x : Nat × Nat), s.cmd? d q seq = some c ∧
      c.pass.inTile.find? (fun p => p.2 = tile) = some x ∧ 3 < n) ∧
    (∃ (s : State) (d : CtxId) (q : QueueId) (seq : Nat) (c : Cmd), s.cmd? d q seq = some c ∧ c.stage = .running ∧ c.opcode = 0x10 ∧
      c.pass.tiled = true ∧ c.binEnd < c.pass.prims.length ∧ c.pass.binned < c.binEnd ∧ (c.pass.flushes = 0 && (List.range
      c.tileTotal).any (s.tilePoisoned d c (s.passDesc d c))) = false) ∧
    (∃ (s : State) (d : CtxId) (q : QueueId) (seq : Nat) (c : Cmd), s.cmds d = [c] ∧ c.queue = q ∧ c.seq = seq ∧ (d : Nat) < 64 ∧
      c.stage = .running ∧ c.opcode = 0x10 ∧ c.pass.tiled = true ∧ c.binEnd < c.pass.prims.length ∧ c.pass.binned < c.binEnd ∧
      (c.pass.flushes = 0 && (List.range c.tileTotal).any (s.tilePoisoned d c (s.passDesc d c))) = false) ∧
    (∃ (s : State) (d : CtxId) (q : QueueId) (seq : Nat) (c : Cmd), s.cmds d = [c] ∧ c.queue = q ∧ c.seq = seq ∧ c.opcode = 0x11 ∧ (d :
      Nat) < 64 ∧ s.dispatchable d c = true ∧ 1 + b2n c.signal ≤ s.jnlFree d ∧ (s.computeCheck d c).1 = 0 ∧ bit (c.body 0x1E 1) 0 =
      false) ∧
    (∃ (s : State) (d : CtxId) (q : QueueId) (seq : Nat) (c : Cmd), s.cmd? d q seq = some c ∧ c.stage = .running ∧ c.opcode = 0x10 ∨
      c.opcode = 0x11) ∧
    (∃ (s : State) (d : CtxId) (q : QueueId) (seq : Nat) (c : Cmd), s.cmd? d q seq = some c ∧ c.stage = .running ∧ c.opcode = 0x10 ∨
      c.opcode = 0x11 ∧ c.queue = q ∧ c.seq = seq) ∧
    (∃ (s : State) (d : DrawerId) (q : QueueId) (seq : Nat) (c : Cmd), s.charge.cmds d = [c] ∧ c.queue = q ∧ c.seq = seq ∧ c.stage =
      .running ∧ c.nonpreempt = true ∧ s.charge.get F.GFE_DL_CFG_NP_LIMIT_US * 1000 < c.runNs) ∧
    (∃ (s : State) (d : DrawerId) (q : QueueId) (seq : Nat) (c : Cmd), s.charge.cmd? d q seq = some c ∧ c.stage = .running ∧
      c.nonpreempt = true ∧ s.charge.get F.GFE_DL_CFG_NP_LIMIT_US * 1000 < c.runNs) ∧
    (∃ (s : State) (c : CtxId) (q : QueueId) (seq : Nat) (x : Cmd), s.charge.cmd? c q seq = some x ∧ x.stage = .running ∧ x.opcode =
      0x10 ∨ x.opcode = 0x11 ∧ s.charge.get F.GFE_CTX_LIMIT_RUN_LIMIT_MS c ≠ 0 ∧ s.charge.get F.GFE_CTX_LIMIT_RUN_LIMIT_MS c * 1000000 <
      x.runNs) ∧
    (∃ (s : State) (c : CtxId) (q : QueueId) (seq : Nat) (x : Cmd), s.charge.cmds c = [x] ∧ x.queue = q ∧ x.seq = seq ∧ x.stage =
      .running ∧ x.opcode = 0x10 ∨ x.opcode = 0x11 ∧ s.charge.get F.GFE_CTX_LIMIT_RUN_LIMIT_MS c ≠ 0 ∧ s.charge.get
      F.GFE_CTX_LIMIT_RUN_LIMIT_MS c * 1000000 < x.runNs) :=
  ⟨⟨passReady, 0, 0, 0, [], { cmdOf [] with entry := passEntry }, {}, by decide +kernel⟩,
   ⟨passReady, 0, 0, 0, [], { cmdOf [] with entry := passEntry }, {}, by decide +kernel⟩,
   ⟨bench [passRun], 0, 0, 0, 0, passRun, 6, 0, by decide +kernel⟩,
   ⟨{ bench [passRun] with gpu := { capacity := 1000000, groups := [(0, { resumeFirst := [{ ctx := 0 }] })] } }, 0, 0, 0, 0, passRun, 3, 0, by decide +kernel⟩,
   ⟨bench [{ passRun with pass := { passRun.pass with inTile := [(0, 0)] } }], 0, 0, 0, 0, 0, { passRun with pass := { passRun.pass with inTile := [(0, 0)] } }, 0, by decide +kernel⟩,
   ⟨bench [{ passRun with pass := { passRun.pass with inTile := [(0, 0)] } }], 0, 0, 0, 0, 1, { passRun with pass := { passRun.pass with inTile := [(0, 0)] } }, (0, 0), by decide +kernel⟩,
   ⟨bench [{ passRun with pass := { passRun.pass with inTile := [(0, 0)] } }], 0, 0, 0, 0, 4, { passRun with pass := { passRun.pass with inTile := [(0, 0)] } }, (0, 0), by decide +kernel⟩,
   ⟨bench [{ passRun with pass := { passRun.pass with prims := [{ tiles := [0] }, { tiles := [0] }], traySize := 65536 + 131072 + 60 } }], 0, 0, 0, { passRun with pass := { passRun.pass with prims := [{ tiles := [0] }, { tiles := [0] }], traySize := 65536 + 131072 + 60 } }, by decide +kernel⟩,
   ⟨bench [{ passRun with pass := { passRun.pass with prims := [{ tiles := [0] }, { tiles := [0] }], traySize := 65536 + 131072 + 60 } }], 0, 0, 0, { passRun with pass := { passRun.pass with prims := [{ tiles := [0] }, { tiles := [0] }], traySize := 65536 + 131072 + 60 } }, by decide +kernel⟩,
   ⟨computeReady, 0, 0, 0, { cmdOf [] with entry := entryOf [0x11] ([0, 1] ++ List.replicate 14 0 ++ [1, 0, 0, 0, 1, 0, 0, 0, 1, 0, 0, 0, 32]) }, by decide +kernel⟩,
   ⟨bench [passRun], 0, 0, 0, passRun, by decide +kernel⟩,
   ⟨bench [passRun], 0, 0, 0, passRun, by decide +kernel⟩,
   ⟨bench [{ cmdOf [0x11, 4] with stage := .running, runNs := 100000000000 }], 0, 0, 0, { cmdOf [0x11, 4] with stage := .running, runNs := 100000000000 }, by decide +kernel⟩,
   ⟨bench [{ cmdOf [0x11, 4] with stage := .running, runNs := 100000000000 }], 0, 0, 0, { cmdOf [0x11, 4] with stage := .running, runNs := 100000000000 }, by decide +kernel⟩,
   ⟨(bench [{ passRun with runNs := 3000000000 }]).put F.GFE_CTX_LIMIT_RUN_LIMIT_MS 0 2000, 0, 0, 0, { passRun with runNs := 3000000000 }, by decide +kernel⟩,
   ⟨(bench [{ passRun with runNs := 3000000000 }]).put F.GFE_CTX_LIMIT_RUN_LIMIT_MS 0 2000, 0, 0, 0, { passRun with runNs := 3000000000 }, by decide +kernel⟩⟩

/-- What Obligations.ContextsShareTheBench assumes can hold. -/
theorem witness_ContextsShareTheBench :
    (∃ (s : State) (g : GroupId) (m : Nat) (c : Nat) (x : Cmd), (s.charge.shortCheck).offerPick g = some (m, c) ∧ m ≠ 3 ∧
      s.charge.shortCheck.gpuReady c g = some x) ∧
    (∃ (s : State) (g : GroupId) (m : Nat) (c : Nat), (s.charge.shortCheck).offerPick g = some (m, c) ∧ m = 3) ∧
    (∃ (s : State), s.get F.PWR_STATUS_STATE = 0 ∧ s.pdOnB 4 = true ∧ s.windowDue = true) ∧
    (∃ (s : State), s.get F.PWR_STATUS_STATE = 0 ∧ s.pdOnB 4 = true ∧ s.windowDue = true) ∧
    (∃ (s : State) (ctx : Fin 2) (e : List Byte), 8 ≤ s.charge.jnlFree (64 + (ctx : Nat)) ∧ s.cmds (64 + (ctx : Nat)) = [] ∧ e.length =
      128) ∧
    (∃ (s : State) (ctx : Fin 2), s.charge.jnlFree (64 + (ctx : Nat)) < 8) ∧
    (∃ (s : State) (g : GroupId) (c : Nat) (x : CxCmd), (s.bgOf g).preemptFor = some c ∧ c < 66 ∧ (s.charge.discardTiles g).cxWork c =
      some x) ∧
    (∃ (s : State) (g : GroupId) (c : Nat), (s.bgOf g).preemptFor = some c ∧ 66 ≤ c ∧ (s.bgOf g).holds.any (fun h => h.np) = false) ∧
    (∃ (s : State) (g : GroupId), (s.bgOf g).preemptFor.isSome = true ∧ (s.bgOf g).preemptAt + 60000 ≤ s.now) ∧
    (∃ (s : State) (g : GroupId), (s.bgOf g).holds.any (fun h => decide (64 ≤ h.ctx)) = true) ∧
    (∃ (s : State) (g : GroupId), (s.bgOf g).holds.any (fun h => decide (64 ≤ h.ctx)) = false) ∧
    (∃ (s : State) (id : Nat) (x : CxCmd) (c : Cmd), s.charge.gpu.cx.find? (fun y => y.id = id) = some x ∧ s.charge.cmd? x.ctx x.q x.seq
      = some c ∧ (s.charge.cxLate x c && !s.charge.preemptible.isEmpty && !s.charge.saving) = false) ∧
    (∃ (s : State) (id : Nat) (x : CxCmd) (c : Cmd), s.charge.gpu.cx.find? (fun y => y.id = id) = some x ∧ s.charge.cmd? x.ctx x.q x.seq
      = some c ∧ s.charge.cxLate x c = true ∧ s.charge.preemptible ≠ [] ∧ s.charge.saving = false) ∧
    (∃ (s : State) (id : Nat) (x : CxCmd), s.gpu.cx.find? (fun y => y.id = id) = some x ∧ x.missed = false ∧ x.cutoff ≤ s.now ∧ x.head <
      8) :=
  ⟨⟨bench [passRun], 0, 6, 0, passRun, by decide +kernel⟩,
   ⟨{ bench [passRun] with gpu := { capacity := 1000000, groups := [(0, { resumeFirst := [{ ctx := 0 }] })] } }, 0, 3, 0, by decide +kernel⟩,
   ⟨bench [passRun], by decide +kernel⟩,
   ⟨bench [passRun], by decide +kernel⟩,
   ⟨bench [passRun], 0, (pad ([0x11] ++ List.replicate 47 0 ++ [2, 1, 100]) 128), by decide +kernel⟩,
   ⟨{ (queued 1 []).put F.JNL_RESERVE_PER_CTX 0 0 with jnl := { sharedUsed := 100000000 } }, 0, by decide +kernel⟩,
   ⟨({ up with gpu := { cx := [{ id := 5, ctx := 64, head := 2, need := 1, started := true }], groups := [(0, { holds := [{ ctx := 3 }] })] }, drw := [(64, { cmds := [{ cmdOf [0x11] with stage := .running, total := 4 }] })] }).modBg 0 (fun b => { b with preemptFor := some 64 }), 0, 64, { id := 5, ctx := 64, head := 2, need := 1, started := true }, by decide +kernel⟩,
   ⟨({ up with gpu := { cx := [{ id := 5, ctx := 64, head := 2, need := 1, started := true }], groups := [(0, { holds := [{ ctx := 3 }] })] }, drw := [(64, { cmds := [{ cmdOf [0x11] with stage := .running, total := 4 }] })] }).modBg 0 (fun b => { b with preemptFor := some 66 }), 0, 66, by decide +kernel⟩,
   ⟨{ up with gpu := { groups := [(0, { preemptFor := some 64 })] }, now := 60000 }, 0, by decide +kernel⟩,
   ⟨{ up with gpu := { cx := [{ id := 5, ctx := 64, head := 2, need := 1, started := true }], groups := [(0, { holds := [{ ctx := 64, seq := 5 }], resumeFirst := [{ ctx := 3 }] })] } }, 0, by decide +kernel⟩,
   ⟨{ up with gpu := { groups := [(0, { resumeFirst := [{ ctx := 3 }], restoreFor := some 64 })] } }, 0, by decide +kernel⟩,
   ⟨{ { up with gpu := { cx := [{ id := 5, ctx := 64, head := 2, need := 1, started := true }], groups := [(0, { holds := [{ ctx := 3 }] })] }, drw := [(64, { cmds := [{ cmdOf [0x11] with stage := .running, total := 4 }] })] } with gpu := { cx := [{ id := 5, ctx := 64, head := 2, need := 1, started := true }] } }, 5, { id := 5, ctx := 64, head := 2, need := 1, started := true }, { cmdOf [0x11] with stage := .running, total := 4 }, by decide +kernel⟩,
   ⟨({ up with gpu := { cx := [{ id := 5, ctx := 64, head := 2, need := 1, started := true }], groups := [(0, { holds := [{ ctx := 3 }] })] }, drw := [(64, { cmds := [{ cmdOf [0x11] with stage := .running, total := 4 }] })] }).put F.BGn_STATUS_STATE 0 1, 5, { id := 5, ctx := 64, head := 2, need := 1, started := true }, { cmdOf [0x11] with stage := .running, total := 4 }, by decide +kernel⟩,
   ⟨{ up with gpu := { cx := [{ id := 5, ctx := 64, head := 2, need := 1, started := true }] } }, 5, { id := 5, ctx := 64, head := 2, need := 1, started := true }, by decide +kernel⟩⟩

/-- What Obligations.CopiesAndCompositionsRun assumes can hold. -/
theorem witness_CopiesAndCompositionsRun :
    (∃ (s : State) (d : DrawerId) (q : QueueId) (seq : Nat) (c : Cmd) (x : Nat), s.cmds d = [c] ∧ c.queue = q ∧ c.seq = seq ∧ c.opcode =
      1 ∧ s.dispatchable d c = true ∧ 1 + b2n c.signal ≤ s.jnlFree d ∧ s.copyCheck d c false = 0 ∧ s.freeEngine 4 8 = some x) ∧
    (∃ (s : State) (d : DrawerId) (q : QueueId) (seq : Nat) (c : Cmd) (x : Nat), s.cmds d = [c] ∧ c.queue = q ∧ c.seq = seq ∧ c.opcode =
      2 ∧ s.dispatchable d c = true ∧ 1 + b2n c.signal ≤ s.jnlFree d ∧ s.copyCheck d c true = 0 ∧ s.freeEngine 4 8 = some x) ∧
    (∃ (s : State) (d : DrawerId) (q : QueueId) (seq : Nat) (c : Cmd) (x : Nat), s.cmds d = [c] ∧ c.queue = q ∧ c.seq = seq ∧ c.opcode =
      0x20 ∧ s.dispatchable d c = true ∧ 1 + b2n c.signal ≤ s.jnlFree d ∧ c.body 0 1 = 0 ∧ s.listCheck d c = 0 ∧ s.freeEngine 12 4 =
      some x) ∧
    (∃ (s : State) (d : DrawerId) (q : QueueId) (seq : Nat) (c : Cmd) (x : Nat), s.cmds d = [c] ∧ c.queue = q ∧ c.seq = seq ∧ c.opcode =
      0x20 ∧ s.dispatchable d c = true ∧ 1 + b2n c.signal ≤ s.jnlFree d ∧ c.body 0 1 = 1 ∧ s.captureCheck d c = 0 ∧ s.freeEngine 12 4 =
      some x) ∧
    (∃ (s : State) (d : DrawerId) (q : QueueId) (seq : Nat) (c : Cmd), s.cmd? d q seq = some c ∧ c.stage = .running ∧ c.opcode = 0x20 ∧
      c.body 0 1 = 1 ∧ s.captureOf d c = none ∧ c.startedAt + 100000000 ≤ s.now) ∧
    (∃ (s : State) (d : CtxId) (q : QueueId) (seq : Nat) (c : Cmd) (src : Nat) (dst : Nat) (n : Nat), s.cmds d = [c] ∧ c.queue = q ∧
      c.seq = seq ∧ c.stage = .running ∧ c.opcode = 1 ∧ c.committed < c.total ∧ c.copyBody = (src, dst, n, 1, 1) ∧ s.cmdReqs d c = [] ∧
      c.statusAddr = 0 ∧ s.dmc.bad = []) ∧
    (∃ (s : State) (d : CtxId) (q : QueueId) (seq : Nat) (c : Cmd), s.cmd? d q seq = some c ∧ c.stage = .running ∧ c.committed < c.total
      ∧ c.opcode = 1 ∨ c.opcode = 2) ∧
    (∃ (s : State) (d : CtxId) (q : QueueId) (seq : Nat) (c : Cmd), s.cmd? d q seq = some c ∧ c.stage = .running ∧ c.committed < c.total
      ∧ c.opcode = 0x20) ∧
    (∃ (s : State) (d : CtxId) (q : QueueId) (seq : Nat) (c : Cmd), s.cmd? d q seq = some c ∧ c.stage = .running ∧ c.committed < c.total
      ∧ c.opcode = 0x30) ∧
    (∃ (s : State) (d : CtxId) (q : QueueId) (seq : Nat) (data : List Byte) (c : Cmd), s.cmd? d q seq = some c ∧ c.stage = .running ∧
      c.committed < c.total ∧ c.opcode = 0x10 ∨ c.opcode = 0x11 ∧ s.gpuUnitReady d c (leNat data) = true) ∧
    (∃ (s : State) (d : CtxId) (q : QueueId) (seq : Nat) (c : Cmd), s.cmds d = [c] ∧ c.queue = q ∧ c.seq = seq ∧ c.stage = .running ∧
      c.opcode = 0x10 ∧ c.committed < c.total ∧ c.pass.tiled = true ∧ c.pass.written = [3] ∧ c.statusAddr = 0) ∧
    (∃ (s : State) (d : CtxId) (q : QueueId) (seq : Nat) (data : List Byte) (c : Cmd), s.cmds d = [c] ∧ c.queue = q ∧ c.seq = seq ∧
      c.stage = .running ∧ c.opcode = 0x10 ∧ c.committed < c.total ∧ c.pass.tiled = false ∧ s.gpuUnitReady d c (leNat data) = true) ∧
    (∃ (s : State) (d : CtxId) (q : QueueId) (seq : Nat) (c : Cmd), s.cmds d = [c] ∧ c.queue = q ∧ c.seq = seq ∧ (d : Nat) < 64 ∧
      c.stage = .running ∧ c.committed = c.total ∧ c.opcode ≠ 0x10 ∧ c.unordered = false ∧ c.attempt = 0) ∧
    (∃ (s : State) (d : CtxId) (q : QueueId) (seq : Nat) (c : Cmd), s.cmd? d q seq = some c ∧ c.stage = .running ∧ c.committed =
      c.total) ∧
    (∃ (s : State) (d : CtxId) (q : QueueId) (seq : Nat) (c : Cmd), s.cmd? d q seq = some c ∧ c.stage = .finished ∨ c.stage = .reported
      ∧ c.visible = false ∧ s.unacked d q seq = false) :=
  ⟨⟨queued 1 [{ cmdOf [] with entry := entryOf [0x01] (leBytes 8 0 ++ leBytes 8 4096 ++ leBytes 8 64 ++ [1, 1]) }], 0, 0, 0, { cmdOf [] with entry := entryOf [0x01] (leBytes 8 0 ++ leBytes 8 4096 ++ leBytes 8 64 ++ [1, 1]) }, 4, by decide +kernel⟩,
   ⟨queued 1 [{ cmdOf [] with entry := entryOf [0x02] (leBytes 8 0 ++ leBytes 8 4096 ++ leBytes 8 64 ++ [1, 1, 0, 0] ++ leBytes 4 0x01020304) }], 0, 0, 0, { cmdOf [] with entry := entryOf [0x02] (leBytes 8 0 ++ leBytes 8 4096 ++ leBytes 8 64 ++ [1, 1, 0, 0] ++ leBytes 4 0x01020304) }, 4, by decide +kernel⟩,
   ⟨(queued 2 [{ cmdOf [] with entry := entryOf [0x20] ([0, 1, 0, 4, 4, 0, 2, 0] ++ leBytes 8 0x1000 ++ leBytes 4 64 ++ leBytes 4 0 ++ leBytes 8 0x800) }]).writeBytes 0x4000800 (leBytes 8 0x2000 ++ leBytes 4 64 ++ [3] ++ pad [] 7 ++ [4, 0, 2, 0] ++ pad [] 4 ++ [4, 0, 2, 0]), 0, 0, 0, { cmdOf [] with entry := entryOf [0x20] ([0, 1, 0, 4, 4, 0, 2, 0] ++ leBytes 8 0x1000 ++ leBytes 4 64 ++ leBytes 4 0 ++ leBytes 8 0x800) }, 12, by decide +kernel⟩,
   ⟨(queued 2 [{ cmdOf [] with entry := entryOf [0x20] ([1, 0, 0, 3, 0, 0, 0, 0] ++ leBytes 8 0x1000 ++ leBytes 4 64) }]).put F.HDn_LOWN_OWNER 8 0, 0, 0, 0, { cmdOf [] with entry := entryOf [0x20] ([1, 0, 0, 3, 0, 0, 0, 0] ++ leBytes 8 0x1000 ++ leBytes 4 64) }, 12, by decide +kernel⟩,
   ⟨{ queued 2 [{ { cmdOf [] with entry := entryOf [0x20] ([1, 0, 0, 3, 0, 0, 0, 0] ++ leBytes 8 0x1000 ++ leBytes 4 64) } with stage := .running }] with now := 100000000 }, 0, 0, 0, { { cmdOf [] with entry := entryOf [0x20] ([1, 0, 0, 3, 0, 0, 0, 0] ++ leBytes 8 0x1000 ++ leBytes 4 64) } with stage := .running }, by decide +kernel⟩,
   ⟨queued 1 [{ cmdOf [] with entry := entryOf [0x01] (leBytes 8 0 ++ leBytes 8 4096 ++ leBytes 8 64 ++ [1, 1]), stage := .running, state := 1, started := true, total := 1, source := 4 }], 0, 0, 0, { cmdOf [] with entry := entryOf [0x01] (leBytes 8 0 ++ leBytes 8 4096 ++ leBytes 8 64 ++ [1, 1]), stage := .running, state := 1, started := true, total := 1, source := 4 }, 0, 4096, 64, by decide +kernel⟩,
   ⟨queued 1 [{ cmdOf [] with entry := entryOf [0x01] (leBytes 8 0 ++ leBytes 8 4096 ++ leBytes 8 64 ++ [1, 1]), stage := .running, state := 1, started := true, total := 1, source := 4 }], 0, 0, 0, { cmdOf [] with entry := entryOf [0x01] (leBytes 8 0 ++ leBytes 8 4096 ++ leBytes 8 64 ++ [1, 1]), stage := .running, state := 1, started := true, total := 1, source := 4 }, by decide +kernel⟩,
   ⟨queued 2 [{ { cmdOf [] with entry := entryOf [0x20] ([1, 0, 0, 3, 0, 0, 0, 0] ++ leBytes 8 0x1000 ++ leBytes 4 64) } with stage := .running, total := 1 }], 0, 0, 0, { { cmdOf [] with entry := entryOf [0x20] ([1, 0, 0, 3, 0, 0, 0, 0] ++ leBytes 8 0x1000 ++ leBytes 4 64) } with stage := .running, total := 1 }, by decide +kernel⟩,
   ⟨sounding [{ cmdOf [0x30] with stage := .running, total := 1 }], 0, 0, 0, { cmdOf [0x30] with stage := .running, total := 1 }, by decide +kernel⟩,
   ⟨queued 0 [{ passRun with total := 4, pass := { passRun.pass with written := [3] } }], 0, 0, 0, [], { passRun with total := 4, pass := { passRun.pass with written := [3] } }, by decide +kernel⟩,
   ⟨queued 0 [{ passRun with total := 4, pass := { passRun.pass with written := [3] } }], 0, 0, 0, { passRun with total := 4, pass := { passRun.pass with written := [3] } }, by decide +kernel⟩,
   ⟨(bench [{ passRun with pass := { passRun.pass with tiled := false, groups := [0] } }]).modBg 0 (fun b => { b with holds := [{ ctx := 0 }] }), 0, 0, 0, [], { passRun with pass := { passRun.pass with tiled := false, groups := [0] } }, by decide +kernel⟩,
   ⟨queued 1 [{ { cmdOf [] with entry := entryOf [0x01] (leBytes 8 0 ++ leBytes 8 4096 ++ leBytes 8 64 ++ [1, 1]), stage := .running, state := 1, started := true, total := 1, source := 4 } with committed := 1 }], 0, 0, 0, { { cmdOf [] with entry := entryOf [0x01] (leBytes 8 0 ++ leBytes 8 4096 ++ leBytes 8 64 ++ [1, 1]), stage := .running, state := 1, started := true, total := 1, source := 4 } with committed := 1 }, by decide +kernel⟩,
   ⟨queued 1 [{ { cmdOf [] with entry := entryOf [0x01] (leBytes 8 0 ++ leBytes 8 4096 ++ leBytes 8 64 ++ [1, 1]), stage := .running, state := 1, started := true, total := 1, source := 4 } with committed := 1 }], 0, 0, 0, { { cmdOf [] with entry := entryOf [0x01] (leBytes 8 0 ++ leBytes 8 4096 ++ leBytes 8 64 ++ [1, 1]), stage := .running, state := 1, started := true, total := 1, source := 4 } with committed := 1 }, by decide +kernel⟩,
   ⟨queued 1 [{ { cmdOf [] with entry := entryOf [0x01] (leBytes 8 0 ++ leBytes 8 4096 ++ leBytes 8 64 ++ [1, 1]), stage := .running, state := 1, started := true, total := 1, source := 4 } with stage := .finished }], 0, 0, 0, { { cmdOf [] with entry := entryOf [0x01] (leBytes 8 0 ++ leBytes 8 4096 ++ leBytes 8 64 ++ [1, 1]), stage := .running, state := 1, started := true, total := 1, source := 4 } with stage := .finished }, by decide +kernel⟩⟩

/-- What Obligations.LayersFlip assumes can hold. -/
theorem witness_LayersFlip :
    (∃ (s : State) (o : Origin) (h : HeadId) (owner : Fin 128), s.Reaches o (0x10 + (h : Nat)) ∧ (owner : Nat) < 0x41 ∨ (owner : Nat) =
      0x7F) ∧
    (∃ (s : State) (group : Bool) (d : DrawerId), s.drwState d = 1 ∧ s.commitCheck d (((List.range 64).filter (fun sl => bit (s.get
      F.DRW_FLIP_SEL_SLOTS d) sl)).map (fun sl => (sl, s.staged d sl))) group = (0, 0)) ∧
    (∃ (s : State) (group : Bool) (descs : List (Nat × List Byte)) (sel : List (Nat × Desc)), sel = descs.map (fun p => (p.1, Desc.parse
      p.2)) ∧ (s.commitCheck 0x40 sel group).1 = 0) ∧
    (∃ (s : State) (d : DrawerId), s.drwState d = 1 ∧ s.get F.DRW_FLIP_SEL_SLOTS d = 0) ∧
    (∃ (s : State) (d : DrawerId), s.drwState d ≠ 0) ∧
    (∃ (s : State) (o : Origin) (h : HeadId) (w : Fin 65536), s.Reaches o (0x10 + (h : Nat)) ∧ o.cab = true ∨ (w : Nat) = s.get
      F.HDn_SFLIP_WINDOWS h ∧ s.get F.HDn_SFLIP_WINDOWS h < 65536) ∧
    (∃ (s : State) (o : Origin) (h : HeadId), s.Reaches o (0x10 + (h : Nat))) ∧
    (∃ (s : State) (h : HeadId) (l : Fin 8) (f : Flip), s.layers = [((h : Nat) * 9 + l, { pend := some f })] ∧ f.cross = false ∧ f.tl =
      none ∧ f.cx = none) :=
  ⟨⟨puts up [(F.HDn_STATUS_STATE, 0, 2), (F.HDn_H_HTOTAL, 0, 2200), (F.HDn_H_HACTIVE, 0, 1920), (F.HDn_V_VTOTAL, 0, 1125), (F.HDn_V_VACTIVE, 0, 1080), (F.HDn_PCLK_KHZ, 0, 148500), (F.HDn_CTRL_PREFETCH_LINES, 0, 8)], rtaO, 0, 3, by decide +kernel⟩,
   ⟨puts active [(F.DRW_FLIP_SEL_SLOTS, 0, 1), (F.HDn_LOWN_OWNER, 0, 0), (F.HDn_LOWN_SLOT, 0, 0), (F.DRW_LS_DESC_WORD, 3, 3), (F.DRW_LS_DESC_WORD, 9, 0x4000)], false, 0, by decide +kernel⟩,
   ⟨puts up [(F.HDn_LOWN_OWNER, 0, 64), (F.HDn_LOWN_SLOT, 0, 0)], false, [(0, pad (pad [] 12 ++ [3] ++ pad [] 24 ++ [0x40]) 64)], [(0, Desc.parse (pad (pad [] 12 ++ [3] ++ pad [] 24 ++ [0x40]) 64))], by decide +kernel⟩,
   ⟨active, 0, by decide +kernel⟩,
   ⟨active, 0, by decide +kernel⟩,
   ⟨puts up [(F.HDn_STATUS_STATE, 0, 2), (F.HDn_H_HTOTAL, 0, 2200), (F.HDn_H_HACTIVE, 0, 1920), (F.HDn_V_VTOTAL, 0, 1125), (F.HDn_V_VACTIVE, 0, 1080), (F.HDn_PCLK_KHZ, 0, 148500), (F.HDn_CTRL_PREFETCH_LINES, 0, 8)], rtaO, 0, 5, by decide +kernel⟩,
   ⟨puts up [(F.HDn_STATUS_STATE, 0, 2), (F.HDn_H_HTOTAL, 0, 2200), (F.HDn_H_HACTIVE, 0, 1920), (F.HDn_V_VTOTAL, 0, 1125), (F.HDn_V_VACTIVE, 0, 1080), (F.HDn_PCLK_KHZ, 0, 148500), (F.HDn_CTRL_PREFETCH_LINES, 0, 8)], rtaO, 0, by decide +kernel⟩,
   ⟨{ puts up [(F.HDn_STATUS_STATE, 0, 2), (F.HDn_H_HTOTAL, 0, 2200), (F.HDn_H_HACTIVE, 0, 1920), (F.HDn_V_VTOTAL, 0, 1125), (F.HDn_V_VACTIVE, 0, 1080), (F.HDn_PCLK_KHZ, 0, 148500), (F.HDn_CTRL_PREFETCH_LINES, 0, 8)] with layers := [(2, { pend := some { desc := Desc.parse [] } })] }, 0, 2, { desc := Desc.parse [] }, by decide +kernel⟩⟩

/-- What Obligations.HeadsRunTheirFrames assumes can hold. -/
theorem witness_HeadsRunTheirFrames :
    (∃ (s : State) (o : Origin) (h : HeadId), s.Reaches o (0x10 + (h : Nat)) ∧ s.get F.HDn_CTRL_RUN h = 0 ∧ s.get F.HDn_STATUS_STATE h =
      0 ∧ s.startErr h = 0 ∧ s.boot.recovery = false ∧ s.imgFree o (0x10 + (h : Nat)) = true) ∧
    (∃ (s : State) (o : Origin) (h : HeadId), s.Reaches o (0x10 + (h : Nat)) ∧ s.imgFree o (0x10 + (h : Nat)) = true ∧ s.get
      F.HDn_CTRL_RUN h = 1 ∧ s.get F.HDn_STATUS_STATE h = 2 ∧ (s.headOf h).running = true) ∧
    (∃ (s : State) (o : Origin) (h : HeadId), s.Reaches o (0x10 + (h : Nat)) ∧ s.imgFree o (0x10 + (h : Nat)) = true ∧ s.get
      F.HDn_CTRL_RUN h = 1 ∧ s.get F.HDn_STATUS_STATE h = 1) ∧
    (∃ (s : State) (h : HeadId), s.get F.HDn_STATUS_STATE h = 1 ∧ (s.headOf h).synthLocked = false) ∧
    (∃ (s : State) (h : HeadId), s.get F.HDn_STATUS_STATE h = 1 ∧ (s.headOf h).synthLocked = false ∧ (s.headOf h).imageStart = false) ∧
    (∃ (s : State) (h : HeadId), s.get F.HDn_STATUS_STATE h = 1 ∧ (s.headOf h).synthLocked = false ∧ (s.headOf h).imageStart = true) ∧
    (∃ (s : State) (h : HeadId), s.get F.HDn_STATUS_STATE h = 2 ∧ (s.headOf h).latched = false ∧ s.get F.HDn_CTRL_MODE h ≠ 4 ∨
      s.candTaken h s.now = true) ∧
    (∃ (s : State) (h : HeadId), s.get F.HDn_STATUS_STATE h = 2 ∧ (s.headOf h).latched = true ∧ (s.headOf h).first = false ∧ s.get
      F.HDn_FRAME_NUMBER h < 2 ^ 32 - 1) ∧
    (∃ (s : State) (h : HeadId), s.get F.HDn_STATUS_STATE h = 2 ∧ (s.headOf h).running = true ∧ (s.headOf h).stopReq = false ∧ s.get
      F.HDn_FRAME_NUMBER h < 2 ^ 62) ∧
    (∃ (s : State) (h : HeadId), s.get F.HDn_STATUS_STATE h = 2 ∧ (s.headOf h).running = true ∧ (s.headOf h).stopReq = true) ∧
    (∃ (s : State) (h : HeadId), s.get F.HDn_CTRL_MODE h = 1 ∨ s.get F.HDn_CTRL_MODE h = 2 ∧ s.get F.HDn_STATUS_STATE h = 2 ∧
      s.refPresent h = false ∧ s.get F.HDn_STATUS_HOLDOVER h = 0) ∧
    (∃ (s : State) (h : HeadId), s.get F.HDn_CTRL_MODE h = 3 ∧ s.get F.HDn_STATUS_STATE h = 2 ∧ (s.headOf h).latched = false ∧ (s.headOf
      h).teEdges.length < 4) ∧
    (∃ (s : State) (h : HeadId), s.get F.HDn_CTRL_MODE h = 3 ∧ s.get F.HDn_STATUS_STATE h = 2 ∧ (s.headOf h).latched = true ∧ (s.headOf
      h).first = false ∧ (s.headOf h).latchedAt + s.linesNs h (s.get F.HDn_CTRL_PREFETCH_LINES h) ≤ s.now ∧ s.get F.HDn_FRAME_NUMBER h <
      2 ^ 32 - 1) ∧
    (∃ (s : State) (h : HeadId), s.get F.HDn_CTRL_MODE h = 3 ∧ s.get F.HDn_STATUS_STATE h = 2 ∧ (s.headOf h).latched = true ∧ (s.headOf
      h).first = false ∧ (s.headOf h).latchedAt + s.linesNs h (s.get F.HDn_CTRL_PREFETCH_LINES h) + s.periodNs h / 2 ≤ s.now ∧ s.get
      F.HDn_FRAME_NUMBER h < 2 ^ 32 - 1) ∧
    (∃ (s : State) (h : HeadId) (l : Fin 8) (y : Nat) (x : Nat), (s.headOf h).running = true ∧ (s.headOf h).snap.witState = 0 ∧
      (s.headOf h).snap.scans l x y = true ∧ bit (s.headOf h).underrun l = false) :=
  ⟨⟨headReady, rtaO, 0, by decide +kernel⟩,
   ⟨headRun.put F.HDn_CTRL_RUN 0 1, rtaO, 0, by decide +kernel⟩,
   ⟨(headReady.put F.HDn_CTRL_RUN 0 1).put F.HDn_STATUS_STATE 0 1, rtaO, 0, by decide +kernel⟩,
   ⟨headReady.put F.HDn_STATUS_STATE 0 1, 0, by decide +kernel⟩,
   ⟨headReady.put F.HDn_STATUS_STATE 0 1, 0, by decide +kernel⟩,
   ⟨(headReady.put F.HDn_STATUS_STATE 0 1).modHead 0 (fun r => { r with imageStart := true }), 0, by decide +kernel⟩,
   ⟨headRun, 0, by decide +kernel⟩,
   ⟨headRun.modHead 0 (fun r => { r with latched := true }), 0, by decide +kernel⟩,
   ⟨headRun, 0, by decide +kernel⟩,
   ⟨headRun.modHead 0 (fun r => { r with stopReq := true }), 0, by decide +kernel⟩,
   ⟨headRun.put F.HDn_CTRL_MODE 0 2, 0, by decide +kernel⟩,
   ⟨headRun.put F.HDn_CTRL_MODE 0 3, 0, by decide +kernel⟩,
   ⟨{ (headRun.put F.HDn_CTRL_MODE 0 3).modHead 0 (fun r => { r with latched := true }) with now := 10000000 }, 0, by decide +kernel⟩,
   ⟨{ (headRun.put F.HDn_CTRL_MODE 0 3).modHead 0 (fun r => { r with latched := true }) with now := 100000000 }, 0, by decide +kernel⟩,
   ⟨headRun.modHead 0 (fun r => { r with snap := { layers := [{ l := 2, desc := some { flags := 1, dstW := 64, dstH := 200 } }] } }), 0, 2, 100, 50, by decide +kernel⟩⟩

/-- What Obligations.WitnessesCompare assumes can hold. -/
theorem witness_WitnessesCompare :
    (∃ (s : State) (h : HeadId) (r : Nat) (a : Nat), s.comparing h = true ∧ s.transmitting h = true ∧ s.liveRegions h = [r] ∧ r < 16 ∧ a
      < 2 ^ 64 ∧ a ≠ s.regionSig (s.headOf h).snap ((s.region h r).x, (s.region h r).y, (s.region h r).w, (s.region h r).h) ∧ s.get
      F.HDn_FRAME_NUMBER h % 64 ≠ 63) ∧
    (∃ (s : State) (h : HeadId), s.comparing h = true) ∧
    (∃ (s : State) (o : Origin), s.Reaches o 0x18 ∧ o.cab = true) ∧
    (∃ (s : State) (o : Origin), s.Reaches o 0x18) :=
  ⟨⟨witnessing, 0, 0, 1, by decide +kernel⟩,
   ⟨witnessing, 0, by decide +kernel⟩,
   ⟨witnessing, rtaO, by decide +kernel⟩,
   ⟨witnessing, rtaO, by decide +kernel⟩⟩

/-- What Obligations.DisplayLinksTrain assumes can hold. -/
theorem witness_DisplayLinksTrain :
    (∃ (s : State) (h : HeadId), s.pins.panelPwrEn.getLsbD h = true ∧ (s.dpOf h).panelOnAt + 5000000 + (s.headOf h).entry.panelDelayMs *
      1000000 ≤ s.now ∧ (s.dpOf h).linkStarted = false ∧ s.on F.HDn_CTRL_RUN h = true ∧ s.get F.HDn_STATUS_STATE h = 2 ∧ s.get
      F.CFG_STATUS_STAGE ≠ 7 ∧ s.get F.HDn_PORT_CFG_MODE h ≠ 0 ∨ s.on F.HDn_PORT_STATUS_HPD h = true) ∧
    (∃ (s : State) (h : HeadId), s.pins.panelPwrEn.getLsbD h = true ∧ (s.dpOf h).panelOnAt + 5000000 + (s.headOf h).entry.panelDelayMs *
      1000000 ≤ s.now ∧ (s.dpOf h).linkStarted = false ∧ s.on F.HDn_CTRL_RUN h = true ∧ s.get F.HDn_STATUS_STATE h = 2 ∧ s.get
      F.CFG_STATUS_STAGE ≠ 7 ∧ s.get F.HDn_PORT_CFG_MODE h = 0 ∧ s.on F.HDn_PORT_STATUS_HPD h = false) ∧
    (∃ (s : State) (h : HeadId), s.pins.panelPwrEn.getLsbD h = true ∧ (s.dpOf h).panelOnAt + 5000000 + (s.headOf h).entry.panelDelayMs *
      1000000 ≤ s.now ∧ (s.dpOf h).linkStarted = false ∧ s.on F.HDn_CTRL_RUN h = true ∧ s.get F.HDn_STATUS_STATE h = 2 ∨ (s.get
      F.HDn_STATUS_STATE h = 1 ∧ (s.headOf h).synthLocked = true ∧ (s.headOf h).imageStart = true)) ∧
    (∃ (s : State) (h : HeadId), s.hpdUsed h = true ∧ (s.dpOf h).waitHpd = true) ∧
    (∃ (s : State) (h : HeadId), s.hpdUsed h = true ∧ (s.dpOf h).waitHpd = false) ∧
    (∃ (s : State) (h : HeadId) (lockLost : Bool), s.get F.HDn_PORT_CFG_MODE h < 2 ∧ (s.dpOf h).training = false ∧ lockLost = false ∨
      s.get F.HDn_PORT_STATUS_LINK h ≠ 2) ∧
    (∃ (s : State) (h : HeadId), s.get F.HDn_PORT_CFG_MODE h < 2 ∧ (s.dpOf h).training = true) ∧
    (∃ (s : State) (h : HeadId), s.get F.HDn_PORT_CFG_MODE h < 2 ∧ (s.dpOf h).training = false) ∧
    (∃ (s : State) (h : HeadId), s.hpdUsed h = true ∧ (s.dpOf h).sb = none) ∧
    (∃ (s : State) (h : HeadId), s.hpdUsed h = true) ∧
    (∃ (s : State) (h : HeadId), s.hpdUsed h = true ∧ (s.dpOf h).unplugged = true ∧ s.get F.HDn_STATUS_STATE h = 0) ∧
    (∃ (s : State) (h : HeadId), s.hpdUsed h = true ∧ (s.dpOf h).unplugged = true ∧ s.get F.HDn_STATUS_STATE h = 1 ∨ s.get
      F.HDn_STATUS_STATE h = 2) ∧
    (∃ (s : State) (h : HeadId), (s.dpOf h).training = true ∧ (s.dpOf h).irqLater = none ∧ s.get F.HDn_STATUS_STATE h = 2) ∧
    (∃ (s : State) (h : HeadId), (s.dpOf h).training = true ∧ (s.dpOf h).irqLater = none ∧ s.get F.HDn_STATUS_STATE h = 1) ∧
    (∃ (s : State) (h : HeadId), (s.dpOf h).training = true ∧ (s.dpOf h).attempts < 2) ∧
    (∃ (s : State) (h : HeadId), (s.dpOf h).training = true ∧ 2 ≤ (s.dpOf h).attempts ∧ (s.dpOf h).retrain = true) ∧
    (∃ (s : State) (h : HeadId) (r : Nat) (rest : List Nat), (s.dpOf h).training = true ∧ 2 ≤ (s.dpOf h).attempts ∧ (s.dpOf h).retrain =
      false ∧ (s.rateLadder h).filter (fun x => (s.dpOf h).rateTry < x) = r :: rest) ∧
    (∃ (s : State) (h : HeadId), (s.dpOf h).training = true ∧ 2 ≤ (s.dpOf h).attempts ∧ (s.rateLadder h).filter (fun x => (s.dpOf
      h).rateTry < x) = []) ∧
    (∃ (s : State) (h : HeadId), (s.dpOf h).training = true) ∧
    (∃ (s : State) (h : HeadId), (s.dpOf h).retryWait = true ∧ (s.dpOf h).retryFrom + 1000000000 ≤ s.now ∧ s.on F.HDn_CTRL_RUN h = true
      ∧ s.get F.HDn_PORT_CFG_MODE h ≠ 0 ∨ s.on F.HDn_PORT_STATUS_HPD h = true) ∧
    (∃ (s : State) (o : Origin) (h : HeadId) (w : Fin 4294967296), s.Reaches o (0x10 + (h : Nat)) ∧ s.on F.HDn_SB_STATUS_BUSY h = false
      ∧ bit w 2 = false) ∧
    (∃ (s : State) (h : HeadId) (r : SbReq) (result : Fin 5), (s.dpOf h).sb = some r ∧ r.write = true ∨ (result : Nat) ≠ 0 ∧ (result :
      Nat) ≠ 2 ∨ r.at_ + 50000000 ≤ s.now) ∧
    (∃ (s : State) (h : HeadId) (r : SbReq), (s.dpOf h).sb = some r ∧ r.write = false) ∧
    (∃ (s : State) (h : HeadId) (r : SbReq) (result : Fin 5), (s.dpOf h).sb = some r ∧ (result : Nat) ≠ 2 ∨ r.at_ + 50000000 ≤ s.now) :=
  ⟨⟨{ (((headRun.put F.HDn_CTRL_RUN 0 1).put F.HDn_PORT_CFG_MODE 0 2).panelPin 0 true) with now := 10000000000 }, 0, by decide +kernel⟩,
   ⟨{ ((headRun.put F.HDn_CTRL_RUN 0 1).panelPin 0 true) with now := 10000000000 }, 0, by decide +kernel⟩,
   ⟨{ ((headRun.put F.HDn_CTRL_RUN 0 1).panelPin 0 true) with now := 10000000000 }, 0, by decide +kernel⟩,
   ⟨headRun.modDp 0 (fun p => { p with waitHpd := true }), 0, by decide +kernel⟩,
   ⟨headRun, 0, by decide +kernel⟩,
   ⟨headRun, 0, true, by decide +kernel⟩,
   ⟨headRun.modDp 0 (fun p => { p with training := true }), 0, by decide +kernel⟩,
   ⟨headRun, 0, by decide +kernel⟩,
   ⟨headRun, 0, by decide +kernel⟩,
   ⟨headRun.modDp 0 (fun p => { p with sb := some {} }), 0, by decide +kernel⟩,
   ⟨headReady.modDp 0 (fun p => { p with unplugged := true }), 0, by decide +kernel⟩,
   ⟨headRun.modDp 0 (fun p => { p with unplugged := true }), 0, by decide +kernel⟩,
   ⟨headRun.modDp 0 (fun p => { p with training := true }), 0, by decide +kernel⟩,
   ⟨(headReady.put F.HDn_STATUS_STATE 0 1).modDp 0 (fun p => { p with training := true }), 0, by decide +kernel⟩,
   ⟨headRun.modDp 0 (fun p => { p with training := true }), 0, by decide +kernel⟩,
   ⟨headRun.modDp 0 (fun p => { p with training := true, attempts := 2, retrain := true }), 0, by decide +kernel⟩,
   ⟨(headRun.put F.HDn_PORT_CFG_LANES 0 2).modDp 0 (fun p => { p with training := true, attempts := 2, sinkMax := 2, rateTry := 1 }), 0, 2, [], by decide +kernel⟩,
   ⟨headRun.modDp 0 (fun p => { p with training := true, attempts := 2, rateTry := 255 }), 0, by decide +kernel⟩,
   ⟨headRun.modDp 0 (fun p => { p with training := true, irqLater := some true }), 0, by decide +kernel⟩,
   ⟨{ ((headRun.put F.HDn_CTRL_RUN 0 1).put F.HDn_PORT_CFG_MODE 0 2).modDp 0 (fun p => { p with retryWait := true }) with now := 1000000000 }, 0, by decide +kernel⟩,
   ⟨headRun, rtaO, 0, 0x00005010, by decide +kernel⟩,
   ⟨headRun.modDp 0 (fun p => { p with sb := some {} }), 0, {}, 1, by decide +kernel⟩,
   ⟨headRun.modDp 0 (fun p => { p with sb := some {} }), 0, {}, by decide +kernel⟩,
   ⟨headRun.modDp 0 (fun p => { p with sb := some {} }), 0, {}, 1, by decide +kernel⟩⟩

/-- What Obligations.PanelsFollowTheirOrder assumes can hold. -/
theorem witness_PanelsFollowTheirOrder :
    (∃ (s : State) (h : HeadId), (s.headOf h).entry.enable = true ∧ (s.headOf h).running = true ∧ (s.headOf h).first = false ∧ (s.headOf
      h).firstAt + (s.headOf h).entry.blDelayMs * 1000000 ≤ s.now ∧ s.on F.HDn_PANEL_BL h = true) ∧
    (∃ (s : State) (h : HeadId), (s.headOf h).entry.enable = true ∧ (s.headOf h).running = true ∧ (s.headOf h).first = false ∧ (s.headOf
      h).firstAt + (s.headOf h).entry.blDelayMs * 1000000 ≤ s.now) ∧
    (∃ (s : State) (h : HeadId), s.pins.panelPwrEn.getLsbD h = true ∧ (s.dpOf h).blOffAt + s.get F.HDn_PANEL_T_BL_OFF_MS h * 1000000 ≤
      s.now ∧ s.get F.HDn_PANEL_PWR h = 0 ∨ (s.dpOf h).downPending = true) ∧
    (∃ (s : State) (h : HeadId), (s.dpOf h).panelWant = true ∧ (s.dpOf h).panelOffAt + s.get F.HDn_PANEL_T_OFF_MIN_MS h * 1000000 ≤
      s.now) ∧
    (∃ (s : State) (h : HeadId), (s.dpOf h).panelWant = true ∧ (s.dpOf h).panelOffAt ≠ 0 ∧ s.now < (s.dpOf h).panelOffAt + s.get
      F.HDn_PANEL_T_OFF_MIN_MS h * 1000000) ∧
    (∃ (s : State) (h : HeadId), (s.dpOf h).panelWant = true) :=
  ⟨⟨{ (headRun.modHead 0 (fun r => { r with entry := { r.entry with enable := true } })).put F.HDn_PANEL_BL 0 1 with now := 100000000000 }, 0, by decide +kernel⟩,
   ⟨{ headRun.modHead 0 (fun r => { r with entry := { r.entry with enable := true } }) with now := 100000000000 }, 0, by decide +kernel⟩,
   ⟨{ headRun.panelPin 0 true with now := 10000000000 }, 0, by decide +kernel⟩,
   ⟨{ headRun.modDp 0 (fun p => { p with panelWant := true }) with now := 3000000000 }, 0, by decide +kernel⟩,
   ⟨(headRun.modDp 0 (fun p => { p with panelWant := true, panelOffAt := 1 })).put F.HDn_PANEL_T_OFF_MIN_MS 0 500, 0, by decide +kernel⟩,
   ⟨headRun.modDp 0 (fun p => { p with panelWant := true }), 0, by decide +kernel⟩⟩

/-- What Obligations.PlynLinkPortsComeAndGo assumes can hold. -/
theorem witness_PlynLinkPortsComeAndGo :
    (∃ (s : State) (p : PlkPort), s.get F.PLK_PORT_STATUS_STATE p = 1 ∧ s.on F.PLK_PORT_CTRL_EN p = true) ∧
    (∃ (s : State) (p : PlkPort), s.get F.PLK_PORT_STATUS_STATE p = 1 ∧ (s.pport p).nrz = false ∧ (s.pport p).trainAt + 100000000 ≤
      s.now) ∧
    (∃ (s : State) (p : PlkPort), s.plkUp p = true ∧ s.on F.PLK_PORT_CTRL_EN p = true ∧ s.plk.routes = [] ∧ s.plk.imports = []) ∧
    (∃ (s : State) (p : PlkPort), s.plkUp p = true) ∧
    (∃ (s : State) (p : PlkPort), s.get F.PLK_PORT_STATUS_STATE p = 3 ∨ s.get F.PLK_PORT_STATUS_STATE p = 1 ∧ s.on F.PLK_PORT_CTRL_EN p
      = true ∧ s.boot.recovery = false ∧ (s.pport p).trainAt + 1000000000 ≤ s.now) ∧
    (∃ (s : State) (p : PlkPort), s.get F.PLK_PORT_STATUS_STATE p = 3 ∨ s.get F.PLK_PORT_STATUS_STATE p = 1 ∧ (s.pport p).trainAt +
      1000000000 ≤ s.now) ∧
    (∃ (s : State) (o : Origin) (p : PlkPort), s.Reaches o 0x1C ∧ s.get F.PLK_PORT_STATUS_STATE p = 2 ∧ s.on F.PLK_PORT_CTRL_EN p = true
      ∧ s.boot.recovery = false ∧ s.plk.routes = [] ∧ s.plk.imports = []) ∧
    (∃ (s : State) (o : Origin) (p : PlkPort), s.Reaches o 0x1C ∧ s.imgFree o 0x1C = true ∧ s.get F.PLK_PORT_STATUS_STATE p = 1) ∧
    (∃ (s : State) (p : PlkPort) (corr : Bool) (uncorr : Bool), s.plkUp p = true ∧ corr = false ∧ uncorr = true ∧ (s.pport p).nakOut =
      false ∧ (s.pport p).uncRun < 7) ∧
    (∃ (s : State) (p : PlkPort) (b : List Byte), s.plkUp p = true ∧ flitCrcOk b = false) ∧
    (∃ (s : State) (p : PlkPort), s.plkUp p = true) :=
  ⟨⟨linked.put F.PLK_PORT_STATUS_STATE 0 1, 0, by decide +kernel⟩,
   ⟨{ linked.put F.PLK_PORT_STATUS_STATE 0 1 with now := 100000000 }, 0, by decide +kernel⟩,
   ⟨linked, 0, by decide +kernel⟩,
   ⟨linked, 0, by decide +kernel⟩,
   ⟨{ linked.put F.PLK_PORT_STATUS_STATE 0 3 with now := 1000000000 }, 0, by decide +kernel⟩,
   ⟨{ linked.put F.PLK_PORT_STATUS_STATE 0 3 with now := 1000000000 }, 0, by decide +kernel⟩,
   ⟨linked, rtaO, 0, by decide +kernel⟩,
   ⟨linked.put F.PLK_PORT_STATUS_STATE 0 1, rtaO, 0, by decide +kernel⟩,
   ⟨linked, 0, false, true, by decide +kernel⟩,
   ⟨linked, 0, [], by decide +kernel⟩,
   ⟨linked, 0, by decide +kernel⟩⟩

/-- What Obligations.MessagesReachTheirUnits assumes can hold. -/
theorem witness_MessagesReachTheirUnits :
    (∃ (s : State) (p : PlkPort) (m : Msg), s.plkUp p = true ∧ s.isMine m = true) ∧
    (∃ (s : State) (p : PlkPort) (m : Msg), s.plkUp p = true ∧ s.isMine m = true) ∧
    (∃ (s : State) (p : PlkPort) (m : Msg), s.plkUp p = true ∧ s.isMine m = true) ∧
    (∃ (s : State) (p : PlkPort) (m : Msg), s.plkUp p = true ∧ s.isMine m = true) ∧
    (∃ (s : State) (p : PlkPort) (m : Msg), s.plkUp p = true ∧ s.isMine m = true) ∧
    (∃ (s : State) (p : PlkPort) (m : Msg), s.plkUp p = true ∧ s.isMine m = true) ∧
    (∃ (s : State) (p : PlkPort) (m : Msg), s.plkUp p = true ∧ s.isMine m = true) ∧
    (∃ (s : State) (p : PlkPort) (m : Msg), s.plkUp p = true ∧ s.isMine m = true) ∧
    (∃ (s : State) (p : PlkPort) (m : Msg), s.plkUp p = true ∧ s.isMine m = true) ∧
    (∃ (s : State) (p : PlkPort) (m : Msg), s.plkUp p = true ∧ s.isMine m = true) ∧
    (∃ (s : State) (p : PlkPort) (m : Msg), s.plkUp p = true ∧ s.isMine m = true) ∧
    (∃ (s : State) (p : PlkPort) (m : Msg), s.plkUp p = true ∧ s.isMine m = true) ∧
    (∃ (s : State) (p : PlkPort) (m : Msg), s.plkUp p = true ∧ s.isMine m = true) ∧
    (∃ (s : State) (p : PlkPort) (m : Msg), s.plkUp p = true ∧ s.isMine m = true) ∧
    (∃ (s : State) (p : PlkPort) (m : Msg), s.plkUp p = true ∧ s.isMine m = true) ∧
    (∃ (s : State) (p : PlkPort) (m : Msg), s.plkUp p = true ∧ s.isMine m = true) ∧
    (∃ (s : State) (p : PlkPort) (m : Msg), s.plkUp p = true ∧ s.isMine m = true) ∧
    (∃ (s : State) (p : PlkPort) (m : Msg), s.plkUp p = true ∧ s.isMine m = true) ∧
    (∃ (s : State) (p : PlkPort) (m : Msg), s.plkUp p = true ∧ s.isMine m = true) ∧
    (∃ (s : State) (p : PlkPort) (m : Msg), s.plkUp p = true ∧ s.isMine m = true) ∧
    (∃ (s : State) (p : PlkPort) (m : Msg), s.plkUp p = true ∧ s.isMine m = true) ∧
    (∃ (s : State) (p : PlkPort) (m : Msg), s.plkUp p = true ∧ s.isMine { m with type := 0x01 } = false) ∧
    (∃ (s : State) (p : PlkPort) (m : Msg), s.plkUp p = true ∧ s.isMine { m with type := 0x02 } = false) ∧
    (∃ (s : State) (p : PlkPort) (m : Msg), s.plkUp p = true ∧ s.isMine { m with type := 0x03 } = false) ∧
    (∃ (s : State) (p : PlkPort) (m : Msg), s.plkUp p = true ∧ s.isMine { m with type := 0x08 } = false) ∧
    (∃ (s : State) (p : PlkPort) (m : Msg), s.plkUp p = true ∧ s.isMine { m with type := 0x09 } = false) ∧
    (∃ (s : State) (p : PlkPort) (m : Msg), s.plkUp p = true ∧ s.isMine { m with type := 0x11 } = false) ∧
    (∃ (s : State) (p : PlkPort) (m : Msg), s.plkUp p = true ∧ s.isMine { m with type := 0x12 } = false) ∧
    (∃ (s : State) (p : PlkPort) (m : Msg), s.plkUp p = true ∧ s.isMine { m with type := 0x10 } = false) ∧
    (∃ (s : State) (p : PlkPort) (m : Msg), s.plkUp p = true ∧ s.isMine { m with type := 0x13 } = false) ∧
    (∃ (s : State) (p : PlkPort) (m : Msg), s.plkUp p = true ∧ s.isMine { m with type := 0x18 } = false) ∧
    (∃ (s : State) (p : PlkPort) (m : Msg), s.plkUp p = true ∧ s.isMine { m with type := 0x19 } = false) ∧
    (∃ (s : State) (p : PlkPort) (m : Msg), s.plkUp p = true ∧ s.isMine { m with type := 0x1A } = false) ∧
    (∃ (s : State) (p : PlkPort) (m : Msg), s.plkUp p = true ∧ s.isMine { m with type := 0x20 } = false) ∧
    (∃ (s : State) (p : PlkPort) (m : Msg), s.plkUp p = true ∧ s.isMine { m with type := 0x21 } = false) ∧
    (∃ (s : State) (p : PlkPort) (m : Msg), s.plkUp p = true ∧ s.isMine { m with type := 0x22 } = false) ∧
    (∃ (s : State) (p : PlkPort) (m : Msg), s.plkUp p = true ∧ s.isMine { m with type := 0x23 } = false) ∧
    (∃ (s : State) (p : PlkPort) (m : Msg), s.plkUp p = true ∧ s.isMine { m with type := 0x24 } = false) ∧
    (∃ (s : State) (p : PlkPort) (m : Msg), s.plkUp p = true ∧ s.isMine { m with type := 0x25 } = false) ∧
    (∃ (s : State) (p : PlkPort) (m : Msg), s.plkUp p = true ∧ s.isMine { m with type := 0x28 } = false) ∧
    (∃ (s : State) (p : PlkPort) (m : Msg), s.plkUp p = true ∧ s.isMine { m with type := 0x29 } = false) ∧
    (∃ (s : State) (p : PlkPort) (m : Msg), s.plkUp p = true ∧ s.isMine { m with type := 0x31 } = false) ∧
    (∃ (s : State) (p : PlkPort) (m : Msg), s.plkUp p = true ∧ s.isMine { m with type := 0x30 } = false) ∧
    (∃ (s : State) (p : PlkPort) (m : Msg), s.plkUp p = true ∧ s.isMine m = true) :=
  ⟨⟨linked, 0, { toLocal := true, dlen := 1, data := pad [5] 16 }, by decide +kernel⟩,
   ⟨linked, 0, { toLocal := true, dlen := 1, data := pad [5] 16 }, by decide +kernel⟩,
   ⟨linked, 0, { toLocal := true, dlen := 1, data := pad [5] 16 }, by decide +kernel⟩,
   ⟨linked, 0, { toLocal := true, dlen := 1, data := pad [5] 16 }, by decide +kernel⟩,
   ⟨linked, 0, { toLocal := true, dlen := 1, data := pad [5] 16 }, by decide +kernel⟩,
   ⟨linked, 0, { toLocal := true, dlen := 1, data := pad [5] 16 }, by decide +kernel⟩,
   ⟨linked, 0, { toLocal := true, dlen := 1, data := pad [5] 16 }, by decide +kernel⟩,
   ⟨linked, 0, { toLocal := true, dlen := 1, data := pad [5] 16 }, by decide +kernel⟩,
   ⟨linked, 0, { toLocal := true, dlen := 1, data := pad [5] 16 }, by decide +kernel⟩,
   ⟨linked, 0, { toLocal := true, dlen := 1, data := pad [5] 16 }, by decide +kernel⟩,
   ⟨linked, 0, { toLocal := true, dlen := 1, data := pad [5] 16 }, by decide +kernel⟩,
   ⟨linked, 0, { toLocal := true, dlen := 1, data := pad [5] 16 }, by decide +kernel⟩,
   ⟨linked, 0, { toLocal := true, dlen := 1, data := pad [5] 16 }, by decide +kernel⟩,
   ⟨linked, 0, { toLocal := true, dlen := 1, data := pad [5] 16 }, by decide +kernel⟩,
   ⟨linked, 0, { toLocal := true, dlen := 1, data := pad [5] 16 }, by decide +kernel⟩,
   ⟨linked, 0, { toLocal := true, dlen := 1, data := pad [5] 16 }, by decide +kernel⟩,
   ⟨linked, 0, { toLocal := true, dlen := 1, data := pad [5] 16 }, by decide +kernel⟩,
   ⟨linked, 0, { toLocal := true, dlen := 1, data := pad [5] 16 }, by decide +kernel⟩,
   ⟨linked, 0, { toLocal := true, dlen := 1, data := pad [5] 16 }, by decide +kernel⟩,
   ⟨linked, 0, { toLocal := true, dlen := 1, data := pad [5] 16 }, by decide +kernel⟩,
   ⟨linked, 0, { toLocal := true, dlen := 1, data := pad [5] 16 }, by decide +kernel⟩,
   ⟨linked, 0, { dest := 77, dlen := 1, data := pad [5] 16 }, by decide +kernel⟩,
   ⟨linked, 0, { dest := 77, dlen := 1, data := pad [5] 16 }, by decide +kernel⟩,
   ⟨linked, 0, { dest := 77, dlen := 1, data := pad [5] 16 }, by decide +kernel⟩,
   ⟨linked, 0, { dest := 77, dlen := 1, data := pad [5] 16 }, by decide +kernel⟩,
   ⟨linked, 0, { dest := 77, dlen := 1, data := pad [5] 16 }, by decide +kernel⟩,
   ⟨linked, 0, { dest := 77, dlen := 1, data := pad [5] 16 }, by decide +kernel⟩,
   ⟨linked, 0, { dest := 77, dlen := 1, data := pad [5] 16 }, by decide +kernel⟩,
   ⟨linked, 0, { dest := 77, dlen := 1, data := pad [5] 16 }, by decide +kernel⟩,
   ⟨linked, 0, { dest := 77, dlen := 1, data := pad [5] 16 }, by decide +kernel⟩,
   ⟨linked, 0, { dest := 77, dlen := 1, data := pad [5] 16 }, by decide +kernel⟩,
   ⟨linked, 0, { dest := 77, dlen := 1, data := pad [5] 16 }, by decide +kernel⟩,
   ⟨linked, 0, { dest := 77, dlen := 1, data := pad [5] 16 }, by decide +kernel⟩,
   ⟨linked, 0, { dest := 77, dlen := 1, data := pad [5] 16 }, by decide +kernel⟩,
   ⟨linked, 0, { dest := 77, dlen := 1, data := pad [5] 16 }, by decide +kernel⟩,
   ⟨linked, 0, { dest := 77, dlen := 1, data := pad [5] 16 }, by decide +kernel⟩,
   ⟨linked, 0, { dest := 77, dlen := 1, data := pad [5] 16 }, by decide +kernel⟩,
   ⟨linked, 0, { dest := 77, dlen := 1, data := pad [5] 16 }, by decide +kernel⟩,
   ⟨linked, 0, { dest := 77, dlen := 1, data := pad [5] 16 }, by decide +kernel⟩,
   ⟨linked, 0, { dest := 77, dlen := 1, data := pad [5] 16 }, by decide +kernel⟩,
   ⟨linked, 0, { dest := 77, dlen := 1, data := pad [5] 16 }, by decide +kernel⟩,
   ⟨linked, 0, { dest := 77, dlen := 1, data := pad [5] 16 }, by decide +kernel⟩,
   ⟨linked, 0, { dest := 77 }, by decide +kernel⟩,
   ⟨linked, 0, { toLocal := true }, by decide +kernel⟩⟩

/-- What Obligations.MessagesDoWhatTheySay assumes can hold. -/
theorem witness_MessagesDoWhatTheySay :
    (∃ (s : State) (p : PlkPort) (m : Msg), s.plkUp p = true ∧ s.isMine m = true) ∧
    (∃ (s : State) (p : PlkPort) (m : Msg), s.plkUp p = true ∧ s.isMine m = true ∧ s.on F.PLK_PORT_CTRL_EN p = true ∧ s.plk.routes = []
      ∧ s.plk.imports = []) ∧
    (∃ (s : State) (p : PlkPort) (m : Msg), s.plkUp p = true ∧ s.isMine m = true ∧ s.parentPort = none ∧ s.plk.selfFrom = none) ∧
    (∃ (s : State) (p : PlkPort) (m : Msg) (a : Nat), s.plkUp p = true ∧ s.isMine m = true ∧ m.data.length ≤ 224 ∧ s.remoteCheck m true
      m.data.length = (0, a) ∧ s.plk.ports = []) ∧
    (∃ (s : State) (p : PlkPort) (m : Msg), s.plkUp p = true ∧ m.toLocal = true ∧ s.on F.PLK_WIN_CTRL_EN (m.arg % 32) = true ∧ s.get
      F.PLK_WIN_CTRL_ANY_PEER (m.arg % 32) = 1 ∧ s.get F.PLK_WIN_CTRL_READ (m.arg % 32) = 1 ∧ s.get F.PLK_WIN_CTRL_WRITE (m.arg % 32) =
      0 ∧ s.plk.sessions = []) ∧
    (∃ (s : State) (p : PlkPort) (m : Msg), s.plkUp p = true ∧ s.isMine m = true ∧ s.on F.PLK_WIN_CTRL_EN (m.arg % 32) = false) ∧
    (∃ (s : State) (p : PlkPort) (m : Msg) (r : RemoteReq) (x : Nat), s.plkUp p = true ∧ s.isMine m = true ∧ s.plk.reqs = [r] ∧ r.tag =
      some x ∧ x = m.arg % 4096 ∧ r.done = false ∧ r.write = true ∧ r.cmd = none ∧ s.get F.PLK_AP_CTRL_PEER r.ap = m.src ∧ bits m.arg 12
      4 = 0 ∧ ((∀ q : Fin 4, (s.pport q).leaving = none))) ∧
    (∃ (s : State) (p : PlkPort) (m : Msg) (r : RemoteReq) (x : Nat), s.plkUp p = true ∧ s.isMine m = true ∧ s.plk.reqs = [r] ∧ r.tag =
      some x ∧ x = m.arg % 4096 ∧ r.done = false ∧ r.write = false ∧ r.cmd = none ∧ r.origin.kind = .core ∧ s.get F.PLK_AP_CTRL_PEER
      r.ap = m.src ∧ bits m.arg 12 4 = 0 ∧ ((∀ q : Fin 4, (s.pport q).leaving = none))) ∧
    (∃ (s : State) (p : PlkPort) (m : Msg) (k : Nat), s.plkUp p = true ∧ s.isMine m = true ∧ s.plk.opening = [k] ∧ k < 64 ∧ s.get
      F.PLK_AP_CTRL_PEER k = m.src ∧ bits m.arg 16 4 = 0) ∧
    (∃ (s : State) (p : PlkPort) (m : Msg) (i : Nat), s.plkUp p = true ∧ s.isMine m = true ∧ s.impOf m = some i ∧ (s.imp i).v16 = none ∧
      (s.imp i).staged = [] ∧ (s.imp i).complete = [] ∧ bit m.arg 33 = true ∧ bits m.arg 20 13 = 0) ∧
    (∃ (s : State) (p : PlkPort) (m : Msg), s.plkUp p = true ∧ s.isMine m = true ∧ (s.exp_ (m.aux % 16)).gen = some m.arg ∧ ((s.exp_
      (m.aux % 16)).subs.any (fun b => b.inGen && !b.acked && decide (b.peer ≠ m.src))) = true) ∧
    (∃ (s : State) (p : PlkPort) (m : Msg) (i : Nat), s.plkUp p = true ∧ s.isMine m = true ∧ s.impOf m = some i ∧ m.arg % 16 = 6) ∧
    (∃ (s : State) (p : PlkPort) (m : Msg) (i : Nat), s.plkUp p = true ∧ s.isMine m = true ∧ s.impOf m = some i ∧ bit (s.impField i 0x1F
      1) 1 = false) ∧
    (∃ (s : State) (p : PlkPort) (m : Msg), s.plkUp p = true ∧ s.isMine m = true ∧ s.on F.TCH_RCFG_REMOTE_OK (TchRec.parse
      m.data).region = false) ∧
    (∃ (s : State) (p : PlkPort) (m : Msg), s.plkUp p = true ∧ s.isMine m = true ∧ m.arg % 2 = 1 ∧ (tget [] s.plk.mgmt 1).length < 16) ∧
    (∃ (data : List Byte), 1 ≤ data.length ∧ data.length ≤ 224) ∧
    (∃ (s : State) (p : PlkPort) (m : Msg) (x : Msg), s.plkUp p = true ∧ s.isMine m = true ∧ s.plk.mgmtSent = [x] ∧ x.dest = m.src ∧ bit
      m.arg 0 = false) :=
  ⟨⟨linked, 0, { toLocal := true, dlen := 1, data := pad [5, 1] 16 }, by decide +kernel⟩,
   ⟨linked, 0, { toLocal := true, arg := 3 }, by decide +kernel⟩,
   ⟨linked, 0, { toLocal := true, dlen := 2, data := pad [] 32 }, by decide +kernel⟩,
   ⟨{ puts dramUp [(F.PLK_PORT_STATUS_STATE, 0, 2), (F.PLK_WIN_CTRL_SIZE_M1, 0, 15), (F.PLK_WIN_BASE_BASE, 0, 0x100), (F.CAB_RGN_CFG_KINDS, 0, 0x1FF)] with plk := { started := true, sessions := [{ id := 3, peer := 9, write := true }] } }, 0, { toLocal := true, dlen := 1, src := 9, arg := 3 * 2 ^ 36, data := pad [7] 16 }, 0x1000000, by decide +kernel⟩,
   ⟨puts linked [(F.PLK_WIN_CTRL_EN, 2, 1), (F.PLK_WIN_CTRL_ANY_PEER, 2, 1), (F.PLK_WIN_CTRL_READ, 2, 1)], 0, { toLocal := true, dlen := 1, src := 9, arg := 2 }, by decide +kernel⟩,
   ⟨linked, 0, { toLocal := true, dlen := 1, src := 9, data := pad [] 16 }, by decide +kernel⟩,
   ⟨{ linked with plk := { linked.plk with reqs := [{ tag := some 6, write := true }] } }, 0, { toLocal := true, arg := 6 }, { tag := some 6, write := true }, 6, by decide +kernel⟩,
   ⟨{ linked with plk := { linked.plk with reqs := [{ tag := some 6, size := 4, origin := openO }] } }, 0, { toLocal := true, dlen := 1, arg := 6, data := pad [7] 16 }, { tag := some 6, size := 4, origin := openO }, 6, by decide +kernel⟩,
   ⟨{ linked with plk := { linked.plk with opening := [4] } }, 0, { toLocal := true, arg := 0x700005 }, 4, by decide +kernel⟩,
   ⟨(linked.put F.PLK_IMP_WORD 3 (5 * 2 ^ 32 + 1 * 2 ^ 56)).put F.PLK_IMP_WORD 5 0, 0, { toLocal := true, src := 5, dlen := 1, arg := 7 + 2 ^ 33, data := pad [1] 16 }, 0, by decide +kernel⟩,
   ⟨{ linked with plk := { linked.plk with exports := [(0, { gen := some 4, subs := [{ peer := 9, inGen := true }, { peer := 5, inGen := true }] })] } }, 0, { toLocal := true, src := 5, arg := 4 }, by decide +kernel⟩,
   ⟨(linked.put F.PLK_IMP_WORD 3 (5 * 2 ^ 32 + 1 * 2 ^ 56)).put F.PLK_IMP_WORD 5 0, 0, { toLocal := true, src := 5, arg := 6 }, 0, by decide +kernel⟩,
   ⟨(linked.put F.PLK_IMP_WORD 3 (5 * 2 ^ 32 + 1 * 2 ^ 56)).put F.PLK_IMP_WORD 5 0, 0, { toLocal := true, src := 5, arg := 6 }, 0, by decide +kernel⟩,
   ⟨linked, 0, { toLocal := true, dlen := 2, data := pad [] 32 }, by decide +kernel⟩,
   ⟨linked, 0, { toLocal := true, arg := 1 }, by decide +kernel⟩,
   ⟨[1, 2], by decide +kernel⟩,
   ⟨{ linked with plk := { linked.plk with mgmtSent := [{ dest := 5 }] } }, 0, { toLocal := true, src := 5 }, { dest := 5 }, by decide +kernel⟩⟩

/-- What Obligations.RoutesAndTicksKeepTime assumes can hold. -/
theorem witness_RoutesAndTicksKeepTime :
    (∃ (s : State), s.plk.started = true ∧ s.plk.origAt + s.get F.PLK_CFG_ORIG_US * 1000 ≤ s.now) ∧
    (∃ (s : State), s.plk.started = true ∧ s.upPorts = [] ∧ s.plk.origAt + s.get F.PLK_CFG_ORIG_US * 1000 ≤ s.now) ∧
    (∃ (s : State), s.plk.started = true ∧ s.plk.tableAt + 100000000 ≤ s.now) ∧
    (∃ (s : State) (id : Fin 16384), (id : Nat) ≠ s.ownId ∧ s.reachable id = true ∧ (s.route id).freshAt + 4 * s.get F.PLK_CFG_ORIG_US *
      1000 ≤ s.now) ∧
    (∃ (s : State) (id : Fin 16384), (id : Nat) ≠ s.ownId ∧ s.reachable id = true ∧ (s.route id).freshAt + 4 * s.get F.PLK_CFG_ORIG_US *
      1000 ≤ s.now ∧ s.upPorts = [] ∧ s.plk.exports = [] ∧ ((∀ k : Fin 64, s.get F.PLK_AP_CTRL_PEER k ≠ (id : Nat)))) ∧
    (∃ (s : State) (p : Nat), s.plk.started = true ∧ s.parentPort = some p ∧ s.plk.syncAt + 1000000 ≤ s.now) ∧
    (∃ (s : State), s.plk.started = true ∧ s.parentPort = none ∧ s.stState = 2 ∧ s.upPorts = [] ∧ s.plk.syncAt + 1000000 ≤ s.now) ∧
    (∃ (s : State), s.plk.started = true ∧ s.parentPort = none ∧ s.stState ≠ 2 ∧ s.plk.syncAt + 1000000 ≤ s.now) ∧
    (∃ (s : State), s.get F.PLK_STATUS_TICK_OK = 1 ∧ s.get F.PLK_TICK_PERIOD_Q ≠ 0 ∧ (s.plk.ticked && s.get F.PLK_TICK_NUM_K =
      s.tickNum) = false ∧ s.pm.frameSyncPlyn = true ∧ s.tickNum < 2 ^ 64) ∧
    (∃ (s : State), s.get F.PLK_STATUS_TICK_OK = 1 ∧ s.get F.PLK_TICK_PERIOD_Q ≠ 0 ∧ (s.plk.ticked && s.get F.PLK_TICK_NUM_K =
      s.tickNum) = false ∧ s.pm.frameSyncPlyn = false ∧ s.tickNum < 2 ^ 64) ∧
    (∃ (s : State), s.plk.rspAt + 10000000 ≤ s.now ∧ s.get F.PLK_STATUS_MASTER_HOPS ≠ 0) ∧
    (∃ (s : State), s.now < s.plk.rspAt + 10000000 ∧ s.pm.frameSyncPlyn = false) :=
  ⟨⟨linked.put F.PLK_PORT_STATUS_STATE 0 0, by decide +kernel⟩,
   ⟨linked.put F.PLK_PORT_STATUS_STATE 0 0, by decide +kernel⟩,
   ⟨{ linked with now := 100000000 }, by decide +kernel⟩,
   ⟨{ linked.put F.PLK_PORT_STATUS_STATE 0 0 with plk := { started := true, routes := [(9, { hops := 2 })] } }, 9, by decide +kernel⟩,
   ⟨{ linked.put F.PLK_PORT_STATUS_STATE 0 0 with plk := { started := true, routes := [(9, { hops := 2 })] } }, 9, by decide +kernel⟩,
   ⟨{ linked with now := 1000000, plk := { started := true, routes := [(9, { hops := 2, prio := 4 })] } }, 0, by decide +kernel⟩,
   ⟨{ puts linked [(F.PLK_PORT_STATUS_STATE, 0, 0), (F.TIM_STATUS_STATE, 0, 2)] with now := 1000000 }, by decide +kernel⟩,
   ⟨{ linked.put F.TIM_STATUS_STATE 0 1 with now := 1000000 }, by decide +kernel⟩,
   ⟨{ puts linked [(F.PLK_STATUS_TICK_OK, 0, 1), (F.PLK_TICK_PERIOD_Q, 0, 1092266666667)] with pm := { frameSyncPlyn := true } }, by decide +kernel⟩,
   ⟨puts linked [(F.PLK_STATUS_TICK_OK, 0, 1), (F.PLK_TICK_PERIOD_Q, 0, 1092266666667)], by decide +kernel⟩,
   ⟨{ linked.put F.PLK_STATUS_MASTER_HOPS 0 2 with now := 10000000 }, by decide +kernel⟩,
   ⟨linked, by decide +kernel⟩⟩

/-- What Obligations.AperturesAndWindowsOpenAndClose assumes can hold. -/
theorem witness_AperturesAndWindowsOpenAndClose :
    (∃ (s : State) (o : Origin) (peer : Fin 16384), s.Reaches o 0x1C ∧ o.cab = true ∧ s.imgFree o 0x1C = true ∧ s.reachable peer =
      false) ∧
    (∃ (s : State) (o : Origin) (peer : Fin 16384), s.Reaches o 0x1C ∧ o.cab = true ∧ s.imgFree o 0x1C = true ∧ s.reachable peer = true
      ∧ (peer : Nat) ≠ s.ownId) ∧
    (∃ (s : State) (k : Fin 64), s.get F.PLK_AP_CTRL_EN k = 1 ∧ s.get F.PLK_AP_CTRL_STATE k = 0 ∨ s.get F.PLK_AP_CTRL_STATE k = 4 ∧ tget
      0 s.plk.openAt k + 100000000 ≤ s.now) ∧
    (∃ (s : State) (k : Fin 64), s.get F.PLK_AP_CTRL_EN k = 1 ∧ s.get F.PLK_AP_CTRL_STATE k = 0 ∨ s.get F.PLK_AP_CTRL_STATE k = 4 ∧ tget
      0 s.plk.openAt k + 100000000 ≤ s.now ∧ s.reachable (s.get F.PLK_AP_CTRL_PEER k) = true ∧ s.get F.PLK_AP_CTRL_PEER k ≠ s.ownId) ∧
    (∃ (s : State) (o : Origin) (w : Fin 32) (sizeM1 : Fin 1048576) (peer : Fin 16384) (any : Bool) (read : Bool) (write : Bool) (en :
      Bool), s.Reaches o 0x1C ∧ o.cab = true ∧ s.imgFree o 0x1C = true ∧ s.get F.PLK_WIN_CTRL_EN w = 1 ∧ en = false ∧ s.regWord 91 w ≠
      (sizeM1 : Nat) + peer * 2 ^ 20 + b2n any * 2 ^ 34 + b2n read * 2 ^ 35 + b2n write * 2 ^ 36 + s.get F.PLK_WIN_CTRL_SESSIONS w * 2 ^
      38) ∧
    (∃ (s : State) (tag : Fin 4096) (r : RemoteReq), s.plk.reqs.find? (fun q => q.tag = some (tag : Nat) && !q.done) = some r ∧
      r.issuedAt + s.get F.PLK_CFG_REQ_TIMEOUT * 100000 ≤ s.now) ∧
    (∃ (s : State) (tag : Fin 4096) (r : RemoteReq), s.plk.reqs = [r] ∧ r.tag = some (tag : Nat) ∧ r.done = false ∧ r.cmd = none ∧
      r.write = true ∧ r.origin.kind = .core ∧ r.issuedAt + s.get F.PLK_CFG_REQ_TIMEOUT * 100000 ≤ s.now ∧ ((∀ q : Fin 4, (s.pport
      q).leaving = none))) :=
  ⟨⟨linked, rtaO, 9, by decide +kernel⟩,
   ⟨{ linked with plk := { started := true, routes := [(9, { hops := 2 })] } }, rtaO, 9, by decide +kernel⟩,
   ⟨{ puts linked [(F.PLK_AP_CTRL_EN, 2, 1), (F.PLK_AP_CTRL_PEER, 2, 9)] with now := 100000000, plk := { started := true, routes := [(9, { hops := 2 })] } }, 2, by decide +kernel⟩,
   ⟨{ puts linked [(F.PLK_AP_CTRL_EN, 2, 1), (F.PLK_AP_CTRL_PEER, 2, 9)] with now := 100000000, plk := { started := true, routes := [(9, { hops := 2 })] } }, 2, by decide +kernel⟩,
   ⟨{ linked.put F.PLK_WIN_CTRL_EN 2 1 with plk := { started := true, sessions := [{ id := 4, win := 2 }] } }, rtaO, 2, 5, 9, false, true, false, false, by decide +kernel⟩,
   ⟨{ linked with now := 25500000, plk := { started := true, reqs := [{ tag := some 6, write := true, origin := openO }] } }, 6, { tag := some 6, write := true, origin := openO }, by decide +kernel⟩,
   ⟨{ linked with now := 25500000, plk := { started := true, reqs := [{ tag := some 6, write := true, origin := openO }] } }, 6, { tag := some 6, write := true, origin := openO }, by decide +kernel⟩⟩

/-- What Obligations.MirrorsFollowTheirGenerations assumes can hold. -/
theorem witness_MirrorsFollowTheirGenerations :
    (∃ (s : State) (e : Fin 16), s.expEn e = true ∧ (s.exp_ e).gen = none ∧ (s.exp_ e).subs = [] ∧ (s.exp_ e).last < (s.tl (s.expField e
      0x22 2 % 4096)).value) ∧
    (∃ (s : State) (e : Fin 16), s.expEn e = true ∧ (s.exp_ e).gen = none ∧ (s.exp_ e).last < (s.tl (s.expField e 0x22 2 % 4096)).value) ∧
    (∃ (s : State) (e : Fin 16), (s.exp_ e).endAt + 20000000 ≤ s.now) ∧
    (∃ (s : State) (e : Fin 16), (s.exp_ e).endAt + 20000000 ≤ s.now ∧ (s.exp_ e).gen.isSome = true ∧ ((s.exp_ e).subs.all (fun b =>
      !b.acked)) = true) ∧
    (∃ (s : State) (i : Fin 16) (v : Nat) (fmt : Nat) (w : Nat) (h : Nat), (s.imp i).ended = some (v, fmt, w, h) ∧ (s.imp i).staged = []
      ∧ (s.imp i).changed = [] ∧ s.mirrorIn (s.impField i (8 * (1 - s.impFront i)) 8) false = false ∧ s.mirrorIn (s.impField i (8 * (1 -
      s.impFront i)) 8) true = false) ∧
    (∃ (s : State) (i : Fin 16) (v : Nat) (at_ : Nat), (s.imp i).commits = [(v, at_)] ∧ at_ ≤ s.st) ∧
    (∃ (s : State) (i : Fin 16), s.impEn i = true ∧ (s.imp i).retry = true ∧ (s.imp i).sentAt + 100000000 ≤ s.now) ∧
    (∃ (s : State) (i : Fin 16), s.impEn i = true ∧ (s.imp i).retry = true ∧ (s.imp i).sentAt + 100000000 ≤ s.now) :=
  ⟨⟨{ puts linked [(F.PLK_EXP_WORD, 3, 32 * 2 ^ 32 + 32 * 2 ^ 48), (F.PLK_EXP_WORD, 4, 3 + 2 ^ 8)] with tls := [(0, { value := 3 })] }, 0, by decide +kernel⟩,
   ⟨{ puts linked [(F.PLK_EXP_WORD, 3, 32 * 2 ^ 32 + 32 * 2 ^ 48), (F.PLK_EXP_WORD, 4, 3 + 2 ^ 8)] with tls := [(0, { value := 3 })] }, 0, by decide +kernel⟩,
   ⟨{ linked with now := 20000000, plk := { started := true, exports := [(0, { gen := some 4, subs := [{ peer := 9, inGen := true }] })] } }, 0, by decide +kernel⟩,
   ⟨{ linked with now := 20000000, plk := { started := true, exports := [(0, { gen := some 4, subs := [{ peer := 9, inGen := true }] })] } }, 0, by decide +kernel⟩,
   ⟨(linked.put F.PLK_IMP_WORD 3 (5 * 2 ^ 32 + 1 * 2 ^ 56)).modImp 0 (fun x => { x with ended := some (4, 3, 32, 32) }), 0, 4, 3, 32, 32, by decide +kernel⟩,
   ⟨(linked.put F.PLK_IMP_WORD 3 (5 * 2 ^ 32 + 1 * 2 ^ 56)).modImp 0 (fun x => { x with commits := [(4, 0)] }), 0, 4, 0, by decide +kernel⟩,
   ⟨({ linked with now := 100000000 }.put F.PLK_IMP_WORD 3 (5 * 2 ^ 32 + 1 * 2 ^ 56)).modImp 0 (fun x => { x with retry := true }), 0, by decide +kernel⟩,
   ⟨({ linked with now := 100000000 }.put F.PLK_IMP_WORD 3 (5 * 2 ^ 32 + 1 * 2 ^ 56)).modImp 0 (fun x => { x with retry := true }), 0, by decide +kernel⟩⟩

/-- What Obligations.MemoryIsRefreshedScrubbedAndRetrained assumes can hold. -/
theorem witness_MemoryIsRefreshedScrubbedAndRetrained :
    (∃ (s : State) (ch : ChanId), bit (s.get F.DMC_INFO_RETIRED) ch = false ∧ s.pdOnB 9 = true ∧ tget 0 s.dmc.refAt ch + s.refreshNs ≤
      s.now) ∧
    (∃ (s : State) (ch : ChanId), bit (s.get F.DMC_INFO_RETIRED) ch = false ∧ s.pdOnB 9 = true ∧ tget 0 s.dmc.refAt ch + s.refreshNs ≤
      s.now) ∧
    (∃ (s : State) (a : Nat), s.on F.DMC_SCRUB_EN = true ∧ s.dramServes = true ∧ s.dmc.scrubAt + s.get F.DMC_SCRUB_SCRUB_US * 1000 ≤
      s.now ∧ ((s.dramRegion (a / 64 * 64)).map (fun i => s.on F.DMC_RGN_B_ECC i)) = some true) ∧
    (∃ (s : State), s.on F.DMC_SCRUB_EN = true ∧ s.dramServes = true ∧ s.dmc.scrubAt + s.get F.DMC_SCRUB_SCRUB_US * 1000 ≤ s.now) ∧
    (∃ (s : State) (ch : ChanId), s.on F.DMC_RT_CTRL_EN = true ∧ bit (s.get F.DMC_INFO_RETIRED) ch = false ∧ s.dramServes = true ∧ tget
      0 s.dmc.askedAt ch + s.get F.DMC_RT_CTRL_PERIOD_MS * 1000000 ≤ s.now) ∧
    (∃ (s : State) (ch : ChanId), s.on F.DMC_RT_CTRL_EN = true ∧ bit (s.get F.DMC_INFO_RETIRED) ch = false ∧ s.dramServes = true ∧ tget
      0 s.dmc.askedAt ch + s.get F.DMC_RT_CTRL_PERIOD_MS * 1000000 ≤ s.now ∧ s.dmc.retrain = none) ∧
    (∃ (s : State) (ch : ChanId) (r : Retrain), s.on F.DMC_RT_CTRL_EN = true ∧ bit (s.get F.DMC_INFO_RETIRED) ch = false ∧ s.dramServes
      = true ∧ tget 0 s.dmc.askedAt ch + s.get F.DMC_RT_CTRL_PERIOD_MS * 1000000 ≤ s.now ∧ s.dmc.retrain = some r) ∧
    (∃ (s : State) (o : Origin), s.Reaches o 0x19 ∧ s.dramServes = true ∧ s.dmc.retrain.isSome = true ∧ s.dmc.waiting = []) ∧
    (∃ (s : State) (r : Retrain) (leads : List (HeadId × Nat)), s.dmc.retrain = some r ∧ r.granted = false ∧ (leads.all (fun p => s.get
      F.HDn_STATUS_STATE p.1 ≠ 2 || decide (22000 ≤ p.2))) = true) ∧
    (∃ (s : State) (r : Retrain) (leads : List (HeadId × Nat)), s.dmc.retrain = some r ∧ r.granted = false ∧ (leads.any (fun p => s.get
      F.HDn_STATUS_STATE p.1 = 2 && decide (p.2 < 22000))) = true) ∧
    (∃ (s : State) (r : Retrain), s.dmc.retrain = some r ∧ r.paused = false ∧ r.granted = true ∨ s.anyHeadRuns = false ∧ s.plkGrant (fun
      p => (s.pport p).heldCredit) = true) ∧
    (∃ (s : State) (r : Retrain), s.dmc.retrain = some r ∧ r.paused = true ∧ s.dmc.waiting = [] ∧ s.stalled = []) ∧
    (∃ (s : State) (r : Retrain), s.dmc.retrain = some r ∧ r.paused = true) ∧
    (∃ (s : State) (r : Retrain), s.dmc.retrain = some r ∧ r.paused = false ∧ r.since + 50000000 ≤ s.now ∧ tget 0 s.dmc.skips r.ch < 3) ∧
    (∃ (s : State) (r : Retrain), s.dmc.retrain = some r ∧ r.paused = false ∧ r.since + 50000000 ≤ s.now ∧ 3 ≤ tget 0 s.dmc.skips r.ch) ∧
    (∃ (s : State) (r : Retrain), s.dmc.retrain = some r ∧ r.paused = false ∧ r.since + 50000000 ≤ s.now ∧ s.dmc.waiting = [] ∧ tget 0
      s.dmc.skips r.ch < 3) ∧
    (∃ (s : State) (rate : Fin 3), s.pdOnB 9 = true ∧ s.dmc.pollAt + 16000000 ≤ s.now ∧ (rate : Nat) ≠ 2 ∧ s.get F.DMC_REF_RATE = rate) ∧
    (∃ (s : State) (rate : Fin 3), s.pdOnB 9 = true ∧ s.dmc.pollAt + 16000000 ≤ s.now ∧ (rate : Nat) ≠ 2 ∧ s.get F.DMC_REF_RATE ≠ rate) ∧
    (∃ (s : State) (rate : Fin 3), s.pdOnB 9 = true ∧ s.dmc.pollAt + 16000000 ≤ s.now ∧ (rate : Nat) = 2) :=
  ⟨⟨{ (dramUp.put F.DMC_SCRUB_EN 0 1).put F.DMC_RGN_B_ECC 0 1 with now := 10000 }, 3, by decide +kernel⟩,
   ⟨{ (dramUp.put F.DMC_SCRUB_EN 0 1).put F.DMC_RGN_B_ECC 0 1 with now := 10000 }, 3, by decide +kernel⟩,
   ⟨{ (dramUp.put F.DMC_SCRUB_EN 0 1).put F.DMC_RGN_B_ECC 0 1 with now := 10000000, dmc := { bad := [(0x1000040, 3)] } }, 0x1000044, by decide +kernel⟩,
   ⟨{ (dramUp.put F.DMC_SCRUB_EN 0 1).put F.DMC_RGN_B_ECC 0 1 with now := 10000000, dmc := { bad := [(0x1000040, 3)] } }, by decide +kernel⟩,
   ⟨{ dramUp.put F.DMC_RT_CTRL_EN 0 1 with now := 1000000000000 }, 3, by decide +kernel⟩,
   ⟨{ dramUp.put F.DMC_RT_CTRL_EN 0 1 with now := 1000000000000 }, 3, by decide +kernel⟩,
   ⟨{ dramUp.put F.DMC_RT_CTRL_EN 0 1 with now := 1000000000000, dmc := { retrain := some { ch := 2 } } }, 3, { ch := 2 }, by decide +kernel⟩,
   ⟨{ dramUp with dmc := { retrain := some { ch := 3 } } }, rtaO, by decide +kernel⟩,
   ⟨{ headRun with dmc := { retrain := some { ch := 3 } } }, { ch := 3 }, [(0, 30000)], by decide +kernel⟩,
   ⟨{ headRun with dmc := { retrain := some { ch := 3 } } }, { ch := 3 }, [(0, 20000)], by decide +kernel⟩,
   ⟨{ headRun with dmc := { retrain := some { ch := 3, granted := true } } }, { ch := 3, granted := true }, by decide +kernel⟩,
   ⟨{ headRun with dmc := { retrain := some { ch := 3, granted := true, paused := true } } }, { ch := 3, granted := true, paused := true }, by decide +kernel⟩,
   ⟨{ headRun with stalled := [.access openO 0x19 0x1000 4 none], dmc := { retrain := some { ch := 3, granted := true, paused := true } } }, { ch := 3, granted := true, paused := true }, by decide +kernel⟩,
   ⟨{ headRun with now := 50000000, dmc := { retrain := some { ch := 3 } } }, { ch := 3 }, by decide +kernel⟩,
   ⟨{ headRun with now := 50000000, dmc := { retrain := some { ch := 3 }, skips := [(3, 3)] } }, { ch := 3 }, by decide +kernel⟩,
   ⟨{ headRun with now := 50000000, dmc := { retrain := some { ch := 3 } } }, { ch := 3 }, by decide +kernel⟩,
   ⟨{ dramUp.put F.DMC_REF_RATE 0 1 with now := 16000000 }, 1, by decide +kernel⟩,
   ⟨{ dramUp.put F.DMC_REF_RATE 0 1 with now := 16000000 }, 0, by decide +kernel⟩,
   ⟨{ dramUp.put F.DMC_REF_RATE 0 1 with now := 16000000 }, 2, by decide +kernel⟩⟩

/-- What Obligations.TrainingOperationsRun assumes can hold. -/
theorem witness_TrainingOperationsRun :
    (∃ (s : State) (o : Origin) (c : TrnCfg), s.Reaches o 0x19 ∧ s.trnAllowed o = true ∧ c.pattern < 5 ∧ s.on F.DMC_TRN_CTRL_BUSY =
      false ∧ s.dramServes = true) ∧
    (∃ (s : State) (o : Origin) (c : TrnCfg), s.Reaches o 0x19 ∧ s.trnAllowed o = true ∧ c.pattern < 5 ∧ s.on F.DMC_TRN_CTRL_BUSY =
      false ∧ s.dramServes = true) ∧
    (∃ (s : State) (o : Origin) (c : TrnCfg), s.Reaches o 0x19 ∧ s.trnAllowed o = true ∧ c.pattern < 5 ∧ s.on F.DMC_TRN_CTRL_BUSY =
      false ∧ s.dramServes = true) ∧
    (∃ (s : State) (o : Origin) (c : TrnCfg), s.Reaches o 0x19 ∧ s.trnAllowed o = true ∧ c.pattern < 5 ∧ s.on F.DMC_TRN_CTRL_BUSY =
      false ∧ s.dramServes = true ∧ s.anyHeadRuns = false) ∧
    (∃ (s : State) (o : Origin) (c : TrnCfg), s.Reaches o 0x19 ∧ s.trnAllowed o = true ∧ c.pattern < 5 ∧ s.on F.DMC_TRN_CTRL_BUSY =
      false ∧ s.dramServes = true) ∧
    (∃ (s : State) (o : Origin) (c : TrnCfg), s.Reaches o 0x19 ∧ s.trnAllowed o = true ∧ c.pattern < 5 ∧ s.on F.DMC_TRN_CTRL_BUSY =
      false ∧ s.dramServes = true) ∧
    (∃ (s : State) (o : Origin) (c : TrnCfg), s.Reaches o 0x19 ∧ s.trnAllowed o = true ∧ c.pattern < 5 ∧ s.on F.DMC_TRN_CTRL_BUSY =
      false ∧ s.dramServes = true) ∧
    (∃ (s : State) (o : Origin) (c : TrnCfg), s.Reaches o 0x19 ∧ s.trnAllowed o = true ∧ c.pattern < 5 ∧ s.on F.DMC_TRN_CTRL_BUSY =
      false ∧ s.dramServes = true ∧ s.anyHeadRuns = false) ∧
    (∃ (s : State) (op : Nat) (c : TrnCfg), s.dmc.op = some (op, c) ∧ op ≠ 4) ∧
    (∃ (s : State) (op : Nat) (c : TrnCfg), s.dmc.op = some (op, c)) ∧
    (∃ (s : State) (o : Origin), s.Reaches o 0x19 ∧ s.trnAllowed o = true) :=
  ⟨⟨dramUp, hutchO, {}, by decide +kernel⟩,
   ⟨dramUp, hutchO, {}, by decide +kernel⟩,
   ⟨dramUp, hutchO, {}, by decide +kernel⟩,
   ⟨dramUp, hutchO, {}, by decide +kernel⟩,
   ⟨dramUp, hutchO, {}, by decide +kernel⟩,
   ⟨dramUp, hutchO, {}, by decide +kernel⟩,
   ⟨dramUp, hutchO, {}, by decide +kernel⟩,
   ⟨dramUp, hutchO, {}, by decide +kernel⟩,
   ⟨{ dramUp with dmc := { op := some (2, {}) } }, 2, {}, by decide +kernel⟩,
   ⟨{ dramUp with dmc := { op := some (2, {}) } }, 2, {}, by decide +kernel⟩,
   ⟨dramUp, hutchO, by decide +kernel⟩⟩

/-- What Obligations.TouchPanelsScan assumes can hold. -/
theorem witness_TouchPanelsScan :
    (∃ (s : State) (p : PanelId), s.get F.TCH_PNL_CFG_MODE p ≠ 0 ∧ s.pdOnB 14 = true ∧ s.get F.PWR_STATUS_STATE < 2 ∧ 2 ≤ s.panelState p
      ∧ (s.panel p).scanAt + s.scanNs p ≤ s.now) ∧
    (∃ (s : State) (p : PanelId), s.get F.TCH_PNL_CFG_MODE p ≠ 0 ∧ s.pdOnB 14 = true ∧ s.get F.PWR_STATUS_STATE < 2 ∧ 2 ≤ s.panelState p
      ∧ (s.panel p).scanAt + s.scanNs p ≤ s.now) ∧
    (∃ (s : State) (p : PanelId), s.get F.TCH_PNL_CFG_MODE p ≠ 0 ∧ s.pdOnB 14 = true ∧ s.get F.PWR_STATUS_STATE < 2 ∧ s.panelState p = 0
      ∧ s.boot.recovery = false ∧ (s.panel p).scanAt + s.scanNs p ≤ s.now) ∧
    (∃ (s : State) (p : PanelId) (d : Fin 40), (s.panel p).scanning = true ∧ (d : Nat) = (s.panel p).gates ∧ (d : Nat) < s.drives p ∧
      s.panelState p ≠ 3) ∧
    (∃ (s : State) (p : PanelId), (s.panel p).scanning = true ∧ s.stepNow p .selfSense = true) ∧
    (∃ (s : State) (p : PanelId), (s.panel p).scanning = true ∧ s.stepNow p .selfDrive = true) ∧
    (∃ (s : State) (p : PanelId), (s.panel p).scanning = true ∧ (s.panel p).gates = s.gatesOf p ∧ (s.panel p).rebase = false ∧ (s.panel
      p).fresh < 3 ∧ (s.nodes p).length ≤ ((s.nodes p).filter (fun n => ((s.panel p).rawOf n).isSome)).length * 10 ∧ s.tch.resync = []) ∧
    (∃ (s : State) (p : PanelId), (s.panel p).scanning = true ∧ (s.panel p).gates = s.gatesOf p ∧ (s.panel p).absent = 2 ∧ ((s.nodes
      p).filter (fun n => ((s.panel p).rawOf n).isSome)).length * 10 < (s.nodes p).length ∧ (s.panel p).touches = [] ∧ s.tch.resync =
      []) ∧
    (∃ (s : State) (p : PanelId), (s.panel p).scanning = true ∧ (s.panel p).gates = s.gatesOf p) ∧
    (∃ (s : State) (p : PanelId), s.panelState p = 4 ∧ (s.panel p).cands.isEmpty = true ∧ (s.panel p).candAt + 500000000 ≤ s.now) ∧
    (∃ (s : State) (p : PanelId), s.panelState p = 4 ∧ (s.panel p).cands = [] ∧ (s.panel p).candAt + 500000000 ≤ s.now) ∧
    (∃ (s : State) (o : Origin) (p : PanelId), s.Reaches o 0x1D ∧ (s.panel p).touches = []) ∧
    (∃ (s : State) (p : PanelId) (valid : Nat), s.panelState p = 1 ∧ (s.panel p).probeAt + 100000000 ≤ s.now ∧ 9 * (s.drives p *
      s.senses p) ≤ 10 * valid ∧ (s.panel p).probes < 2) ∧
    (∃ (s : State) (p : PanelId) (valid : Nat), s.panelState p = 1 ∧ (s.panel p).probeAt + 100000000 ≤ s.now ∧ 10 * valid < 9 *
      (s.drives p * s.senses p)) ∧
    (∃ (s : State) (p : PanelId) (valid : Nat), s.panelState p = 1 ∧ s.boot.recovery = false ∧ (s.panel p).probeAt + 100000000 ≤ s.now ∧
      9 * (s.drives p * s.senses p) ≤ 10 * valid ∧ 2 ≤ (s.panel p).probes) ∧
    (∃ (s : State) (p : PanelId), (s.panel p).touches.isEmpty = true ∧ (s.panel p).savedAt + 600000000000 ≤ s.now) ∧
    (∃ (s : State) (p : PanelId), (s.panel p).touches = [] ∧ (s.panel p).savedAt + 600000000000 ≤ s.now ∧ s.panelState p = 3) ∧
    (∃ (s : State) (p : PanelId), s.get F.PWR_STATUS_STATE = 2 ∧ s.on F.TCH_PNL_CFG_WAKE_EN p = true ∧ s.get F.TCH_PNL_CFG_MODE p ≠ 0 ∧
      (s.panel p).probeAt + 50000000 ≤ s.now) ∧
    (∃ (s : State) (p : PanelId), s.get F.PWR_STATUS_STATE = 2 ∧ s.on F.TCH_PNL_CFG_WAKE_EN p = true ∧ s.get F.TCH_PNL_CFG_MODE p ≠ 0 ∧
      (s.panel p).probeAt + 50000000 ≤ s.now) ∧
    (∃ (s : State) (d : DrawerId) (v : Fin 4294967296), s.drwState d = 1 ∧ s.on F.DRW_TCH_CTRL_EN d = true ∧ ((v : Nat) + 2 ^ 32 - s.get
      F.DRW_TCH_POS_CONSUMED d) % 2 ^ 32 ≤ 2 ^ s.get F.DRW_TCH_RING_SIZE_LOG2 d ∧ (s.get F.DRW_TCH_POS_WRITTEN d + 2 ^ 32 - v) % 2 ^ 32
      ≤ 2 ^ s.get F.DRW_TCH_RING_SIZE_LOG2 d) ∧
    (∃ (s : State) (d : DrawerId), s.drwState d = 1 ∧ s.get F.DRW_TCH_CTRL_EN d = 0 ∧ 4 ≤ s.get F.DRW_TCH_RING_SIZE_LOG2 d ∧ s.get
      F.DRW_TCH_RING_SIZE_LOG2 d ≤ 12 ∧ s.tch.panels = []) ∧
    (∃ (s : State) (d : DrawerId), s.drwState d ≠ 0) ∧
    (∃ (s : State) (o : Origin), s.Reaches o 0x1D) :=
  ⟨⟨touching, 0, by decide +kernel⟩,
   ⟨touching, 0, by decide +kernel⟩,
   ⟨touching.put F.TCH_PNL_STATUS_STATE 0 0, 0, by decide +kernel⟩,
   ⟨touching.modPanel 0 (fun q => { q with gates := 1 }), 0, 1, by decide +kernel⟩,
   ⟨(touching.put F.TCH_PNL_CFG_MODE 0 2).modPanel 0 (fun q => { q with gates := 2 }), 0, by decide +kernel⟩,
   ⟨(touching.put F.TCH_PNL_CFG_MODE 0 2).modPanel 0 (fun q => { q with gates := 3 }), 0, by decide +kernel⟩,
   ⟨touching.modPanel 0 (fun q => { q with gates := 2 }), 0, by decide +kernel⟩,
   ⟨touching.modPanel 0 (fun q => { q with gates := 2, absent := 2, raw := [] }), 0, by decide +kernel⟩,
   ⟨touching.modPanel 0 (fun q => { q with gates := 2 }), 0, by decide +kernel⟩,
   ⟨{ touching.put F.TCH_PNL_STATUS_STATE 0 4 with now := 500000000 }, 0, by decide +kernel⟩,
   ⟨{ touching.put F.TCH_PNL_STATUS_STATE 0 4 with now := 500000000 }, 0, by decide +kernel⟩,
   ⟨touching, rtaO, 0, by decide +kernel⟩,
   ⟨{ touching.put F.TCH_PNL_STATUS_STATE 0 1 with now := 100000000 }, 0, 4, by decide +kernel⟩,
   ⟨{ touching.put F.TCH_PNL_STATUS_STATE 0 1 with now := 100000000 }, 0, 3, by decide +kernel⟩,
   ⟨({ touching.put F.TCH_PNL_STATUS_STATE 0 1 with now := 100000000 }).modPanel 0 (fun q => { q with probes := 2 }), 0, 4, by decide +kernel⟩,
   ⟨{ touching.put F.TCH_PNL_STATUS_STATE 0 3 with now := 600000000000 }, 0, by decide +kernel⟩,
   ⟨{ touching.put F.TCH_PNL_STATUS_STATE 0 3 with now := 600000000000 }, 0, by decide +kernel⟩,
   ⟨{ puts touching [(F.PWR_STATUS_STATE, 0, 2), (F.TCH_PNL_CFG_WAKE_EN, 0, 1)] with now := 50000000 }, 0, by decide +kernel⟩,
   ⟨{ puts touching [(F.PWR_STATUS_STATE, 0, 2), (F.TCH_PNL_CFG_WAKE_EN, 0, 1)] with now := 50000000 }, 0, by decide +kernel⟩,
   ⟨puts active [(F.DRW_TCH_CTRL_EN, 0, 1), (F.DRW_TCH_RING_SIZE_LOG2, 0, 6), (F.DRW_TCH_POS_WRITTEN, 0, 9)], 0, 7, by decide +kernel⟩,
   ⟨active.put F.DRW_TCH_RING_SIZE_LOG2 0 6, 0, by decide +kernel⟩,
   ⟨active.put F.DRW_TCH_RING_SIZE_LOG2 0 6, 0, by decide +kernel⟩,
   ⟨touching, rtaO, by decide +kernel⟩⟩

/-- What Obligations.HapticEffectsRun assumes can hold. -/
theorem witness_HapticEffectsRun :
    (∃ (s : State) (o : Origin) (c : HapId) (i : Fin 64) (e : Effect), s.Reaches o 0x1E ∧ s.hapRefuse c i = false ∧ s.hapPhase c = 0 ∧
      s.hap.effects[(i : Nat)]? = some e) ∧
    (∃ (s : State) (o : Origin) (c : HapId) (i : Fin 64), s.Reaches o 0x1E ∧ s.hapRefuse c i = true) ∧
    (∃ (s : State) (o : Origin) (c : HapId) (i : Fin 64) (e : Effect), s.Reaches o 0x1E ∧ s.hapRefuse c i = false ∧ s.hapPhase c = 3 ∧
      s.hap.effects[(i : Nat)]? = some e ∧ e.urgent = false ∧ (s.hapCh c).waiting = none) ∧
    (∃ (s : State) (o : Origin), s.Reaches o 0x1E) ∧
    (∃ (s : State) (o : Origin) (c : HapId) (i : Fin 64) (e : Effect), s.Reaches o 0x1E ∧ s.hapRefuse c i = false ∧ s.hapPhase c = 1 ∨
      s.hapPhase c = 2 ∧ s.hap.effects[(i : Nat)]? = some e) ∧
    (∃ (s : State) (c : HapId), s.hapPhase c = 1 ∧ s.hapLasted c (s.hapEffect c).attackMs = true ∧ (s.hapEffect c).sustainMs ≠ 0) ∧
    (∃ (s : State) (c : HapId), s.hapPhase c = 1 ∧ s.hapLasted c (s.hapEffect c).attackMs = true ∧ (s.hapEffect c).sustainMs = 0) ∧
    (∃ (s : State) (c : HapId), s.hapPhase c = 2 ∧ s.hapLasted c (s.hapEffect c).sustainMs = true) ∧
    (∃ (s : State) (c : HapId) (e : Effect), s.hapPhase c = 1 ∨ s.hapPhase c = 2 ∧ s.hap.effects[s.get F.HAP_CH_STATUS_EFFECT c]? = some
      e ∧ e.track = true) ∧
    (∃ (s : State) (c : HapId) (emfMv : Nat), s.hapPhase c = 3 ∧ emfMv < s.get F.HAP_CH_CFG_STOP_MV c ∧ (s.hapCh c).waiting = none) ∧
    (∃ (s : State) (c : HapId) (emfMv : Nat), s.hapPhase c = 3 ∧ emfMv < s.get F.HAP_CH_CFG_STOP_MV c) ∧
    (∃ (s : State) (c : HapId), s.hapPhase c = 3 ∧ s.hapLasted c (s.hapEffect c).brakeMs = true ∧ (s.hapCh c).waiting = none) ∧
    (∃ (s : State) (c : HapId), s.hapPhase c = 3 ∧ s.hapLasted c (s.hapEffect c).brakeMs = true) ∧
    (∃ (s : State) (c : HapId), s.hapPhase c = 3) ∧
    (∃ (s : State) (c : HapId) (i : Nat) (e : Effect), s.hapPhase c = 3 ∧ (s.hapCh c).waitAt + 2000000 ≤ s.now ∧ (s.hapCh c).waiting =
      some i ∧ i < 64 ∧ s.hap.effects[i]? = some e) ∧
    (∃ (s : State) (c : HapId) (i : Nat), s.hapPhase c = 3 ∧ (s.hapCh c).waitAt + 2000000 ≤ s.now ∧ (s.hapCh c).waiting = some i) ∧
    (∃ (s : State), s.hap.tickAt + 100000 ≤ s.now ∧ s.hapDriving = []) ∧
    (∃ (s : State), s.hap.tickAt + 100000 ≤ s.now) ∧
    (∃ (s : State) (c : HapId), 1 ≤ s.hapPhase c ∧ s.hapPhase c ≤ 3 ∧ (s.hapCh c).driveAt + 2000000 ≤ s.now) ∧
    (∃ (s : State) (o : Origin), s.Reaches o 0x1E ∧ s.adl.buf.length ≤ 60) :=
  ⟨⟨buzzing, openO, 0, 0, { track := true, attackMs := 5, sustainMs := 20, freqHz := 100, aAttack := 500, aSustain := 400 }, by decide +kernel⟩,
   ⟨buzzing, openO, 0, 5, by decide +kernel⟩,
   ⟨buzzing.put F.HAP_CH_STATUS_PHASE 0 3, openO, 0, 0, { track := true, attackMs := 5, sustainMs := 20, freqHz := 100, aAttack := 500, aSustain := 400 }, by decide +kernel⟩,
   ⟨buzzing, openO, by decide +kernel⟩,
   ⟨buzzing.put F.HAP_CH_STATUS_PHASE 0 2, openO, 0, 0, { track := true, attackMs := 5, sustainMs := 20, freqHz := 100, aAttack := 500, aSustain := 400 }, by decide +kernel⟩,
   ⟨{ buzzing.put F.HAP_CH_STATUS_PHASE 0 1 with now := 100000000 }, 0, by decide +kernel⟩,
   ⟨({ buzzing.put F.HAP_CH_STATUS_PHASE 0 1 with now := 100000000 }).modHap 0 id |> fun s => { s with hap := { s.hap with effects := [{ attackMs := 5, freqHz := 100 }] } }, 0, by decide +kernel⟩,
   ⟨{ buzzing.put F.HAP_CH_STATUS_PHASE 0 2 with now := 100000000 }, 0, by decide +kernel⟩,
   ⟨buzzing.put F.HAP_CH_STATUS_PHASE 0 1, 0, { track := true, attackMs := 5, sustainMs := 20, freqHz := 100, aAttack := 500, aSustain := 400 }, by decide +kernel⟩,
   ⟨buzzing.put F.HAP_CH_STATUS_PHASE 0 3, 0, 5, by decide +kernel⟩,
   ⟨buzzing.put F.HAP_CH_STATUS_PHASE 0 3, 0, 5, by decide +kernel⟩,
   ⟨{ buzzing.put F.HAP_CH_STATUS_PHASE 0 3 with now := 100000000 }, 0, by decide +kernel⟩,
   ⟨{ buzzing.put F.HAP_CH_STATUS_PHASE 0 3 with now := 100000000 }, 0, by decide +kernel⟩,
   ⟨buzzing.put F.HAP_CH_STATUS_PHASE 0 3, 0, by decide +kernel⟩,
   ⟨({ buzzing.put F.HAP_CH_STATUS_PHASE 0 3 with now := 100000000 }).modHap 0 (fun h => { h with waiting := some 0 }), 0, 0, { track := true, attackMs := 5, sustainMs := 20, freqHz := 100, aAttack := 500, aSustain := 400 }, by decide +kernel⟩,
   ⟨({ buzzing.put F.HAP_CH_STATUS_PHASE 0 3 with now := 100000000 }).modHap 0 (fun h => { h with waiting := some 0 }), 0, 0, by decide +kernel⟩,
   ⟨{ buzzing.modHap 0 (fun h => { h with e := 4000000 }) with now := 100000 }, by decide +kernel⟩,
   ⟨{ ({ buzzing.put F.HAP_CH_STATUS_PHASE 0 1 with now := 100000000 }) with hap := { buzzing.hap with tickAt := 0 } }, by decide +kernel⟩,
   ⟨{ buzzing.put F.HAP_CH_STATUS_PHASE 0 1 with now := 100000000 }, 0, by decide +kernel⟩,
   ⟨buzzing.put F.HAP_CH_STATUS_OPEN 0 1, rtaO, by decide +kernel⟩⟩

/-- What Obligations.AudioRunsFrameByFrame assumes can hold. -/
theorem witness_AudioRunsFrameByFrame :
    (∃ (s : State) (d : DrawerId) (j : Fin 32), s.on F.DRW_AUD_CFG_EN ((d : Nat) * 32 + j) = false ∧ s.on F.DRW_Q_CTRL_ENABLE (qIx d
      (s.get F.DRW_AUD_CFG_QUEUE ((d : Nat) * 32 + j))) = true ∧ s.get F.DRW_Q_CTRL_ENGINE (qIx d (s.get F.DRW_AUD_CFG_QUEUE ((d : Nat)
      * 32 + j))) = 3 ∧ (j : Nat) ∈ (s.drwOf d).streams) ∧
    (∃ (s : State) (d : DrawerId) (q : QueueId) (seq : Nat) (c : Cmd), s.cmds d = [c] ∧ c.queue = q ∧ c.seq = seq ∧ c.opcode = 0x30 ∧
      c.signal = false ∧ c.statusAddr = 0 ∧ s.dispatchable d c = true ∧ 1 ≤ s.jnlFree d ∧ s.audioCheck d c = 0 ∧ (s.stream ((d : Nat) *
      32 + c.body 0x0E 1)).cmd = none) ∧
    (∃ (s : State) (d : DrawerId) (q : QueueId) (seq : Nat) (c : Cmd), s.cmd? d q seq = some c ∧ c.opcode = 0x30 ∧ s.dispatchable d c =
      true ∧ 1 + b2n c.signal ≤ s.jnlFree d ∧ s.audioCheck d c = 0) ∧
    (∃ (s : State) (d : DrawerId) (q : QueueId) (seq : Nat) (c : Cmd), s.cmd? d q seq = some c ∧ c.opcode = 0x30 ∧ s.dispatchable d c =
      true ∧ 1 + b2n c.signal ≤ s.jnlFree d ∧ s.audioCheck d c = 1) ∧
    (∃ (s : State) (d : DrawerId) (q : QueueId) (seq : Nat) (c : Cmd), s.cmd? d q seq = some c ∧ c.opcode = 0x30 ∧ s.dispatchable d c =
      true ∧ 1 + b2n c.signal ≤ s.jnlFree d ∧ s.audioCheck d c = 2) ∧
    (∃ (s : State) (o : Origin), s.Reaches o 0x1F ∧ o.cab = true ∧ s.boot.recovery = false ∧ s.adl.buf.length ≤ 60) ∧
    (∃ (s : State) (o : Origin) (v : Fin 8), s.Reaches o 0x1F ∧ o.cab = true ∧ s.on F.AUD_VOICE_PLAYING v = true ∧ (s.voice v).stopLeft
      = none) ∧
    (∃ (s : State) (o : Origin), s.Reaches o 0x1F ∧ o.cab = true ∧ s.get F.AUD_BQ_SWAP_MASK < 2 ^ 32) ∧
    (∃ (s : State), s.audRuns = true ∧ s.frameDue = true ∧ s.st < 2 ^ 62 ∧ s.drw = []) ∧
    (∃ (s : State), s.audRuns = true ∧ s.frameDue = true ∧ s.st < 2 ^ 62) :=
  ⟨⟨sounding [], 0, 0, by decide +kernel⟩,
   ⟨(sounding [{ cmdOf [] with entry := entryOf [0x30] (leBytes 8 4096 ++ leBytes 4 480 ++ leBytes 2 2 ++ [0, 0]) }]).put F.DRW_AUD_CFG_EN 0 1, 0, 0, 0, { cmdOf [] with entry := entryOf [0x30] (leBytes 8 4096 ++ leBytes 4 480 ++ leBytes 2 2 ++ [0, 0]) }, by decide +kernel⟩,
   ⟨(sounding [{ cmdOf [] with entry := entryOf [0x30] (leBytes 8 4096 ++ leBytes 4 480 ++ leBytes 2 2 ++ [0, 0]) }]).put F.DRW_AUD_CFG_EN 0 1, 0, 0, 0, { cmdOf [] with entry := entryOf [0x30] (leBytes 8 4096 ++ leBytes 4 480 ++ leBytes 2 2 ++ [0, 0]) }, by decide +kernel⟩,
   ⟨sounding [{ cmdOf [] with entry := entryOf [0x30] (leBytes 8 4096 ++ leBytes 4 480 ++ leBytes 2 2 ++ [0, 0]) }], 0, 0, 0, { cmdOf [] with entry := entryOf [0x30] (leBytes 8 4096 ++ leBytes 4 480 ++ leBytes 2 2 ++ [0, 0]) }, by decide +kernel⟩,
   ⟨(sounding [{ cmdOf [] with entry := entryOf [0x30] (leBytes 8 4096 ++ leBytes 4 480 ++ leBytes 2 2 ++ [0, 0]) }]).modDrw 0 (fun w => { w with streams := [] }), 0, 0, 0, { cmdOf [] with entry := entryOf [0x30] (leBytes 8 4096 ++ leBytes 4 480 ++ leBytes 2 2 ++ [0, 0]) }, by decide +kernel⟩,
   ⟨sounding [], rtaO, by decide +kernel⟩,
   ⟨(sounding []).put F.AUD_VOICE_PLAYING 2 1, rtaO, 2, by decide +kernel⟩,
   ⟨sounding [], rtaO, by decide +kernel⟩,
   ⟨{ up with now := 1000000, aud := { present := true } }, by decide +kernel⟩,
   ⟨{ sounding [] with now := 1000000 }, by decide +kernel⟩⟩

/-- What Obligations.TimeIsDisciplined assumes can hold. -/
theorem witness_TimeIsDisciplined :
    (∃ (s : State), s.pdOnB 1 = true ∧ s.refPps = false) ∧
    (∃ (s : State), s.pdOnB 1 = true ∧ s.refPps = true ∧ s.masterOrNone = true ∧ s.stState = 2 ∧ s.on F.TIM_PPS_ARM_ARMED = true) ∧
    (∃ (s : State), s.pdOnB 1 = true ∧ s.refPps = true ∧ s.masterOrNone = true ∧ s.stState ≠ 2) ∧
    (∃ (s : State), s.pdOnB 1 = false) ∧
    (∃ (s : State), s.refPps = true ∧ s.masterOrNone = true ∧ s.stState = 0 ∧ s.pm.ppsAt + 1500000000 ≤ s.now) ∧
    (∃ (s : State), s.stState ≠ 2 ∧ s.ppsLow = false ∧ s.pins.padsHeldEmergency = false ∧ s.pdOnB 1 = true ∧ s.offSecond ≤ (if s.stState
      = 0 then 10 else s.get F.TIM_STATUS_UNC)) ∧
    (∃ (s : State), s.stState = 2 ∨ s.ppsLow = true ∨ s.pins.padsHeldEmergency = true ∨ (if s.stState = 0 then 10 else s.get
      F.TIM_STATUS_UNC) < s.offSecond) ∧
    (∃ (s : State), s.pm.slew = 0) ∧
    (∃ (s : State), s.stState = 2 ∧ s.masterOrNone = true ∧ s.refPps = false ∧ (s.plk.selfFrom.map (fun t => decide (t + 10000000 ≤
      s.now))) = some true) ∧
    (∃ (s : State), s.alarmDue = true) :=
  ⟨⟨up, by decide +kernel⟩,
   ⟨puts up [(F.TIM_CFG_TIME_REF, 0, 1), (F.TIM_STATUS_STATE, 0, 2), (F.TIM_PPS_ARM_ARMED, 0, 1), (F.TIM_PPS_ARM_SEC, 0, 1000)], by decide +kernel⟩,
   ⟨puts up [(F.TIM_CFG_TIME_REF, 0, 1), (F.TIM_STATUS_STATE, 0, 0)], by decide +kernel⟩,
   ⟨{ up with pd := up.pd &&& ~~~2 }, by decide +kernel⟩,
   ⟨{ puts up [(F.TIM_CFG_TIME_REF, 0, 1), (F.TIM_STATUS_STATE, 0, 0)] with now := 2000000000 }, by decide +kernel⟩,
   ⟨up.put F.TIM_STATUS_STATE 0 1, by decide +kernel⟩,
   ⟨up.put F.TIM_STATUS_STATE 0 2, by decide +kernel⟩,
   ⟨up, by decide +kernel⟩,
   ⟨{ up.put F.TIM_STATUS_STATE 0 2 with now := 10000000, plk := { selfFrom := some 0 } }, by decide +kernel⟩,
   ⟨puts up [(F.TIM_STATUS_STATE, 0, 1), (F.TIM_ALARM_EN, 0, 1)], by decide +kernel⟩⟩

/-- What Obligations.InterruptsAreOfferedAndClaimed assumes can hold. -/
theorem witness_InterruptsAreOfferedAndClaimed :
    (∃ (n : SrcId), icuExists n = true) ∧
    (∃ (n : SrcId), icuIsLevel n = true) ∧
    (∃ (s : State) (o : Origin) (c : IcuCtx) (n : Nat), s.blkOn 0x20 = true ∧ s.behindHeld (icuAddr (0x2004 + 0x100 * c)) = false ∧
      s.cabOwned 0x20 = false ∨ o.cab = true ∧ (c : Nat) < 4 ∨ o.cab = true ∧ s.claimPick c = some n ∧ n < 512) ∧
    (∃ (s : State) (o : Origin) (c : IcuCtx), s.blkOn 0x20 = true ∧ s.behindHeld (icuAddr (0x2004 + 0x100 * c)) = false ∧ s.cabOwned
      0x20 = false ∨ o.cab = true ∧ s.claimPick c = none) ∧
    (∃ (s : State) (o : Origin) (c : IcuCtx) (n : Nat), s.Reaches o 0x20 ∧ (c : Nat) < 4 ∨ o.cab = true ∧ n < 512 ∧ s.on
      F.ICU_SRC_INSERVICE n = true ∧ s.get F.ICU_SRC_CTX n = c ∧ s.get F.ICU_SRC_PENDING n = 0) ∧
    (∃ (s : State) (o : Origin) (c : IcuCtx) (n : Nat), s.Reaches o 0x20 ∧ (c : Nat) < 4 ∨ o.cab = true ∧ s.on F.ICU_SRC_INSERVICE n =
      false) ∧
    (∃ (s : State) (o : Origin) (n : SrcId), s.Reaches o 0x20 ∧ 1 ≤ (n : Nat) ∧ (n : Nat) ≤ 15 ∧ o.cab = true) ∧
    (∃ (s : State) (o : Origin), s.Reaches o 0x20 ∧ o.cab = true) ∧
    (∃ (s : State) (o : Origin), s.Reaches o 1 ∧ o.kind = .rt) ∧
    (∃ (s : State), s.hutchPick ≠ 0xFF) ∧
    (∃ (s : State) (o : Origin), s.blkOn 1 = true ∧ s.behindHeld 0x00F000100110 = false ∧ s.cabOwned 1 = false ∨ o.cab = true ∧ o.kind =
      .hutch) :=
  ⟨⟨57, by decide +kernel⟩,
   ⟨45, by decide +kernel⟩,
   ⟨claimable, rtaO, 1, 45, by decide +kernel⟩,
   ⟨up, openO, 1, by decide +kernel⟩,
   ⟨(up.put F.ICU_SRC_INSERVICE 45 1).put F.ICU_SRC_CTX 45 1, rtaO, 1, 45, by decide +kernel⟩,
   ⟨up, rtaO, 1, 45, by decide +kernel⟩,
   ⟨up, rtaO, 3, by decide +kernel⟩,
   ⟨up, rtaO, by decide +kernel⟩,
   ⟨up, rtaO, by decide +kernel⟩,
   ⟨puts up [(F.HUT_ICU_PEND_PENDING, 0, 4), (F.HUT_ICU_EN_EN, 0, 4)], by decide +kernel⟩,
   ⟨puts up [(F.HUT_ICU_PEND_PENDING, 0, 4), (F.HUT_ICU_EN_EN, 0, 4)], hutchO, by decide +kernel⟩⟩

/-- What Obligations.CoresSleepWakeAndChangeWorlds assumes can hold. -/
theorem witness_CoresSleepWakeAndChangeWorlds :
    (∃ (s : State) (n : Target), (n : Nat) < 4 ∧ s.coreSleepBit n = true ∧ s.awake n = true ∧ s.inServiceAt n = true) ∧
    (∃ (s : State) (n : Target), (n : Nat) < 4 ∧ s.coreSleepBit n = true ∧ s.awake n = true ∧ s.inServiceAt n = false ∧ ((List.range
      512).all (fun k => !s.on F.ICU_SRC_OFFERED k)) = true) ∧
    (∃ (s : State) (n : Target), s.coreSleepBit n = true ∧ s.awake n = true ∧ s.inServiceAt n = false) ∧
    (∃ (s : State) (n : Target), s.coreSleepBit n = true ∧ s.awake n = true ∧ s.inServiceAt n = true) ∧
    (∃ (s : State) (n : Target), s.coreSleepBit n = false) ∧
    (∃ (s : State) (n : Target), (n : Nat) < 4 ∧ s.get F.CCL_CORE_STATE n = 1) ∧
    (∃ (s : State) (n : Target), (n : Nat) < 4 ∧ s.coreState n = 2) ∧
    (∃ (s : State) (n : Target), 4 ≤ (n : Nat) ∧ s.coreState n = 2) ∧
    (∃ (s : State) (c : Fin 7) (v : Nat), s.timersOf c = { mtimecmp := some v, stimecmp := none } ∧ v ≤ s.st) :=
  ⟨⟨puts up [(F.CCL_CORE_SLEEP, 1, 1), (F.ICU_STATUS_AWAKE, 0, 0x3F), (F.ICU_SRC_INSERVICE, 45, 1), (F.ICU_SRC_CTX, 45, 1)], 1, by decide +kernel⟩,
   ⟨puts up [(F.CCL_CORE_SLEEP, 1, 1), (F.ICU_STATUS_AWAKE, 0, 0x3F)], 1, by decide +kernel⟩,
   ⟨puts up [(F.CCL_CORE_SLEEP, 1, 1), (F.ICU_STATUS_AWAKE, 0, 0x3F)], 1, by decide +kernel⟩,
   ⟨puts up [(F.CCL_CORE_SLEEP, 1, 1), (F.ICU_STATUS_AWAKE, 0, 0x3F), (F.ICU_SRC_INSERVICE, 45, 1), (F.ICU_SRC_CTX, 45, 1)], 1, by decide +kernel⟩,
   ⟨up, 1, by decide +kernel⟩,
   ⟨up.put F.CCL_CORE_STATE 1 1, 1, by decide +kernel⟩,
   ⟨up.put F.CCL_CORE_STATE 1 2, 1, by decide +kernel⟩,
   ⟨up.put F.RTx_CTRL_STATE 0 2, 4, by decide +kernel⟩,
   ⟨{ up with cores := { timers := [(1, { mtimecmp := some 0 })] } }, 1, 0, by decide +kernel⟩⟩

/-- What Obligations.FusesBurnAndLifecycleAdvances assumes can hold. -/
theorem witness_FusesBurnAndLifecycleAdvances :
    (∃ (s : State) (o : Origin), s.Reaches o 0x21 ∧ s.get F.CAB_LC_STATE = 1 ∧ s.get F.CAB_LC_NEXT = 1 ∧ s.adl.buf.length ≤ 60) ∧
    (∃ (s : State) (o : Origin), s.Reaches o 0x21 ∧ s.get F.CAB_LC_STATE = 4) ∧
    (∃ (s : State) (o : Origin) (v : Fin 128), s.Reaches o 0x21 ∧ s.get F.CAB_FUSE_SVN_FLOOR < (v : Nat) ∧ (v : Nat) ≤ min 64
      s.runningSvn) ∧
    (∃ (s : State) (o : Origin) (v : Fin 128), s.Reaches o 0x21 ∧ 1 ≤ (v : Nat) ∧ (v : Nat) ≤ s.get F.CAB_FUSE_SVN_FLOOR) ∧
    (∃ (s : State) (o : Origin) (mask : Fin 16), s.Reaches o 0x21 ∧ (mask : Nat) ≠ 0 ∧ bit mask (s.get F.CAB_FUSE_ROOT_SLOT) = false ∧
      s.fuses.burns = [] ∧ (s.get F.CAB_FUSE_REVOKED ||| (mask : Nat)) % 16 ≠ 15) ∧
    (∃ (s : State) (v : Nat), s.fuses.burns = [.svn v] ∧ v < 128 ∧ s.fuses.svnFloor < 128) ∧
    (∃ (s : State), s.fuses.burns = [.toField]) ∧
    (∃ (s : State) (b : Burn) (rest : List Burn), s.fuses.burns = b :: rest) ∧
    (∃ (s : State) (slot : Nat), tapPermitted (s.get F.CAB_LC_STATE) 0x21 = true ∧ s.phase ≠ .off ∧ slot < 4 ∧ (s.fuses.rootDigest.any
      (fun p => p.1 = slot)) = false) ∧
    (∃ (s : State), tapPermitted (s.get F.CAB_LC_STATE) 0x21 = true ∧ s.phase ≠ .off) ∧
    (∃ (s : State) (n : Nat), tapPermitted (s.get F.CAB_LC_STATE) 0x21 = true ∧ s.phase ≠ .off ∧ n ≤ 64 ∧ s.fuses.svnFloor ≤ n) ∧
    (∃ (s : State), tapPermitted (s.get F.CAB_LC_STATE) 0x21 = true ∧ s.phase ≠ .off ∧ (s.fuses.rootDigest.any (fun p => p.1 = 0)) =
      true ∧ s.fuses.decryptKeySet = true ∧ s.get F.CAB_LC_NEXT = 0 ∧ s.adl.buf.length ≤ 60) :=
  ⟨⟨puts up [(F.CAB_LC_STATE, 0, 1), (F.CAB_LC_NEXT, 0, 1)], rtaO, by decide +kernel⟩,
   ⟨up.put F.CAB_LC_STATE 0 4, rtaO, by decide +kernel⟩,
   ⟨{ up with flashA := List.replicate 12 0 ++ [9] }, rtaO, 5, by decide +kernel⟩,
   ⟨up.put F.CAB_FUSE_SVN_FLOOR 0 5, rtaO, 5, by decide +kernel⟩,
   ⟨up, rtaO, 2, by decide +kernel⟩,
   ⟨{ up with fuses := { burns := [.svn 7] } }, 7, by decide +kernel⟩,
   ⟨{ up with fuses := { burns := [.toField] } }, by decide +kernel⟩,
   ⟨{ up with fuses := { burns := [.revoke 2, .toField] } }, .revoke 2, [.toField], by decide +kernel⟩,
   ⟨up, 0, by decide +kernel⟩,
   ⟨up, by decide +kernel⟩,
   ⟨up, 5, by decide +kernel⟩,
   ⟨{ up with fuses := { rootDigest := [(0, [1])], decryptKeySet := true } }, by decide +kernel⟩⟩

/-- What Obligations.TheTapServesItsInstructions assumes can hold. -/
theorem witness_TheTapServesItsInstructions :
    (∃ (s : State), s.phase ≠ .off ∧ tapPermitted (s.get F.CAB_LC_STATE) 0 = true) ∧
    (∃ (s : State), s.phase ≠ .off ∧ tapPermitted (s.get F.CAB_LC_STATE) 1 = true) ∧
    (∃ (s : State), s.phase ≠ .off ∧ tapPermitted (s.get F.CAB_LC_STATE) 2 = true) ∧
    (∃ (s : State), s.phase ≠ .off ∧ tapPermitted (s.get F.CAB_LC_STATE) 4 = true) ∧
    (∃ (s : State), s.phase ≠ .off ∧ tapPermitted (s.get F.CAB_LC_STATE) 5 = true) ∧
    (∃ (s : State), s.phase ≠ .off) ∧
    (∃ (s : State), s.phase = .off) ∧
    (∃ (s : State), s.phase = .off) ∧
    (∃ (s : State), s.phase ≠ .off ∧ tapPermitted (s.get F.CAB_LC_STATE) 0 = false) ∧
    (∃ (s : State), s.phase ≠ .off) ∧
    (∃ (s : State) (w : Fin 128), s.phase ≠ .off ∧ regAt (0x00F002900000 + 4 * w) = none) ∧
    (∃ (s : State) (w : Fin 128) (r : Reg) (i : Nat) (off : Nat), s.phase ≠ .off ∧ regAt (0x00F002900000 + 4 * w) = some (r, i, off)) :=
  ⟨⟨up, by decide +kernel⟩,
   ⟨up, by decide +kernel⟩,
   ⟨up, by decide +kernel⟩,
   ⟨up, by decide +kernel⟩,
   ⟨up, by decide +kernel⟩,
   ⟨up, by decide +kernel⟩,
   ⟨State.reset, by decide +kernel⟩,
   ⟨State.reset, by decide +kernel⟩,
   ⟨up.put F.CAB_LC_STATE 0 2, by decide +kernel⟩,
   ⟨up, by decide +kernel⟩,
   ⟨up, 127, by decide +kernel⟩,
   ⟨up, 0, ((regAt 0x00F002900000).map (fun x => x.1)).getD lutReg, ((regAt 0x00F002900000).map (fun x => x.2.1)).getD 0, ((regAt 0x00F002900000).map (fun x => x.2.2)).getD 0, by decide +kernel⟩⟩

/-- What Obligations.DebugSessionsAreChallengedOpenedAndClosed assumes can hold. -/
theorem witness_DebugSessionsAreChallengedOpenedAndClosed :
    (∃ (s : State), s.dbgIdle = true ∧ s.dbg.verifying = none ∧ s.dbg.session = none ∧ s.get F.DBG_STATUS_FAILS < 8 ∧ s.dbgLocked =
      false) ∧
    (∃ (s : State), s.dbgIdle = true) ∧
    (∃ (s : State), s.dbgIdle = false) ∧
    (∃ (s : State), s.dbgIdle = true ∧ s.dbgLocked = true) ∧
    (∃ (s : State), s.dbgIdle = true ∧ s.dbgLocked = false) ∧
    (∃ (s : State) (c : List Byte) (n : Bool), s.dbg.verifying = some (c, n) ∧ s.adl.buf.length ≤ 62) ∧
    (∃ (s : State) (c : List Byte) (n : Bool), s.dbg.verifying = some (c, n) ∧ fieldLE c 6 1 = 1 ∧ s.adl.buf.length ≤ 60 ∧ s.dbgLocked =
      false) ∧
    (∃ (s : State) (c : List Byte), s.dbg.verifying = some (c, false) ∧ s.get F.DBG_STATUS_FAILS < 7) ∧
    (∃ (s : State), s.dbgIdle = true ∧ s.dbg.session = none) ∧
    (∃ (s : State) (x : Session), s.dbgIdle = true ∧ s.dbg.session = some x) ∧
    (∃ (s : State) (x : Session), s.dbgIdle = true ∧ s.dbg.session = some x) ∧
    (∃ (s : State), s.dbgIdle = true ∧ s.dbg.session = none) ∧
    (∃ (s : State), s.dbgIdle = true ∧ s.dbg.session.isSome = true) ∧
    (∃ (s : State) (x : Session), s.dbg.session = some x ∧ x.openedAt + x.maxMin * 60000000000 ≤ s.now) ∧
    (∃ (s : State), s.dbg.nonce.isSome = true ∧ s.dbg.nonceAt + 300000000000 ≤ s.now) :=
  ⟨⟨up, by decide +kernel⟩,
   ⟨{ up with dbg := { session := some ⟨{ kind := .debug }, 77, 0, 60⟩ } }, by decide +kernel⟩,
   ⟨up.put F.DBG_STATUS_BUSY 0 1, by decide +kernel⟩,
   ⟨up.put F.DBG_STATUS_STATE 0 5, by decide +kernel⟩,
   ⟨up, by decide +kernel⟩,
   ⟨{ up with dbg := { verifying := some ([], false) } }, [], false, by decide +kernel⟩,
   ⟨{ up.put F.CAB_LC_STATE 0 2 with dbg := { verifying := some (pad (leBytes 4 0x47424443 ++ [1, 0, 1, 0] ++ leBytes 8 77 ++ leBytes 16 9 ++ pad [] 48 ++ leBytes 2 60) 256, true), rootDigests := [[0]], dbgRoots := 1 }, fuses := { deviceId := 9 } }, pad (leBytes 4 0x47424443 ++ [1, 0, 1, 0] ++ leBytes 8 77 ++ leBytes 16 9 ++ pad [] 48 ++ leBytes 2 60) 256, true, by decide +kernel⟩,
   ⟨{ up with dbg := { verifying := some ([], false) } }, [], by decide +kernel⟩,
   ⟨up, by decide +kernel⟩,
   ⟨{ up with dbg := { session := some ⟨{ kind := .debug }, 77, 0, 60⟩ } }, ⟨{ kind := .debug }, 77, 0, 60⟩, by decide +kernel⟩,
   ⟨{ up with dbg := { session := some ⟨{ kind := .debug }, 77, 0, 60⟩ } }, ⟨{ kind := .debug }, 77, 0, 60⟩, by decide +kernel⟩,
   ⟨up, by decide +kernel⟩,
   ⟨{ up with dbg := { session := some ⟨{ kind := .debug }, 77, 0, 60⟩ } }, by decide +kernel⟩,
   ⟨{ { up with dbg := { session := some ⟨{ kind := .debug }, 77, 0, 60⟩ } } with now := 3600000000000 }, ⟨{ kind := .debug }, 77, 0, 60⟩, by decide +kernel⟩,
   ⟨{ up with now := 300000000000, dbg := { nonce := some [1] } }, by decide +kernel⟩⟩

/-- What Obligations.PowerStatesChangeInPhases assumes can hold. -/
theorem witness_PowerStatesChangeInPhases :
    (∃ (s : State) (o : Origin) (q : Nat), s.Reaches o 0x22 ∧ s.pm.inProgress = none ∧ s.shutdownComing = false ∧ s.pwrState = 0 ∧
      s.pm.seqCount = q ∧ q < 65536) ∧
    (∃ (s : State) (o : Origin) (q : Nat), s.Reaches o 0x22 ∧ s.pm.inProgress = none ∧ s.shutdownComing = false ∧ s.pwrState = 0 ∧
      s.pm.seqCount = q ∧ q < 65536 ∧ s.requestRefuse o 1 = none) ∧
    (∃ (s : State) (r : PwrReq), s.pm.inProgress = some r ∧ r.target = 1 ∧ s.pwrState = 0 ∧ s.get F.PWR_STATUS_PHASE = 1 ∧ s.drainLeft 1
      = []) ∧
    (∃ (s : State) (r : PwrReq), s.pm.inProgress = some r ∧ s.get F.PWR_STATUS_PHASE = 1 ∧ s.drainLeft r.target = []) ∧
    (∃ (s : State) (r : PwrReq), s.pm.inProgress = some r ∧ s.drainLeft r.target ≠ []) ∧
    (∃ (s : State) (r : PwrReq) (b : Nat), s.pm.inProgress = some r ∧ r.target = 1 ∧ s.get F.PWR_STATUS_PHASE = 1 ∧ s.drainOver r.target
      = true ∧ s.drainLeft r.target = [b] ∧ s.pm.next = none) ∧
    (∃ (s : State) (r : PwrReq) (b : Nat) (bs : List Nat), s.pm.inProgress = some r ∧ s.get F.PWR_STATUS_PHASE = 1 ∧ s.drainOver
      r.target = true ∧ s.drainLeft r.target = b :: bs) ∧
    (∃ (s : State), s.pm.inProgress.isSome = true ∧ s.get F.PWR_STATUS_PHASE = 2) ∧
    (∃ (s : State) (r : PwrReq), s.pm.inProgress = some r ∧ r.target = 1 ∧ s.pwrState = 0 ∧ s.get F.PWR_STATUS_PHASE = 3 ∧ s.pm.next =
      none ∧ s.pm.nextMerged = []) ∧
    (∃ (s : State) (r : PwrReq), s.pm.inProgress = some r ∧ s.get F.PWR_STATUS_PHASE = 3 ∧ s.pm.next = none ∧ r.target < 8) ∧
    (∃ (s : State) (r : PwrReq), s.pm.inProgress = some r ∧ r.target = 0 ∧ s.get F.PWR_STATUS_PHASE = 4) ∧
    (∃ (s : State) (r : PwrReq), s.pm.inProgress = some r ∧ s.get F.PWR_STATUS_PHASE = 4) ∧
    (∃ (s : State) (r : PwrReq), s.pm.inProgress = some r ∧ r.target = 0 ∧ s.pwrState = 1 ∧ s.get F.PWR_STATUS_PHASE = 5) ∧
    (∃ (s : State) (r : PwrReq), s.pm.inProgress = some r ∧ s.get F.PWR_STATUS_PHASE = 5) ∧
    (∃ (s : State) (r : PwrReq), s.pm.inProgress = some r ∧ r.target = 0 ∧ s.pwrState = 1 ∧ s.get F.PWR_STATUS_PHASE = 6 ∧ s.pm.next =
      none ∧ s.pm.nextMerged = []) ∧
    (∃ (s : State) (r : PwrReq), s.pm.inProgress = some r ∧ s.get F.PWR_STATUS_PHASE = 6 ∧ s.pwrState ≠ 3 ∧ r.target < 8 ∧ s.pm.next =
      none) ∧
    (∃ (s : State) (r : PwrReq), s.pm.inProgress = some r ∧ s.get F.PWR_STATUS_PHASE = 6 ∧ s.pwrState = 3 ∧ r.target < 8 ∧ s.pm.next =
      none) ∧
    (∃ (s : State) (o : Origin) (m : Fin 65536), s.Reaches o 0x22 ∧ s.pins.padsHeldEmergency = false ∧ bit m 10 = false ∧ bit m 13 =
      false ∧ bit m 14 = false ∧ s.get F.PWR_PADREL_HELD < 65536) ∧
    (∃ (s : State) (o : Origin), s.Reaches o 0x22 ∧ s.pins.padsHeldEmergency = false ∧ s.get F.PWR_PADREL_HELD < 65536) ∧
    (∃ (s : State), s.phase = .running ∧ s.pwrState ≠ 0 ∨ (s.pm.inProgress.isSome = true ∧ 1 ≤ s.get F.PWR_STATUS_PHASE ∧ s.get
      F.PWR_STATUS_PHASE ≤ 3) ∧ s.pm.wakeNEn = false) ∧
    (∃ (s : State), s.phase = .running ∧ s.pwrState ≠ 0 ∨ (s.pm.inProgress.isSome = true ∧ 1 ≤ s.get F.PWR_STATUS_PHASE ∧ s.get
      F.PWR_STATUS_PHASE ≤ 3) ∧ s.pm.wakeNEn = true) ∧
    (∃ (s : State), s.phase ≠ .running ∨ (s.pwrState = 0 ∧ s.pm.inProgress = none)) :=
  ⟨⟨up, rtaO, 0, by decide +kernel⟩,
   ⟨up.put F.PWR_CFG_STATES 0 7, rtaO, 0, by decide +kernel⟩,
   ⟨{ (puts up [(F.PWR_STATUS_PHASE, 0, 1), (F.PWR_STATUS_TARGET, 0, 1)]) with pm := { inProgress := some { seq := 3, target := 1 } } }, { seq := 3, target := 1 }, by decide +kernel⟩,
   ⟨{ (puts up [(F.PWR_STATUS_PHASE, 0, 1), (F.PWR_STATUS_TARGET, 0, 1)]) with pm := { inProgress := some { seq := 3, target := 1 } } }, { seq := 3, target := 1 }, by decide +kernel⟩,
   ⟨{ { (puts up [(F.PWR_STATUS_PHASE, 0, 1), (F.PWR_STATUS_TARGET, 0, 1)]) with pm := { inProgress := some { seq := 3, target := 1 } } } with fuses := { burns := [.toField] } }, { seq := 3, target := 1 }, by decide +kernel⟩,
   ⟨{ { (puts up [(F.PWR_STATUS_PHASE, 0, 1), (F.PWR_STATUS_TARGET, 0, 1)]) with pm := { inProgress := some { seq := 3, target := 1 } } } with now := 1000000000000, fuses := { burns := [.toField] } }, { seq := 3, target := 1 }, 0x21, by decide +kernel⟩,
   ⟨{ { (puts up [(F.PWR_STATUS_PHASE, 0, 1), (F.PWR_STATUS_TARGET, 0, 1)]) with pm := { inProgress := some { seq := 3, target := 1 } } } with now := 1000000000000, fuses := { burns := [.toField] } }, { seq := 3, target := 1 }, 0x21, [], by decide +kernel⟩,
   ⟨{ (puts up [(F.PWR_STATUS_PHASE, 0, 2), (F.PWR_STATUS_TARGET, 0, 1)]) with pm := { inProgress := some { seq := 3, target := 1 } } }, by decide +kernel⟩,
   ⟨{ (puts up [(F.PWR_STATUS_PHASE, 0, 3), (F.PWR_STATUS_TARGET, 0, 1)]) with pm := { inProgress := some { seq := 3, target := 1 } } }, { seq := 3, target := 1 }, by decide +kernel⟩,
   ⟨{ (puts up [(F.PWR_STATUS_PHASE, 0, 3), (F.PWR_STATUS_TARGET, 0, 1)]) with pm := { inProgress := some { seq := 3, target := 1 } } }, { seq := 3, target := 1 }, by decide +kernel⟩,
   ⟨{ (puts up [(F.PWR_STATUS_PHASE, 0, 4), (F.PWR_STATUS_STATE, 0, 1)]) with pm := { inProgress := some { seq := 3 } }, pd := 0xFA0F }, { seq := 3 }, by decide +kernel⟩,
   ⟨{ (puts up [(F.PWR_STATUS_PHASE, 0, 4), (F.PWR_STATUS_STATE, 0, 1)]) with pm := { inProgress := some { seq := 3 } }, pd := 0xFA0F }, { seq := 3 }, by decide +kernel⟩,
   ⟨{ { (puts up [(F.PWR_STATUS_PHASE, 0, 5), (F.PWR_STATUS_STATE, 0, 1)]) with pm := { inProgress := some { seq := 3 } }, pd := 0xFA0F } with pd := 0xFFFF }, { seq := 3 }, by decide +kernel⟩,
   ⟨{ { (puts up [(F.PWR_STATUS_PHASE, 0, 5), (F.PWR_STATUS_STATE, 0, 1)]) with pm := { inProgress := some { seq := 3 } }, pd := 0xFA0F } with pd := 0xFFFF }, { seq := 3 }, by decide +kernel⟩,
   ⟨{ { (puts up [(F.PWR_STATUS_PHASE, 0, 6), (F.PWR_STATUS_STATE, 0, 1)]) with pm := { inProgress := some { seq := 3 } }, pd := 0xFA0F } with pd := 0xFFFF }, { seq := 3 }, by decide +kernel⟩,
   ⟨{ { (puts up [(F.PWR_STATUS_PHASE, 0, 6), (F.PWR_STATUS_STATE, 0, 1)]) with pm := { inProgress := some { seq := 3 } }, pd := 0xFA0F } with pd := 0xFFFF }, { seq := 3 }, by decide +kernel⟩,
   ⟨{ ({ (puts up [(F.PWR_STATUS_PHASE, 0, 6), (F.PWR_STATUS_STATE, 0, 1)]) with pm := { inProgress := some { seq := 3 } }, pd := 0xFA0F }).put F.PWR_STATUS_STATE 0 3 with pd := 0xFFFF }, { seq := 3 }, by decide +kernel⟩,
   ⟨up.put F.PWR_PADREL_HELD 0 0xFF, rtaO, 5, by decide +kernel⟩,
   ⟨up.put F.PWR_PADREL_HELD 0 0xFF00, rtaO, by decide +kernel⟩,
   ⟨up.put F.PWR_STATUS_STATE 0 1, by decide +kernel⟩,
   ⟨{ up.put F.PWR_STATUS_STATE 0 1 with pm := { up.pm with wakeNEn := true } }, by decide +kernel⟩,
   ⟨up, by decide +kernel⟩⟩

/-- What Obligations.ErrorsAreRecordedAndAcknowledged assumes can hold. -/
theorem witness_ErrorsAreRecordedAndAcknowledged :
    (∃ (s : State) (e : ErrIn), s.phase ≠ .off ∧ hasQueue e.domain = true ∧ s.classOf e ≤ 1 ∧ (s.errq e.domain).recs.length < 16 ∧
      ((s.errq e.domain).recs.all (fun r => !(r.code = e.code && r.cls = s.classOf e && r.source = e.source))) = true) ∧
    (∃ (s : State) (e : ErrIn), s.phase ≠ .off ∧ hasQueue e.domain = true ∧ s.classOf e = 0 ∧ (s.errq e.domain).recs.length = 16 ∧
      ((s.errq e.domain).recs.all (fun r => !(r.code = e.code && r.cls = s.classOf e && r.source = e.source))) = true ∧ 0 ≤ s.classOf e) ∧
    (∃ (s : State), s.phase ≠ .off) ∧
    (∃ (s : State), s.phase = .off) ∧
    (∃ (s : State), s.phase ≠ .off) ∧
    (∃ (s : State) (o : Origin) (d : DomainId) (r : ErrRec), s.cabOwned d = false ∨ o.cab = true ∧ (s.errq d).recs = [r] ∧ r.seq <
      65536) ∧
    (∃ (s : State) (o : Origin) (d : DomainId), s.cabOwned d = false ∨ o.cab = true) ∧
    (∃ (s : State) (o : Origin) (v : Nat), s.held = [] ∧ s.adl.buf.length ≤ 60 ∧ s.cabOwned 5 = false ∨ o.cab = true ∧ bit v 26 = false) ∧
    (∃ (s : State) (v : Nat), s.held = [] ∧ s.committed = false ∧ bit v 26 = true ∧ bits v 8 8 = 0xE0 ∧ hasQueue (bits v 0 8) = true ∧
      bits v 16 2 < 2) ∧
    (∃ (s : State) (r : ResetDue), s.err.due = [r] ∧ s.get F.PWR_STATUS_PHASE = 0 ∧ s.pdOnB r.unit.pd = true ∧ s.overLimit r.unit =
      false) ∧
    (∃ (s : State) (u : ResetUnit) (r : ResetDue), s.err.due.find? (fun (x : ResetDue) => x.unit = u) = some r ∧ s.get
      F.PWR_STATUS_PHASE ≠ 2 ∧ s.get F.PWR_STATUS_PHASE ≠ 3 ∧ s.pdOnB (u).pd = true ∧ s.overLimit u = false) ∧
    (∃ (s : State) (g : Nat) (r : ResetDue), s.err.due.find? (fun (x : ResetDue) => x.unit = .bg g) = some r ∧ s.get F.PWR_STATUS_PHASE
      ≠ 2 ∧ s.get F.PWR_STATUS_PHASE ≠ 3 ∧ s.pdOnB (ResetUnit.bg g).pd = true ∧ s.overLimit (.bg g) = true) ∧
    (∃ (s : State) (u : ResetUnit) (r : ResetDue), s.err.due.find? (fun (x : ResetDue) => x.unit = u) = some r ∧ s.get
      F.PWR_STATUS_PHASE ≠ 2 ∧ s.get F.PWR_STATUS_PHASE ≠ 3 ∧ s.pdOnB (u).pd = true ∧ s.overLimit u = true ∧ (u matches .bg _) = false) ∧
    (∃ (s : State) (g : Nat), s.err.running = [.bg g]) ∧
    (∃ (s : State) (u : ResetUnit), s.err.running.contains u = true) :=
  ⟨⟨up, { domain := 0x19, code := 0x10 }, by decide +kernel⟩,
   ⟨{ up with err := { up.err with queues := [(0x19, { recs := List.replicate 16 { code := 0x77 } })] } }, { domain := 0x19, code := 0x10, cls := some 0 }, by decide +kernel⟩,
   ⟨up, by decide +kernel⟩,
   ⟨State.reset, by decide +kernel⟩,
   ⟨up, by decide +kernel⟩,
   ⟨{ up with err := { up.err with queues := [(0x19, { recs := [{ seq := 5 }] })] } }, rtaO, 0x19, { seq := 5 }, by decide +kernel⟩,
   ⟨up, rtaO, 0x19, by decide +kernel⟩,
   ⟨up, rtaO, 0, by decide +kernel⟩,
   ⟨up, 0x400E019, by decide +kernel⟩,
   ⟨{ up with err := { up.err with due := [⟨.bg 1, 9, 0x40, false⟩] } }, ⟨.bg 1, 9, 0x40, false⟩, by decide +kernel⟩,
   ⟨{ up with err := { up.err with due := [⟨.bg 1, 9, 0x40, false⟩] } }, .bg 1, ⟨.bg 1, 9, 0x40, false⟩, by decide +kernel⟩,
   ⟨{ up with err := { up.err with limit := 1, due := [⟨.bg 1, 9, 0x40, false⟩] } }, 1, ⟨.bg 1, 9, 0x40, false⟩, by decide +kernel⟩,
   ⟨{ up with err := { up.err with limit := 1, due := [⟨.coreIsland, 2, 0x40, false⟩] } }, .coreIsland, ⟨.coreIsland, 2, 0x40, false⟩, by decide +kernel⟩,
   ⟨{ up with err := { up.err with running := [.bg 1] } }, 1, by decide +kernel⟩,
   ⟨{ up with err := { up.err with running := [.bg 1, .head 2], headsRan := [2] } }, .head 2, by decide +kernel⟩⟩

/-- What Obligations.TheAuditLogIsFlushedAndMarked assumes can hold. -/
theorem witness_TheAuditLogIsFlushedAndMarked :
    (∃ (s : State) (e : AuditEntry) (rest : List AuditEntry), s.adl.buf = e :: rest ∧ (s.adl.flushAt.map (fun x => decide (s.now < x +
      1000))).getD false = false ∧ s.adl.blockOpen = true ∧ s.nv.ring.length = 1 ∧ ((s.nv.ring.getLast?.map (fun b =>
      b.entries.length)).getD 0) < 60 ∧ (((s.nv.ring.getLast?.bind (fun b => b.entries.head?)).map (fun x => x.st)).getD e.st) + 2 ^ 46
      > e.st) ∧
    (∃ (s : State), s.adl.buf.isEmpty = false ∧ (s.adl.flushAt.map (fun x => decide (s.now < x + 1000))).getD false = false) ∧
    (∃ (s : State), s.adl.buf.isEmpty = false ∧ (s.adl.flushAt.map (fun x => decide (s.now < x + 1000))).getD false = false) ∧
    (∃ (s : State) (o : Origin) (start : Fin 65536) (seq : Fin 4294967296), s.Reaches o 0x23 ∧ s.adl.buf.length ≤ 60 ∧ o.cab = true ∧
      s.auditMark ≤ auditPos start seq) :=
  ⟨⟨{ up with adl := { up.adl with buf := [default], blockOpen := true }, nv := { up.nv with ring := [default] } }, default, [], by decide +kernel⟩,
   ⟨{ up with adl := { up.adl with buf := [default], blockOpen := true }, nv := { up.nv with ring := [default] } }, by decide +kernel⟩,
   ⟨{ up with adl := { up.adl with buf := [default], blockOpen := true }, nv := { up.nv with ring := [default] } }, by decide +kernel⟩,
   ⟨up, rtaO, 0, 5, by decide +kernel⟩⟩

/-- What Obligations.CrcUnitsAndCountersCount assumes can hold. -/
theorem witness_CrcUnitsAndCountersCount :
    (∃ (s : State) (o : Origin), s.Reaches o 0x24) ∧
    (∃ (s : State) (o : Origin) (u : Fin 4), s.Reaches o 0x24 ∧ s.get F.CRC_COUNT_LEN u = 0 ∧ s.get F.CRC_CTRL_POLY u < 4) ∧
    (∃ (s : State) (n : Fin 128) (inc : Nat), s.pmuLive n = true ∧ s.get F.PMU_CNT_COUNT n + inc < 2 ^ 48) ∧
    (∃ (s : State) (n : Fin 128) (inc : Nat), s.pmuLive n = true ∧ 2 ^ 48 ≤ s.get F.PMU_CNT_COUNT n + inc) ∧
    (∃ (s : State) (n : Fin 128), s.pmuLive n = false) ∧
    (∃ (s : State) (o : Origin) (t0 : Nat), s.Reaches o 0x25 ∧ t0 < 2 ^ 62) ∧
    (∃ (s : State), s.on F.PMU_TRIG_ARM = true ∧ s.get F.PMU_TRIG_ST ≤ s.st ∧ ((List.range 128).all (fun n => decide (s.get
      F.PMU_CNT_COUNT n < 2 ^ 48))) = true) ∧
    (∃ (s : State), s.on F.PMU_TRIG_ARM = true ∧ s.get F.PMU_TRIG_ST ≤ s.st) ∧
    (∃ (s : State) (m : Fin 24) (rd : Nat) (wr : Nat), s.on F.PMU_BW_CFG_EN m = true ∧ tget 0 s.pmu.bwAt m < s.bwWindowNo m ∧ rd < 2 ^
      48 ∧ wr < 2 ^ 48) ∧
    (∃ (s : State) (o : Origin) (m : Fin 24), s.blkOn 0x25 = true ∧ s.behindHeld (pmuAddr (0x4008 + 0x20 * m)) = false ∧ o.cab = true) :=
  ⟨⟨up, rtaO, by decide +kernel⟩,
   ⟨up, rtaO, 1, by decide +kernel⟩,
   ⟨puts up [(F.PMU_EVSEL_EN, 3, 1), (F.PMU_EVSEL_WORLD, 3, 1), (F.PMU_EVSEL_BLOCK, 3, 2), (F.PMU_EVSEL_EVENT, 3, 1), (F.PMU_EVFILT_DRW_FILT, 3, 0x40)], 3, 7, by decide +kernel⟩,
   ⟨puts up [(F.PMU_EVSEL_EN, 3, 1), (F.PMU_EVSEL_WORLD, 3, 1), (F.PMU_EVSEL_BLOCK, 3, 2), (F.PMU_EVSEL_EVENT, 3, 1), (F.PMU_EVFILT_DRW_FILT, 3, 0x40), (F.PMU_CNT_COUNT, 3, 2 ^ 48 - 1)], 3, 7, by decide +kernel⟩,
   ⟨up, 3, by decide +kernel⟩,
   ⟨up, rtaO, 1000, by decide +kernel⟩,
   ⟨up.put F.PMU_TRIG_ARM 0 1, by decide +kernel⟩,
   ⟨up.put F.PMU_TRIG_ARM 0 1, by decide +kernel⟩,
   ⟨puts up [(F.PMU_BW_CFG_EN, 3, 1), (F.PMU_BW_CFG_WINDOW, 3, 10), (F.TIM_ST_ST, 0, 20000)], 3, 100, 50, by decide +kernel⟩,
   ⟨up, rtaO, 3, by decide +kernel⟩⟩

/-- What Obligations.TestsRunAndReport assumes can hold. -/
theorem witness_TestsRunAndReport :
    (∃ (s : State) (o : Origin), s.Reaches o 0x26 ∧ o.cab = true ∧ fieldLE (s.bstDesc none) 0 1 = 1 ∧ s.testRefuse (s.bstDesc none)
      (testOf none (s.bstDesc none) s.now) = 0) ∧
    (∃ (s : State) (o : Origin), s.Reaches o 0x26 ∧ o.cab = true ∧ fieldLE (s.bstDesc none) 0 1 = 2 ∧ s.testRefuse (s.bstDesc none)
      (testOf none (s.bstDesc none) s.now) = 0) ∧
    (∃ (s : State) (o : Origin), s.Reaches o 0x26 ∧ o.cab = true ∧ fieldLE (s.bstDesc none) 0 1 = 3 ∧ s.testRefuse (s.bstDesc none)
      (testOf none (s.bstDesc none) s.now) = 0) ∧
    (∃ (s : State) (o : Origin), s.Reaches o 0x26 ∧ o.cab = true ∧ fieldLE (s.bstDesc none) 0 1 = 4 ∧ s.testRefuse (s.bstDesc none)
      (testOf none (s.bstDesc none) s.now) = 0) ∧
    (∃ (s : State) (o : Origin), s.Reaches o 0x26 ∧ o.cab = true ∧ fieldLE (s.bstDesc none) 0 1 = 1 ∧ s.testRefuse (s.bstDesc none)
      (testOf none (s.bstDesc none) s.now) = 6 ∧ fieldLE (s.bstDesc none) 8 8 = 0 ∧ fieldLE (s.bstDesc none) 16 8 = 0) ∧
    (∃ (s : State) (j : TestJob), s.tests = [j] ∧ j.op = 1 ∧ j.cls = 4 ∧ j.host = none ∧ j.statusAddr = 0 ∧ j.progAddr = 0 ∧ j.index < 8
      ∧ s.hapPhase j.index = 4 ∧ j.fails = 0) ∧
    (∃ (s : State) (j : TestJob), s.tests = [j] ∧ j.op = 2 ∧ j.cls = 4 ∧ j.host = none ∧ j.statusAddr = 0 ∧ j.progAddr = 0 ∧ j.index < 8
      ∧ s.hapPhase j.index = 4) ∧
    (∃ (s : State) (n : Fin 7) (j : TestJob), s.job n = some j ∧ s.unitOut j = true) ∧
    (∃ (s : State) (n : Fin 7) (j : TestJob), s.job n = some j ∧ s.unitOut j = false) ∧
    (∃ (s : State) (n : Fin 7), s.job n = none) :=
  ⟨⟨(up.put F.BST_DESC_WORD 0 1025), rtaO, by decide +kernel⟩,
   ⟨(up.put F.BST_DESC_WORD 0 1026), rtaO, by decide +kernel⟩,
   ⟨(up.put F.BST_DESC_WORD 0 259), rtaO, by decide +kernel⟩,
   ⟨(up.put F.BST_DESC_WORD 0 4), rtaO, by decide +kernel⟩,
   ⟨(up.put F.BST_DESC_WORD 0 2305), rtaO, by decide +kernel⟩,
   ⟨{ up.put F.HAP_CH_STATUS_PHASE 0 4 with tests := [{ cls := 4, total := 100 }] }, { cls := 4, total := 100 }, by decide +kernel⟩,
   ⟨{ up.put F.HAP_CH_STATUS_PHASE 0 4 with tests := [{ op := 2, cls := 4, total := 1 }] }, { op := 2, cls := 4, total := 1 }, by decide +kernel⟩,
   ⟨{ up.put F.HAP_CH_STATUS_PHASE 0 4 with tests := [{ cls := 4, total := 100 }] }, 4, { cls := 4, total := 100 }, by decide +kernel⟩,
   ⟨{ up with tests := [{ cls := 4, total := 100 }] }, 4, { cls := 4, total := 100 }, by decide +kernel⟩,
   ⟨up, 4, by decide +kernel⟩⟩

/-- What Obligations.RegisterCommandsTakeEffect assumes can hold. -/
theorem witness_RegisterCommandsTakeEffect :
    (∃ (s : State) (o : Origin) (h : HeadId) (l : Fin 9) (owner : Fin 128) (slot : Fin 64), s.Admits o
      { addr := blkAddr (0x10 + h) (0x800 + 4 * l), blk := 0x10 + h, old := s.get F.HDn_LOWN_OWNER ((h : Nat) * 9 + l) + 128 * s.get F.HDn_LOWN_SLOT ((h : Nat) * 9 + l), new := (owner : Nat) + 128 * slot }) ∧
    (∃ (s : State) (o : Origin) (h : HeadId) (w : Fin 65536), s.Admits o
      { addr := blkAddr (0x10 + h) 0x910, blk := 0x10 + h, old := s.get F.HDn_SFLIP_WINDOWS h, new := w } ∧ o.cab = true ∨ (w : Nat) =
      s.get F.HDn_SFLIP_WINDOWS h) ∧
    (∃ (s : State) (o : Origin) (h : HeadId), s.Admits o
      { addr := blkAddr (0x10 + h) 0x900, blk := 0x10 + h, old := s.get F.HDn_PIPE_MTX_EN h + 2 * s.get F.HDn_PIPE_LUT_EN h + 4 * s.get F.HDn_PIPE_DITHER_EN h + 8 * s.get F.HDn_PIPE_BANK h + 16 * s.get F.HDn_PIPE_SWAP h, new := s.get F.HDn_PIPE_MTX_EN h + 2 * s.get F.HDn_PIPE_LUT_EN h + 4 * s.get F.HDn_PIPE_DITHER_EN h + 8 * s.get F.HDn_PIPE_BANK h + 16 }) ∧
    (∃ (s : State) (o : Origin) (h : HeadId), s.Admits o
      { addr := blkAddr (0x10 + h) 0, blk := 0x10 + h, old := s.ctrlWord h 0, new := s.ctrlWord h 1, img := 1 } ∧ s.get F.HDn_CTRL_RUN h
      ≠ 1) ∧
    (∃ (s : State) (o : Origin) (h : HeadId), s.Admits o
      { addr := blkAddr (0x10 + h) 0, blk := 0x10 + h, old := s.ctrlWord h 1, new := s.ctrlWord h 0, img := 1 } ∧ s.get F.HDn_CTRL_RUN h
      ≠ 0) ∧
    (∃ (s : State) (o : Origin) (h : HeadId), s.Admits o
      { addr := blkAddr 0x18 (0x100 + 0x10 * h), blk := 0x18, old := s.get F.WIT_HCTRL_FORCE h + 4 * s.get F.WIT_HCTRL_RESTORE h, new := s.get F.WIT_HCTRL_FORCE h + 4 }
      ∧ o.cab = true ∨ s.on F.WIT_HCTRL_RESTORE h = true) ∧
    (∃ (s : State) (o : Origin), s.Admits o { addr := blkAddr 0x18 0x30, blk := 0x18, new := 1, audited := false }) ∧
    (∃ (s : State) (o : Origin) (h : HeadId) (w : Fin 4294967296), s.Admits o
      { addr := blkAddr (0x10 + h) 0x2020, blk := 0x10 + h, new := w }) ∧
    (∃ (s : State) (o : Origin) (p : PlkPort), s.Admits o
      { addr := plkAddr (0x100 + 0x40 * p), blk := 0x1C, old := s.get F.PLK_PORT_CTRL_EN p + 2 * s.get F.PLK_PORT_CTRL_NRZ_ONLY p, new := s.get F.PLK_PORT_CTRL_EN p + 2 * s.get F.PLK_PORT_CTRL_NRZ_ONLY p + 4 }) ∧
    (∃ (s : State) (o : Origin) (p : PlkPort), s.Admits o
      { addr := plkAddr (0x100 + 0x40 * p), blk := 0x1C, old := s.get F.PLK_PORT_CTRL_EN p + 2 * s.get F.PLK_PORT_CTRL_NRZ_ONLY p, new := 2 * s.get F.PLK_PORT_CTRL_NRZ_ONLY p, img := 1 }) ∧
    (∃ (s : State) (o : Origin) (k : Fin 64) (peer : Fin 16384) (win : Fin 32) (read : Bool) (write : Bool) (fw : Bool), s.Admits o
      { addr := plkAddr (0x2000 + 0x10 * k), blk := 0x1C, wide := true, old := s.regWord 92 k, new := ((peer : Nat) + win * 2 ^ 14 + b2n read * 2 ^ 19 + b2n write * 2 ^ 20 + 2 ^ 21 + b2n fw * 2 ^ 22 + (s.get F.PLK_AP_CTRL_STATE k * 2 ^ 23 + s.get F.PLK_AP_CTRL_SIZE_M1 k * 2 ^ 26)), img := s.regWord 92 k ^^^ ((peer : Nat) + win * 2 ^ 14 + b2n read * 2 ^ 19 + b2n write * 2 ^ 20 + 2 ^ 21 + b2n fw * 2 ^ 22 + (s.get F.PLK_AP_CTRL_STATE k * 2 ^ 23 + s.get F.PLK_AP_CTRL_SIZE_M1 k * 2 ^ 26)) }
      ∧ o.cab = true) ∧
    (∃ (s : State) (o : Origin) (w : Fin 32) (sizeM1 : Fin 1048576) (peer : Fin 16384) (any : Bool) (read : Bool) (write : Bool) (en :
      Bool), s.Admits o
      { addr := plkAddr (0x1008 + 0x10 * w), blk := 0x1C, wide := true, old := s.regWord 91 w, new := ((sizeM1 : Nat) + peer * 2 ^ 20 + b2n any * 2 ^ 34 + b2n read * 2 ^ 35 + b2n write * 2 ^ 36 + b2n en * 2 ^ 37 + s.get F.PLK_WIN_CTRL_SESSIONS w * 2 ^ 38), img := s.regWord 91 w ^^^ ((sizeM1 : Nat) + peer * 2 ^ 20 + b2n any * 2 ^ 34 + b2n read * 2 ^ 35 + b2n write * 2 ^ 36 + b2n en * 2 ^ 37 + s.get F.PLK_WIN_CTRL_SESSIONS w * 2 ^ 38) }
      ∧ o.cab = true ∧ s.regWord 91 w ≠ ((sizeM1 : Nat) + peer * 2 ^ 20 + b2n any * 2 ^ 34 + b2n read * 2 ^ 35 + b2n write * 2 ^ 36 +
      b2n en * 2 ^ 37 + s.get F.PLK_WIN_CTRL_SESSIONS w * 2 ^ 38)) ∧
    (∃ (s : State) (o : Origin), s.Admits o { addr := dmcAddr 0x300, blk := 0x19, new := 2 ^ 13 }) ∧
    (∃ (s : State) (o : Origin) (c : TrnCfg), s.Admits o { addr := dmcAddr 0x1000, blk := 0x19, audited := false } ∧ s.trnAllowed o =
      true ∧ c.pattern < 5 ∧ s.on F.DMC_TRN_CTRL_BUSY = false ∧ s.dramServes = true) ∧
    (∃ (s : State) (o : Origin) (c : TrnCfg), s.Admits o { addr := dmcAddr 0x1000, blk := 0x19, audited := false } ∧ s.trnAllowed o =
      true ∧ c.pattern < 5 ∧ s.on F.DMC_TRN_CTRL_BUSY = false ∧ s.dramServes = true) ∧
    (∃ (s : State) (o : Origin) (c : TrnCfg), s.Admits o { addr := dmcAddr 0x1000, blk := 0x19, audited := false } ∧ s.trnAllowed o =
      true ∧ c.pattern < 5 ∧ s.on F.DMC_TRN_CTRL_BUSY = false ∧ s.dramServes = true) ∧
    (∃ (s : State) (o : Origin) (c : TrnCfg), s.Admits o { addr := dmcAddr 0x1000, blk := 0x19, audited := false } ∧ s.trnAllowed o =
      true ∧ c.pattern < 5 ∧ s.on F.DMC_TRN_CTRL_BUSY = false ∧ s.dramServes = true) ∧
    (∃ (s : State) (o : Origin) (ch : ChanId), s.Admits o { addr := dmcAddr (0x2048 + 0x80 * ch), blk := 0x19, audited := false } ∧
      s.trnAllowed o = true) ∧
    (∃ (s : State) (o : Origin) (p : PanelId), s.Admits o
      { addr := tchAddr (0x128 + 0x40 * p), blk := 0x1D, old := 2 * s.get F.TCH_PNL_CMD_EVT_EN p, new := 2 * s.get F.TCH_PNL_CMD_EVT_EN p + 1 }) ∧
    (∃ (s : State) (o : Origin), s.Admits o { addr := tchAddr 0x820, blk := 0x1D, audited := false }) ∧
    (∃ (s : State) (o : Origin), s.Admits o { addr := hapAddr 0x10, blk := 0x1E, audited := false }) ∧
    (∃ (s : State) (o : Origin) (c : HapId), s.Admits o
      { addr := hapAddr (0x100 + 0x20 * c), blk := 0x1E, new := 2 ^ 47, wide := true }) ∧
    (∃ (s : State) (o : Origin) (mask : Fin 4294967296), s.Admits o
      { addr := audAddr 0xE00, blk := 0x1F, old := s.get F.AUD_BQ_SWAP_MASK, new := mask } ∧ o.cab = true) ∧
    (∃ (s : State) (o : Origin) (v : Fin 8), s.Admits o
      { addr := audAddr (0xC00 + 0x10 * v), blk := 0x1F, wide := true, old := s.regWord 145 v, new := s.regWord 145 v + 2 ^ 42 } ∧ o.cab
      = true) ∧
    (∃ (s : State) (o : Origin) (v : Fin 8), s.Admits o
      { addr := audAddr (0xC00 + 0x10 * v), blk := 0x1F, wide := true, old := s.regWord 145 v, new := s.regWord 145 v + 2 ^ 43 } ∧ o.cab
      = true) ∧
    (∃ (s : State) (o : Origin) (c : IcuCtx) (n : Nat), s.Admits o
      { addr := icuAddr (0x2008 + 0x100 * c), blk := 0x20, new := n, audited := false }) ∧
    (∃ (s : State) (o : Origin) (n : SrcId), s.Admits o { addr := icuAddr 0x180, blk := 0x20, new := n, audited := false }) ∧
    (∃ (s : State) (o : Origin) (v : Bool), s.Admits o { addr := icuAddr 0, blk := 0x20, old := s.get F.ICU_GDIS_GDIS, new := b2n v } ∧
      o.cab = true) ∧
    (∃ (s : State) (o : Origin) (n : Target), s.Admits o
      { addr := if (n : Nat) < 4 then 0x00F000200100 + 0x10 * n else 0x00F000300000 + 0x100000 * (n - 4), blk := blkOfTarget n, new := 2, audited := false }
      ∧ (n : Nat) < 4 ∨ o.cab = true) ∧
    (∃ (s : State) (o : Origin), s.Admits o { addr := 0x00F000100200, blk := 1, new := 1, audited := false }) ∧
    (∃ (s : State) (o : Origin) (n : Fin 8), s.Admits o
      { addr := cabAddr 0, blk := 0x21, old := s.get F.CAB_LC_STATE, new := (n : Nat) * 256, more := if (n : Nat) = 0 then 0 else 1 } ∧
      (n : Nat) ≠ 0) ∧
    (∃ (s : State) (o : Origin) (v : Fin 128), s.Admits o { addr := cabAddr 8, blk := 0x21, new := (v : Nat) * 2 ^ 16 } ∧ (v : Nat) ≠ 0) ∧
    (∃ (s : State) (o : Origin) (mask : Fin 16), s.Admits o { addr := cabAddr 8, blk := 0x21, new := (mask : Nat) * 2 ^ 23 } ∧ (mask :
      Nat) ≠ 0) ∧
    (∃ (s : State) (o : Origin) (n : Fin 8), s.Admits o { addr := 0x00F002200000, blk := 0x22, new := n } ∧ s.requestReason o n = 0) ∧
    (∃ (s : State) (o : Origin) (m : Fin 65536), s.Admits o
      { addr := 0x00F002200018, blk := 0x22, old := s.get F.PWR_PADREL_HELD, new := m }) ∧
    (∃ (s : State) (o : Origin) (v : Nat), s.Admits o { addr := 0x00F0005A0200, blk := 5, new := v, wide := true, free := true }) ∧
    (∃ (s : State) (o : Origin) (start : Fin 65536) (seq : Fin 4294967296), s.Admits o
      { addr := 0x00F002300018, blk := 0x23, old := s.auditMark, new := auditPos start seq, wide := true } ∧ o.cab = true) ∧
    (∃ (s : State) (o : Origin) (u : Fin 4), s.Admits o { addr := crcAddr u 0, blk := 0x24, audited := false }) ∧
    (∃ (s : State) (o : Origin) (u : Fin 4) (k : Fin 3), s.Admits o { addr := crcAddr u (8 + 4 * k), blk := 0x24, audited := false }) ∧
    (∃ (s : State) (o : Origin) (a : Nat), s.Admits o { addr := pmuAddr 8, blk := 0x25, audited := false, wide := true, new := a }) ∧
    (∃ (s : State) (o : Origin), s.Admits o { addr := bstAddr 0x20, blk := 0x26, new := 1 } ∧ o.cab = true ∧ fieldLE (s.bstDesc none) 0
      1 ≠ 2 ∧ fieldLE (s.bstDesc none) 0 1 ≠ 3 ∧ fieldLE (s.bstDesc none) 0 1 ≠ 4) ∧
    (∃ (s : State) (o : Origin) (p : PortId), s.Admits o { addr := 0x00F001A00420 + 0x100000 * p, blk := 0x1A + p, new := 1 } ∧ fieldLE
      (s.bstDesc (some p)) 0 1 ≠ 2 ∧ fieldLE (s.bstDesc (some p)) 0 1 ≠ 3 ∧ fieldLE (s.bstDesc (some p)) 0 1 ≠ 4) ∧
    (∃ (s : State) (o : Origin), s.Admits o { addr := bstAddr 0x20, blk := 0x26, new := 1 } ∧ o.cab = true ∧ fieldLE (s.bstDesc none) 0
      1 = 2) ∧
    (∃ (s : State) (o : Origin) (p : PortId), s.Admits o { addr := 0x00F001A00420 + 0x100000 * p, blk := 0x1A + p, new := 1 } ∧ fieldLE
      (s.bstDesc (some p)) 0 1 = 2) ∧
    (∃ (s : State) (o : Origin), s.Admits o { addr := bstAddr 0x20, blk := 0x26, new := 1 } ∧ o.cab = true ∧ fieldLE (s.bstDesc none) 0
      1 = 3) ∧
    (∃ (s : State) (o : Origin) (p : PortId), s.Admits o { addr := 0x00F001A00420 + 0x100000 * p, blk := 0x1A + p, new := 1 } ∧ fieldLE
      (s.bstDesc (some p)) 0 1 = 3) ∧
    (∃ (s : State) (o : Origin), s.Admits o { addr := bstAddr 0x20, blk := 0x26, new := 1 } ∧ o.cab = true ∧ fieldLE (s.bstDesc none) 0
      1 = 4) ∧
    (∃ (s : State) (o : Origin) (p : PortId), s.Admits o { addr := 0x00F001A00420 + 0x100000 * p, blk := 0x1A + p, new := 1 } ∧ fieldLE
      (s.bstDesc (some p)) 0 1 = 4) ∧
    (∃ (s : State) (o : Origin) (c : IcuCtx), s.blkOn 0x20 = true ∧ s.behindHeld (icuAddr (0x2004 + 0x100 * c)) = false ∧ s.cabOwned
      0x20 = false ∨ o.cab = true) ∧
    (∃ (s : State) (o : Origin), s.blkOn 1 = true ∧ s.behindHeld 0x00F000100110 = false ∧ s.cabOwned 1 = false ∨ o.cab = true) ∧
    (∃ (s : State) (o : Origin) (m : Fin 24), s.blkOn 0x25 = true ∧ s.behindHeld (pmuAddr (0x4008 + 0x20 * m)) = false ∧ s.cabOwned 0x25
      = false ∨ o.cab = true) :=
  ⟨⟨headReady, rtaO, 0, 1, 3, 2, by decide +kernel⟩,
   ⟨headReady, rtaO, 0, 5, by decide +kernel⟩,
   ⟨headReady, rtaO, 0, by decide +kernel⟩,
   ⟨headReady, hutchO, 0, by decide +kernel⟩,
   ⟨headReady.put F.HDn_CTRL_RUN 0 1, hutchO, 0, by decide +kernel⟩,
   ⟨headReady, rtaO, 0, by decide +kernel⟩,
   ⟨headReady, rtaO, by decide +kernel⟩,
   ⟨headReady, rtaO, 0, 0x5010, by decide +kernel⟩,
   ⟨linked, rtaO, 0, by decide +kernel⟩,
   ⟨linked, hutchO, 0, by decide +kernel⟩,
   ⟨linked, hutchO, 2, 9, 3, true, false, false, by decide +kernel⟩,
   ⟨linked, hutchO, 2, 5, 9, false, true, false, false, by decide +kernel⟩,
   ⟨dramUp, hutchO, by decide +kernel⟩,
   ⟨dramUp, hutchO, {}, by decide +kernel⟩,
   ⟨dramUp, hutchO, {}, by decide +kernel⟩,
   ⟨dramUp, hutchO, {}, by decide +kernel⟩,
   ⟨dramUp, hutchO, {}, by decide +kernel⟩,
   ⟨dramUp, hutchO, 3, by decide +kernel⟩,
   ⟨touching, rtaO, 0, by decide +kernel⟩,
   ⟨touching, rtaO, by decide +kernel⟩,
   ⟨buzzing, openO, by decide +kernel⟩,
   ⟨buzzing, rtaO, 0, by decide +kernel⟩,
   ⟨sounding [], rtaO, 5, by decide +kernel⟩,
   ⟨sounding [], rtaO, 2, by decide +kernel⟩,
   ⟨sounding [], rtaO, 2, by decide +kernel⟩,
   ⟨up, rtaO, 1, 45, by decide +kernel⟩,
   ⟨up, rtaO, 3, by decide +kernel⟩,
   ⟨up, rtaO, true, by decide +kernel⟩,
   ⟨up, rtaO, 4, by decide +kernel⟩,
   ⟨up, rtaO, by decide +kernel⟩,
   ⟨up, rtaO, 2, by decide +kernel⟩,
   ⟨up, rtaO, 5, by decide +kernel⟩,
   ⟨up, rtaO, 2, by decide +kernel⟩,
   ⟨up, rtaO, 0, by decide +kernel⟩,
   ⟨up, rtaO, 5, by decide +kernel⟩,
   ⟨up, rtaO, 0, by decide +kernel⟩,
   ⟨up, rtaO, 0, 5, by decide +kernel⟩,
   ⟨up, rtaO, 1, by decide +kernel⟩,
   ⟨up, rtaO, 1, 0, by decide +kernel⟩,
   ⟨up, rtaO, 1000, by decide +kernel⟩,
   ⟨(up.put F.BST_DESC_WORD 0 1), rtaO, by decide +kernel⟩,
   ⟨(up.put F.HPx_BIST_DESC_WORD 0 1), rtaO, 0, by decide +kernel⟩,
   ⟨(up.put F.BST_DESC_WORD 0 2), rtaO, by decide +kernel⟩,
   ⟨(up.put F.HPx_BIST_DESC_WORD 0 2), rtaO, 0, by decide +kernel⟩,
   ⟨(up.put F.BST_DESC_WORD 0 3), rtaO, by decide +kernel⟩,
   ⟨(up.put F.HPx_BIST_DESC_WORD 0 3), rtaO, 0, by decide +kernel⟩,
   ⟨(up.put F.BST_DESC_WORD 0 4), rtaO, by decide +kernel⟩,
   ⟨(up.put F.HPx_BIST_DESC_WORD 0 4), rtaO, 0, by decide +kernel⟩,
   ⟨claimable, rtaO, 1, by decide +kernel⟩,
   ⟨up, hutchO, by decide +kernel⟩,
   ⟨up, rtaO, 3, by decide +kernel⟩⟩

/-! ### Witnesses of the statements over the whole device -/

/-- An origin of the Open world at a Cabinet-owned interrupt controller, Hutch and CRC block. -/
def owned : State :=
  puts up [(F.CAB_OWN_OWN, 0, 0x1A), (F.CAB_OWN_OWN, 1, 0x293)]

/-- What Obligations.NarrowAndMisalignedAccesses assumes can hold. -/
theorem witness_NarrowAndMisalignedAccesses :
    (∃ a n : Nat, (n ≠ 4 ∧ n ≠ 8) ∨ a % n ≠ 0) ∧ (∃ (s : State) (a n : Nat), (n = 4 ∨ n = 8) ∧ a % n ≠ 0 ∧ s.behindHeld a = false) ∧
    (∃ n : Nat, n = 1 ∨ n = 2) ∧
    (∃ (s : State) (a : Nat) (r : Reg) (i off : Nat), a % 8 = 0 ∧ regAt a = some (r, i, off) ∧ r.wide = false ∧ s.behindHeld a = false) :=
  ⟨⟨6, 2, by decide⟩, ⟨up, 6, 4, by decide⟩, ⟨2, by decide⟩, ⟨up, 0x00F001010000, lutReg, 0, 0, by decide⟩⟩

/-- What Obligations.EmptyQueueIsOneClock assumes can hold. -/
theorem witness_EmptyQueueIsOneClock :
    (∃ s : State, s.pending = []) ∧ (∃ s : State, ∀ p, p < 4 → (s.pport p).leaving = none) ∧ (∃ s : State, s.pdOnB 1 = true ∧ s.pm.slew = 0) ∧
    (∃ s : State, s.pdOnB 1 = true ∧ s.pm.slewPhase = 1999 ∧ 0 < s.pm.slew) ∧
    (∃ s : State, s.pdOnB 1 = true ∧ s.pm.slewPhase = 1999 ∧ s.pm.slew < 0) ∧ (∃ s : State, s.pdOnB 1 = false) :=
  ⟨⟨.reset, by decide⟩, ⟨.reset, by decide⟩, ⟨up, by decide⟩, ⟨{ up with pm := { slewPhase := 1999, slew := 1 } }, by decide⟩,
   ⟨{ up with pm := { slewPhase := 1999, slew := -1 } }, by decide⟩, ⟨.reset, by decide⟩⟩

/-- What Obligations.EveryStepKeepsTheCanonicalForm assumes can hold. -/
theorem witness_EveryStepKeepsTheCanonicalForm : ∃ s t : State, s.Canonical ∧ step s = .next t :=
  ⟨.reset, State.reset.idle, ⟨rfl, rfl⟩, rfl⟩

/-- What Obligations.MemoryReadsWhatWasWritten assumes can hold. -/
theorem witness_MemoryReadsWhatWasWritten :
    (∃ (s : State) (o : Origin) (a : Nat) (bs : List Byte), memArea a ∈ [.shelf, .hutchSram, .mram, .tcm 0, .tcm 1] ∧
      s.spanCheck o true a bs.length = 0 ∧ s.spanCheck o false a bs.length = 0) ∧
    (∃ (s : State) (o : Origin) (a : Nat) (bs : List Byte), memArea a = .dram ∧ s.dmc.bad = [] ∧ s.dmc.retrain = none ∧ o.kind = .hutch ∧
      s.spanCheck o true a bs.length = 0 ∧ s.spanCheck o false a bs.length = 0) :=
  ⟨⟨up, hutchO, 0x00E002000100, [1, 2], by decide⟩, ⟨dramUp, hutchO, 0x1000, [1, 2], by decide⟩⟩

/-- What Obligations.ClaimsTakeTheHighestPriority assumes can hold: source 45 is the only one on offer, at context 1. -/
theorem witness_ClaimsTakeTheHighestPriority :
    (∃ (s : State) (o : Origin) (c : IcuCtx) (n : Nat), s.blkOn 0x20 = true ∧ s.behindHeld (icuAddr (0x2004 + 0x100 * c)) = false ∧ (s.cabOwned 0x20 = false ∨ o.cab = true) ∧
      ((c : Nat) < 4 ∨ o.cab = true) ∧ s.on F.ICU_GDIS_GDIS = false ∧ n < 512 ∧ s.on F.ICU_SRC_OFFERED n = true ∧
      s.get F.ICU_SRC_CTX n = c ∧ s.get F.ICU_THRESH_THRESH c < s.get F.ICU_SRC_PRIO n ∧
      (∀ m, m < 512 → s.on F.ICU_SRC_OFFERED m = true → s.get F.ICU_SRC_CTX m = c →
        s.get F.ICU_SRC_PRIO m < s.get F.ICU_SRC_PRIO n ∨ (s.get F.ICU_SRC_PRIO m = s.get F.ICU_SRC_PRIO n ∧ n ≤ m))) ∧
    (∃ (s : State) (o : Origin) (c : IcuCtx), s.blkOn 0x20 = true ∧ s.behindHeld (icuAddr (0x2004 + 0x100 * c)) = false ∧ (s.cabOwned 0x20 = false ∨ o.cab = true) ∧
      ((c : Nat) < 4 ∨ o.cab = true) ∧ (s.on F.ICU_GDIS_GDIS = true ∨ (∀ m, m < 512 → s.on F.ICU_SRC_OFFERED m = true →
        s.get F.ICU_SRC_CTX m = c → s.get F.ICU_SRC_PRIO m ≤ s.get F.ICU_THRESH_THRESH c))) ∧
    (∃ n : Nat, n < 512 ∧ icuIsLevel n = false) ∧ (∃ n : Nat, n < 512 ∧ icuIsLevel n = true) :=
  ⟨⟨claimable, openO, 1, 45, by decide +kernel⟩, ⟨claimable, openO, 2, by decide +kernel⟩, ⟨300, by decide⟩, ⟨45, by decide⟩⟩

/-- What Obligations.CompletionsEndTheService assumes can hold. -/
theorem witness_CompletionsEndTheService :
    (∃ (s : State) (o : Origin) (c : IcuCtx) (n : Nat), s.Reaches o 0x20 ∧ ((c : Nat) < 4 ∨ o.cab = true) ∧ n < 512 ∧
      s.on F.ICU_SRC_INSERVICE n = true ∧ s.get F.ICU_SRC_CTX n = c) ∧
    (∃ (s : State) (n : Nat), n < 512 ∧ s.on F.ICU_SRC_PENDING n = false) ∧
    (∃ (s : State) (n t : Nat), n < 512 ∧ s.on F.ICU_SRC_PENDING n = true ∧ s.on F.ICU_GDIS_GDIS = false ∧ s.get F.ICU_SRC_PRIO n ≠ 0 ∧
      s.pdOnB 1 = true ∧ t < 6 ∧ s.icuElig n t = true) ∧
    (∃ (s : State) (o : Origin) (c : IcuCtx) (n : Nat), s.Reaches o 0x20 ∧ ((c : Nat) < 4 ∨ o.cab = true) ∧ n = 1023 ∧
      (512 ≤ n ∨ s.on F.ICU_SRC_INSERVICE n = false ∨ s.get F.ICU_SRC_CTX n ≠ c)) :=
  ⟨⟨puts up [(F.ICU_SRC_INSERVICE, 45, 1), (F.ICU_SRC_CTX, 45, 1)], openO, 1, 45, by decide⟩, ⟨up, 45, by decide⟩,
   ⟨puts up [(F.ICU_SRC_PENDING, 45, 1), (F.ICU_SRC_PRIO, 45, 3), (F.ICU_SRC_TGT_CC, 45, 2), (F.ICU_STATUS_AWAKE, 0, 2)], 45, 1, by decide⟩,
   ⟨up, openO, 1, 1023, by decide⟩⟩

/-- What Obligations.SignalsOnlyRaiseTimelines assumes can hold. -/
theorem witness_SignalsOnlyRaiseTimelines :
    (∃ (s : State) (id v : Nat), (s.tl id).abandoned = false ∧ (s.tl id).value < v) ∧ (∃ (s : State) (id v : Nat), v ≤ (s.tl id).value) ∧
    (∃ (s : State) (id : Nat), (s.tl id).abandoned = true) ∧ (∃ id k : Nat, k ≠ id) :=
  ⟨⟨up, 3, 7, by decide⟩, ⟨up, 3, 0, by decide⟩, ⟨{ up with tls := [(3, { abandoned := true })] }, 3, by decide⟩, ⟨3, 4, by decide⟩⟩

/-- What Obligations.CrcControlInitialises assumes can hold. -/
theorem witness_CrcControlInitialises :
    (∃ (s : State) (o : Origin), s.Reaches o 0x24) ∧ (∃ s : State, s.blkOn 0x24 = true ∧ s.held = [] ∧ s.cabOwned 0x24 = false) :=
  ⟨⟨up, openO, by decide⟩, ⟨up, by decide⟩⟩

/-- What Obligations.CabinetBlocksRefuseTheOpenWorld assumes can hold. -/
theorem witness_CabinetBlocksRefuseTheOpenWorld :
    (∃ (s : State) (o : Origin), o.cab = false ∧ s.blkOn 0x20 = true ∧ s.held = [] ∧ s.cabOwned 0x20 = true) ∧
    (∃ (s : State) (o : Origin), o.cab = false ∧ s.blkOn 0x20 = true ∧ s.held = [] ∧ s.cabOwned 0x20 = true ∧
      s.adl.buf.length ≤ 63 ∧ s.committed = true) ∧
    (∃ (s : State) (o : Origin), o.cab = false ∧ s.blkOn 1 = true ∧ s.held = [] ∧ s.cabOwned 1 = true) ∧
    (∃ (s : State) (o : Origin), o.cab = false ∧ s.blkOn 0x24 = true ∧ s.held = [] ∧ s.cabOwned 0x24 = true) :=
  ⟨⟨owned, openO, by decide⟩, ⟨puts owned [(F.CFG_STATUS_COMMITTED, 0, 1)], openO, by decide⟩, ⟨owned, openO, by decide⟩, ⟨owned, openO, by decide⟩⟩

/-! ### What WellFormed refuses: a command for each check -/

theorem test_wf_seq : Instr.wf (.nop 0 0 (2 ^ 32)) = false := by decide
theorem test_wf_addr : Instr.wf (.registerRead hutchO (2 ^ 48) 4) = false := by decide
theorem test_wf_blk : Instr.wf (.commandFault 0 0 0 64 none) = false := by decide
theorem test_wf_size : Instr.wf (.registerRead hutchO 0 3) = false := by decide
theorem test_wf_value : Instr.wf (.registerWrite hutchO 0 1 256) = false := by decide
theorem test_wf_origin_world : Instr.wf (.registerRead { kind := .hutch } 0 4) = false := by decide
theorem test_wf_origin_drawer : Instr.wf (.registerRead { kind := .drawer, fn := 33 } 0 4) = false := by decide
theorem test_wf_memory_length : Instr.wf (.memoryAccess hutchO 0 0 2 (some [1])) = false := by decide
theorem test_wf_message : Instr.wf (.wr 0 { dlen := 1, data := [] }) = false := by decide
theorem test_wf_error : Instr.wf (.hardwareError { domain := 64, code := 0 }) = false := by decide
theorem test_wf_error_class : Instr.wf (.hardwareError { domain := 5, code := 0, cls := some 4 }) = false := by decide
theorem test_wf_unit : Instr.wf (.islandReset (.bg 4)) = false := by decide
theorem test_wf_bar : Instr.wf (.hostBarAccess { port := 0, fn := 0, bar2 := false, off := 0, n := 0, data := none }) = false := by decide
theorem test_wf_entry : Instr.wf (.commandFetch 0 0 []) = false := by decide
theorem test_wf_flit : Instr.wf (.flitReceive 0 false false []) = false := by decide
theorem test_wf_can : Instr.wf (.canFrameRx 0 false 0 (List.replicate 9 0)) = false := by decide
theorem test_wf_error_domain : Instr.wf (.hardwareError { domain := 5, code := 0x21 }) = false := by decide
theorem test_wf_error_channel : Instr.wf (.hardwareError { domain := 0x19, code := 0x21, source := 16 }) = false := by decide
theorem test_wf_error_pair : Instr.wf (.hardwareError { domain := 8, code := 0x41, source := 2 }) = false := by decide
theorem test_wf_pair : Instr.wf (.islandReset (.rtPair 2)) = false := by decide
theorem test_wf_head : Instr.wf (.islandReset (.head 8)) = false := by decide
theorem test_wf_duration : Instr.wf (.openingTest [] 0 (2 ^ 32)) = false := by decide
theorem test_wf_complete : Instr.wf (.complete hutchO 0 1024) = false := by decide
theorem test_wf_hang : Instr.wf (.hang 0 256) = false := by decide
theorem test_wf_good : Instr.wf (.complete hutchO 0 1023) = true ∧ Instr.wf (.registerWrite hutchO 0 4 7) = true := by decide

/-! ### Single steps and values that the spec states -/

/-- RESULT over "123456789" of each POLY (Table 23.1). -/
theorem test_crc_results :
    (List.range 9).foldl (fun v i => crcByte 0 v (0x31 + i)) 0xFFFFFFFF ^^^ 0xFFFFFFFF = 0xCBF43926 ∧
    (List.range 9).foldl (fun v i => crcByte 1 v (0x31 + i)) 0xFFFFFFFF ^^^ 0xFFFFFFFF = 0xE3069283 ∧
    (List.range 9).foldl (fun v i => crcByte 2 v (0x31 + i)) 0xFFFF = 0x29B1 ∧
    (List.range 9).foldl (fun v i => crcByte 3 v (0x31 + i)) 0 = 0x6C40DF5F0B497347 := by decide +kernel

/-- The 8-bit value 200 widens to 3,212 (R334). -/
theorem test_widen : widen 200 8 12 = 3212 := by decide

/-- PWR_SUPPLY sits at 0x00F0_0220_0400 (chapter 4). -/
theorem test_pwr_supply_address : (regAt 0x00F002200400).map (fun x => (x.1.name, x.2)) = some ("PWR_SUPPLY", 0, 0) := by decide +kernel

/-- Source 16 of Table 18.19: PRIO 6, offered to CC1 of CC1 and CC2. -/
def source16 : State := puts up [(F.ICU_SRC_PRIO, 16, 6), (F.ICU_SRC_TGT_CC, 16, 6), (F.ICU_STATUS_AWAKE, 0, 0x3F), (F.CCL_CORE_SLEEP, 1, 1)]

/-- It is offered to context 1, the lowest eligible target (Table 18.19). -/
theorem test_frame_end_offered :
    (source16.icuRaise 16).get F.ICU_SRC_OFFERED 16 = 1 ∧ (source16.icuRaise 16).get F.ICU_SRC_CTX 16 = 1 := by decide +kernel

/-- CC1 sleeps before it claims: the offer is withdrawn and goes to CC2 (Table 18.19). -/
theorem test_frame_end_withdrawn : ∃ t, exec (.coreSleep 1) (source16.icuRaise 16) = .next t ∧
    t.get F.CCL_CORE_STATE 1 = 1 ∧ t.get F.ICU_SRC_CTX 16 = 2 ∧ t.get F.ICU_STATUS_WITHDRAWN = 1 := ⟨_, rfl, by decide +kernel⟩

/-- With TGT_CC naming the sleeping CC3 alone, CC3 is woken (R596, Table 18.19). -/
theorem test_frame_end_wakes :
    ∃ t, exec (.icuSourceEvent 16 true) (puts source16 [(F.ICU_SRC_TGT_CC, 16, 8), (F.ICU_STATUS_AWAKE, 0, 0x35), (F.CCL_CORE_STATE, 3, 1)]) = .next t ∧
    t.get F.ICU_STATUS_WAKES = 1 ∧ t.get F.CCL_CORE_STATE 3 = 2 ∧ t.get F.ICU_SRC_OFFERED 16 = 0 := ⟨_, rfl, by decide +kernel⟩

/-- A step on an empty queue is a clock. -/
theorem test_step_clock : step State.reset = .next { State.reset with now := 1 } := rfl

/-- The front command of a queue is run with its rest. -/
theorem test_step_front :
    step { up with pending := [.complete openO 1 7, .nop 0 0 0] } =
      .next ({ up with pending := [.nop 0 0 0] }.put F.ICU_STATUS_BAD_COMPLETE 0 1) := rfl

/-- A read of a reserved address returns 0 and records UNMAPPED, code 0x28 (R125). -/
theorem test_unmapped : ∃ t, exec (.registerRead rtaO 0x00F00F000000 4) up = .next t ∧ t.reads.map (fun r => r.value) = [0] ∧
    t.err.queues.map (fun q => q.2.recs.map (fun r => r.code)) = [[0x28]] := ⟨_, rfl, by decide +kernel⟩

/-- Entry 1,023 of a LUT resets to 4 times its index (HDn_LUT). -/
theorem test_lut_reset : State.reset.get F.HDn_LUT_VALUE 1023 = 4092 := by decide

end Sys2Proof.Tests
end

section
/-! SUPPORT. Reads of an offset that no chapter lists, narrow and 32 bits wide: the DECODE record of each names the address of its own
access (Table 21.3, DETAIL), so the two leave different states. -/

namespace Sys2Proof.Machine

/-! ### Reads of an unlisted offset (R125, R130) -/

theorem regRead_word_of_unlisted (s : State) (o : Origin) {a : Nat} (ha : a % 4 = 0) (hr : regAt a = none) :
    s.regRead o a 4 = (s.accessError o 0 0x28 a, 0) := by
  simp [State.regRead, ha, hr]

/-- Where no register contains the bytes addressed, DECODE is recorded at the byte that the access names, not at its word. -/
theorem regRead_narrow_of_unlisted (s : State) (o : Origin) {a n : Nat} (hn : n = 1 ∨ n = 2) (hr : regAt (a / 4 * 4) = none) :
    s.regRead o a n = (s.accessError o 0 0x28 a, 0) := by
  rcases hn with rfl | rfl <;> simp [State.regRead, hr]

/-! ### The record of a failing access of the Hutch -/

/-- The Hutch core, which runs in the Cabinet world. -/
def hutchOrigin : Origin := { kind := .hutch, cab := true }

/-- The details of the records that domain `d` has queued, oldest first. -/
def State.errDetails (s : State) (d : Nat) : List Nat := (s.errq d).recs.map (fun r => r.detail)

/-- R735: an access of the Hutch to an unlisted address is the first record of domain HUT, with the address as its detail. -/
theorem errDetails_accessError_reset (a : Nat) : (State.reset.accessError hutchOrigin 0 0x28 a).errDetails 1 = [a] := by
  with_unfolding_all rfl

theorem accessError_reset_injective : Function.Injective (State.reset.accessError hutchOrigin 0 0x28) := by
  intro a b h
  have hd := congrArg (fun t => t.errDetails 1) h
  simpa only [errDetails_accessError_reset, List.cons.injEq, and_true] using hd

/-! ### The counterexample -/

/-- Second byte of a word that no chapter lists. -/
def unlistedByte : Nat := 0x00F00F000001

theorem regAt_word_of_unlistedByte : regAt (unlistedByte / 4 * 4) = none := by decide +kernel

/-- Refutes O7: the clause on reads of 1 and 2 bytes has no condition that a register contains the bytes. Right after reset, the Hutch's
read of byte 0x00F0_0F00_0001, which lies in no register, leaves a DECODE record of that address; its 32-bit read of the word, which the
clause says leaves the same state, leaves one of 0x00F0_0F00_0000. -/
theorem not_narrowAndMisalignedAccesses : ¬ Obligations.NarrowAndMisalignedAccesses := by
  unfold Obligations.NarrowAndMisalignedAccesses
  rintro ⟨-, -, hnarrow, -, -⟩
  have hstate := congrArg Prod.fst (hnarrow .reset hutchOrigin unlistedByte 1 (.inl rfl))
  rw [regRead_narrow_of_unlisted _ _ (.inl rfl) regAt_word_of_unlistedByte,
    regRead_word_of_unlisted _ _ (Nat.mul_mod_left _ 4) regAt_word_of_unlistedByte] at hstate
  have haddr : unlistedByte = unlistedByte / 4 * 4 := accessError_reset_injective hstate
  exact absurd haddr (by decide)

end Sys2Proof.Machine
end

section
/-! SUPPORT. Timelines under a signal (R213), and how the frame `State.Kept` composes. -/

namespace Sys2Proof.Machine

/-! ### The frame of a change -/

theorem State.Kept.refl (s : State) (ps : List Part) (fs : List Fld) : s.Kept s ps fs :=
  ⟨⟨fun p _ => by cases p <;> rfl, rfl⟩, fun _ _ _ => rfl⟩

theorem State.same.trans {s t u : State} {p : Part} (h : s.same t p) (h' : t.same u p) : s.same u p := by
  cases p <;> exact Eq.trans h' h

theorem State.Kept.trans {s t u : State} {ps : List Part} {fs : List Fld} (h : s.Kept t ps fs) (h' : t.Kept u ps fs) :
    s.Kept u ps fs := by
  obtain ⟨⟨hparts, hpend⟩, hflds⟩ := h
  obtain ⟨⟨hparts', hpend'⟩, hflds'⟩ := h'
  exact ⟨⟨fun p hp => (hparts p hp).trans (hparts' p hp), hpend'.trans hpend⟩,
    fun f i hf => (hflds' f i hf).trans (hflds f i hf)⟩

/-- More parts may change. -/
theorem State.Kept.mono {s t : State} {ps qs : List Part} {fs : List Fld} (h : s.Kept t ps fs) (hsub : ps ⊆ qs) :
    s.Kept t qs fs := by
  obtain ⟨⟨hparts, hpend⟩, hflds⟩ := h
  exact ⟨⟨fun p hp => hparts p (fun hmem => hp (hsub hmem)), hpend⟩, hflds⟩

/-- A fold of steps changes what one of its steps may change. -/
theorem kept_foldl {α : Type} {g : State → α → State} {ps : List Part} {fs : List Fld} (h : ∀ (s : State) x, s.Kept (g s x) ps fs)
    (xs : List α) (s : State) : s.Kept (xs.foldl g s) ps fs := by
  induction xs generalizing s with
  | nil => exact .refl s ps fs
  | cons x xs ih => exact (h s x).trans (ih (g s x))

theorem kept_put (s : State) {f : Fld} {fs : List Fld} (hf : f ∈ fs) (i v : Nat) (ps : List Part) : s.Kept (s.put f i v) ps fs :=
  ⟨⟨fun p _ => by cases p <;> rfl, rfl⟩, fun _ j hne => get_put_of_num (hne f hf) s i j v⟩

/-! ### Timelines -/

theorem kept_modTl (s : State) (id : Nat) (g : Timeline → Timeline) (fs : List Fld) : s.Kept (s.modTl id g) [.tls] fs := by
  refine ⟨⟨fun p hp => ?_, rfl⟩, fun _ _ _ => rfl⟩
  cases p with
  | tls => exact absurd (List.mem_singleton_self _) hp
  | _ => rfl

@[simp] theorem tl_modTl_same (s : State) (id : Nat) (g : Timeline → Timeline) : (s.modTl id g).tl id = g (s.tl id) :=
  tget_tset_same _ _ _ _

theorem tl_modTl_ne (s : State) {id k : Nat} (h : k ≠ id) (g : Timeline → Timeline) : (s.modTl id g).tl k = s.tl k :=
  tget_tset_ne _ _ _ h _

/-- A rise of a timeline counts merges of its exports and does no more (R476). -/
theorem kept_expCoalesce (s : State) (id v : Nat) : s.Kept (s.expCoalesce id v) [] [F.PLK_EXP_STATUS_COALESCED] := by
  refine kept_foldl (fun t e => ?_) _ s
  dsimp only
  split
  · exact kept_put t (List.mem_singleton_self _) e _ []
  · exact .refl t _ _

@[simp] theorem tl_expCoalesce (s : State) (id v k : Nat) : (s.expCoalesce id v).tl k = s.tl k := by
  have htls : (s.expCoalesce id v).tls = s.tls := (kept_expCoalesce s id v).1.1 .tls List.not_mem_nil
  simp only [State.tl, htls]

/-! ### A signal -/

theorem tlRaise_of_abandoned {s : State} {id : Nat} (h : (s.tl id).abandoned = true) (v : Nat) : s.tlRaise id v = s := if_pos h

theorem tlRaise_of_not_abandoned {s : State} {id : Nat} (h : (s.tl id).abandoned = false) (v : Nat) :
    s.tlRaise id v = (s.expCoalesce id v).modTl id (fun t => { t with value := max t.value v }) := if_neg (by simp [h])

theorem tl_tlRaise_same {s : State} {id : Nat} (h : (s.tl id).abandoned = false) (v : Nat) :
    (s.tlRaise id v).tl id = { s.tl id with value := max (s.tl id).value v } := by
  rw [tlRaise_of_not_abandoned h, tl_modTl_same, tl_expCoalesce]

/-- A signal whose value the timeline has reached leaves it as it was. -/
theorem tl_tlRaise_of_le {s : State} {id v : Nat} (h : v ≤ (s.tl id).value) : (s.tlRaise id v).tl id = s.tl id := by
  cases hab : (s.tl id).abandoned with
  | true => rw [tlRaise_of_abandoned hab]
  | false => rw [tl_tlRaise_same hab, max_eq_left h]

theorem tl_tlRaise_ne (s : State) {id k : Nat} (h : k ≠ id) (v : Nat) : (s.tlRaise id v).tl k = s.tl k := by
  cases hab : (s.tl id).abandoned with
  | true => rw [tlRaise_of_abandoned hab]
  | false => rw [tlRaise_of_not_abandoned hab, tl_modTl_ne _ h, tl_expCoalesce]

theorem kept_tlRaise (s : State) (id v : Nat) : s.Kept (s.tlRaise id v) [.tls] [F.PLK_EXP_STATUS_COALESCED] := by
  cases hab : (s.tl id).abandoned with
  | true => rw [tlRaise_of_abandoned hab]; exact .refl s _ _
  | false =>
    rw [tlRaise_of_not_abandoned hab]
    exact ((kept_expCoalesce s id v).mono (List.nil_subset _)).trans (kept_modTl _ id _ _)

/-- Settles O56, from the two cases of a signal: an abandoned timeline leaves the state alone, any other one counts the merges of its
exports and then takes the larger value. -/
theorem signalsOnlyRaiseTimelines : Obligations.SignalsOnlyRaiseTimelines := by
  unfold Obligations.SignalsOnlyRaiseTimelines
  exact ⟨fun _ _ v hab => tl_tlRaise_same hab v, fun _ _ _ hle => tl_tlRaise_of_le hle,
    fun _ _ v hab => by rw [tlRaise_of_abandoned hab v], fun s _ v _ hne => tl_tlRaise_ne s hne v, kept_tlRaise⟩

end Sys2Proof.Machine
end

section
/-! SUPPORT. The main interrupt controller: the source that a claim takes, what taking it into service changes (R591), and what ending
a service does (R592). -/

namespace Sys2Proof.Machine

/-! ### Register accesses to an open block -/

theorem exec_claim (o : Origin) (c : IcuCtx) (s : State) : exec (.claim o c) s = execClaim o c s := rfl

theorem exec_complete (o : Origin) (c : IcuCtx) (n : Nat) (s : State) : exec (.complete o c n) s = execComplete o c n s := rfl

/-- A read of a register of a block that is on and open to the origin, with no write waiting before it, is answered at once
(R141, R145, R610). -/
theorem guardedRead_open {s : State} {o : Origin} {a blk : Nat} (hon : s.blkOn blk = true) (hwait : s.behindHeld a = false)
    (hopen : s.cabOwned blk = false ∨ o.cab = true) (k : State → State × Nat) :
    s.guardedRead o a blk k = (k s).1.ret o a (k s).2 := by
  have hworld : (s.cabOwned blk && !o.cab) = false := by rcases hopen with h | h <;> simp [h]
  unfold State.guardedRead
  rw [if_neg (by simp [hon]), if_neg (by simp [hwait]), if_neg (by simp [hworld])]

/-- An unaudited write of no image field, to a block that the origin reaches, has its effect at once. -/
theorem guarded_reaches {s : State} {o : Origin} {b : Nat} {w : RegWrite} (h : s.Reaches o b) (hblk : w.blk = b)
    (haud : w.audited = false) (himg : w.img = 0) (k : State → State) : s.guarded o w 0 k = k s := by
  subst hblk
  obtain ⟨hon, hheld, -, hopen⟩ := h
  have hadm : s.Admits o w :=
    ⟨.inr hon, by simp [State.mustWait, State.behindHeld, haud, hheld], .inr hopen, by simp [State.imgDenied, himg]⟩
  rw [guarded_admitted hadm, State.entered, if_neg (by simp [haud])]

/-- Elements of two fields, the same one or not, are apart where their indices are. -/
theorem get_put_of_ne (s : State) (f g : Fld) {i j : Nat} (hi : i < 2 ^ 20) (hj : j < 2 ^ 20) (h : j ≠ i) (v : Nat) :
    (s.put f i v).get g j = s.get g j := by
  have hkey : g.key j ≠ f.key i := by
    unfold Fld.key
    rw [Nat.mod_eq_of_lt hi, Nat.mod_eq_of_lt hj]
    omega
  exact tget_tset_ne _ _ _ hkey _

/-! ### The choice among the offered sources (R591) -/

/-- The sources that a claim at context `c` chooses among: those offered there with a PRIO above THRESH, by rising ID. -/
def State.claimOffers (s : State) (c : Nat) : List Nat :=
  (List.range 512).filter (fun n => s.on F.ICU_SRC_OFFERED n && s.get F.ICU_SRC_CTX n = c
    && s.get F.ICU_THRESH_THRESH c < s.get F.ICU_SRC_PRIO n)

theorem claimPick_eq_foldl {s : State} (h : s.on F.ICU_GDIS_GDIS = false) (c : Nat) :
    s.claimPick c = (s.claimOffers c).foldl s.claimBetter none := if_neg (by simp [h])

theorem claimPick_of_gdis {s : State} (h : s.on F.ICU_GDIS_GDIS = true) (c : Nat) : s.claimPick c = none := if_pos h

theorem mem_claimOffers {s : State} {c n : Nat} :
    n ∈ s.claimOffers c ↔ n < 512 ∧ s.on F.ICU_SRC_OFFERED n = true ∧ s.get F.ICU_SRC_CTX n = c ∧
      s.get F.ICU_THRESH_THRESH c < s.get F.ICU_SRC_PRIO n := by
  simp [State.claimOffers, and_assoc]

theorem claimOffers_pairwise_lt (s : State) (c : Nat) : (s.claimOffers c).Pairwise (· < ·) :=
  List.pairwise_lt_range.filter _

/-- No later source of at most its PRIO displaces the best one so far. -/
theorem foldl_claimBetter_of_le {s : State} {n : Nat} {xs : List Nat} (h : ∀ x ∈ xs, s.get F.ICU_SRC_PRIO x ≤ s.get F.ICU_SRC_PRIO n) :
    xs.foldl s.claimBetter (some n) = some n := by
  induction xs with
  | nil => rfl
  | cons x xs ih =>
    rw [List.forall_mem_cons] at h
    have hkeep : s.claimBetter (some n) x = some n := if_neg (not_lt.2 h.1)
    rw [List.foldl_cons, hkeep, ih h.2]

/-- The best of some sources has less PRIO than a source that they all have less PRIO than. -/
theorem foldl_claimBetter_lt {s : State} {n : Nat} {xs : List Nat} (h : ∀ x ∈ xs, s.get F.ICU_SRC_PRIO x < s.get F.ICU_SRC_PRIO n)
    {best : Option Nat} (hbest : ∀ b ∈ best, s.get F.ICU_SRC_PRIO b < s.get F.ICU_SRC_PRIO n) :
    ∀ b ∈ xs.foldl s.claimBetter best, s.get F.ICU_SRC_PRIO b < s.get F.ICU_SRC_PRIO n := by
  induction xs generalizing best with
  | nil => exact hbest
  | cons x xs ih =>
    rw [List.forall_mem_cons] at h
    refine ih h.2 fun b hb => ?_
    cases best with
    | none => cases hb; exact h.1
    | some a =>
      simp only [State.claimBetter] at hb
      split at hb
      · cases hb; exact h.1
      · cases hb; exact hbest _ rfl

theorem claimBetter_of_lt {s : State} {n : Nat} {best : Option Nat}
    (h : ∀ b ∈ best, s.get F.ICU_SRC_PRIO b < s.get F.ICU_SRC_PRIO n) : s.claimBetter best n = some n := by
  cases best with
  | none => rfl
  | some b => exact if_pos (h b rfl)

/-- Of sources with rising IDs the fold picks the one with the highest PRIO, the first of them on a tie: the ones before it have less
PRIO, the ones after it no more. -/
theorem foldl_claimBetter_eq {s : State} {n : Nat} {xs : List Nat} (hxs : xs.Pairwise (· < ·)) (hn : n ∈ xs)
    (hbest : ∀ m ∈ xs, s.get F.ICU_SRC_PRIO m < s.get F.ICU_SRC_PRIO n ∨
      (s.get F.ICU_SRC_PRIO m = s.get F.ICU_SRC_PRIO n ∧ n ≤ m)) :
    xs.foldl s.claimBetter none = some n := by
  obtain ⟨before, after, rfl⟩ := List.append_of_mem hn
  have hbefore : ∀ m ∈ before, s.get F.ICU_SRC_PRIO m < s.get F.ICU_SRC_PRIO n := fun m hm =>
    have hlt : m < n := (List.pairwise_append.1 hxs).2.2 m hm n List.mem_cons_self
    (hbest m (List.mem_append_left _ hm)).resolve_right fun htie => absurd htie.2 (by omega)
  have hafter : ∀ m ∈ after, s.get F.ICU_SRC_PRIO m ≤ s.get F.ICU_SRC_PRIO n := fun m hm =>
    (hbest m (List.mem_append_right _ (List.mem_cons_of_mem _ hm))).elim le_of_lt (·.1.le)
  rw [List.foldl_append, List.foldl_cons, claimBetter_of_lt (foldl_claimBetter_lt hbefore (by simp)), foldl_claimBetter_of_le hafter]

/-- A claim picks the offered source with the highest PRIO above THRESH, the lower ID on a tie. -/
theorem claimPick_eq_some {s : State} {c n : Nat} (hg : s.on F.ICU_GDIS_GDIS = false) (hn : n ∈ s.claimOffers c)
    (hbest : ∀ m, m < 512 → s.on F.ICU_SRC_OFFERED m = true → s.get F.ICU_SRC_CTX m = c →
      s.get F.ICU_SRC_PRIO m < s.get F.ICU_SRC_PRIO n ∨ (s.get F.ICU_SRC_PRIO m = s.get F.ICU_SRC_PRIO n ∧ n ≤ m)) :
    s.claimPick c = some n := by
  rw [claimPick_eq_foldl hg]
  refine foldl_claimBetter_eq (claimOffers_pairwise_lt s c) hn fun m hm => ?_
  obtain ⟨hlt, hoff, hctx, -⟩ := mem_claimOffers.1 hm
  exact hbest m hlt hoff hctx

/-- While GDIS is 1, or where no source offered at the context is above THRESH, a claim picks none (R591, R593). -/
theorem claimPick_eq_none {s : State} {c : Nat} (h : s.on F.ICU_GDIS_GDIS = true ∨ (∀ m, m < 512 → s.on F.ICU_SRC_OFFERED m = true →
    s.get F.ICU_SRC_CTX m = c → s.get F.ICU_SRC_PRIO m ≤ s.get F.ICU_THRESH_THRESH c)) : s.claimPick c = none := by
  cases hg : s.on F.ICU_GDIS_GDIS with
  | true => exact claimPick_of_gdis hg c
  | false =>
    have hnil : s.claimOffers c = [] := List.eq_nil_iff_forall_not_mem.2 fun m hm => by
      obtain ⟨hlt, hoff, hctx, hprio⟩ := mem_claimOffers.1 hm
      have hle := (h.resolve_left (by simp [hg])) m hlt hoff hctx
      omega
    rw [claimPick_eq_foldl hg, hnil, List.foldl_nil]

/-! ### A claim -/

section
variable {s : State} {o : Origin} {c : Nat}

theorem claimRead_open (hc : c < 4 ∨ o.cab = true) :
    s.claimRead o c = ((s.claimPick c).elim s s.icuTake, (s.claimPick c).getD 1023) := by
  have hworld : (decide (4 ≤ c) && !o.cab) = false := by rcases hc with h | h <;> simp [h]
  unfold State.claimRead
  rw [if_neg (by simp [hworld])]
  cases s.claimPick c <;> rfl

theorem exec_claim_open {c : IcuCtx} (hon : s.blkOn 0x20 = true) (hwait : s.behindHeld (icuAddr (0x2004 + 0x100 * c)) = false)
    (hopen : s.cabOwned 0x20 = false ∨ o.cab = true) (hc : (c : Nat) < 4 ∨ o.cab = true) :
    exec (.claim o c) s =
      .next (((s.claimPick c).elim s s.icuTake).ret o (icuAddr (0x2004 + 0x100 * c)) ((s.claimPick c).getD 1023)) := by
  rw [exec_claim, execClaim, guardedRead_open hon hwait hopen, claimRead_open hc]

end

/-! ### Taking a source into service (R591) -/

theorem icuTake_of_level {n : Nat} (h : icuIsLevel n = true) (s : State) :
    s.icuTake n = (s.put F.ICU_SRC_OFFERED n 0).put F.ICU_SRC_INSERVICE n 1 := if_pos h

theorem icuTake_of_edge {n : Nat} (h : icuIsLevel n = false) (s : State) :
    s.icuTake n = ((s.put F.ICU_SRC_OFFERED n 0).put F.ICU_SRC_INSERVICE n 1).put F.ICU_SRC_PENDING n 0 := if_neg (by simp [h])

theorem kept_icuTake (s : State) (n : Nat) :
    s.Kept (s.icuTake n) [] [F.ICU_SRC_OFFERED, F.ICU_SRC_INSERVICE, F.ICU_SRC_PENDING] := by
  have hserve : s.Kept ((s.put F.ICU_SRC_OFFERED n 0).put F.ICU_SRC_INSERVICE n 1) []
      [F.ICU_SRC_OFFERED, F.ICU_SRC_INSERVICE, F.ICU_SRC_PENDING] :=
    (kept_put s (by simp) n 0 []).trans (kept_put _ (by simp) n 1 [])
  cases hlevel : icuIsLevel n with
  | true => rwa [icuTake_of_level hlevel]
  | false => rw [icuTake_of_edge hlevel]; exact hserve.trans (kept_put _ (by simp) n 0 [])

theorem on_inservice_icuTake (s : State) (n : Nat) : (s.icuTake n).on F.ICU_SRC_INSERVICE n = true := by
  cases hlevel : icuIsLevel n with
  | true => rw [icuTake_of_level hlevel, on_eq, get_put_same]; rfl
  | false => rw [icuTake_of_edge hlevel, on_eq, get_put_of_num (by decide), get_put_same]; rfl

theorem on_pending_icuTake_of_edge {n : Nat} (h : icuIsLevel n = false) (s : State) :
    (s.icuTake n).on F.ICU_SRC_PENDING n = false := by
  rw [icuTake_of_edge h, on_eq, get_put_same]; rfl

theorem get_pending_icuTake_of_level {n : Nat} (h : icuIsLevel n = true) (s : State) :
    (s.icuTake n).get F.ICU_SRC_PENDING n = s.get F.ICU_SRC_PENDING n := by
  rw [icuTake_of_level h, get_put_of_num (by decide), get_put_of_num (by decide)]

/-- The fields of the other sources stay. -/
theorem get_icuTake_of_ne (s : State) (f : Fld) {n m : Nat} (hn : n < 512) (hm : m < 512) (h : m ≠ n) :
    (s.icuTake n).get f m = s.get f m := by
  have hput (t : State) (g : Fld) (v : Nat) : (t.put g n v).get f m = t.get f m :=
    get_put_of_ne t g f (by omega) (by omega) h v
  cases hlevel : icuIsLevel n with
  | true => rw [icuTake_of_level hlevel, hput, hput]
  | false => rw [icuTake_of_edge hlevel, hput, hput, hput]

/-- Settles O54: the fold over the offered sources ends at the one with the highest PRIO, the lower ID on a tie, and the claim takes it;
without such a source it changes nothing but what it returns. -/
theorem claimsTakeTheHighestPriority : Obligations.ClaimsTakeTheHighestPriority := by
  unfold Obligations.ClaimsTakeTheHighestPriority
  refine ⟨fun s o c n hon hwait hopen hc hg hn hoff hctx hprio hbest => ?_, fun s o c hon hwait hopen hc hnone => ?_, fun s n hn =>
    ⟨on_inservice_icuTake s n, (kept_icuTake s n).2 F.ICU_SRC_CTX n (by decide), fun h => on_pending_icuTake_of_edge h s,
      fun h => get_pending_icuTake_of_level h s, kept_icuTake s n, fun m hm hne => ?_⟩⟩
  · rw [exec_claim_open hon hwait hopen hc, claimPick_eq_some hg (mem_claimOffers.2 ⟨hn, hoff, hctx, hprio⟩) hbest]
    rfl
  · rw [exec_claim_open hon hwait hopen hc, claimPick_eq_none hnone]
    rfl
  · exact ⟨get_icuTake_of_ne s _ hn hm hne, get_icuTake_of_ne s _ hn hm hne, get_icuTake_of_ne s _ hn hm hne⟩

end Sys2Proof.Machine
end

section
/-! SUPPORT. The main interrupt controller: the end of a source's service (R592), and when the procedure of R589 offers a source. -/

namespace Sys2Proof.Machine

/-! ### The procedure of R589 -/

theorem icuTry_of_not_pending {s : State} {n : Nat} (h : s.on F.ICU_SRC_PENDING n = false) : s.icuTry n = s := if_pos (by simp [h])

theorem icuTry_of_offered {s : State} {n : Nat} (h : s.on F.ICU_SRC_OFFERED n = true) : s.icuTry n = s := if_pos (by simp [h])

/-- A source that is free to be offered, and has an eligible target, is given to one. -/
theorem icuTry_of_icuElig {s : State} {n t : Nat} (hpend : s.on F.ICU_SRC_PENDING n = true) (hoff : s.on F.ICU_SRC_OFFERED n = false)
    (hserv : s.on F.ICU_SRC_INSERVICE n = false) (hg : s.on F.ICU_GDIS_GDIS = false) (hprio : s.get F.ICU_SRC_PRIO n ≠ 0)
    (hpd : s.pdOnB 1 = true) (ht : t < 6) (helig : s.icuElig n t = true) : ∃ u, s.icuTry n = s.icuGive n u := by
  have hmem : t ∈ (List.range 6).filter (s.icuElig n) := List.mem_filter.2 ⟨List.mem_range.2 ht, helig⟩
  obtain ⟨lo, rest, hlist⟩ := List.exists_cons_of_ne_nil (List.ne_nil_of_mem hmem)
  unfold State.icuTry
  rw [if_neg (by simp [hpend, hoff, hserv, hg, hprio, hpd])]
  dsimp only
  rw [hlist]
  dsimp only
  repeat' split
  all_goals exact ⟨_, rfl⟩

/-! ### Giving a source to a target -/

theorem get_icuGive_eq_put (s : State) (n t : Nat) (f : Fld) (i : Nat) : (s.icuGive n t).get f i =
    (((s.put F.ICU_SRC_OFFERED n 1).put F.ICU_SRC_CTX n (s.icuCtxOf n t)).put F.ICU_SRC_LAST n t).get f i := rfl

theorem on_offered_icuGive (s : State) (n t : Nat) : (s.icuGive n t).on F.ICU_SRC_OFFERED n = true := by
  rw [on_eq, get_icuGive_eq_put, get_put_of_num (by decide), get_put_of_num (by decide), get_put_same]
  rfl

theorem on_inservice_icuGive (s : State) (n t m : Nat) : (s.icuGive n t).on F.ICU_SRC_INSERVICE m = s.on F.ICU_SRC_INSERVICE m := by
  rw [on_eq, on_eq, get_icuGive_eq_put, get_put_of_num (by decide), get_put_of_num (by decide), get_put_of_num (by decide)]

/-! ### The end of a service (R592) -/

/-- Ending the service of source `n` changes no other field. -/
theorem get_endService (s : State) (n : Nat) {f : Fld} (h : f.num ≠ F.ICU_SRC_INSERVICE.num) (i : Nat) :
    (s.put F.ICU_SRC_INSERVICE n 0).get f i = s.get f i := get_put_of_num h s n i 0

theorem on_endService (s : State) (n : Nat) {f : Fld} (h : f.num ≠ F.ICU_SRC_INSERVICE.num) (i : Nat) :
    (s.put F.ICU_SRC_INSERVICE n 0).on f i = s.on f i := by
  rw [on_eq, on_eq, get_endService s n h]

theorem on_inservice_endService (s : State) (n : Nat) : (s.put F.ICU_SRC_INSERVICE n 0).on F.ICU_SRC_INSERVICE n = false := by
  rw [on_eq, get_put_same]
  rfl

theorem icuCtxOf_endService (s : State) (n m t : Nat) : (s.put F.ICU_SRC_INSERVICE n 0).icuCtxOf m t = s.icuCtxOf m t := by
  unfold State.icuCtxOf
  rw [on_endService s n (by decide)]

theorem icuTgt_endService (s : State) (n m t : Nat) : (s.put F.ICU_SRC_INSERVICE n 0).icuTgt m t = s.icuTgt m t := by
  unfold State.icuTgt
  rw [get_endService s n (by decide), get_endService s n (by decide)]

/-- Which targets a source may go to does not depend on what is in service. -/
theorem icuElig_endService (s : State) (n m t : Nat) : (s.put F.ICU_SRC_INSERVICE n 0).icuElig m t = s.icuElig m t := by
  unfold State.icuElig State.awake
  rw [icuTgt_endService, icuCtxOf_endService, get_endService s n (by decide), get_endService s n (by decide),
    get_endService s n (by decide)]

/-- A pending source with an eligible target is on offer once its service has ended. -/
theorem on_offered_icuTry_endService {s : State} {n t : Nat} (hpend : s.on F.ICU_SRC_PENDING n = true)
    (hg : s.on F.ICU_GDIS_GDIS = false) (hprio : s.get F.ICU_SRC_PRIO n ≠ 0) (hpd : s.pdOnB 1 = true) (ht : t < 6)
    (helig : s.icuElig n t = true) :
    ((s.put F.ICU_SRC_INSERVICE n 0).icuTry n).on F.ICU_SRC_OFFERED n = true ∧
    ((s.put F.ICU_SRC_INSERVICE n 0).icuTry n).on F.ICU_SRC_INSERVICE n = false := by
  cases hoff : (s.put F.ICU_SRC_INSERVICE n 0).on F.ICU_SRC_OFFERED n with
  | true => rw [icuTry_of_offered hoff]; exact ⟨hoff, on_inservice_endService s n⟩
  | false =>
    obtain ⟨u, hu⟩ := icuTry_of_icuElig (by rwa [on_endService s n (by decide)]) hoff (on_inservice_endService s n)
      (by rwa [on_endService s n (by decide)]) (by rwa [get_endService s n (by decide)]) hpd ht
      (by rwa [icuElig_endService])
    rw [hu]
    exact ⟨on_offered_icuGive _ n u, (on_inservice_icuGive _ n u n).trans (on_inservice_endService s n)⟩

/-! ### A completion -/

section
variable {s : State} {o : Origin} {c n : Nat}

theorem completeWrite_of_served (hc : c < 4 ∨ o.cab = true) (hn : n < 512) (hserv : s.on F.ICU_SRC_INSERVICE n = true)
    (hctx : s.get F.ICU_SRC_CTX n = c) : s.completeWrite o c n = (s.put F.ICU_SRC_INSERVICE n 0).icuTry n := by
  unfold State.completeWrite
  rw [if_neg (by rcases hc with h | h <;> simp [h]), if_pos (by simp [hn, hserv, hctx])]

theorem completeWrite_of_not_served (hc : c < 4 ∨ o.cab = true)
    (h : 512 ≤ n ∨ s.on F.ICU_SRC_INSERVICE n = false ∨ s.get F.ICU_SRC_CTX n ≠ c) :
    s.completeWrite o c n = s.put F.ICU_STATUS_BAD_COMPLETE 0 1 := by
  have hbad : (decide (n < 512) && s.on F.ICU_SRC_INSERVICE n && decide (s.get F.ICU_SRC_CTX n = c)) = false := by
    rcases h with h | h | h <;> simp [h]
  unfold State.completeWrite
  rw [if_neg (by rcases hc with h | h <;> simp [h]), if_neg (by simp [hbad])]

theorem exec_complete_reaches (h : s.Reaches o 0x20) (c : IcuCtx) : exec (.complete o c n) s = .next (s.completeWrite o c n) := by
  rw [exec_complete, execComplete, guarded_reaches h] <;> rfl

end

/-- Settles O55: a completion of a source in service at its context ends that service and runs the procedure of R589, which leaves a
source that is not pending alone and gives a pending one to an eligible target; any other completion sets BAD_COMPLETE. -/
theorem completionsEndTheService : Obligations.CompletionsEndTheService := by
  unfold Obligations.CompletionsEndTheService
  refine ⟨fun s o c n hreach hc hn hserv hctx => ?_, fun s n _ hpend => ?_,
    fun s n t _ hpend hg hprio hpd ht helig => on_offered_icuTry_endService hpend hg hprio hpd ht helig,
    fun s o c n hreach hc hbad => ?_⟩
  · rw [exec_complete_reaches hreach, completeWrite_of_served hc hn hserv hctx]
  · exact icuTry_of_not_pending ((on_endService s n (by decide) n).trans hpend)
  · rw [exec_complete_reaches hreach, completeWrite_of_not_served hc hbad]

end Sys2Proof.Machine
end

section
/-! SUPPORT. The audit buffer beyond its 64 entries: END makes the entry of a closed debug session without waiting for a free slot (R630,
R685), and then even a write of an unaudited register waits. -/

namespace Sys2Proof.Machine

/-! ### The entry of END -/

theorem exec_endSession {s : State} (h : s.dbgIdle = true) : exec .endSession s = .next s.dbgEnd := congrArg _ (if_pos h)

/-- A CAB event leaves the audit buffer alone. -/
@[simp] theorem adl_cabEvent (s : State) (f : Fld) (b : Nat) : (s.cabEvent f b).adl = s.adl := by
  unfold State.cabEvent
  dsimp only
  split <;> simp

/-- END adds its entry to the audit buffer, whatever the buffer already holds. -/
theorem length_buf_dbgEnd {s : State} {x : Session} (h : s.dbg.session = some x) :
    s.dbgEnd.adl.buf.length = s.adl.buf.length + 1 := by
  unfold State.dbgEnd State.endSession
  simp [h, auditAccept_buf]

/-! ### A register write at an overfull buffer -/

theorem exec_registerWrite (o : Origin) (a n v : Nat) (s : State) : exec (.registerWrite o a n v) s = .next (s.regWrite o a n v) := rfl

/-- A write that waits changes STALLS and no other register field. -/
theorem get_hold (s : State) (h : Held) {f : Fld} (hf : f.num ≠ F.ADL_RING_STALLS.num) (i : Nat) : (s.hold h).get f i = s.get f i := by
  unfold State.hold
  cases h.data.isSome with
  | false => rfl
  | true => exact get_put_of_num hf s 0 i _

/-- While the buffer holds more than 64 entries, a 32-bit write waits even if it makes no entry of its own. -/
theorem regWriteAt_of_overfull {s : State} {o : Origin} {r : Reg} {i : Nat} {w : WriteBy} (hwide : r.wide = false)
    (hreach : r.reach i o w.byCmd = true) (hon : s.regOn r i = true) (hbuf : 64 < s.adl.buf.length) (off a v : Nat) :
    ∃ h, s.regWriteAt o r i off a 4 v w = s.hold h := by
  unfold State.regWriteAt
  rw [if_neg (by simp [hreach]), if_neg (by simp [hon])]
  simp only [hwide, Bool.false_and, Bool.false_eq_true, if_false]
  rw [if_pos (Bool.or_eq_true_iff.2 (.inl (decide_eq_true (Nat.lt_add_right _ hbuf))))]
  exact ⟨_, rfl⟩

/-! ### CRC_CTRL -/

/-- CRC_CTRL. -/
def crcCtrlReg : Reg :=
  ⟨204, "CRC_CTRL", 0x24, 0x00F002400000, [(4, 0x100)], false, false, false, .isl,
    [F.CRC_CTRL_POLY, F.CRC_CTRL_INIT, F.CRC_CTRL_IE, F.CRC_CTRL_DONE, F.CRC_CTRL_MATCH, F.CRC_CTRL_BUSY]⟩

theorem regAt_crcCtrl (u : Fin 4) : regAt (crcAddr u 0) = some (crcCtrlReg, (u : Nat), 0) := by
  revert u
  decide +kernel

theorem regWrite_crcCtrl {s : State} (hheld : s.held = []) (o : Origin) (u : Fin 4) (v : Nat) :
    s.regWrite o (crcAddr u 0) 4 v = s.regWriteAt o crcCtrlReg u 0 (crcAddr u 0) 4 v { allow := s.allowOf o crcCtrlReg u } := by
  have halign : crcAddr u 0 % 4 = 0 := by unfold crcAddr; omega
  unfold State.regWrite
  rw [regAt_crcCtrl]
  simp [halign, State.behindHeld, hheld]

/-- The Hutch's write of CRC_CTRL waits at an overfull buffer, although CRC_CTRL is not audited. -/
theorem regWrite_crcCtrl_of_overfull {s : State} (hon : s.blkOn 0x24 = true) (hheld : s.held = []) (hbuf : 64 < s.adl.buf.length)
    (u : Fin 4) (v : Nat) : ∃ h, s.regWrite hutchOrigin (crcAddr u 0) 4 v = s.hold h := by
  rw [regWrite_crcCtrl hheld]
  have hreg : s.regOn crcCtrlReg u = true := hon
  exact regWriteAt_of_overfull rfl rfl hreg hbuf _ _ _

/-! ### The counterexample -/

/-- A module in RUN with an open debug session and a full audit buffer. -/
def fullInSession : State :=
  { phase := .running, pd := 0xFFFF, adl := { buf := List.replicate 64 {} }, dbg := { session := some {} } }

/-- END takes the full buffer to 65 entries. -/
theorem endSession_overfills : Does .endSession fullInSession (fun t => 64 < t.adl.buf.length ∧ t.blkOn 0x24 = true ∧ t.held = [] ∧
    t.cabOwned 0x24 = false ∧ t.get F.CRC_CTRL_POLY 0 = 0) :=
  ⟨_, exec_endSession rfl, by rw [length_buf_dbgEnd rfl]; decide, by decide +kernel⟩

/-- Refutes O57: the clause on a write without INIT leaves out that the audit buffer has room. END, given in a debug session at a buffer of
64 entries, makes the 65th; after it the Hutch's write of POLY 1 to CRC_CTRL(0) waits, and POLY stays 0. -/
theorem not_crcControlInitialises : ¬ Obligations.CrcControlInitialises := by
  unfold Obligations.CrcControlInitialises
  rintro ⟨-, hwrite⟩
  obtain ⟨s, -, hbuf, hon, hheld, hown, hpoly⟩ := endSession_overfills
  obtain ⟨t, hexec, hpoly', -⟩ := hwrite s 0 1 hon hheld hown
  obtain ⟨w, hwait⟩ := regWrite_crcCtrl_of_overfull hon hheld hbuf 0 1
  have ht : s.hold w = t := Host.Outcome.next.inj ((congrArg _ hwait).symm.trans hexec)
  rw [← ht, get_hold s w (by decide)] at hpoly'
  exact absurd (hpoly.symm.trans hpoly') (by decide)

end Sys2Proof.Machine
end

section
/-! SUPPORT. Operations that leave device memory as it was, for the changes of memory that rest on the state before them. -/

namespace Sys2Proof.Machine

variable {r s t : State}

/-- From `s` to `t` device memory keeps its bytes and its defaults. -/
def State.SameMem (s t : State) : Prop := t.mem = s.mem ∧ t.memRest = s.memRest

theorem State.SameMem.refl (s : State) : s.SameMem s := ⟨rfl, rfl⟩

/-- A change of other parts. -/
theorem State.SameMem.upd (hs : r.SameMem s) {pending regs shadow now freeCtr phase pd pins sup boot nv fuses flashA flashB latches held
    hostOut reads adl err pm dbg cores templates mutables ports drw tls jnl layers flipCtr heads dps wit shelf tell gpu dmc stalled plk hap
    tch aud pmu tests : _} : r.SameMem (State.mk pending regs shadow s.mem s.memRest now freeCtr phase pd pins sup boot nv fuses flashA
    flashB latches held hostOut reads adl err pm dbg cores templates mutables ports drw tls jnl layers flipCtr heads dps wit shelf tell gpu
    dmc stalled plk hap tch aud pmu tests) := hs

theorem State.SameMem.ite {c : Prop} {i : Decidable c} (hs : r.SameMem s) (ht : r.SameMem t) : r.SameMem (if c then s else t) := by
  split
  · exact hs
  · exact ht

theorem State.SameMem.foldl {α : Type} {g : State → α → State} {xs : List α} (hg : ∀ s x, r.SameMem s → r.SameMem (g s x))
    (hs : r.SameMem s) : r.SameMem (xs.foldl g s) := by
  induction xs generalizing s with
  | nil => exact hs
  | cons x xs ih => exact ih (hg s x hs)

theorem State.SameMem.put {f : Fld} {i v : Nat} (hs : r.SameMem s) : r.SameMem (s.put f i v) := hs.upd

theorem State.SameMem.incSat {f : Fld} {i n : Nat} (hs : r.SameMem s) : r.SameMem (s.incSat f i n) := hs.put

theorem State.SameMem.incWrap {f : Fld} {i n : Nat} (hs : r.SameMem s) : r.SameMem (s.incWrap f i n) := hs.put

theorem State.SameMem.putBit {f : Fld} {i b : Nat} {v : Bool} (hs : r.SameMem s) : r.SameMem (s.putBit f i b v) := hs.put

theorem State.SameMem.fresh (hs : r.SameMem s) : r.SameMem s.fresh := hs.upd

theorem State.SameMem.faultN {c : FaultCause} (hs : r.SameMem s) : r.SameMem (s.faultN c) := .ite hs hs.upd

theorem State.SameMem.hutchRaise {n : Nat} (hs : r.SameMem s) : r.SameMem (s.hutchRaise n) := hs.putBit

theorem State.SameMem.wakeTarget {t : Nat} (hs : r.SameMem s) : r.SameMem (s.wakeTarget t) :=
  .ite hs.putBit.put.put (.ite hs.putBit hs.putBit.put.put)

theorem State.SameMem.icuGive {n t : Nat} (hs : r.SameMem s) : r.SameMem (s.icuGive n t) := hs.put.put.put.upd

theorem State.SameMem.icuTry {n : Nat} (hs : r.SameMem s) : r.SameMem (s.icuTry n) :=
  .ite hs (by dsimp only; split; exacts [(by split; exacts [hs, .ite hs hs.wakeTarget.incSat]), .ite (by split; exacts [hs.icuGive,
    hs.icuGive]) hs.icuGive])

theorem State.SameMem.icuRaise {n : Nat} (hs : r.SameMem s) : r.SameMem (s.icuRaise n) := .ite hs.put.icuTry hs

theorem State.SameMem.icuWithdraw {n : Nat} {bySleep : Bool} (hs : r.SameMem s) : r.SameMem (s.icuWithdraw n bySleep) :=
  .ite (.icuTry (.ite hs.put.incSat.upd hs.put.incSat)) hs

theorem State.SameMem.icuLower {n : Nat} (hs : r.SameMem s) : r.SameMem (s.icuLower n) := .ite hs.put.icuWithdraw hs

theorem State.SameMem.icuLine {n : Nat} {v : Bool} (hs : r.SameMem s) : r.SameMem (s.icuLine n v) := .ite hs.icuRaise hs.icuLower

theorem State.SameMem.setErrq {d : Nat} {q : ErrQ} (hs : r.SameMem s) : r.SameMem (s.setErrq d q) := hs.upd.icuLine

theorem State.SameMem.clockActions (hs : r.SameMem s) : r.SameMem s.clockActions := .put (.upd (.ite hs.fresh hs))

theorem State.SameMem.recoveryStart (hs : r.SameMem s) : r.SameMem s.recoveryStart :=
  .upd (.foldl (fun _ _ hs => hs.put.put) (.foldl (fun _ _ hs => hs.put.put) (.foldl (fun _ _ hs => .ite hs.put.put.put.put.put.put.put
    hs.put.put.put.put.put.put.put.put) hs.put.put.put)))

theorem State.SameMem.moduleAction {domain code : Nat} (hs : r.SameMem s) : r.SameMem (s.moduleAction domain code) :=
  .ite hs.faultN.hutchRaise.put.put.recoveryStart (.ite hs.faultN.hutchRaise.put.put.put (.ite hs.faultN.hutchRaise.put.put.put.put.upd
    hs.faultN.hutchRaise.put.put.put.put.clockActions))

theorem State.SameMem.callReset {d code : Nat} {esc : Bool} (hs : r.SameMem s) : r.SameMem (s.callReset d code esc) := by
  unfold State.callReset
  split
  exacts [hs.moduleAction, .ite hs.recoveryStart (.ite hs hs.upd)]

theorem State.SameMem.classAction {c d code : Nat} {esc : Bool} (hs : r.SameMem s) : r.SameMem (s.classAction c d code esc) :=
  .ite hs.callReset (.ite hs.moduleAction hs)

theorem State.SameMem.policyFault {c : Nat} {e : ErrIn} (hs : r.SameMem s) : r.SameMem (s.policyFault c e) :=
  .ite (.faultN (.ite (.faultN (.ite hs.faultN hs)) (.ite hs.faultN hs))) (.ite (.faultN (.ite hs.faultN hs)) (.ite hs.faultN hs))

theorem State.SameMem.recordError {e : ErrIn} (hs : r.SameMem s) : r.SameMem (s.recordError e) :=
  .ite hs (.ite hs.setErrq.policyFault.classAction (.ite hs.put.incSat.put.classAction hs.setErrq.incWrap.policyFault.classAction))

theorem State.SameMem.pmuLine (hs : r.SameMem s) : r.SameMem s.pmuLine := hs.icuLine

theorem State.SameMem.pmuAdd {n inc : Nat} (hs : r.SameMem s) : r.SameMem (s.pmuAdd n inc) :=
  .ite hs.put (.pmuLine (.ite (.ite hs.put.putBit.put hs.put.putBit) (.ite hs.put.putBit.put hs.put.putBit)))

theorem State.SameMem.pmuEvent {b ev sub inc : Nat} {tag : Option Nat} {open_ : Bool} (hs : r.SameMem s) : r.SameMem (s.pmuEvent b ev sub
    inc tag open_) :=
  .ite hs (.foldl (fun _ _ hs => hs.pmuAdd) hs)

theorem State.SameMem.modDmc {g : Dmc → Dmc} (hs : r.SameMem s) : r.SameMem (s.modDmc g) := hs.upd

theorem State.SameMem.dramCount {o : Origin} {write : Bool} {line : Nat} (hs : r.SameMem s) : r.SameMem (s.dramCount o write line) := by
  unfold State.dramCount
  split
  exacts [hs, .modDmc (.ite (.pmuEvent (.incSat (.ite hs.incSat.pmuEvent.incSat.pmuEvent hs.incSat.pmuEvent))) (.ite
    hs.incSat.pmuEvent.incSat.pmuEvent hs.incSat.pmuEvent))]

theorem State.SameMem.eccCorrect {line b : Nat} (hs : r.SameMem s) : r.SameMem (s.eccCorrect line b) := hs.incSat.put.put.recordError

theorem State.SameMem.eccPoison {o : Origin} {line : Nat} (hs : r.SameMem s) : r.SameMem (s.eccPoison o line) :=
  hs.incSat.put.put.put.recordError

theorem State.SameMem.eccLines {o : Origin} {write : Bool} {a n : Nat} (hs : r.SameMem s) : r.SameMem (s.eccLines o write a n) :=
  .foldl (fun _ _ hs => .ite hs (.ite hs.modDmc (.ite hs.eccPoison hs.eccCorrect))) hs

theorem State.SameMem.dramAccess {o : Origin} {write : Bool} {a n : Nat} (hs : r.SameMem s) : r.SameMem (s.dramAccess o write a n) :=
  .eccLines (.foldl (fun _ _ hs => hs.dramCount) hs)

theorem memRest_writeBytes (s : State) (a : Nat) (bs : List Byte) : (s.writeBytes a bs).memRest = s.memRest := by
  induction bs generalizing s a with
  | nil => rfl
  | cons b bs ih => exact ih (s.poke a b) (a + 1)

theorem memRest_putLines (s : State) (a : Nat) (bs : List Byte) : (s.putLines a bs).memRest = s.memRest := by
  unfold State.putLines
  split
  · exact memRest_writeBytes ..
  · exact memRest_writeBytes ..

end Sys2Proof.Machine
end

section
/-! SUPPORT. The canonical form of memory and registers: every function of the machine that answers a state keeps it, one rule per function, in the
order of the model's files. -/

namespace Sys2Proof.Machine

variable {s t : State}

/-! ### The rules of the canonical form -/

/-- The canonical form rests on the register store, the memory and the defaults of memory: a change of any other part keeps it. -/
theorem State.Canonical.upd (hs : s.Canonical) {pending shadow now freeCtr phase pd pins sup boot nv fuses flashA flashB latches held hostOut
    reads adl err pm dbg cores templates mutables ports drw tls jnl layers flipCtr heads dps wit shelf tell gpu dmc stalled plk hap tch aud
    pmu tests : _} : (State.mk pending s.regs shadow s.mem s.memRest now freeCtr phase pd pins sup boot nv fuses flashA flashB latches held
    hostOut reads adl err pm dbg cores templates mutables ports drw tls jnl layers flipCtr heads dps wit shelf tell gpu dmc stalled plk hap
    tch aud pmu tests).Canonical := hs

theorem State.Canonical.ite {c : Prop} {i : Decidable c} (hs : s.Canonical) (ht : t.Canonical) : (if c then s else t).Canonical := by
  split
  · exact hs
  · exact ht

theorem State.Canonical.ite_fst {α : Type} {c : Prop} {i : Decidable c} {x y : State × α} (hx : x.1.Canonical) (hy : y.1.Canonical) :
    (if c then x else y).1.Canonical := by
  split
  · exact hx
  · exact hy

theorem State.Canonical.foldl {α : Type} {g : State → α → State} {xs : List α} (hg : ∀ s x, s.Canonical → (g s x).Canonical)
    (hs : s.Canonical) : (xs.foldl g s).Canonical := canonical_foldl hg xs hs

theorem State.Canonical.mk_fst {β : Type} {b : β} (hs : s.Canonical) : (s, b).1.Canonical := hs

/-- A fold of a state with something beside it. -/
theorem State.Canonical.foldl_fst {α β : Type} {g : State × β → α → State × β} {xs : List α} {p : State × β}
    (hg : ∀ p x, p.1.Canonical → (g p x).1.Canonical) (hp : p.1.Canonical) : (xs.foldl g p).1.Canonical := by
  induction xs generalizing p with
  | nil => exact hp
  | cons x xs ih => exact ih (hg p x hp)

/-! ### Ops -/

theorem State.Canonical.put (hs : s.Canonical) {f : Fld} {i v : Nat} : (s.put f i v).Canonical := canonical_put hs f i v

theorem State.Canonical.putB {f : Fld} {i : Nat} {b : Bool} (hs : s.Canonical) : (s.putB f i b).Canonical := hs.put

theorem State.Canonical.incSat {f : Fld} {i n : Nat} (hs : s.Canonical) : (s.incSat f i n).Canonical := hs.put

theorem State.Canonical.incWrap {f : Fld} {i n : Nat} (hs : s.Canonical) : (s.incWrap f i n).Canonical := hs.put

theorem State.Canonical.putBit {f : Fld} {i b : Nat} {v : Bool} (hs : s.Canonical) : (s.putBit f i b v).Canonical := hs.put

theorem State.Canonical.maxTo {f : Fld} {i v : Nat} (hs : s.Canonical) : (s.maxTo f i v).Canonical := hs.put

theorem State.Canonical.putImg {f : Fld} {i v : Nat} (hs : s.Canonical) : (s.putImg f i v).Canonical := hs.put.upd

theorem State.Canonical.fresh (hs : s.Canonical) : s.fresh.Canonical := hs.upd

theorem State.Canonical.setPd {m : BitVec 16} {v : Bool} (hs : s.Canonical) : (s.setPd m v).Canonical := hs.upd

theorem State.Canonical.hostOutPush {p : Nat} {o : HostOut} (hs : s.Canonical) : (s.hostOutPush p o).Canonical := hs.upd

theorem State.Canonical.ret {o : Origin} {addr v : Nat} (hs : s.Canonical) : (s.ret o addr v).Canonical :=
  .ite hs.hostOutPush (.ite hs.put hs.upd)

theorem State.Canonical.faultN {c : FaultCause} (hs : s.Canonical) : (s.faultN c).Canonical := .ite hs hs.upd

theorem State.Canonical.faultNRelease {c : FaultCause} (hs : s.Canonical) : (s.faultNRelease c).Canonical := hs.upd

theorem State.Canonical.hutchRaise {n : Nat} (hs : s.Canonical) : (s.hutchRaise n).Canonical := hs.putBit

theorem State.Canonical.wakeTarget {t : Nat} (hs : s.Canonical) : (s.wakeTarget t).Canonical :=
  .ite hs.putBit.put.put (.ite hs.putBit hs.putBit.put.put)

theorem State.Canonical.icuGive {n t : Nat} (hs : s.Canonical) : (s.icuGive n t).Canonical := hs.put.put.put.upd

theorem State.Canonical.icuTry {n : Nat} (hs : s.Canonical) : (s.icuTry n).Canonical :=
  .ite hs (by dsimp only; split; exacts [(by split; exacts [hs, .ite hs hs.wakeTarget.incSat]), .ite (by split; exacts [hs.icuGive,
    hs.icuGive]) hs.icuGive])

theorem State.Canonical.icuReeval (hs : s.Canonical) : s.icuReeval.Canonical := .foldl (fun _ _ hs => hs.icuTry) hs

theorem State.Canonical.icuRaise {n : Nat} (hs : s.Canonical) : (s.icuRaise n).Canonical := .ite hs.put.icuTry hs

theorem State.Canonical.icuWithdraw {n : Nat} {bySleep : Bool} (hs : s.Canonical) : (s.icuWithdraw n bySleep).Canonical :=
  .ite (.icuTry (.ite hs.put.incSat.upd hs.put.incSat)) hs

theorem State.Canonical.icuLower {n : Nat} (hs : s.Canonical) : (s.icuLower n).Canonical := .ite hs.put.icuWithdraw hs

theorem State.Canonical.icuLine {n : Nat} {v : Bool} (hs : s.Canonical) : (s.icuLine n v).Canonical := .ite hs.icuRaise hs.icuLower

theorem State.Canonical.auditAccept {e : AuditEntry} (hs : s.Canonical) : (s.auditAccept e).Canonical :=
  .ite hs.upd.incWrap.put.hutchRaise hs.upd.incWrap.put

theorem State.Canonical.auditReg {o : Origin} {addr old new : Nat} {high refused : Bool} {reason : Nat} (hs : s.Canonical) : (s.auditReg o
    addr old new high refused reason).Canonical :=
  hs.auditAccept

theorem State.Canonical.setErrq {d : Nat} {q : ErrQ} (hs : s.Canonical) : (s.setErrq d q).Canonical := hs.upd.icuLine

theorem State.Canonical.clockActions (hs : s.Canonical) : s.clockActions.Canonical := .put (.upd (.ite hs.fresh hs))

theorem State.Canonical.powerLimits (hs : s.Canonical) : s.powerLimits.Canonical := hs.upd.clockActions

theorem State.Canonical.recoveryStart (hs : s.Canonical) : s.recoveryStart.Canonical :=
  .upd (.foldl (fun _ _ hs => hs.put.put) (.foldl (fun _ _ hs => hs.put.put) (.foldl (fun _ _ hs => .ite hs.put.put.put.put.put.put.put
    hs.put.put.put.put.put.put.put.put) hs.put.put.put)))

theorem State.Canonical.moduleAction {domain code : Nat} (hs : s.Canonical) : (s.moduleAction domain code).Canonical :=
  .ite hs.faultN.hutchRaise.put.put.recoveryStart (.ite hs.faultN.hutchRaise.put.put.put (.ite hs.faultN.hutchRaise.put.put.put.put.upd
    hs.faultN.hutchRaise.put.put.put.put.clockActions))

theorem State.Canonical.callReset {d code : Nat} {esc : Bool} (hs : s.Canonical) : (s.callReset d code esc).Canonical := by
  unfold State.callReset
  split
  exacts [hs.moduleAction, .ite hs.recoveryStart (.ite hs hs.upd)]

theorem State.Canonical.classAction {c d code : Nat} {esc : Bool} (hs : s.Canonical) : (s.classAction c d code esc).Canonical :=
  .ite hs.callReset (.ite hs.moduleAction hs)

theorem State.Canonical.policyFault {c : Nat} {e : ErrIn} (hs : s.Canonical) : (s.policyFault c e).Canonical :=
  .ite (.faultN (.ite (.faultN (.ite hs.faultN hs)) (.ite hs.faultN hs))) (.ite (.faultN (.ite hs.faultN hs)) (.ite hs.faultN hs))

theorem State.Canonical.recordError {e : ErrIn} (hs : s.Canonical) : (s.recordError e).Canonical :=
  .ite hs (.ite hs.setErrq.policyFault.classAction (.ite hs.put.incSat.put.classAction hs.setErrq.incWrap.policyFault.classAction))

theorem State.Canonical.accessError {o : Origin} {blk code addr : Nat} (hs : s.Canonical) : (s.accessError o blk code addr).Canonical :=
  .ite hs hs.recordError

theorem State.Canonical.auditWrite {o : Origin} {w : RegWrite} {refused : Bool} {reason : Nat} (hs : s.Canonical) : (s.auditWrite o w
    refused reason).Canonical :=
  .ite hs.auditReg.auditReg hs.auditReg

theorem State.Canonical.hold {h : Held} (hs : s.Canonical) : (s.hold h).Canonical := .upd (.ite hs.incSat hs)

theorem State.Canonical.guarded {o : Origin} {w : RegWrite} {refuse : Nat} {k part : State → State} (hs : s.Canonical)
    (hk : ∀ u, u.Canonical → (k u).Canonical) (hpart : ∀ u, u.Canonical → (part u).Canonical) :
    (s.guarded o w refuse k part).Canonical :=
  .ite hs.accessError (.ite hs.hold (.ite (.accessError (.ite hs.auditWrite hs)) (.ite (hpart _ (.ite hs.auditWrite hs))
    (.ite (.ite hs.auditWrite hs) (.ite (hk _ hs.auditWrite) (hk _ hs))))))

theorem State.Canonical.guardedRead {o : Origin} {a blk : Nat} {k : State → State × Nat} (hs : s.Canonical)
    (hk : ∀ u, u.Canonical → (k u).1.Canonical) : (s.guardedRead o a blk k).Canonical :=
  .ite hs.accessError.ret (.ite hs.hold (.ite hs.accessError.ret (hk s hs).ret))

theorem State.Canonical.cfgError {o : Origin} {blk off : Nat} (hs : s.Canonical) : (s.cfgError o blk off).Canonical := hs.recordError

theorem State.Canonical.poke (hs : s.Canonical) {a : Nat} {b : Byte} : (s.poke a b).Canonical := canonical_poke hs a b

theorem State.Canonical.writeBytes (hs : s.Canonical) {a : Nat} {bs : List Byte} : (s.writeBytes a bs).Canonical :=
  canonical_writeBytes hs a bs

theorem State.Canonical.memRange (hs : s.Canonical) {lo n : Nat} {v : Option Nat} : (s.memRange lo n v).Canonical :=
  canonical_memRange hs lo n v

theorem State.Canonical.zeroBytes (hs : s.Canonical) {lo n : Nat} : (s.zeroBytes lo n).Canonical := canonical_zeroBytes hs lo n

theorem State.Canonical.undefBytes (hs : s.Canonical) {lo n : Nat} : (s.undefBytes lo n).Canonical := canonical_undefBytes hs lo n

theorem State.Canonical.applyReset (hs : s.Canonical) {by_ : Dom} {which : Nat → Nat → Bool} : (s.applyReset by_ which).Canonical :=
  canonical_applyReset hs by_ which

theorem State.Canonical.applyMod (hs : s.Canonical) : s.applyMod.Canonical := canonical_applyMod hs

/-! ### Icu -/

theorem State.Canonical.icuTake {n : Nat} (hs : s.Canonical) : (s.icuTake n).Canonical := .ite hs.put.put hs.put.put.put

theorem State.Canonical.claimRead {o : Origin} {c : Nat} (hs : s.Canonical) : (s.claimRead o c).1.Canonical :=
  .ite_fst hs (by split; exacts [hs, hs.icuTake])

theorem State.Canonical.completeWrite {o : Origin} {c n : Nat} (hs : s.Canonical) : (s.completeWrite o c n).Canonical :=
  .ite hs (.ite hs.put.icuTry hs.put)

theorem State.Canonical.icuSetWrite {o : Origin} {n : Nat} (hs : s.Canonical) : (s.icuSetWrite o n).Canonical :=
  .ite hs.icuRaise hs.recordError

theorem State.Canonical.gdisEffect {v : Bool} (hs : s.Canonical) : (s.gdisEffect v).Canonical := .ite hs.putB hs.putB.icuReeval

theorem State.Canonical.targetAsleep {t : Nat} (hs : s.Canonical) : (s.targetAsleep t).Canonical :=
  .foldl (fun _ _ hs => hs.icuWithdraw) hs.putBit.putBit

theorem State.Canonical.coreWakeEffect {t : Nat} (hs : s.Canonical) : (s.coreWakeEffect t).Canonical := .ite hs.wakeTarget hs

theorem State.Canonical.fireTimers {c : Nat} (hs : s.Canonical) : (s.fireTimers c).Canonical :=
  .ite hs (.ite hs.upd.coreWakeEffect hs.upd)

theorem State.Canonical.fireAllTimers (hs : s.Canonical) : s.fireAllTimers.Canonical := .foldl (fun _ _ hs => hs.fireTimers) hs

theorem State.Canonical.cabEvent {f : Fld} {b : Nat} (hs : s.Canonical) : (s.cabEvent f b).Canonical := .ite hs.put.icuRaise hs.put

theorem State.Canonical.dbellWrite {o : Origin} (hs : s.Canonical) : (s.dbellWrite o).Canonical :=
  .ite hs.hutchRaise (.ite hs.hutchRaise hs)

theorem State.Canonical.hutClaimRead {o : Origin} (hs : s.Canonical) : (s.hutClaimRead o).1.Canonical :=
  .ite_fst (.ite_fst hs hs.putBit) hs.recordError

/-! ### Haptic -/

theorem State.Canonical.modHap {c : Nat} {g : HapCh → HapCh} (hs : s.Canonical) : (s.modHap c g).Canonical := hs.upd

theorem State.Canonical.hapFreq {c : Nat} {f4 : Int} (hs : s.Canonical) : (s.hapFreq c f4).Canonical := hs.modHap.put

theorem State.Canonical.hapEnter {c ph : Nat} (hs : s.Canonical) : (s.hapEnter c ph).Canonical := hs.put.modHap

theorem State.Canonical.hapStart {c i : Nat} {cont : Bool} (hs : s.Canonical) : (s.hapStart c i cont).Canonical := by
  unfold State.hapStart
  split
  exacts [hs, .ite hs.put.hapEnter hs.put.hapEnter.hapFreq]

theorem State.Canonical.hapWait {c : Nat} {w : Option Nat} (hs : s.Canonical) : (s.hapWait c w).Canonical := hs.modHap.putB

theorem State.Canonical.hapTrigger {c i : Nat} (hs : s.Canonical) : (s.hapTrigger c i).Canonical :=
  .ite hs.incSat (.ite hs.hapStart (.ite hs.hapStart (.ite hs.hapWait.hapStart (.hapWait (.ite hs.incSat hs)))))

theorem State.Canonical.hapBrake {c : Nat} (hs : s.Canonical) : (s.hapBrake c).Canonical := .ite hs.hapEnter hs

theorem State.Canonical.hapBrakeEnd {c : Nat} (hs : s.Canonical) : (s.hapBrakeEnd c).Canonical := by
  unfold State.hapBrakeEnd
  split
  exacts [hs.hapEnter, hs.hapWait.hapStart]

theorem State.Canonical.hapKill {c : Nat} (hs : s.Canonical) : (s.hapKill c).Canonical := hs.hapWait.hapEnter

theorem State.Canonical.hapClr {c : Nat} (hs : s.Canonical) : (s.hapClr c).Canonical := hs.put.put

theorem State.Canonical.hapDrain (hs : s.Canonical) : s.hapDrain.Canonical := .foldl (fun _ _ hs => hs.hapWait.hapBrake) hs

/-! ### Pmu -/

theorem State.Canonical.pmuLine (hs : s.Canonical) : s.pmuLine.Canonical := hs.icuLine

theorem State.Canonical.pmuAdd {n inc : Nat} (hs : s.Canonical) : (s.pmuAdd n inc).Canonical :=
  .ite hs.put (.pmuLine (.ite (.ite hs.put.putBit.put hs.put.putBit) (.ite hs.put.putBit.put hs.put.putBit)))

theorem State.Canonical.pmuEvent {b ev sub inc : Nat} {tag : Option Nat} {open_ : Bool} (hs : s.Canonical) : (s.pmuEvent b ev sub inc tag
    open_).Canonical :=
  .ite hs (.foldl (fun _ _ hs => hs.pmuAdd) hs)

theorem State.Canonical.pmuSample {n c pc mode : Nat} {trap : Bool} (hs : s.Canonical) : (s.pmuSample n c pc mode trap).Canonical :=
  .ite hs.put hs.put.put.put.putB.put.icuLine

theorem State.Canonical.pmuArm {o : Origin} {t : Nat} {frz : Bool} (hs : s.Canonical) : (s.pmuArm o t frz).Canonical :=
  hs.put.putB.put.upd

theorem State.Canonical.bwStart {m : Nat} (hs : s.Canonical) : (s.bwStart m).Canonical := hs.upd

theorem State.Canonical.bwRead {o : Origin} {m : Nat} (hs : s.Canonical) : (s.bwRead o m).1.Canonical := hs.upd

theorem State.Canonical.bwWrRead {o : Origin} {m : Nat} (hs : s.Canonical) : (s.bwWrRead o m).1.Canonical := by
  unfold State.bwWrRead
  split
  exacts [hs.upd, hs]

theorem State.Canonical.bwPeakRead {o : Origin} {m : Nat} (hs : s.Canonical) : (s.bwPeakRead o m).1.Canonical := .ite_fst hs.put hs.upd

theorem State.Canonical.crcLine (hs : s.Canonical) : s.crcLine.Canonical := hs.icuLine

theorem State.Canonical.crcTake {u b : Nat} (hs : s.Canonical) : (s.crcTake u b).Canonical :=
  .ite hs.put.incSat.put.putB.crcLine hs.put.incSat

theorem State.Canonical.crcFeed {u n v : Nat} (hs : s.Canonical) : (s.crcFeed u n v).Canonical := .foldl (fun _ _ hs => hs.crcTake) hs

theorem State.Canonical.crcCtrl {u poly : Nat} {init ie clrDone : Bool} (hs : s.Canonical) : (s.crcCtrl u poly init ie clrDone).Canonical
    :=
  .crcLine (.ite (.put (.put (.put (.put (.ite hs.put.putB.put hs.put.putB))))) (.put (.ite hs.put.putB.put hs.put.putB)))

/-! ### Mem -/

theorem State.Canonical.readErr {o : Origin} {blk a n : Nat} (hs : s.Canonical) : (s.readErr o blk a n).Canonical :=
  .ite hs hs.accessError

theorem State.Canonical.markDirty {a n : Nat} (hs : s.Canonical) : (s.markDirty a n).Canonical := hs.upd

theorem State.Canonical.dwrite {o : Origin} {blk a : Nat} {bs : List Byte} (hs : s.Canonical) : (s.dwrite o blk a bs).Canonical :=
  .ite hs.writeBytes.markDirty hs.accessError

/-! ### Dram -/

theorem State.Canonical.modDmc {g : Dmc → Dmc} (hs : s.Canonical) : (s.modDmc g).Canonical := hs.upd

theorem State.Canonical.dramCount {o : Origin} {write : Bool} {line : Nat} (hs : s.Canonical) : (s.dramCount o write line).Canonical := by
  unfold State.dramCount
  split
  exacts [hs, .modDmc (.ite (.pmuEvent (.incSat (.ite hs.incSat.pmuEvent.incSat.pmuEvent hs.incSat.pmuEvent))) (.ite
    hs.incSat.pmuEvent.incSat.pmuEvent hs.incSat.pmuEvent))]

theorem State.Canonical.eccCorrect {line b : Nat} (hs : s.Canonical) : (s.eccCorrect line b).Canonical := hs.incSat.put.put.recordError

theorem State.Canonical.eccPoison {o : Origin} {line : Nat} (hs : s.Canonical) : (s.eccPoison o line).Canonical :=
  hs.incSat.put.put.put.recordError

theorem State.Canonical.eccLines {o : Origin} {write : Bool} {a n : Nat} (hs : s.Canonical) : (s.eccLines o write a n).Canonical :=
  .foldl (fun _ _ hs => .ite hs (.ite hs.modDmc (.ite hs.eccPoison hs.eccCorrect))) hs

theorem State.Canonical.dramAccess {o : Origin} {write : Bool} {a n : Nat} (hs : s.Canonical) : (s.dramAccess o write a n).Canonical :=
  .eccLines (.foldl (fun _ _ hs => hs.dramCount) hs)

theorem State.Canonical.putLines {a : Nat} {bs : List Byte} (hs : s.Canonical) : (s.putLines a bs).Canonical :=
  .ite hs.writeBytes hs.writeBytes

theorem State.Canonical.enterFifo {a n : Nat} (hs : s.Canonical) : (s.enterFifo a n).Canonical := .ite hs hs.modDmc

theorem State.Canonical.retrainAsk {ch dir : Nat} (hs : s.Canonical) : (s.retrainAsk ch dir).Canonical := by
  unfold State.retrainAsk
  split
  exacts [hs.modDmc.put, hs.modDmc]

theorem State.Canonical.retrainNext (hs : s.Canonical) : s.retrainNext.Canonical := by
  unfold State.retrainNext
  dsimp only
  split
  exacts [hs.modDmc.put, hs.modDmc.put.modDmc.retrainAsk]

theorem State.Canonical.retrainAll (hs : s.Canonical) : s.retrainAll.Canonical := .ite hs (.foldl (fun _ _ hs => hs.retrainAsk) hs)

theorem State.Canonical.centreDelays {ch dir : Nat} {eyes : List Eye} (hs : s.Canonical) : (s.centreDelays ch dir eyes).Canonical :=
  .ite hs.recordError (.foldl (fun _ _ hs => .ite hs.put hs.put) hs)

theorem State.Canonical.trnGo {op : Nat} {c : TrnCfg} (hs : s.Canonical) : (s.trnGo op c).Canonical :=
  .ite (.foldl (fun _ _ hs => hs.put) hs.put.putB.put.put.put.put) (.ite (.foldl (fun _ _ hs => hs.modDmc) (.modDmc (.put (.foldl (fun _ _
    hs => hs.put) hs.put.putB.put.put.put.put)))) (.ite (.foldl (fun _ _ hs => hs.retrainAsk) (.modDmc (.modDmc (.put (.foldl (fun _ _ hs
    => hs.put) hs.put.putB.put.put.put.put))))) (.modDmc (.put (.foldl (fun _ _ hs => hs.put) hs.put.putB.put.put.put.put)))))

theorem State.Canonical.trnStart {o : Origin} {op : Nat} {c : TrnCfg} (hs : s.Canonical) : (s.trnStart o op c).Canonical :=
  hs.guarded (fun _ hs => .ite hs.recordError (.ite hs.cfgError (.ite hs hs.trnGo))) (fun _ hs => hs)

theorem State.Canonical.putTraining {ch : Nat} {r : TrainRec} (hs : s.Canonical) : (s.putTraining ch r).Canonical :=
  .modDmc (.put (.put (.foldl (fun _ _ hs => hs.put.put) hs)))

theorem State.Canonical.saveTraining {ch : Nat} (hs : s.Canonical) : (s.saveTraining ch).Canonical := hs.upd

/-! ### Queue -/

theorem State.Canonical.modDrw {d : Nat} {g : Drw → Drw} (hs : s.Canonical) : (s.modDrw d g).Canonical := hs.upd

theorem State.Canonical.modPort {p : Nat} {g : HostPort → HostPort} (hs : s.Canonical) : (s.modPort p g).Canonical := hs.upd

theorem State.Canonical.setFn {p f : Nat} {x : PciFn} (hs : s.Canonical) : (s.setFn p f x).Canonical := .ite hs.modPort hs.modDrw

theorem State.Canonical.sendPending {p f v : Nat} (hs : s.Canonical) : (s.sendPending p f v).Canonical := .ite hs hs.setFn.hostOutPush

theorem State.Canonical.fireFn {p f v : Nat} (hs : s.Canonical) : (s.fireFn p f v).Canonical := .ite hs hs.setFn.sendPending

theorem State.Canonical.pmeSignal {p f : Nat} (hs : s.Canonical) : (s.pmeSignal p f).Canonical :=
  .ite hs.setFn (.ite hs.setFn.hostOutPush hs.setFn.upd)

theorem State.Canonical.msixEvent {d v : Nat} (hs : s.Canonical) : (s.msixEvent d v).Canonical :=
  .ite hs.modDrw.pmeSignal (.ite hs.modDrw.fireFn hs.modDrw)

theorem State.Canonical.pfEvent {p v : Nat} (hs : s.Canonical) : (s.pfEvent p v).Canonical := .ite hs.setFn.pmeSignal hs.fireFn

theorem State.Canonical.guestError {d code q : Nat} (hs : s.Canonical) : (s.guestError d code q).Canonical :=
  .ite hs.put.put.incSat.modDrw.msixEvent hs.put.put.incSat

theorem State.Canonical.modTl {id : Nat} {g : Timeline → Timeline} (hs : s.Canonical) : (s.modTl id g).Canonical := hs.upd

theorem State.Canonical.expCoalesce {id v : Nat} (hs : s.Canonical) : (s.expCoalesce id v).Canonical :=
  .foldl (fun _ _ hs => .ite hs.incSat hs) hs

theorem State.Canonical.tlRaise {id v : Nat} (hs : s.Canonical) : (s.tlRaise id v).Canonical := .ite hs hs.expCoalesce.modTl

theorem State.Canonical.modCmd {d q k : Nat} {g : Cmd → Cmd} (hs : s.Canonical) : (s.modCmd d q k g).Canonical := hs.modDrw

theorem State.Canonical.modIq {c q : Nat} {g : Iq → Iq} (hs : s.Canonical) : (s.modIq c q g).Canonical := hs.upd

theorem State.Canonical.portRead {p a n : Nat} (hs : s.Canonical) : (s.portRead p a n).Canonical :=
  .foldl (fun _ _ hs => hs.hostOutPush) hs

theorem State.Canonical.portData {p a : Nat} {bs : List Byte} (hs : s.Canonical) : (s.portData p a bs).Canonical :=
  .foldl (fun _ _ hs => hs.hostOutPush) hs

theorem State.Canonical.hostLog {d page : Nat} (hs : s.Canonical) : (s.hostLog d page).Canonical := by
  unfold State.hostLog
  split
  exacts [hs, .ite hs.modDrw hs.modDrw.hostOutPush]

theorem State.Canonical.hostLogged {d addr n : Nat} (hs : s.Canonical) : (s.hostLogged d addr n).Canonical :=
  .foldl (fun _ _ hs => hs.hostLog) hs

theorem State.Canonical.hostWrite {d addr : Nat} {bs : List Byte} (hs : s.Canonical) : (s.hostWrite d addr bs).Canonical :=
  .ite hs.dwrite (.ite hs hs.hostLogged.hostOutPush)

theorem State.Canonical.hostData {d addr : Nat} {bs : List Byte} (hs : s.Canonical) : (s.hostData d addr bs).Canonical :=
  .ite hs hs.hostLogged.portData

theorem State.Canonical.carriedError {d blk code addr : Nat} (hs : s.Canonical) : (s.carriedError d blk code addr).Canonical :=
  .ite hs.accessError hs.recordError

theorem State.Canonical.heapWrite {d blk off : Nat} {bs : List Byte} (hs : s.Canonical) : (s.heapWrite d blk off bs).Canonical :=
  .ite hs.putLines.eccLines.markDirty hs.carriedError

theorem State.Canonical.heapReadErr {d blk off n : Nat} (hs : s.Canonical) : (s.heapReadErr d blk off n).Canonical :=
  .ite hs hs.carriedError

theorem State.Canonical.postStatus {d : Nat} {c : Cmd} (hs : s.Canonical) : (s.postStatus d c).Canonical := .ite hs.hostWrite hs

theorem State.Canonical.jnlTake {x n : Nat} (hs : s.Canonical) : (s.jnlTake x n).Canonical := hs.upd.put.maxTo

theorem State.Canonical.jnlGive {x a b : Nat} (hs : s.Canonical) : (s.jnlGive x a b).Canonical := hs.upd.put

theorem State.Canonical.jnlPut {d : Nat} {same : List Byte → Bool} {r : List Byte} (hs : s.Canonical) : (s.jnlPut d same r).Canonical :=
  hs.upd.pmuEvent

theorem State.Canonical.jnlWrite {d q k type part : Nat} {payload : List Byte} (hs : s.Canonical) : (s.jnlWrite d q k type part
    payload).Canonical :=
  hs.jnlPut

theorem State.Canonical.jnlDrop {d q k : Nat} (hs : s.Canonical) : (s.jnlDrop d q k).Canonical := hs.upd

theorem State.Canonical.charge (hs : s.Canonical) : s.charge.Canonical :=
  .upd (.foldl (fun _ _ hs => hs.modCmd) (.foldl (fun _ _ hs => .foldl (fun _ _ hs => hs.put) hs.upd) hs))

theorem State.Canonical.dropWork {d q k : Nat} (hs : s.Canonical) : (s.dropWork d q k).Canonical := hs.charge.upd

theorem State.Canonical.dropReqs {d : Nat} {c : Cmd} {keep : Bool} (hs : s.Canonical) : (s.dropReqs d c keep).Canonical := hs.upd

theorem State.Canonical.trayEnd {c : Cmd} (hs : s.Canonical) : (s.trayEnd c).Canonical := .ite hs.undefBytes hs

theorem State.Canonical.endCmd {d q k state code : Nat} (hs : s.Canonical) : (s.endCmd d q k state code).Canonical := by
  unfold State.endCmd
  split
  exacts [hs, hs.trayEnd.dropReqs.dropWork.modCmd]

theorem State.Canonical.signalCmd {d : Nat} {c : Cmd} (hs : s.Canonical) : (s.signalCmd d c).Canonical := by
  unfold State.signalCmd
  split
  exacts [hs, hs.jnlWrite.tlRaise]

theorem State.Canonical.abandonWaiters {id : Nat} (hs : s.Canonical) : (s.abandonWaiters id).Canonical :=
  .foldl (fun _ _ hs => .foldl (fun _ _ hs => .ite hs.endCmd hs) hs) hs

theorem State.Canonical.abandonTl {id : Nat} (hs : s.Canonical) : (s.abandonTl id).Canonical := hs.modTl.abandonWaiters

theorem State.Canonical.stallBit (hs : s.Canonical) : s.stallBit.Canonical := hs.putB

theorem State.Canonical.setStall {d q : Nat} {k : Option Nat} {v : Bool} (hs : s.Canonical) : (s.setStall d q k v).Canonical :=
  hs.modDrw.stallBit

theorem State.Canonical.jnlCmd {d q k : Nat} {e : List Byte} (hs : s.Canonical) : (s.jnlCmd d q k e).Canonical :=
  .foldl (fun _ _ hs => hs.jnlWrite) hs

theorem State.Canonical.takeCmd {d q k : Nat} {e : List Byte} {known : Bool} (hs : s.Canonical) : (s.takeCmd d q k e known).Canonical :=
  .jnlCmd (.modDrw (.ite hs.jnlTake.setStall hs.jnlTake.setStall.fresh))

theorem State.Canonical.takeEntry {d q : Nat} {e : List Byte} {known : Bool} (hs : s.Canonical) : (s.takeEntry d q e known).Canonical :=
  hs.takeCmd.incWrap

theorem State.Canonical.screenCmd {d q k : Nat} (hs : s.Canonical) : (s.screenCmd d q k).Canonical := by
  unfold State.screenCmd
  split
  exacts [hs, .ite (.endCmd (.ite hs.guestError hs)) (.ite (.endCmd (.ite hs.guestError hs)) (.ite hs.guestError hs))]

theorem State.Canonical.aerError {p f : Nat} {e : HostReadEnd} (hs : s.Canonical) : (s.aerError p f e).Canonical := by
  unfold State.aerError
  dsimp only
  split
  exacts [hs, hs.setFn, hs.setFn.modPort]

theorem State.Canonical.postRunning {d : Nat} {c : Cmd} (hs : s.Canonical) : (s.postRunning d c).Canonical := hs.postStatus.modCmd

theorem State.Canonical.startCmd {d : Nat} {c : Cmd} {total recs source : Nat} (hs : s.Canonical) : (s.startCmd d c total recs
    source).Canonical :=
  .postRunning (.modCmd (.setStall (.jnlTake (.ite hs.pmuEvent hs))))

theorem State.Canonical.dispatch {d q k op : Nat} {recs : Cmd → Nat} {go : Cmd → State} (hs : s.Canonical)
    (hgo : ∀ c, (go c).Canonical) : (s.dispatch d q k op recs go).Canonical := by
  unfold State.dispatch
  split
  · exact hs
  · exact .ite hs (.ite hs.setStall (hgo _))

theorem State.Canonical.statusDue {d q k : Nat} (hs : s.Canonical) : (s.statusDue d q k).Canonical := by
  unfold State.statusDue
  split
  exacts [hs, .ite hs.postRunning hs]

theorem State.Canonical.unitDone {d : Nat} {c : Cmd} {upTo off : Nat} (hs : s.Canonical) : (s.unitDone d c upTo off).Canonical :=
  hs.modCmd.jnlWrite.statusDue

theorem State.Canonical.finishCmd {d : Nat} {c : Cmd} {engine : Nat} (hs : s.Canonical) : (s.finishCmd d c engine).Canonical :=
  .ite (.recordError (.ite hs.trayEnd.dropWork.modCmd.signalCmd hs.trayEnd.dropWork.modCmd)) (.ite hs.trayEnd.dropWork.modCmd.signalCmd
    hs.trayEnd.dropWork.modCmd)

theorem State.Canonical.jnlCount {d : Nat} {f : Fld} {cab : JnlState → JnlState} {n : Nat} (hs : s.Canonical) : (s.jnlCount d f cab
    n).Canonical :=
  .ite hs.upd hs.incSat

theorem State.Canonical.drawerError {d : Nat} {c : Cmd} (hs : s.Canonical) : (s.drawerError d c).Canonical :=
  .ite hs.upd (.ite hs.upd.pfEvent hs.upd)

theorem State.Canonical.closeCheck {d q : Nat} (hs : s.Canonical) : (s.closeCheck d q).Canonical := .ite hs.put hs

theorem State.Canonical.released {d q k : Nat} (hs : s.Canonical) : (s.released d q k).Canonical :=
  .ite hs.incWrap.closeCheck hs.modIq.upd

theorem State.Canonical.cplEvent {d q : Nat} (hs : s.Canonical) : (s.cplEvent d q).Canonical := .ite hs.msixEvent hs.icuRaise

theorem State.Canonical.release {d : Nat} {c : Cmd} (hs : s.Canonical) : (s.release d c).Canonical :=
  .ite (.released (.stallBit (.modDrw (.put (.upd (.ite (.drawerError (.jnlGive (.jnlDrop (.jnlWrite (.ite
    hs.postStatus.hostWrite.hostWrite.signalCmd hs.postStatus.hostWrite.hostWrite))))) (.jnlGive (.jnlDrop (.jnlWrite (.ite
    hs.postStatus.hostWrite.hostWrite.signalCmd hs.postStatus.hostWrite.hostWrite)))))))))) (.cplEvent (.released (.stallBit (.modDrw
    (.put (.upd (.ite (.drawerError (.jnlGive (.jnlDrop (.jnlWrite (.ite hs.postStatus.hostWrite.hostWrite.signalCmd
    hs.postStatus.hostWrite.hostWrite))))) (.jnlGive (.jnlDrop (.jnlWrite (.ite hs.postStatus.hostWrite.hostWrite.signalCmd
    hs.postStatus.hostWrite.hostWrite)))))))))))

theorem State.Canonical.dropCapture {d : Nat} {c : Cmd} (hs : s.Canonical) : (s.dropCapture d c).Canonical := hs.upd

theorem State.Canonical.replay {d : Nat} {c : Cmd} {blk : Nat} (hs : s.Canonical) : (s.replay d c blk).Canonical :=
  .ite hs (.ite hs.jnlWrite.endCmd (.ite hs.jnlWrite.endCmd.jnlCount
    hs.jnlWrite.dropReqs.dropCapture.dropWork.modCmd.postRunning.jnlCount.pmuEvent))

theorem State.Canonical.doorbell {d q t : Nat} (hs : s.Canonical) : (s.doorbell d q t).Canonical :=
  .ite hs (.ite hs.guestError (.ite hs.put hs.guestError))

theorem State.Canonical.completionDoorbell {d q c : Nat} (hs : s.Canonical) : (s.completionDoorbell d q c).Canonical :=
  .ite hs (.ite hs.guestError (.ite hs.put hs.guestError))

theorem State.Canonical.queueEnable {d q engine vector : Nat} (hs : s.Canonical) : (s.queueEnable d q engine vector).Canonical :=
  .ite hs.guestError hs.put.put.put.put.put.put.put.modDrw

theorem State.Canonical.queueDisable {d q : Nat} (hs : s.Canonical) : (s.queueDisable d q).Canonical := .ite hs hs.put.putB

/-! ### Layers -/

theorem State.Canonical.modHead {h : Nat} {g : HeadRt → HeadRt} (hs : s.Canonical) : (s.modHead h g).Canonical := hs.upd

theorem State.Canonical.modDp {h : Nat} {g : PortRt → PortRt} (hs : s.Canonical) : (s.modDp h g).Canonical := hs.upd

theorem State.Canonical.modLayer {h l : Nat} {g : Layer → Layer} (hs : s.Canonical) : (s.modLayer h l g).Canonical := hs.upd

theorem State.Canonical.onLs {h l : Nat} {g : State → Nat → State} (hs : s.Canonical) (hg : ∀ u i, u.Canonical → (g u i).Canonical) :
    (s.onLs h l g).Canonical := by
  unfold State.onLs
  split
  · exact hs
  · exact hg _ _ hs

theorem State.Canonical.dropFlip {h l : Nat} (hs : s.Canonical) : (s.dropFlip h l).Canonical := hs.modLayer.onLs (fun _ _ hs => hs.put)

theorem State.Canonical.discardGroup {h l : Nat} (hs : s.Canonical) : (s.discardGroup h l).Canonical := by
  unfold State.discardGroup
  split
  exacts [hs, .foldl (fun _ _ hs => .ite hs.dropFlip hs.dropFlip.modLayer) hs]

theorem State.Canonical.unbind {h l : Nat} (hs : s.Canonical) : (s.unbind h l).Canonical :=
  .ite hs.put (.put (.modLayer (hs.discardGroup.onLs (fun _ _ hs => hs.put.put))))

theorem State.Canonical.lownWrite {o : Origin} {h l owner slot : Nat} (hs : s.Canonical) : (s.lownWrite o h l owner slot).Canonical :=
  .ite hs.cfgError (.ite hs (.ite hs.put.put (.onLs (.put (.put (by split; exacts [.ite hs.unbind hs.unbind.unbind, hs.unbind]))) (fun _ _
    hs => hs.put.put.put))))

theorem State.Canonical.commitApply {who : Nat} {sel : List (Nat × Desc)} {group : Bool} {seq : Nat} {cx : Option Nat} (hs : s.Canonical)
    : (s.commitApply who sel group seq cx).Canonical :=
  .upd (.foldl (fun _ _ hs => by split; exacts [hs, hs.modLayer.onLs (fun _ _ hs => hs.put.put)]) hs)

theorem State.Canonical.flipGo {d : Nat} {group : Bool} (hs : s.Canonical) : (s.flipGo d group).Canonical :=
  .ite hs (.ite hs.put.put.guestError hs.incWrap.put.put.commitApply)

theorem State.Canonical.sflipWrite {h w : Nat} (hs : s.Canonical) : (s.sflipWrite h w).Canonical := hs.modHead.put

theorem State.Canonical.swapRequest {h : Nat} (hs : s.Canonical) : (s.swapRequest h).Canonical := .ite hs hs.put.modHead

theorem State.Canonical.implant (hs : s.Canonical) {f : Fld} {lo n : Nat} {xs : List (Nat × Nat)} : (s.implant f lo n xs).Canonical :=
  .foldl (fun _ _ hs => hs.put) ⟨hs.1, tsorted_filter _ _ hs.2⟩

theorem State.Canonical.swapBanks {h : Nat} (hs : s.Canonical) : (s.swapBanks h).Canonical := hs.implant.implant.modHead.put

theorem State.Canonical.outcome {h l code : Nat} (hs : s.Canonical) : (s.outcome h l code).Canonical :=
  hs.modHead.onLs (fun _ _ hs => hs.put)

theorem State.Canonical.layerOff {h l : Nat} (hs : s.Canonical) : (s.layerOff h l).Canonical := hs.modLayer.onLs (fun _ _ hs => hs.put)

theorem State.Canonical.layerApply {h l : Nat} {f : Flip} (hs : s.Canonical) : (s.layerApply h l f).Canonical :=
  .onLs (.ite hs.modLayer hs.modLayer) (fun _ _ hs => hs.put.put.putB)

theorem State.Canonical.memberAct {h l : Nat} {f : Flip} {code : Nat} (hs : s.Canonical) : (s.memberAct h l f code).Canonical :=
  .ite hs.layerApply.outcome (.ite (.modLayer (.outcome (hs.onLs (fun _ _ hs => hs.incWrap)))) (.ite hs.dropFlip.layerOff.outcome
    hs.dropFlip.outcome))

theorem State.Canonical.decideLayer {h l : Nat} (hs : s.Canonical) : (s.decideLayer h l).Canonical := by
  unfold State.decideLayer
  split
  exacts [hs, .ite hs.modLayer.outcome (.ite hs.memberAct (.ite hs (.foldl (fun _ _ hs => by split; exacts [hs, hs.memberAct]) hs)))]

theorem State.Canonical.layersLatch {h : Nat} (hs : s.Canonical) : (s.layersLatch h).Canonical := by
  refine .foldl (fun _ _ hs => .ite hs.msixEvent hs) (.foldl (fun _ _ hs => hs.decideLayer) (.foldl (fun s l hs => ?_) hs))
  have h1 : (if (s.layer h l).cancelled then (s.modLayer h l (fun y => { y with cancelled := false })).outcome h l 5 else s).Canonical :=
    .ite hs.modLayer.outcome hs
  refine .ite h1.layerOff.outcome ?_
  split
  · exact .ite h1.layerOff.outcome h1
  · exact h1

theorem State.Canonical.drawerLayersOff {d : Nat} {place : Option Nat} (hs : s.Canonical) : (s.drawerLayersOff d place).Canonical :=
  .foldl (fun _ _ hs => .ite hs.discardGroup.modLayer hs) hs

theorem State.Canonical.drawerUnbind {d : Nat} (hs : s.Canonical) : (s.drawerUnbind d).Canonical :=
  .foldl (fun _ _ hs => .foldl (fun _ _ hs => .ite hs.unbind hs) hs) hs

theorem State.Canonical.layersDown (hs : s.Canonical) : s.layersDown.Canonical :=
  .foldl (fun _ _ hs => hs.modLayer.onLs (fun _ _ hs => hs.put.put.put)) hs

theorem State.Canonical.layersShrunk {d size : Nat} (hs : s.Canonical) : (s.layersShrunk d size).Canonical :=
  .foldl (fun _ _ hs => .ite hs.discardGroup.modLayer hs) hs

/-! ### Time -/

theorem State.Canonical.putStState {v : Nat} (hs : s.Canonical) : (s.putStState v).Canonical :=
  .ite hs.put.put (.ite (.ite hs.put.upd.faultN hs.put.upd) hs.put)

theorem State.Canonical.fireAlarm (hs : s.Canonical) : s.fireAlarm.Canonical := .ite (.ite hs.hutchRaise.icuLine hs.hutchRaise) hs

theorem State.Canonical.stStep {v : Nat} (hs : s.Canonical) : (s.stStep v).Canonical :=
  .ite hs.upd.put.fireAllTimers.fireAlarm hs.upd.put.fireAllTimers

theorem State.Canonical.stSlew {e : Int} (hs : s.Canonical) : (s.stSlew e).Canonical := hs.putB.put.upd

theorem State.Canonical.stSet {v : Nat} (hs : s.Canonical) : (s.stSet v).Canonical :=
  .ite hs.stSlew.stStep hs.stSlew.put.putStState.maxTo.upd

theorem State.Canonical.calibrate (hs : s.Canonical) : s.calibrate.Canonical := .ite hs.upd hs.put.upd

theorem State.Canonical.stTick (hs : s.Canonical) : s.stTick.Canonical :=
  .ite (.ite (.ite hs.upd (.ite hs.upd.upd hs.upd)) (.ite (.upd (.ite hs.upd (.ite hs.upd.upd hs.upd))) (.ite hs.upd (.ite hs.upd.upd
    hs.upd)))) (.ite (.calibrate (.upd (.put (.ite (.ite hs.upd (.ite hs.upd.upd hs.upd)) (.ite (.upd (.ite hs.upd (.ite hs.upd.upd
    hs.upd))) (.ite hs.upd (.ite hs.upd.upd hs.upd))))))) (.ite (.upd (.calibrate (.upd (.put (.ite (.ite hs.upd (.ite hs.upd.upd hs.upd))
    (.ite (.upd (.ite hs.upd (.ite hs.upd.upd hs.upd))) (.ite hs.upd (.ite hs.upd.upd hs.upd)))))))) (.incSat (.upd (.calibrate (.upd
    (.put (.ite (.ite hs.upd (.ite hs.upd.upd hs.upd)) (.ite (.upd (.ite hs.upd (.ite hs.upd.upd hs.upd))) (.ite hs.upd (.ite hs.upd.upd
    hs.upd)))))))))))

theorem State.Canonical.ppsDiscipline {e : Int} (hs : s.Canonical) : (s.ppsDiscipline e).Canonical :=
  .ite (.putStState (.upd (.put (.ite hs.stSlew.stStep hs.stSlew)))) (.ite (.putStState (.upd (.put (.ite hs.stSlew.stStep hs.stSlew))))
    (.upd (.put (.ite hs.stSlew.stStep hs.stSlew))))

theorem State.Canonical.armPps {v : Nat} (hs : s.Canonical) : (s.armPps v).Canonical := hs.put.put.upd

theorem State.Canonical.alarmWrite {st : Nat} {en : Bool} (hs : s.Canonical) : (s.alarmWrite st en).Canonical :=
  hs.put.putB.icuLine.fireAlarm

/-! ### PlkLink -/

theorem State.Canonical.modPlk {g : Plk → Plk} (hs : s.Canonical) : (s.modPlk g).Canonical := hs.upd

theorem State.Canonical.modPport {p : Nat} {g : PlkPortRt → PlkPortRt} (hs : s.Canonical) : (s.modPport p g).Canonical := hs.modPlk

theorem State.Canonical.flitOut {p : Nat} {f : Flit} (hs : s.Canonical) : (s.flitOut p f).Canonical :=
  .modPlk (.ite (.pmuEvent (.ite hs.pmuEvent hs)) (.ite hs.pmuEvent hs))

theorem State.Canonical.pump (hs : s.Canonical) {p n : Nat} : (s.pump p n).Canonical := by
  induction n generalizing s with
  | zero => exact hs
  | succ n ih =>
    unfold State.pump
    exact .ite hs (by split; exacts [hs, ih hs.flitOut.modPport])

theorem State.Canonical.sendOn {p : Nat} {m : Msg} (hs : s.Canonical) : (s.sendOn p m).Canonical := .ite hs hs.modPport.pump

theorem State.Canonical.sendLocal {p : Nat} {m : Msg} (hs : s.Canonical) : (s.sendLocal p m).Canonical := hs.sendOn

theorem State.Canonical.plkDrop (hs : s.Canonical) : s.plkDrop.Canonical := hs.incSat

theorem State.Canonical.sendTo {m : Msg} (hs : s.Canonical) : (s.sendTo m).Canonical := .ite hs.sendOn hs.plkDrop

theorem State.Canonical.plkLine (hs : s.Canonical) : s.plkLine.Canonical := hs.icuLine

theorem State.Canonical.advertise {ports : List Nat} {es : List (Nat × Route)} (hs : s.Canonical) : (s.advertise ports es).Canonical :=
  .foldl (fun _ _ hs => .foldl (fun _ _ hs => hs.sendLocal) hs) hs

theorem State.Canonical.plkTickOk (hs : s.Canonical) : s.plkTickOk.Canonical := hs.putB.plkLine

theorem State.Canonical.plkStatus (hs : s.Canonical) : s.plkStatus.Canonical :=
  .plkTickOk (by split; exacts [hs.put.put.put, .ite (.put (.ite hs.put.put.put hs.put.put.put.modPlk)) (.ite hs.put.put.put
    hs.put.put.put.modPlk)])

theorem State.Canonical.modImp {i : Nat} {g : ImportRt → ImportRt} (hs : s.Canonical) : (s.modImp i g).Canonical := hs.modPlk

theorem State.Canonical.modExp {e : Nat} {g : ExportRt → ExportRt} (hs : s.Canonical) : (s.modExp e g).Canonical := hs.modPlk.put

theorem State.Canonical.returnHeld (hs : s.Canonical) : s.returnHeld.Canonical := .foldl (fun _ _ hs => .ite hs hs.modPport.flitOut) hs

theorem State.Canonical.subscribe {i st : Nat} (hs : s.Canonical) : (s.subscribe i st).Canonical := hs.modImp.put.returnHeld.sendTo

theorem State.Canonical.reachChange {id : Nat} {now : Bool} (hs : s.Canonical) : (s.reachChange id now).Canonical :=
  .ite (.foldl (fun _ _ hs => .ite hs.subscribe hs) hs) (.foldl (fun _ _ hs => .ite hs.modExp hs) (.foldl (fun _ _ hs => .ite hs.put hs)
    hs))

theorem State.Canonical.setRoutes {es : List (Nat × Route)} (hs : s.Canonical) : (s.setRoutes es).Canonical :=
  .ite hs (.foldl (fun _ _ hs => hs.reachChange) (.foldl (fun _ _ hs => hs.reachChange) (.plkStatus (.advertise (.foldl (fun _ _ hs =>
    hs.modPlk) hs)))))

theorem State.Canonical.ownHeard {seq : Nat} (hs : s.Canonical) : (s.ownHeard seq).Canonical :=
  .ite (.ite hs.modPlk hs) (.ite hs.put.recordError.plkLine hs)

theorem State.Canonical.routeIn {p : Nat} {m : Msg} (hs : s.Canonical) : (s.routeIn p m).Canonical :=
  .setRoutes (.foldl_fst (fun _ _ hs => .ite_fst hs.ownHeard (.ite_fst hs hs)) hs)

theorem State.Canonical.originate (hs : s.Canonical) : s.originate.Canonical := hs.modPlk.advertise.plkStatus

theorem State.Canonical.plkDown {p st : Nat} (hs : s.Canonical) : (s.plkDown p st).Canonical :=
  .ite hs.put.put.modPport (.foldl (fun _ _ hs => hs.subscribe) hs.put.put.modPport.incSat.setRoutes.plkLine)

theorem State.Canonical.plkTrain {p : Nat} (hs : s.Canonical) : (s.plkTrain p).Canonical := .ite hs.put.modPport hs.put

theorem State.Canonical.portRetrain {p : Nat} (hs : s.Canonical) : (s.portRetrain p).Canonical := .ite hs hs.plkDown.plkTrain

theorem State.Canonical.leavePort {p reason : Nat} (hs : s.Canonical) : (s.leavePort p reason).Canonical := hs.sendLocal.plkDown

theorem State.Canonical.leaveCheck (hs : s.Canonical) : s.leaveCheck.Canonical :=
  .foldl (fun _ _ hs => by split; exacts [hs, .ite hs hs.leavePort]) hs

theorem State.Canonical.leaveSoon {p why : Nat} (hs : s.Canonical) : (s.leaveSoon p why).Canonical := hs.modPport.leaveCheck

theorem State.Canonical.idle (hs : s.Canonical) : s.idle.Canonical := hs.stTick.leaveCheck

theorem State.Canonical.portDisable {p : Nat} (hs : s.Canonical) : (s.portDisable p).Canonical :=
  .ite hs.putImg.leaveSoon hs.putImg.plkDown

theorem State.Canonical.syncReq {p : Nat} {m : Msg} (hs : s.Canonical) : (s.syncReq p m).Canonical := hs.sendLocal

theorem State.Canonical.syncSteer {off : Int} {parentState : Nat} (hs : s.Canonical) : (s.syncSteer off parentState).Canonical :=
  .ite hs.modPlk.putStState.put.stSet (.putStState (.put (.ite hs.modPlk.stSlew.stStep hs.modPlk.stSlew)))

theorem State.Canonical.syncRsp {p : Nat} {m : Msg} (hs : s.Canonical) : (s.syncRsp p m).Canonical := by
  unfold State.syncRsp
  dsimp only
  split
  exacts [.ite hs.put (.plkTickOk (.ite (.syncSteer (.put (.modPlk (.ite hs.put.put.put hs.put.put)))) (.modPlk (.ite hs.put.put.put
    hs.put.put)))), (by split; exacts [hs.put, .ite hs.put (.ite hs.put.put.putStState.put.stSet.plkTickOk (.ite hs.put.stStep hs.put))])]

/-! ### Audio -/

theorem State.Canonical.modAud {g : Aud → Aud} (hs : s.Canonical) : (s.modAud g).Canonical := hs.upd

theorem State.Canonical.modVoice {v : Nat} {g : Voice → Voice} (hs : s.Canonical) : (s.modVoice v g).Canonical := hs.modAud

theorem State.Canonical.modStream {k : Nat} {g : StreamRt → StreamRt} (hs : s.Canonical) : (s.modStream k g).Canonical := hs.modAud

theorem State.Canonical.modOut {o : Nat} {g : OutRt → OutRt} (hs : s.Canonical) : (s.modOut o g).Canonical := hs.modAud

theorem State.Canonical.audFresh (hs : s.Canonical) : s.audFresh.Canonical := hs.modAud

theorem State.Canonical.voicePlay {v : Nat} (hs : s.Canonical) : (s.voicePlay v).Canonical := .ite hs hs.put.modVoice

theorem State.Canonical.voiceStop {v : Nat} (hs : s.Canonical) : (s.voiceStop v).Canonical := .ite hs.modVoice hs

theorem State.Canonical.voiceEnd {v : Nat} (hs : s.Canonical) : (s.voiceEnd v).Canonical := hs.put.modVoice

theorem State.Canonical.voicesStop (hs : s.Canonical) : s.voicesStop.Canonical := .foldl (fun _ _ hs => hs.voiceStop) hs

theorem State.Canonical.voiceStep {v : Nat} (hs : s.Canonical) : (s.voiceStep v).1.Canonical :=
  .ite_fst hs (.ite_fst hs.voiceEnd hs.modVoice)

theorem State.Canonical.streamSettle {k : Nat} (hs : s.Canonical) : (s.streamSettle k).Canonical :=
  .ite hs (.modStream (.ite hs hs.hostData))

theorem State.Canonical.xrun {k : Nat} (hs : s.Canonical) : (s.xrun k).Canonical := hs.incSat.pmuEvent

theorem State.Canonical.firstSt {k st : Nat} (hs : s.Canonical) : (s.firstSt k st).Canonical := .ite hs.put hs

theorem State.Canonical.periodPlayed {k : Nat} {c : Cmd} (hs : s.Canonical) : (s.periodPlayed k c).Canonical :=
  .ite hs.modCmd.jnlWrite hs.modCmd.jnlWrite.finishCmd.modStream

theorem State.Canonical.playStep {x : AudioIn} {k : Nat} (hs : s.Canonical) : (s.playStep x k).1.Canonical := by
  have h1 := hs.streamSettle (k := k)
  unfold State.playStep
  extract_lets s1 r raw
  split
  · exact h1.modStream
  · refine .ite_fst h1 (.ite_fst h1.modStream ?_)
    cases s1.streamCmd k with
    | none => exact h1.xrun
    | some c =>
      refine .ite_fst h1 ?_
      cases raw with
      | none => exact h1.xrun
      | some vs => exact .ite (.periodPlayed (.modStream (.firstSt (.ite h1.portRead h1)))) (.modStream (.firstSt (.ite h1.portRead h1)))

theorem State.Canonical.captureStep {x : AudioIn} {v : AudVals} {k : Nat} (hs : s.Canonical) : (s.captureStep x v k).Canonical := by
  have h1 := hs.streamSettle (k := k)
  refine .ite h1 (.ite h1.modStream ?_)
  extract_lets m smp waits full s2 s3
  have h3 : s3.Canonical := .ite h1 (.modStream (.ite h1.xrun h1))
  clear_value s3
  split
  · exact h3
  · extract_lets r n
    split
    · exact h3
    · exact h3.firstSt.hostData.modStream

theorem State.Canonical.audSquash {d : Nat} (hs : s.Canonical) : (s.audSquash d).Canonical := .foldl (fun _ _ hs => hs.modStream) hs

theorem State.Canonical.audReset {d : Nat} (hs : s.Canonical) : (s.audReset d).Canonical := .foldl (fun _ _ hs => hs.put.modStream) hs

theorem State.Canonical.streamEnable {d j : Nat} (hs : s.Canonical) : (s.streamEnable d j).Canonical :=
  .ite hs (.ite hs.put.modStream hs.guestError)

theorem State.Canonical.voiceWrite {o : Origin} {v b : Nat} {k : State → State} (hs : s.Canonical)
    (hk : ∀ u, u.Canonical → (k u).Canonical) : (s.voiceWrite o v b k).Canonical := hs.guarded hk (fun _ hs => hs)

theorem State.Canonical.bqWrite {i v : Nat} (hs : s.Canonical) : (s.bqWrite i v).Canonical := .ite hs.modAud hs.putImg

theorem State.Canonical.bankSwap (hs : s.Canonical) : s.bankSwap.Canonical :=
  .ite hs (.foldl (fun _ _ hs => hs.putImg) (.modAud (.put (.foldl (fun _ _ hs => hs.put.modAud) hs))))

theorem State.Canonical.sendStep {v : AudVals} {t : Nat} (hs : s.Canonical) : (s.sendStep v t).Canonical :=
  .ite hs.modAud (.ite hs.modAud hs.modAud.sendTo)

theorem State.Canonical.audioIn {m : Msg} (hs : s.Canonical) : (s.audioIn m).Canonical := .ite hs hs.modAud

theorem State.Canonical.recvStep {r : Nat} (hs : s.Canonical) : (s.recvStep r).1.Canonical :=
  .ite_fst hs (by dsimp only; split; exacts [hs.modAud.incSat, (by split; exacts [hs, .ite_fst hs.incSat hs.incSat])])

theorem State.Canonical.outGains {o : Nat} (hs : s.Canonical) : (s.outGains o).Canonical :=
  .ite (by split; exacts [hs.modOut, hs.modOut]) (.ite hs.modOut hs)

theorem State.Canonical.outStep {v : AudVals} {o : Nat} (hs : s.Canonical) : (s.outStep v o).1.Canonical := hs.outGains.modOut

theorem State.Canonical.eachOf {α β : Type} {g : State → α → State × β} {xs : List α} (hs : s.Canonical)
    (hg : ∀ u x, u.Canonical → (g u x).1.Canonical) : (s.eachOf g xs).1.Canonical := by
  induction xs generalizing s with
  | nil => exact hs
  | cons x xs ih => exact ih (hg s x hs)

theorem State.Canonical.of_eachOf {α β : Type} {g : State → α → State × β} {xs : List α} {t : State} {ys : List β}
    (hs : s.Canonical) (h : s.eachOf g xs = (t, ys)) (hg : ∀ u x, u.Canonical → (g u x).1.Canonical) : t.Canonical := by
  have h1 := hs.eachOf (xs := xs) hg
  rwa [h] at h1

/-! ### Audit -/

theorem State.Canonical.auditWrapCheck (hs : s.Canonical) : s.auditWrapCheck.Canonical := hs.putB.icuLine

theorem State.Canonical.auditCountHeld (hs : s.Canonical) : s.auditCountHeld.Canonical := hs.put

theorem State.Canonical.sealOpen {cause : Nat} (hs : s.Canonical) : (s.sealOpen cause).Canonical :=
  .ite hs (by split; exacts [hs, .ite hs.upd (by split; exacts [hs.upd, hs.upd.upd])])

theorem State.Canonical.sealFound (hs : s.Canonical) : s.sealFound.Canonical := by
  unfold State.sealFound
  split
  exacts [hs, (by split; exacts [hs, hs.upd.sealOpen])]

theorem State.Canonical.loseOldest (hs : s.Canonical) : s.loseOldest.Canonical := by
  unfold State.loseOldest
  split
  exacts [hs, .ite hs.upd.incSat hs.upd]

theorem State.Canonical.openBlock (hs : s.Canonical) : s.openBlock.Canonical := .upd (.ite hs hs.loseOldest)

theorem State.Canonical.flushOne (hs : s.Canonical) : s.flushOne.Canonical := by
  unfold State.flushOne
  split
  exacts [hs, .auditWrapCheck (.auditCountHeld (.ite (.ite (.sealOpen (.upd (.ite (.ite hs.sealOpen hs) (.openBlock (.ite hs.sealOpen
    hs))))) (.upd (.ite (.ite hs.sealOpen hs) (.openBlock (.ite hs.sealOpen hs))))) (.putBit (.ite (.sealOpen (.upd (.ite (.ite
    hs.sealOpen hs) (.openBlock (.ite hs.sealOpen hs))))) (.upd (.ite (.ite hs.sealOpen hs) (.openBlock (.ite hs.sealOpen hs))))))))]

theorem State.Canonical.flushN (hs : s.Canonical) {n : Nat} : (s.flushN n).Canonical := by
  induction n generalizing s with
  | zero => exact hs
  | succ n ih => exact ih hs.flushOne

theorem State.Canonical.flushAndSeal {cause : Nat} (hs : s.Canonical) : (s.flushAndSeal cause).Canonical := hs.flushN.sealOpen

theorem State.Canonical.slotFails (hs : s.Canonical) : s.slotFails.Canonical := .recordError (.ite hs.upd.loseOldest hs.upd)

theorem State.Canonical.markTo {start seq : Nat} (hs : s.Canonical) : (s.markTo start seq).Canonical :=
  .ite hs hs.put.put.upd.auditWrapCheck

theorem State.Canonical.ackTo {d n : Nat} (hs : s.Canonical) : (s.ackTo d n).Canonical := by
  unfold State.ackTo
  dsimp only
  split
  exacts [hs, .ite hs hs.setErrq]

theorem State.Canonical.swrepEffect {o : Origin} {v : Nat} (hs : s.Canonical) : (s.swrepEffect o v).Canonical :=
  .ite hs (.ite hs.recordError (.ite hs.recordError hs.recordError))

theorem State.Canonical.detected {e : ErrIn} (hs : s.Canonical) : (s.detected e).Canonical := .ite hs hs.recordError

/-! ### Witness -/

theorem State.Canonical.modRegion {h r : Nat} {g : Region → Region} (hs : s.Canonical) : (s.modRegion h r g).Canonical := hs.upd

theorem State.Canonical.witLine (hs : s.Canonical) : s.witLine.Canonical := hs.icuLine

theorem State.Canonical.witEvent {h frame kind regions newState : Nat} (hs : s.Canonical) : (s.witEvent h frame kind regions
    newState).Canonical :=
  .ite hs.put.incSat hs.upd.witLine

theorem State.Canonical.regionSet {h r frame : Nat} (hs : s.Canonical) : (s.regionSet h r frame).Canonical :=
  .ite hs.modRegion.modRegion.put.putB.witEvent hs.modRegion.modRegion.put.putB

theorem State.Canonical.regionStaged {h r : Nat} (hs : s.Canonical) : (s.regionStaged h r).Canonical := hs.put.modRegion

theorem State.Canonical.regionsLatch {h frame : Nat} (hs : s.Canonical) : (s.regionsLatch h frame).Canonical :=
  .foldl (fun _ _ hs => by split; exacts [hs, .ite hs.regionSet hs]) hs

theorem State.Canonical.regionsRecheck {h : Nat} (hs : s.Canonical) : (s.regionsRecheck h).Canonical :=
  .foldl (fun _ _ hs => .ite hs.regionSet hs) hs

theorem State.Canonical.witLatch {h frame : Nat} (hs : s.Canonical) : (s.witLatch h frame).Canonical := by
  have h1 := hs.regionsLatch (h := h) (frame := frame)
  unfold State.witLatch
  extract_lets s1 cur live trips worst r x s2 s3 s4
  have h3 : s3.Canonical := .foldl (fun _ _ hs => hs.modRegion) h1.upd
  clear_value s3
  have h4 : s4.Canonical := .ite h3.faultN h3
  clear_value s4
  exact .ite h4.put.witEvent (.ite h4.witEvent h4)

theorem State.Canonical.witLeave {h : Nat} (hs : s.Canonical) : (s.witLeave h).Canonical :=
  .put (.foldl (fun _ _ hs => hs.modRegion) hs.upd)

theorem State.Canonical.proofCompare {h f : Nat} {made : Bool} (hs : s.Canonical) : (s.proofCompare h f made).Canonical :=
  .ite hs.incWrap hs.put.upd.witEvent

theorem State.Canonical.regionDone {h : Nat} {x : RegionRes} (hs : s.Canonical) : (s.regionDone h x).Canonical :=
  .ite (.incSat (.put (.modRegion (.ite hs.put.put hs)))) (.ite (.put (.modRegion (.ite hs.put.put hs))) (.modRegion (.ite hs.put.put hs)))

theorem State.Canonical.witPop (hs : s.Canonical) : s.witPop.Canonical := hs.upd.witLine

/-! ### Heads -/

theorem State.Canonical.headIrq {h b : Nat} (hs : s.Canonical) : (s.headIrq h b).Canonical := .ite hs.putBit.icuRaise hs

theorem State.Canonical.portLine {h : Nat} (hs : s.Canonical) : (s.portLine h).Canonical := hs.icuLine

theorem State.Canonical.holdEdid {h : Nat} {e : List Byte} (hs : s.Canonical) : (s.holdEdid h e).Canonical :=
  .put (.foldl (fun _ _ hs => hs.put) hs)

theorem State.Canonical.readSink {h : Nat} {k : Sink} (hs : s.Canonical) : (s.readSink h k).Canonical := hs.modDp.holdEdid

theorem State.Canonical.trainFailed {h : Nat} (hs : s.Canonical) : (s.trainFailed h).Canonical :=
  .portLine (.modDp (.ite hs.put.put hs.put.put.put))

theorem State.Canonical.trainBegin {h : Nat} {retrain : Bool} (hs : s.Canonical) : (s.trainBegin h retrain).Canonical := by
  unfold State.trainBegin
  dsimp only
  split
  exacts [.trainFailed (.ite hs.modDp.put.incSat hs.modDp), .portLine (.put (.modDp (.ite hs.modDp.put.incSat hs.modDp)))]

theorem State.Canonical.linkStart {h : Nat} {k : Sink} (hs : s.Canonical) : (s.linkStart h k).Canonical :=
  .ite hs.modDp hs.readSink.trainBegin

theorem State.Canonical.linkDown {h : Nat} (hs : s.Canonical) : (s.linkDown h).Canonical := hs.modDp.put.put.put

theorem State.Canonical.blDrive {h : Nat} (hs : s.Canonical) : (s.blDrive h).Canonical := hs.upd

theorem State.Canonical.blOff {h : Nat} (hs : s.Canonical) : (s.blOff h).Canonical := hs.modDp.blDrive

theorem State.Canonical.panelPin {h : Nat} {v : Bool} (hs : s.Canonical) : (s.panelPin h v).Canonical := hs.upd

theorem State.Canonical.aggDemand (hs : s.Canonical) : s.aggDemand.Canonical := hs.put

theorem State.Canonical.headStopped {h : Nat} (hs : s.Canonical) : (s.headStopped h).Canonical :=
  hs.blOff.linkDown.witLeave.put.put.put.put.put.aggDemand.modHead

theorem State.Canonical.telltaleLatch {h : Nat} (hs : s.Canonical) : (s.telltaleLatch h).Canonical := hs.upd

theorem State.Canonical.telltaleStart {h : Nat} (hs : s.Canonical) : (s.telltaleStart h).Canonical :=
  .ite hs (.upd (.modHead (by split; exacts [hs, hs.putB.upd])))

theorem State.Canonical.fetchLatch {h : Nat} (hs : s.Canonical) : (s.fetchLatch h).Canonical := hs.put.modHead.aggDemand

theorem State.Canonical.pipeLatch {h : Nat} (hs : s.Canonical) : (s.pipeLatch h).Canonical := by
  unfold State.pipeLatch
  split
  exacts [hs, .ite hs.swapBanks.put.modHead hs]

theorem State.Canonical.sflipLatch {h : Nat} (hs : s.Canonical) : (s.sflipLatch h).Canonical := hs.put.modHead

theorem State.Canonical.phaseErr {h : Nat} {e : Int} (hs : s.Canonical) : (s.phaseErr h e).Canonical :=
  .ite (.headIrq (.put (.putB (.ite hs.put.put.modHead hs.put.fresh.put.modHead)))) (.put (.putB (.ite hs.put.put.modHead
    hs.put.fresh.put.modHead)))

theorem State.Canonical.holdover {h : Nat} (hs : s.Canonical) : (s.holdover h).Canonical :=
  .ite hs.put.put.modHead.headIrq hs.put.put.modHead

theorem State.Canonical.frameSync (hs : s.Canonical) : s.frameSync.Canonical := hs.upd

theorem State.Canonical.frameTiming {h : Nat} {e : Int} (hs : s.Canonical) : (s.frameTiming h e).Canonical :=
  .ite hs (.ite (.ite hs hs.holdover) (.ite (.ite hs.put.put.put.modHead.headIrq hs.put.put.put.modHead) hs.put.phaseErr))

theorem State.Canonical.fetchErrors {h : Nat} (hs : s.Canonical) : (s.fetchErrors h).Canonical :=
  .ite hs (.foldl (fun _ _ hs => by split; exacts [hs, hs.accessError]) hs)

theorem State.Canonical.captureFrame {h : Nat} (hs : s.Canonical) : (s.captureFrame h).Canonical := hs.modHead

theorem State.Canonical.frameStart {h minLeadUs : Nat} {e : Int} (hs : s.Canonical) : (s.frameStart h minLeadUs e).Canonical :=
  .ite hs (.headIrq (.captureFrame (.ite (.frameSync (.telltaleStart (.ite (.ite
    hs.put.put.put.frameTiming.modHead.fetchErrors.put.putB.put.modDp.blDrive.modHead
    hs.put.put.put.frameTiming.modHead.fetchErrors.put.putB.put.modDp.blDrive) (.upd (.ite
    hs.put.put.put.frameTiming.modHead.fetchErrors.put.putB.put.modDp.blDrive.modHead
    hs.put.put.put.frameTiming.modHead.fetchErrors.put.putB.put.modDp.blDrive))))) (.telltaleStart (.ite (.ite
    hs.put.put.put.frameTiming.modHead.fetchErrors.put.putB.put.modDp.blDrive.modHead
    hs.put.put.put.frameTiming.modHead.fetchErrors.put.putB.put.modDp.blDrive) (.upd (.ite
    hs.put.put.put.frameTiming.modHead.fetchErrors.put.putB.put.modDp.blDrive.modHead
    hs.put.put.put.frameTiming.modHead.fetchErrors.put.putB.put.modDp.blDrive)))))))

theorem State.Canonical.headStart {h : Nat} {image : Bool} (hs : s.Canonical) : (s.headStart h image).Canonical :=
  .ite hs.putImg (.ite hs.putImg.put hs.putImg.put.modHead)

theorem State.Canonical.headStop {h : Nat} (hs : s.Canonical) : (s.headStop h).Canonical :=
  .ite (.ite hs.putImg.modHead hs.putImg.headStopped) (.ite hs.putImg.headStopped hs.putImg)

theorem State.Canonical.runWrite {o : Origin} {h v : Nat} {k : State → State} (hs : s.Canonical)
    (hk : ∀ u, u.Canonical → (k u).Canonical) : (s.runWrite o h v k).Canonical := .ite hs (hs.guarded hk (fun _ hs => hs))

/-! ### Gpu -/

theorem State.Canonical.modBg {g : Nat} {k : BenchGrp → BenchGrp} (hs : s.Canonical) : (s.modBg g k).Canonical := hs.upd

theorem State.Canonical.setBg {g st : Nat} (hs : s.Canonical) : (s.setBg g st).Canonical := hs.put.putBit.putBit.putBit

theorem State.Canonical.shortCheck (hs : s.Canonical) : s.shortCheck.Canonical := .ite hs.put hs

theorem State.Canonical.giveHold {g : Nat} {h : Hold} (hs : s.Canonical) : (s.giveHold g h).Canonical := hs.modBg

theorem State.Canonical.resumeGroup {g : Nat} (hs : s.Canonical) : (s.resumeGroup g).Canonical := hs.modBg

theorem State.Canonical.cxStarted {c q seq : Nat} (hs : s.Canonical) : (s.cxStarted c q seq).Canonical := hs.upd

theorem State.Canonical.windowStart (hs : s.Canonical) : s.windowStart.Canonical :=
  .upd (.put (.putB (.incWrap (.foldl (fun _ _ hs => hs.put.put.put.put) hs.charge.shortCheck))))

theorem State.Canonical.shareWrite {c v : Nat} (hs : s.Canonical) : (s.shareWrite c v).Canonical := .ite hs hs.put.putB

theorem State.Canonical.preempt {ctx g : Nat} (hs : s.Canonical) : (s.preempt ctx g).Canonical :=
  .foldl (fun _ _ hs => hs.incSat) hs.modBg.incSat.pmuEvent

theorem State.Canonical.modCx {id : Nat} {k : CxCmd → CxCmd} (hs : s.Canonical) : (s.modCx id k).Canonical := hs.upd

theorem State.Canonical.cxTake {x : CxCmd} (hs : s.Canonical) : (s.cxTake x).Canonical :=
  .foldl (fun _ _ hs => hs.preempt) (.foldl (fun _ _ hs => hs.giveHold.modBg) hs.modCx)

theorem State.Canonical.discardTiles {g : Nat} (hs : s.Canonical) : (s.discardTiles g).Canonical :=
  .foldl (fun _ _ hs => .foldl (fun _ _ hs => .ite hs hs.modCmd.incSat.pmuEvent) hs) hs

theorem State.Canonical.gfeCount {d : Nat} {f : Fld} (hs : s.Canonical) : (s.gfeCount d f).Canonical := .ite hs.upd hs.incSat

theorem State.Canonical.passGo {d : Nat} {c : Cmd} {p : PassDesc} {draws : List (Nat × Nat)} {prims : List Prim} {stalls : List (GroupId ×
    Nat)} (hs : s.Canonical) : (s.passGo d c p draws prims stalls).Canonical :=
  .foldl (fun _ _ hs => by split; exacts [hs, .ite hs hs.heapWrite]) (.ite (.undefBytes (.ite (.gfeCount (.ite
    hs.startCmd.modCmd.jnlWrite.gfeCount hs.startCmd.modCmd.jnlWrite.gfeCount)) (.ite hs.startCmd.modCmd.jnlWrite.gfeCount
    hs.startCmd.modCmd.jnlWrite.gfeCount))) (.foldl (fun _ _ hs => .ite hs.incSat hs) (.ite (.gfeCount (.ite
    hs.startCmd.modCmd.jnlWrite.gfeCount hs.startCmd.modCmd.jnlWrite.gfeCount)) (.ite hs.startCmd.modCmd.jnlWrite.gfeCount
    hs.startCmd.modCmd.jnlWrite.gfeCount))))

theorem State.Canonical.tileReadErr {d : Nat} {c : Cmd} {p : PassDesc} {blk i : Nat} (hs : s.Canonical) : (s.tileReadErr d c p blk
    i).Canonical :=
  .ite (.foldl (fun _ _ hs => hs.heapReadErr) (.foldl (fun _ _ hs => .ite (.foldl (fun _ _ hs => hs.heapReadErr) hs) hs) hs)) (.foldl (fun _
    _ hs => .ite (.foldl (fun _ _ hs => hs.heapReadErr) hs) hs) hs)

theorem State.Canonical.takeTile {d : Nat} {c : Cmd} {p : PassDesc} {g i : Nat} (hs : s.Canonical) : (s.takeTile d c p g i).Canonical :=
  .modCmd (.fresh (.cxStarted (.giveHold (.ite hs.tileReadErr hs))))

theorem State.Canonical.storeRows {d blk addr pitch bpp : Nat} {q : Nat × Nat × Nat × Nat} {bs : List Byte} (hs : s.Canonical) :
    (s.storeRows d blk addr pitch bpp q bs).Canonical :=
  .foldl (fun _ _ hs => hs.heapWrite) hs

theorem State.Canonical.sigSerial {d : Nat} {c : Cmd} {k : Nat} {t : Target5} (hs : s.Canonical) : (s.sigSerial d c k t).Canonical :=
  .ite hs hs.heapWrite.modCmd

theorem State.Canonical.storeTarget {d : Nat} {c : Cmd} {blk samples k : Nat} {t : Target5} {i : Nat} {con : List Byte} (hs : s.Canonical)
    : (s.storeTarget d c blk samples k t i con).Canonical :=
  .ite hs (.ite hs.storeRows (.ite hs.gfeCount hs.storeRows.heapWrite.gfeCount.sigSerial))

theorem State.Canonical.storeTile {d : Nat} {c : Cmd} {blk i : Nat} {con : List (List Byte)} (hs : s.Canonical) : (s.storeTile d c blk i
    con).Canonical :=
  .ite (.ite (.storeRows (.foldl (fun _ _ hs => by split; exacts [hs, hs.storeTarget]) hs)) (.foldl (fun _ _ hs => by split; exacts [hs,
    hs.storeTarget]) hs)) (.ite (.heapWrite (.modCmd (.ite (.storeRows (.foldl (fun _ _ hs => by split; exacts [hs, hs.storeTarget]) hs))
    (.foldl (fun _ _ hs => by split; exacts [hs, hs.storeTarget]) hs)))) (.hostData (.modCmd (.ite (.storeRows (.foldl (fun _ _ hs => by
    split; exacts [hs, hs.storeTarget]) hs)) (.foldl (fun _ _ hs => by split; exacts [hs, hs.storeTarget]) hs)))))

theorem State.Canonical.tileRetries {d g n : Nat} (hs : s.Canonical) : (s.tileRetries d g n).Canonical :=
  .foldl (fun _ _ hs => hs.recordError) hs.charge.jnlCount

theorem State.Canonical.tileLeft {d q seq tile g : Nat} (hs : s.Canonical) : (s.tileLeft d q seq tile g).Canonical := by
  unfold State.tileLeft
  dsimp only
  split
  exacts [hs.modCmd, .ite hs.modCmd hs.modCmd.modBg]

theorem State.Canonical.flushTiles {d : Nat} {c : Cmd} (hs : s.Canonical) : (s.flushTiles d c).Canonical :=
  .gfeCount (.jnlWrite (.modCmd (.fresh (.foldl (fun _ _ hs => hs.heapWrite) hs))))

theorem State.Canonical.shaderEnd {d : Nat} {c : Cmd} (hs : s.Canonical) : (s.shaderEnd d c).Canonical := hs.jnlWrite.endCmd

theorem State.Canonical.progStores (hs : s.Canonical) {d blk : Nat} {ws : List (Nat × List Byte)} :
    (s.progStores d blk ws).1.Canonical := by
  induction ws generalizing s with
  | nil => exact hs
  | cons w ws ih => exact .ite_fst (ih hs.heapWrite) hs

theorem State.Canonical.passSigEnd {d : Nat} {c : Cmd} (hs : s.Canonical) : (s.passSigEnd d c).Canonical :=
  .foldl (fun _ _ hs => by split; exacts [hs, .ite hs (.ite hs.heapWrite.heapWrite.heapWrite.heapWrite hs)]) hs

theorem State.Canonical.ctxTimeout {d q seq : Nat} (hs : s.Canonical) : (s.ctxTimeout d q seq).Canonical := hs.jnlWrite.endCmd.incSat

/-! ### Links -/

theorem State.Canonical.hpdIrq {h : Nat} {lockLost : Bool} (hs : s.Canonical) : (s.hpdIrq h lockLost).Canonical :=
  .ite hs.put.portLine.trainBegin hs.put.portLine

theorem State.Canonical.sbEnd {h result : Nat} (hs : s.Canonical) : (s.sbEnd h result).Canonical := hs.put.put.put.modDp.portLine

theorem State.Canonical.headBegin {h : Nat} (hs : s.Canonical) : (s.headBegin h).Canonical :=
  .put (.regionsRecheck (.ite hs.put.modHead.put.put.holdover hs.put.modHead.put.put))

theorem State.Canonical.panelDown {h : Nat} (hs : s.Canonical) : (s.panelDown h).Canonical := hs.blOff.linkDown.panelPin.modDp

theorem State.Canonical.panelRaise {h : Nat} (hs : s.Canonical) : (s.panelRaise h).Canonical := .ite hs.panelPin.modDp hs.modDp

theorem State.Canonical.panelWrite {h : Nat} (hs : s.Canonical) : (s.panelWrite h).Canonical :=
  .blDrive (.ite (.ite hs hs.panelRaise) hs.blOff.modDp)

theorem State.Canonical.sbStart {h : Nat} {r : SbReq} (hs : s.Canonical) : (s.sbStart h r).Canonical :=
  .ite hs (.ite hs.sbEnd hs.put.modDp)

/-! ### Touch -/

theorem State.Canonical.modPanel {p : Nat} {g : Panel → Panel} (hs : s.Canonical) : (s.modPanel p g).Canonical := hs.upd

theorem State.Canonical.tchRing {d : Nat} {r : TchRec} (hs : s.Canonical) : (s.tchRing d r).Canonical :=
  .ite hs (.ite hs.incSat.put (.ite hs.hostWrite.hostWrite.incWrap.put.upd hs.hostWrite.hostWrite.incWrap.put))

theorem State.Canonical.tchLines (hs : s.Canonical) : s.tchLines.Canonical := hs.icuLine.icuLine

theorem State.Canonical.tchOwner {owner r : Nat} {x : TchRec} (hs : s.Canonical) : (s.tchOwner owner r x).Canonical :=
  .ite hs.tchRing (.ite (.ite hs.incSat hs.upd) hs)

theorem State.Canonical.tchDeliver {r : Nat} {x : TchRec} (hs : s.Canonical) : (s.tchDeliver r x).Canonical :=
  .ite (.sendTo (.tchOwner (.ite hs.pmuEvent hs))) (.tchOwner (.ite hs.pmuEvent hs))

theorem State.Canonical.tchVectors {old : State} (hs : s.Canonical) : (s.tchVectors old).Canonical :=
  .foldl (fun _ _ hs => hs.msixEvent) hs

theorem State.Canonical.touchOut {p event : Nat} {t : Touch} {flags : Nat} (hs : s.Canonical) : (s.touchOut p event t flags).Canonical := by
  unfold State.touchOut
  split
  exacts [hs, hs.tchDeliver]

theorem State.Canonical.cancelTouches {p : Nat} (hs : s.Canonical) : (s.cancelTouches p).Canonical :=
  .put (.modPanel (by split; exacts [.tchDeliver (.foldl (fun _ _ hs => hs.touchOut) hs), .foldl (fun _ _ hs => hs.touchOut) hs]))

theorem State.Canonical.panelStart {p : Nat} (hs : s.Canonical) : (s.panelStart p).Canonical :=
  .ite hs (by dsimp only; split; exacts [.modPanel (.put (.foldl (fun _ _ hs => hs.put) hs.put.put)), hs.put.put.modPanel])

theorem State.Canonical.rebaseNow {p : Nat} (hs : s.Canonical) : (s.rebaseNow p).Canonical :=
  .modPanel (.foldl (fun _ _ hs => by split; exacts [hs, hs.put]) hs)

theorem State.Canonical.freshScan {p : Nat} (hs : s.Canonical) : (s.freshScan p).Canonical :=
  .ite hs.modPanel (.modPanel (.put (.foldl (fun _ _ hs => .ite hs hs.put) hs.modPanel)))

theorem State.Canonical.baselineWrite {p : Nat} (hs : s.Canonical) : (s.baselineWrite p).Canonical := .ite hs hs.modPanel.upd

theorem State.Canonical.trackBaselines {p : Nat} {quiet noContact : Bool} (hs : s.Canonical) : (s.trackBaselines p quiet
    noContact).Canonical :=
  .foldl (fun _ _ hs => by split; exacts [hs, .ite hs.modPanel.put (.ite hs.modPanel.put hs.modPanel)]) hs

theorem State.Canonical.touchTrigger {p r : Nat} {down : Bool} (hs : s.Canonical) : (s.touchTrigger p r down).Canonical :=
  .ite hs hs.hapTrigger

theorem State.Canonical.persist {p : Nat} {live : List Touch} (hs : s.Canonical) : (s.persist p live).Canonical :=
  .foldl (fun _ _ hs => .ite hs.put (.foldl (fun _ _ hs => by split; exacts [hs, hs.put]) hs.put)) hs

theorem State.Canonical.hoverScan {p : Nat} (hs : s.Canonical) : (s.hoverScan p).Canonical := by
  unfold State.hoverScan
  dsimp only
  split
  exacts [.modPanel (by split; exacts [hs.tchDeliver, hs]), .modPanel (by split; exacts [hs.tchDeliver, hs])]

theorem State.Canonical.tchResend {ds : List Nat} (hs : s.Canonical) : (s.tchResend ds).Canonical := by
  refine .foldl (fun s d hs => .foldl (fun s x hs => ?_) hs) hs.upd
  dsimp only
  split
  · exact hs
  · exact hs.tchRing

theorem State.Canonical.scanTouches {p : Nat} (hs : s.Canonical) : (s.scanTouches p).Canonical :=
  .put (.trackBaselines (.hoverScan (.modPanel (.foldl (fun _ _ hs => by split; exacts [.ite hs.touchOut.touchTrigger hs.touchOut,
    hs.touchOut]) (.persist (.ite (.ite hs.put.put hs.put) (.ite (.put (.put (.ite hs.put.put hs.put))) (.put (.ite hs.put.put
    hs.put)))))))))

theorem State.Canonical.gateTriggers {p d : Nat} (hs : s.Canonical) : (s.gateTriggers p d).Canonical :=
  .ite hs (.foldl (fun _ _ hs => .ite hs (by dsimp only; split; exacts [hs, .ite hs hs.touchTrigger.modPanel])) hs)

theorem State.Canonical.panelAbsent {p : Nat} (hs : s.Canonical) : (s.panelAbsent p).Canonical := hs.cancelTouches.put.put.modPanel

theorem State.Canonical.panelMode {p : Nat} (hs : s.Canonical) : (s.panelMode p).Canonical :=
  .ite hs hs.cancelTouches.put.modPanel.tchVectors

theorem State.Canonical.panelRebase {p : Nat} (hs : s.Canonical) : (s.panelRebase p).Canonical := hs.cancelTouches.tchVectors.modPanel

theorem State.Canonical.tchConsume {d v : Nat} (hs : s.Canonical) : (s.tchConsume d v).Canonical :=
  .ite hs (.ite hs.guestError (.ite hs.put hs.guestError))

theorem State.Canonical.tchEnable {d : Nat} (hs : s.Canonical) : (s.tchEnable d).Canonical := by
  refine .ite hs (.ite hs.guestError (.tchVectors (.foldl (fun s x hs => ?_) hs.put.put.put)))
  dsimp only
  split
  · exact hs
  · exact hs.tchRing

theorem State.Canonical.fwqPop (hs : s.Canonical) : s.fwqPop.Canonical := hs.upd.tchLines

theorem State.Canonical.regionOwner {r owner slot : Nat} {en : Bool} (hs : s.Canonical) : (s.regionOwner r owner slot en).Canonical :=
  .tchLines (.tchVectors (.ite (.putImg (.putImg (.putImg (.ite hs (.foldl (fun _ _ hs => hs.tchOwner) hs))))) (.foldl (fun _ _ hs =>
    hs.tchOwner) (.putImg (.putImg (.putImg (.ite hs (.foldl (fun _ _ hs => hs.tchOwner) hs))))))))

theorem State.Canonical.touchIn {m : Msg} (hs : s.Canonical) : (s.touchIn m).Canonical := .ite hs.tchDeliver.tchVectors.tchLines hs.upd

theorem State.Canonical.tchDrain (hs : s.Canonical) : s.tchDrain.Canonical :=
  .tchVectors (.foldl (fun _ _ hs => hs.cancelTouches.baselineWrite) hs)

/-! ### Bist -/

theorem State.Canonical.bstBusy (hs : s.Canonical) : s.bstBusy.Canonical := hs.put.putB

theorem State.Canonical.setJob {j : TestJob} (hs : s.Canonical) : (s.setJob j).Canonical := hs.upd.bstBusy

theorem State.Canonical.dropJob {n : Nat} (hs : s.Canonical) : (s.dropJob n).Canonical := hs.upd.bstBusy

theorem State.Canonical.addRepair {f : TestFail} (hs : s.Canonical) : (s.addRepair f).Canonical := .ite hs.put hs.upd

theorem State.Canonical.bstWrite {host : Option Nat} {addr : Nat} {bs : List Byte} (hs : s.Canonical) : (s.bstWrite host addr
    bs).Canonical :=
  .ite hs (by split; exacts [hs.hostOutPush, .ite hs.writeBytes hs.accessError])

theorem State.Canonical.bstProgress {j : TestJob} (hs : s.Canonical) : (s.bstProgress j).Canonical := hs.bstWrite

theorem State.Canonical.bstReport {j : TestJob} {state code : Nat} (hs : s.Canonical) : (s.bstReport j state code).Canonical :=
  hs.bstProgress.bstWrite

theorem State.Canonical.bstEvent {host : Option Nat} (hs : s.Canonical) : (s.bstEvent host).Canonical := by
  unfold State.bstEvent
  split
  exacts [hs.pfEvent, hs.icuRaise]

theorem State.Canonical.unitEnter {j : TestJob} (hs : s.Canonical) : (s.unitEnter j).Canonical :=
  .ite hs (.ite (.ite hs.modBg.setBg hs.modBg) (.ite hs.headStopped.panelDown.put (.ite (.ite (.ite (.ite hs hs.leaveSoon) (.put (.ite hs
    hs.leaveSoon))) hs.plkDown.put) (.ite hs.hapEnter hs.hapWait.hapBrake))))

theorem State.Canonical.lineSet {p l : Nat} {v : Bool} (hs : s.Canonical) : (s.lineSet p l v).Canonical := hs.putImg

theorem State.Canonical.unitRetire {j : TestJob} (hs : s.Canonical) : (s.unitRetire j).Canonical :=
  .ite hs.setBg (.ite hs.put (.ite hs.put (.ite hs.lineSet hs.hapEnter)))

theorem State.Canonical.unitReturn {j : TestJob} (hs : s.Canonical) : (s.unitReturn j).Canonical :=
  .ite hs.setBg (.ite (.ite (.headStart (.ite hs.put.panelRaise hs.put)) (.ite hs.put.panelRaise hs.put)) (.ite hs.plkTrain (.ite hs.lineSet
    hs.hapEnter)))

theorem State.Canonical.bstBegin {host : Option Nat} {b : List Byte} (hs : s.Canonical) : (s.bstBegin host b).Canonical :=
  .ite hs.put.bstReport.bstEvent (.ite (.unitEnter (.ite (.lineSet (.bstReport (.setJob (.ite hs.icuLower hs)))) (.bstReport (.setJob (.ite
    hs.icuLower hs))))) (.ite (.lineSet (.bstReport (.setJob (.ite hs.icuLower hs)))) (.bstReport (.setJob (.ite hs.icuLower hs)))))

theorem State.Canonical.bstGo {host : Option Nat} (hs : s.Canonical) : (s.bstGo host).Canonical := hs.bstBegin

theorem State.Canonical.goWrite {o : Origin} {host : Option PortId} {k : Nat → Bool} (hs : s.Canonical) : (s.goWrite o host k).Canonical
    :=
  .ite hs (by split; exacts [hs.guarded (fun _ hs => hs.bstGo) (fun _ hs => hs), hs.guarded (fun _ hs => hs.bstGo) (fun _ hs => hs)])

theorem State.Canonical.bstUnit {n : Nat} {fails : List TestFail} (hs : s.Canonical) : (s.bstUnit n fails).Canonical := by
  unfold State.bstUnit
  split
  exacts [hs, .ite hs.unitEnter (.ite hs (.ite (.bstReport (.setJob (.ite hs (.foldl (fun _ _ hs => hs.addRepair) hs)))) (.bstProgress
    (.setJob (.ite hs (.foldl (fun _ _ hs => hs.addRepair) hs))))))]

theorem State.Canonical.marched (hs : s.Canonical) {m : Nat} : (s.marched m).Canonical :=
  .ite hs.zeroBytes (.ite hs.upd (.ite hs.zeroBytes (.ite ⟨memory_wf_filter hs.1 _, hs.2⟩ hs)))

theorem State.Canonical.squashTest {j : TestJob} (hs : s.Canonical) : (s.squashTest j).Canonical :=
  .bstEvent (.bstReport (.ite (.modBg (.ite hs.dropJob.unitRetire (.ite hs.dropJob.lineSet hs.dropJob))) (.ite hs.dropJob.unitRetire (.ite
    hs.dropJob.lineSet hs.dropJob))))

theorem State.Canonical.squashTests {which : TestJob → Bool} (hs : s.Canonical) : (s.squashTests which).Canonical :=
  .foldl (fun _ _ hs => hs.squashTest) hs

theorem State.Canonical.unitsBack (hs : s.Canonical) : s.unitsBack.Canonical :=
  .foldl (fun _ _ hs => .ite hs.hapEnter hs) (.foldl (fun _ _ hs => .ite hs.plkTrain hs) (.foldl (fun _ _ hs => .ite hs.put hs) (.foldl (fun
    _ _ hs => .ite hs.setBg hs) hs)))

/-! ### Cab -/

theorem State.Canonical.withEntry {e : AuditEntry} {k : State → State} (hs : s.Canonical) (hk : ∀ u, u.Canonical → (k u).Canonical) :
    (s.withEntry e k).Canonical := .ite hs (hk _ hs.auditAccept)

theorem State.Canonical.startBurn {b : Burn} (hs : s.Canonical) : (s.startBurn b).Canonical := hs.put.upd

theorem State.Canonical.lcRequest {o : Origin} {target : Nat} (hs : s.Canonical) : (s.lcRequest o target).Canonical :=
  .ite (hs.withEntry (fun _ hs => hs.put.startBurn)) (.ite (hs.withEntry (fun _ hs => hs.put.startBurn)) hs.put)

theorem State.Canonical.raiseTo {v : Nat} (hs : s.Canonical) : (s.raiseTo v).Canonical := .ite hs.startBurn hs.put

theorem State.Canonical.revoke {mask : Nat} (hs : s.Canonical) : (s.revoke mask).Canonical := .ite hs.put hs.startBurn

theorem State.Canonical.burnDone {b : Burn} (hs : s.Canonical) : (s.burnDone b).Canonical := by
  unfold State.burnDone
  split
  exacts [hs.cabEvent.upd, hs.cabEvent.upd, hs.cabEvent.upd, hs.put.cabEvent.upd, hs.put.cabEvent.upd]

theorem State.Canonical.tapLoad {code : Nat} (hs : s.Canonical) : (s.tapLoad code).Canonical := .ite hs hs.upd

theorem State.Canonical.putDbgBuf {bs : List Byte} {n : Nat} (hs : s.Canonical) : (s.putDbgBuf bs n).Canonical :=
  .foldl (fun _ _ hs => hs.put) hs

theorem State.Canonical.challenge (hs : s.Canonical) : s.challenge.Canonical := hs.fresh.upd.putDbgBuf.put.hutchRaise.put

theorem State.Canonical.submit (hs : s.Canonical) : s.submit.Canonical := .ite hs.put hs.hutchRaise.put.put.upd

theorem State.Canonical.endSession (hs : s.Canonical) : s.endSession.Canonical := by
  unfold State.endSession
  split
  exacts [hs, hs.auditAccept.upd.cabEvent.put.put]

theorem State.Canonical.submitFails {code : Nat} (hs : s.Canonical) : (s.submitFails code).Canonical :=
  .ite hs.put.incSat.put.put hs.put.incSat.put

theorem State.Canonical.lcScope {scope serial digest : Nat} (hs : s.Canonical) : (s.lcScope scope serial digest).Canonical :=
  .put (.put (.ite (hs.withEntry (fun _ hs => hs.put.cabEvent.upd)) (.ite (hs.withEntry (fun _ hs => hs.put.cabEvent.upd)) (hs.withEntry
    (fun _ hs => hs.put.startBurn)))))

theorem State.Canonical.openSession {scope serial maxMin : Nat} (hs : s.Canonical) : (s.openSession scope serial maxMin).Canonical :=
  hs.endSession.auditAccept.upd.cabEvent.put.put.put

theorem State.Canonical.dbgEnd (hs : s.Canonical) : s.dbgEnd.Canonical := .ite hs.endSession.put hs.put

/-! ### PlkRemote -/

theorem State.Canonical.apOpen {k : Nat} (hs : s.Canonical) : (s.apOpen k).Canonical := .ite hs.modPlk.put hs.modPlk.put.modPlk.sendTo

theorem State.Canonical.apWrite {k : Nat} (hs : s.Canonical) : (s.apWrite k).Canonical := .ite hs.apOpen hs.put.put.modPlk

theorem State.Canonical.openRsp {m : Msg} (hs : s.Canonical) : (s.openRsp m).Canonical := by
  unfold State.openRsp
  split
  exacts [hs, .ite hs.modPlk.put.put.modPlk hs.modPlk.put]

theorem State.Canonical.modReqs {g : List RemoteReq → List RemoteReq} (hs : s.Canonical) : (s.modReqs g).Canonical := hs.modPlk

theorem State.Canonical.remotePump (hs : s.Canonical) {before rest : List RemoteReq} : (s.remotePump before rest).Canonical := by
  induction rest generalizing s before with
  | nil => exact hs
  | cons r rest ih => exact .ite (ih hs) (ih hs.modPlk.sendTo)

theorem State.Canonical.remoteGo (hs : s.Canonical) : s.remoteGo.Canonical := hs.remotePump

theorem State.Canonical.remoteAdd {rs : List RemoteReq} (hs : s.Canonical) : (s.remoteAdd rs).Canonical := hs.modReqs.remoteGo

theorem State.Canonical.remoteCore {o : Origin} {a k off n : Nat} {data : Option (List Byte)} (hs : s.Canonical) : (s.remoteCore o a k off
    n data).Canonical :=
  .ite (.ite hs.accessError.ret hs.accessError) hs.remoteAdd

theorem State.Canonical.remoteFail {r : RemoteReq} (hs : s.Canonical) : (s.remoteFail r).Canonical :=
  .leaveCheck (.remoteGo (by split; exacts [hs.endCmd, .ite hs.modReqs.accessError hs.modReqs.accessError.ret]))

theorem State.Canonical.remoteRsp {m : Msg} {write : Bool} (hs : s.Canonical) : (s.remoteRsp m write).Canonical := by
  unfold State.remoteRsp
  split
  exacts [hs, .ite (.remoteFail (.ite hs.put (.ite hs.put hs))) (.ite hs.modReqs.remoteGo.leaveCheck (.leaveCheck (.remoteGo (.ite
    hs.modReqs hs.modReqs.ret))))]

theorem State.Canonical.windowChanged {w : Nat} (hs : s.Canonical) : (s.windowChanged w).Canonical := hs.modPlk.put

theorem State.Canonical.openReq {m : Msg} (hs : s.Canonical) : (s.openReq m).Canonical :=
  .ite hs.sendTo (.ite hs.sendTo hs.modPlk.put.sendTo)

theorem State.Canonical.tileErrs {e t : Nat} (hs : s.Canonical) : (s.tileErrs e t).Canonical := .foldl (fun _ _ hs => hs.readErr) hs

theorem State.Canonical.genCommit {e : Nat} (hs : s.Canonical) : (s.genCommit e).Canonical := by
  unfold State.genCommit
  dsimp only
  split
  exacts [hs, .modExp (.foldl (fun _ _ hs => hs.sendTo) hs)]

theorem State.Canonical.genCheck {e : Nat} (hs : s.Canonical) : (s.genCheck e).Canonical := .ite hs.genCommit hs

theorem State.Canonical.genRun {e v : Nat} {who : Subscriber → Bool} (hs : s.Canonical) : (s.genRun e v who).Canonical :=
  .genCheck (.modExp (.foldl (fun _ _ hs => hs.sendTo) (.tlRaise (.ite (.incSat (.foldl (fun _ _ hs => .foldl (fun _ _ hs => .ite (.foldl
    (fun _ _ hs => hs.sendTo) hs) hs) hs) (.foldl (fun _ _ hs => hs.tileErrs) hs))) (.foldl (fun _ _ hs => hs.dwrite) (.incSat (.foldl
    (fun _ _ hs => .foldl (fun _ _ hs => .ite (.foldl (fun _ _ hs => hs.sendTo) hs) hs) hs) (.foldl (fun _ _ hs => hs.tileErrs) hs))))))))

theorem State.Canonical.genAck {m : Msg} (hs : s.Canonical) : (s.genAck m).Canonical := .ite hs.modExp.genCheck hs

theorem State.Canonical.subscribeReq {m : Msg} (hs : s.Canonical) : (s.subscribeReq m).Canonical :=
  .ite hs.sendTo (.ite hs.modExp.sendTo.genCheck (.ite hs.sendTo (.ite hs.incSat.sendTo (.ite hs.modExp.sendTo.genCheck.genRun
    hs.modExp.sendTo.genCheck))))

theorem State.Canonical.expWrite {e : Nat} (hs : s.Canonical) : (s.expWrite e).Canonical := .ite hs hs.modExp

theorem State.Canonical.tileIn {m : Msg} (hs : s.Canonical) : (s.tileIn m).Canonical := by
  unfold State.tileIn
  split
  exacts [hs, .ite hs.subscribe hs.modImp]

theorem State.Canonical.genEnd {m : Msg} (hs : s.Canonical) : (s.genEnd m).Canonical := by
  unfold State.genEnd
  split
  exacts [hs, .ite hs.subscribe hs.modImp]

theorem State.Canonical.mirrorRows (hs : s.Canonical) {a pitch : Nat} {rows : List (List Byte)} :
    (s.mirrorRows a pitch rows).Canonical := by
  induction rows generalizing s a with
  | nil => exact hs
  | cons r rs ih => exact ih hs.dwrite

theorem State.Canonical.impRaise {i v : Nat} (hs : s.Canonical) : (s.impRaise i v).Canonical := hs.tlRaise.incSat

theorem State.Canonical.genCommitIn {m : Msg} (hs : s.Canonical) : (s.genCommitIn m).Canonical := by
  unfold State.genCommitIn
  split
  exacts [hs, .ite (.ite hs.modImp hs.incSat.modImp) hs.impRaise]

theorem State.Canonical.subAck {m : Msg} (hs : s.Canonical) : (s.subAck m).Canonical := by
  unfold State.subAck
  split
  exacts [hs, .ite hs.incSat.put.modImp (.ite hs.put.modImp (.ite hs.put.modImp hs))]

theorem State.Canonical.impWrite {i : Nat} {was : Bool} (hs : s.Canonical) : (s.impWrite i was).Canonical :=
  .ite hs.subscribe (.ite hs.modImp.put.sendTo hs.modImp.put)

/-! ### Units -/

theorem State.Canonical.copyStart {d q seq op : Nat} (hs : s.Canonical) : (s.copyStart d q seq op).Canonical :=
  hs.dispatch (fun _ => .ite hs.endCmd (by split; exacts [hs, hs.startCmd]))

theorem State.Canonical.composeStart {d q seq : Nat} {capture : Bool} (hs : s.Canonical) : (s.composeStart d q seq capture).Canonical :=
  hs.dispatch (fun _ => .ite hs (.ite hs.endCmd (by split; exacts [hs, hs.startCmd])))

theorem State.Canonical.heapRows (hs : s.Canonical) {d off pitch : Nat} {rows : List (List Byte)} :
    (s.heapRows d off pitch rows).Canonical := by
  induction rows generalizing s off with
  | nil => exact hs
  | cons r rs ih => exact ih hs.heapWrite

theorem State.Canonical.listEcc {d : Nat} {c : Cmd} (hs : s.Canonical) : (s.listEcc d c).Canonical :=
  .foldl (fun _ _ hs => hs.heapReadErr.eccLines) hs

theorem State.Canonical.jnlTile {d : Nat} {c : Cmd} {t : Nat} (hs : s.Canonical) : (s.jnlTile d c t).Canonical := hs.jnlPut

theorem State.Canonical.copyOut {d : Nat} {c : Cmd} {lo : Nat} {bs : List Byte} (hs : s.Canonical) : (s.copyOut d c lo bs).Canonical :=
  .ite hs.hostData.unitDone.pmuEvent (.ite (.ite hs.eccLines.endCmd hs.heapWrite.unitDone.pmuEvent) (.ite hs.endCmd hs.remoteAdd))

theorem State.Canonical.copyUnit {d : Nat} {c : Cmd} {data : List Byte} (hs : s.Canonical) : (s.copyUnit d c data).Canonical :=
  .ite hs (.ite hs.dropReqs.unitDone.pmuEvent (.ite hs.copyOut (.ite (.ite (.ite hs.endCmd hs.remoteAdd) hs.dropReqs.copyOut) (.ite (.ite
    hs.eccLines.endCmd hs.eccLines.heapReadErr.copyOut) hs.portRead.copyOut))))

theorem State.Canonical.composeUnit {d : Nat} {c : Cmd} (hs : s.Canonical) : (s.composeUnit d c).Canonical :=
  .ite (.ite hs (.ite hs.endCmd hs.heapRows.unitDone.pmuEvent)) (.ite hs.listEcc.endCmd hs.listEcc.heapRows.unitDone.pmuEvent)

theorem State.Canonical.captureUnit {d : Nat} {c : Cmd} (hs : s.Canonical) : (s.captureUnit d c).Canonical :=
  .ite hs (.unitDone (.ite hs.put.modStream hs))

theorem State.Canonical.tileDone {d : Nat} {c : Cmd} {t g : Nat} (hs : s.Canonical) : (s.tileDone d c t g).Canonical :=
  hs.pmuEvent.fresh.modCmd.jnlTile.statusDue

theorem State.Canonical.immediateTile {d : Nat} {c : Cmd} {t : Nat} (hs : s.Canonical) : (s.immediateTile d c t).Canonical :=
  .ite hs (.ite hs.endCmd hs.tileReadErr.fresh.storeTile.tileDone)

theorem State.Canonical.gpuUnit {d : Nat} {c : Cmd} {tile : Nat} {writes : List (Nat × List Byte)} (hs : s.Canonical) : (s.gpuUnit d c
    tile writes).Canonical :=
  .ite hs.progStores.shaderEnd (.ite hs.progStores.unitDone (.ite hs.progStores.immediateTile (by split; exacts [hs.progStores,
    hs.progStores.modCmd.tileDone])))

theorem State.Canonical.unitCommit {d q seq : Nat} {data : List Byte} {writes : List (Nat × List Byte)} (hs : s.Canonical) : (s.unitCommit
    d q seq data writes).Canonical := by
  unfold State.unitCommit
  split
  exacts [hs, .ite hs (.ite hs.copyUnit (.ite hs.composeUnit (.ite hs.captureUnit (.ite hs.gpuUnit hs))))]

/-! ### Drawer -/

theorem State.Canonical.respond {p result detail : Nat} {payload : List Byte} (hs : s.Canonical) : (s.respond p result detail
    payload).Canonical :=
  hs.modPort

theorem State.Canonical.mbxGo {p : Nat} (hs : s.Canonical) : (s.mbxGo p).Canonical :=
  .ite hs.put (.ite hs.put.modPort.icuRaise.respond (.ite hs.put.modPort.icuRaise.respond hs.put.modPort.icuRaise))

theorem State.Canonical.serve {p op : Nat} {k : Nat → State} (hs : s.Canonical) (hk : ∀ d, (k d).Canonical) :
    (s.serve p op k).Canonical := by
  unfold State.serve
  split
  · exact hs
  · exact .ite (hk _) hs

theorem State.Canonical.tlAssign {d n : Nat} {old : List Nat} (hs : s.Canonical) : (s.tlAssign d n old).Canonical :=
  .modDrw (.foldl (fun _ _ hs => hs.modTl) hs)

theorem State.Canonical.drwEvent {p : Nat} {e : DrwEvent} (hs : s.Canonical) : (s.drwEvent p e).Canonical := hs.modPort.put.pfEvent

theorem State.Canonical.squashCmd {d : Nat} {writes : Bool} {c : Cmd} (hs : s.Canonical) : (s.squashCmd d writes c).Canonical :=
  .ite (.postStatus (.ite hs.trayEnd.dropReqs.dropWork.upd.put hs.trayEnd.dropReqs.dropWork)) (.ite hs.trayEnd.dropReqs.dropWork.upd.put
    hs.trayEnd.dropReqs.dropWork)

theorem State.Canonical.quiesceEnd {d r : Nat} (hs : s.Canonical) : (s.quiesceEnd d r).Canonical := by
  unfold State.quiesceEnd
  split
  exacts [hs, hs.modDrw.respond]

theorem State.Canonical.squash {d : Nat} (hs : s.Canonical) : (s.squash d).Canonical := by
  unfold State.squash
  split
  exacts [hs, .drawerLayersOff (.foldl (fun _ _ hs => hs.abandonTl) (.audSquash (.stallBit (.modDrw (.foldl (fun _ _ hs => hs.squashCmd)
    hs)))))]

theorem State.Canonical.shareAs {d v : Nat} (hs : s.Canonical) : (s.shareAs d v).Canonical := hs.put.put

theorem State.Canonical.drawerReset {d : Nat} {cause : ResetCause} {drainMs : Option Nat} (hs : s.Canonical) :
    (s.drawerReset d cause drainMs).Canonical := by
  refine .ite hs ?_
  split
  · exact .ite hs.quiesceEnd.shareAs.put.modDrw hs.quiesceEnd.shareAs.put.modDrw.squash
  · exact .ite hs.modDrw.squash hs.modDrw

theorem State.Canonical.drwPageReset {d : Nat} (hs : s.Canonical) : (s.drwPageReset d).Canonical :=
  .foldl (fun _ _ hs => .ite hs.put.put.put hs) (.foldl (fun _ _ hs => hs.put) hs.applyReset)

theorem State.Canonical.tlsOrphan {d : Nat} (hs : s.Canonical) : (s.tlsOrphan d).Canonical := .foldl (fun _ _ hs => hs.modTl) hs

theorem State.Canonical.drawerFree {d : Nat} (hs : s.Canonical) : (s.drawerFree d).Canonical := by
  unfold State.drawerFree
  extract_lets s1 s2 s3 s4 s5 gpu s6
  have h3 : s3.Canonical := hs.tlsOrphan.drawerUnbind.upd.applyReset.put
  have h5 : s5.Canonical := .put (.put (.shareAs (.foldl (fun _ _ hs => hs.put) h3)))
  exact h5.upd.modDrw

theorem State.Canonical.drawerFresh {d share : Nat} (hs : s.Canonical) : (s.drawerFresh d share).Canonical :=
  hs.tlsOrphan.drwPageReset.shareAs.put.modDrw.tlAssign

theorem State.Canonical.resetDone {d : Nat} {j : ResetJob} {drained : Bool} (hs : s.Canonical) : (s.resetDone d j drained).Canonical := by
  unfold State.resetDone
  extract_lets s1 jnl s2 s3 s4 s5
  have h2 : s2.Canonical := hs.audReset.jnlGive.upd
  have h3 : s3.Canonical := .ite h2.drawerFree h2.drawerFresh
  have h5 : s5.Canonical := h3.put.put.drwEvent
  split
  · exact h5
  · exact .ite h5.respond h5

theorem State.Canonical.prtReset {p : Nat} (hs : s.Canonical) : (s.prtReset p).Canonical := by
  unfold State.prtReset
  extract_lets s1 s2 s3
  have h2 : s2.Canonical := .foldl (fun _ _ hs => hs.drawerReset) hs.modPort
  have h3 : s3.Canonical := h2.applyReset
  exact h3.modPort

theorem State.Canonical.moveBytes {src dst n : Nat} (hs : s.Canonical) : (s.moveBytes src dst n).Canonical :=
  .ite hs.zeroBytes.writeBytes (.foldl (fun _ _ hs => hs.poke) hs.zeroBytes.zeroBytes)

theorem State.Canonical.heapAt {d base : Nat} (hs : s.Canonical) : (s.heapAt d base).Canonical := hs.modDrw.upd

theorem State.Canonical.streamAssign {d lo n : Nat} (hs : s.Canonical) : (s.streamAssign d lo n).Canonical :=
  .modDrw (.foldl (fun _ _ hs => hs.put) hs)

theorem State.Canonical.createDrawer {d : Nat} {t : Template} {mib share base save : Nat} (hs : s.Canonical) : (s.createDrawer d t mib
    share base save).Canonical :=
  hs.zeroBytes.modDrw.put.put.put.put.putB.putB.put.put.put.shareWrite.tlAssign.streamAssign.streamAssign

theorem State.Canonical.create {p d : Nat} (hs : s.Canonical) : (s.create p d).Canonical := by
  unfold State.create
  obtain ⟨place, hp⟩ : ∃ place, s.placeIn = place := ⟨_, rfl⟩
  rw [hp]
  split
  · exact hs.respond
  · refine .ite hs.respond ?_
    extract_lets used
    split
    · exact hs.respond
    · split
      · exact hs.respond
      · exact .ite hs.respond hs.createDrawer.respond

theorem State.Canonical.resize {p d : Nat} (hs : s.Canonical) : (s.resize p d).Canonical :=
  .ite hs.respond (.ite (.ite hs.respond hs.layersShrunk.zeroBytes.modDrw.put.respond) (.ite hs.zeroBytes.modDrw.put.respond.markDirty (by
    split; exacts [hs.respond, hs.zeroBytes.moveBytes.heapAt.modDrw.put.respond.markDirty])))

theorem State.Canonical.grantsChecked {d : Nat} (hs : s.Canonical) : (s.grantsChecked d).Canonical :=
  .foldl (fun _ _ hs => .ite hs.endCmd.guestError hs) hs

theorem State.Canonical.mbxWait {p : Nat} (hs : s.Canonical) : (s.mbxWait p).Canonical := hs.modPort

theorem State.Canonical.quiesced {d : Nat} (hs : s.Canonical) : (s.quiesced d).Canonical := by
  unfold State.quiesced
  split
  exacts [hs, hs.modDrw.put.respond]

theorem State.Canonical.quiesceBegin {p d : Nat} {save : Bool} (hs : s.Canonical) : (s.quiesceBegin p d save).Canonical :=
  .ite hs.respond (.ite hs.respond (.ite hs.respond (.ite hs.mbxWait.modDrw.quiesced hs.mbxWait.modDrw)))

theorem State.Canonical.putWord {r i v : Nat} (hs : s.Canonical) : (s.putWord r i v).Canonical := by
  unfold State.putWord
  cases regMap[r]? with
  | none => exact hs
  | some x => exact .foldl (fun _ _ hs => hs.put) hs

theorem State.Canonical.loadImage {d : Nat} {f : Nat → Nat} (hs : s.Canonical) : (s.loadImage d f).Canonical := by
  refine .foldl (fun _ _ hs => .ite hs hs.regionOwner) (.foldl (fun _ _ hs => hs.putWord.put.modStream) (.modDrw
    (.foldl (fun _ _ hs => hs.modDrw.putWord) (.foldl (fun s sl hs => ?_) (.foldl (fun _ _ hs => hs.modTl)
    (.foldl (fun _ _ hs => .foldl (fun _ _ hs => hs.putWord) hs) hs))))))
  dsimp only
  split
  · exact hs.put.put.put
  · exact .ite hs.put.put.put hs.put.put.put.upd.modLayer.put

/-! ### Island -/

theorem State.Canonical.retireAgain {u : ResetUnit × Nat} (hs : s.Canonical) : (s.retireAgain u).Canonical := by
  unfold State.retireAgain
  split
  exacts [hs.setBg, hs.put, hs.put, hs.hapEnter, hs]

theorem State.Canonical.blockFresh {b : Nat} (hs : s.Canonical) : (s.blockFresh b).Canonical :=
  .ite hs.upd (.ite hs.upd (.ite hs.modBg.setBg (.ite (.foldl (fun _ _ hs => hs.modLayer) hs.put.modHead.modDp) (.ite hs.upd (.ite hs.upd
    (.ite hs.modPort (.ite hs.upd (.ite hs.upd (.ite hs.upd (.ite hs.modAud.audFresh (.ite hs.upd (.ite hs.upd hs))))))))))))

theorem State.Canonical.islandReset {which : Nat → Bool} (hs : s.Canonical) : (s.islandReset which).Canonical :=
  .foldl (fun _ _ hs => hs.icuLower) (.ite (.putB (.foldl (fun _ _ hs => hs.retireAgain) (.foldl (fun _ _ hs => hs.blockFresh) (.applyReset
    (.foldl (fun _ _ hs => hs.headStopped) hs))))) (.foldl (fun _ _ hs => hs.retireAgain) (.foldl (fun _ _ hs => hs.blockFresh)
    (.applyReset (.foldl (fun _ _ hs => hs.headStopped) hs)))))

theorem State.Canonical.levelsAfresh (hs : s.Canonical) : s.levelsAfresh.Canonical :=
  .foldl (fun _ _ hs => .ite hs hs.icuLine) hs.icuLine.icuLine.auditWrapCheck.tchLines

theorem State.Canonical.coreRestart {t : Nat} (hs : s.Canonical) : (s.coreRestart t).Canonical :=
  .icuReeval (.putBit (.putBit (.ite hs.put.put hs.put.put)))

theorem State.Canonical.headUp {h : Nat} (hs : s.Canonical) : (s.headUp h).Canonical := .ite hs.panelRaise.headStart hs

/-! ### Power -/

theorem State.Canonical.modPm {g : Pm → Pm} (hs : s.Canonical) : (s.modPm g).Canonical := hs.upd

theorem State.Canonical.putOutcome {seq res refuser blk : Nat} (hs : s.Canonical) : (s.putOutcome seq res refuser blk).Canonical :=
  .ite hs hs.put.put.put

theorem State.Canonical.newRequest {o : Origin} {target : Nat} (hs : s.Canonical) : (s.newRequest o target).Canonical :=
  hs.modPm.put.put.put.put.put.put.put.putB.hutchRaise

theorem State.Canonical.countEntry {f : Fld} {target refuser blk : Nat} (hs : s.Canonical) : (s.countEntry f target refuser blk).Canonical
    :=
  .ite hs.incSat.put.put hs

theorem State.Canonical.endRequests {seqs : List Nat} {res refuser blk : Nat} (hs : s.Canonical) : (s.endRequests seqs res refuser
    blk).Canonical :=
  .foldl (fun _ _ hs => hs.putOutcome) hs

theorem State.Canonical.clearTransition (hs : s.Canonical) : s.clearTransition.Canonical := hs.modPm.put.put.put

theorem State.Canonical.putNext {r : Option PwrReq} (hs : s.Canonical) : (s.putNext r).Canonical := by
  unfold State.putNext
  dsimp only
  split
  exacts [hs.modPm.put.put.put, hs.modPm.put.put.put]

theorem State.Canonical.replaceNext (hs : s.Canonical) : s.replaceNext.Canonical := by
  unfold State.replaceNext
  split
  exacts [hs, hs.endRequests.putNext]

theorem State.Canonical.blankHeads (hs : s.Canonical) : s.blankHeads.Canonical := .foldl (fun _ _ hs => hs.put) hs

theorem State.Canonical.portsDown (hs : s.Canonical) : s.portsDown.Canonical :=
  .foldl (fun _ _ hs => by split; exacts [hs.resetDone, hs]) (.foldl (fun _ _ hs => hs.prtReset) hs)

theorem State.Canonical.shutdownBegin (hs : s.Canonical) : s.shutdownBegin.Canonical :=
  .upd (.foldl (fun _ _ hs => .ite hs.leaveSoon hs) hs.setPd.blankHeads.portsDown.hapDrain.voicesStop.tchDrain)

theorem State.Canonical.drainBegin {t : Nat} (hs : s.Canonical) : (s.drainBegin t).Canonical :=
  .squashTests (.ite (.tchDrain (.ite (.voicesStop (.hapDrain (.ite (.foldl (fun _ _ hs => .ite hs.blOff.modDp hs) (.layersDown (.ite
    (.foldl (fun _ _ hs => .ite hs.leaveSoon hs) hs.modPm) hs.modPm))) (.ite (.foldl (fun _ _ hs => .ite hs.leaveSoon hs) hs.modPm)
    hs.modPm)))) (.ite (.foldl (fun _ _ hs => .ite hs.blOff.modDp hs) (.layersDown (.ite (.foldl (fun _ _ hs => .ite hs.leaveSoon hs)
    hs.modPm) hs.modPm))) (.ite (.foldl (fun _ _ hs => .ite hs.leaveSoon hs) hs.modPm) hs.modPm)))) (.ite (.voicesStop (.hapDrain (.ite
    (.foldl (fun _ _ hs => .ite hs.blOff.modDp hs) (.layersDown (.ite (.foldl (fun _ _ hs => .ite hs.leaveSoon hs) hs.modPm) hs.modPm)))
    (.ite (.foldl (fun _ _ hs => .ite hs.leaveSoon hs) hs.modPm) hs.modPm)))) (.ite (.foldl (fun _ _ hs => .ite hs.blOff.modDp hs)
    (.layersDown (.ite (.foldl (fun _ _ hs => .ite hs.leaveSoon hs) hs.modPm) hs.modPm))) (.ite (.foldl (fun _ _ hs => .ite hs.leaveSoon
    hs) hs.modPm) hs.modPm))))

theorem State.Canonical.startTransition {r : PwrReq} (hs : s.Canonical) : (s.startTransition r).Canonical :=
  .ite hs.modPm.shutdownBegin (.ite hs.modPm.put.put.put.drainBegin hs.modPm.put.put.put)

theorem State.Canonical.entryUndone (hs : s.Canonical) : s.entryUndone.Canonical :=
  .foldl (fun _ _ hs => .ite (.ite hs.modDp.headStopped.headUp hs.modDp) hs.modDp) (.foldl (fun _ _ hs => .ite hs.modPport.plkTrain
    hs.modPport) hs)

theorem State.Canonical.rankIdle {r : PwrReq} (hs : s.Canonical) : (s.rankIdle r).Canonical := .ite hs.putOutcome hs.startTransition

theorem State.Canonical.nextStarts (hs : s.Canonical) : s.nextStarts.Canonical := by
  unfold State.nextStarts
  split
  exacts [hs, .ite hs.putNext.rankIdle.modPm hs.putNext.rankIdle.endRequests]

theorem State.Canonical.rankRequest {r : PwrReq} (hs : s.Canonical) : (s.rankRequest r).Canonical :=
  .ite (.ite (.ite hs.modPm hs.modPm) hs.putOutcome.countEntry) (by split; exacts [hs.rankIdle, .ite hs.modPm (.ite
    hs.endRequests.countEntry.clearTransition.replaceNext.entryUndone.rankIdle (by split; exacts [.ite hs.modPm hs.replaceNext.putNext,
    hs.putNext]))])

theorem State.Canonical.powerRequest {o : Origin} {t : Nat} (hs : s.Canonical) : (s.powerRequest o t).Canonical :=
  .ite hs.cfgError (by dsimp only; split; exacts [hs.newRequest.putOutcome.countEntry, hs.newRequest.rankRequest])

theorem State.Canonical.transitionDone {r : PwrReq} (hs : s.Canonical) : (s.transitionDone r).Canonical :=
  hs.endRequests.clearTransition.put.nextStarts

theorem State.Canonical.restoreSaved (hs : s.Canonical) {on : BitVec 16} : (s.restoreSaved on).Canonical :=
  .modPm ⟨hs.1, tsorted_foldl_tinsert _ _ (tsorted_filter _ _ hs.2)⟩

theorem State.Canonical.stRestore (hs : s.Canonical) : s.stRestore.Canonical :=
  .ite hs.putStState.put.put.modPm.stSlew.stStep.putStState hs.putStState.put.put.modPm.stSlew.stStep

theorem State.Canonical.panelKept {p : Nat} (hs : s.Canonical) : (s.panelKept p).Canonical := by
  unfold State.panelKept
  split
  exacts [hs.panelStart, .modPanel (.put (.foldl (fun _ _ hs => hs.put) hs))]

theorem State.Canonical.pdStart {d : Nat} (hs : s.Canonical) : (s.pdStart d).Canonical :=
  .ite (.foldl (fun _ _ hs => .ite hs.plkTrain hs) hs) (.ite (.foldl (fun _ _ hs => .ite hs hs.panelKept.modPanel) hs) (.ite (.foldl (fun _
    _ hs => hs.headUp) hs) hs))

theorem State.Canonical.padRelease {m : Nat} (hs : s.Canonical) : (s.padRelease m).Canonical :=
  .ite hs (.ite (.foldl (fun _ _ hs => hs.pdStart) hs.put) hs.put)

/-! ### RegAccess -/

theorem State.Canonical.storeField {i : Nat} {p : FldPlan} (hs : s.Canonical) : (s.storeField i p).Canonical :=
  .ite hs (.ite hs.putImg hs.put)

theorem State.Canonical.selCheck {o : Origin} {k : Sel} {n v off : Nat} (hs : s.Canonical) : (s.selCheck o k n v off).Canonical :=
  .ite hs hs.cfgError

theorem State.Canonical.trnWrite {o : Origin} {r : Reg} {i w : Nat} {ps : List FldPlan} (hs : s.Canonical) : (s.trnWrite o r i w
    ps).Canonical :=
  .ite hs.recordError (.ite (.trnGo (.ite (.modDmc (.foldl (fun _ _ hs => .ite hs hs.put) hs)) (.foldl (fun _ _ hs => .ite hs hs.put) hs)))
    (.ite (.modDmc (.foldl (fun _ _ hs => .ite hs hs.put) hs)) (.foldl (fun _ _ hs => .ite hs hs.put) hs)))

theorem State.Canonical.qCtrlWrite {i w : Nat} {ps : List FldPlan} (hs : s.Canonical) : (s.qCtrlWrite i w ps).Canonical :=
  .ite hs (.ite (.ite hs.put hs.put.queueDisable) (.ite hs.queueEnable hs.put.put))

theorem State.Canonical.icuSrcWrite {n : Nat} {worldHit : Bool} (hs : s.Canonical) : (s.icuSrcWrite n worldHit).Canonical :=
  .icuTry (.ite hs.icuWithdraw hs)

theorem State.Canonical.regEffect {o : Origin} {r : Reg} {i w : Nat} {ps : List FldPlan} (hs : s.Canonical) : (s.regEffect o r i w
    ps).Canonical :=
  .ite (.ite hs.mbxGo hs) (.ite hs.qCtrlWrite (.ite (.ite hs.shareWrite hs) (.ite (.ite hs.lownWrite hs) (.ite (.ite hs.swapRequest hs)
    (.ite (.ite hs.sflipWrite hs) (.ite (.ite hs.flipGo hs) (.ite (.ite hs (.ite hs.headStart hs.headStop)) (.ite hs.icuLine (.ite (.ite
    hs.regionStaged hs) (.ite (.ite hs.witPop hs) (.ite hs.portLine (.ite (.ite hs.panelWrite hs) (.ite hs.sbStart (.ite hs.plkLine (.ite
    (.ite (.portRetrain (.ite hs (.ite (.ite hs hs.plkTrain) hs.portDisable))) (.ite hs (.ite (.ite hs hs.plkTrain) hs.portDisable)))
    (.ite (.ite hs.windowChanged hs) (.ite (.ite hs.apWrite hs) (.ite (.ite hs.expWrite hs) (.ite (.ite hs.retrainAll hs) (.ite
    hs.trnWrite (.ite (.ite hs.panelMode.tchLines hs) (.ite hs.tchLines (.ite (.ite hs.panelRebase.tchLines hs.tchLines) (.ite (.ite
    hs.regionOwner hs) (.ite (.ite hs.fwqPop hs) (.ite (.ite hs (.ite hs.tchEnable hs.put)) (.ite hs.tchConsume (.ite (.ite hs.hapClr hs)
    (.ite (.ite hs.hapTrigger hs) (.ite (.ite hs.selCheck hs) (.ite (.ite (.modOut (.ite hs.selCheck hs)) (.ite hs.selCheck hs)) (.ite
    (.ite hs.selCheck hs) (.ite (.ite hs.selCheck hs) (.ite (.ite (.voiceStop (.ite hs.voicePlay hs)) (.ite hs.voicePlay hs)) (.ite (.ite
    hs.bqWrite hs) (.ite (.ite hs (.ite hs.streamEnable hs.put)) (.ite (.ite hs.coreWakeEffect hs) (.ite (.ite hs.coreWakeEffect hs) (.ite
    hs.icuSrcWrite (.ite hs.icuSetWrite (.ite (.ite hs.gdisEffect hs) (.ite hs.icuReeval (.ite hs.completeWrite (.ite (.ite hs.dbellWrite
    hs) (.ite (.ite hs hs.lcRequest) (.ite (.ite (.ite hs hs.raiseTo) (.revoke (.ite hs hs.raiseTo))) (.ite hs.icuLine (.ite hs.put (.ite
    hs.powerRequest (.ite hs.padRelease (.ite (.ite hs (.ite hs.cfgError hs.armPps)) (.ite (.ite hs.alarmWrite hs) (.ite hs.ackTo (.ite
    hs.swrepEffect (.ite (.ite hs.markTo hs) (.ite hs.crcCtrl (.ite hs.crcFeed (.ite hs.put (.ite (.ite hs.pmuArm hs.put.put) (.ite
    hs.pmuLine (.ite hs.icuLine (.ite (.pmuLine (.ite hs.cfgError hs)) (.ite (.ite hs.bwStart hs) (.ite (.ite hs.bstGo hs) (.ite (.ite
    hs.bstGo hs) hs)))))))))))))))))))))))))))))))))))))))))))))))))))))))))))))))))

theorem State.Canonical.impEffect {i : Nat} {was any : Bool} (hs : s.Canonical) : (s.impEffect i was any).Canonical := .ite hs.impWrite hs

theorem State.Canonical.regApply {o : Origin} {r : Reg} {i rng v : Nat} {by_ : WriteBy} (hs : s.Canonical) : (s.regApply o r i rng v
    by_).Canonical :=
  .ite (.ite (.ite (.put (.ite (.ite (.foldl (fun _ _ hs => .foldl (fun _ _ hs => hs.auditReg) hs) hs) hs) (.foldl (fun _ _ hs =>
    hs.storeField) (.ite (.foldl (fun _ _ hs => .foldl (fun _ _ hs => hs.auditReg) hs) hs) hs)))) (.ite (.ite (.foldl (fun _ _ hs =>
    .foldl (fun _ _ hs => hs.auditReg) hs) hs) hs) (.foldl (fun _ _ hs => hs.storeField) (.ite (.foldl (fun _ _ hs => .foldl (fun _ _ hs
    => hs.auditReg) hs) hs) hs)))) (.ite (.guestError (.ite (.put (.ite (.ite (.foldl (fun _ _ hs => .foldl (fun _ _ hs => hs.auditReg)
    hs) hs) hs) (.foldl (fun _ _ hs => hs.storeField) (.ite (.foldl (fun _ _ hs => .foldl (fun _ _ hs => hs.auditReg) hs) hs) hs)))) (.ite
    (.ite (.foldl (fun _ _ hs => .foldl (fun _ _ hs => hs.auditReg) hs) hs) hs) (.foldl (fun _ _ hs => hs.storeField) (.ite (.foldl (fun _
    _ hs => .foldl (fun _ _ hs => hs.auditReg) hs) hs) hs))))) (.cfgError (.ite (.put (.ite (.ite (.foldl (fun _ _ hs => .foldl (fun _ _
    hs => hs.auditReg) hs) hs) hs) (.foldl (fun _ _ hs => hs.storeField) (.ite (.foldl (fun _ _ hs => .foldl (fun _ _ hs => hs.auditReg)
    hs) hs) hs)))) (.ite (.ite (.foldl (fun _ _ hs => .foldl (fun _ _ hs => hs.auditReg) hs) hs) hs) (.foldl (fun _ _ hs => hs.storeField)
    (.ite (.foldl (fun _ _ hs => .foldl (fun _ _ hs => hs.auditReg) hs) hs) hs))))))) (.ite (.impEffect (.ite (.ite (.put (.ite (.ite
    (.foldl (fun _ _ hs => .foldl (fun _ _ hs => hs.auditReg) hs) hs) hs) (.foldl (fun _ _ hs => hs.storeField) (.ite (.foldl (fun _ _ hs
    => .foldl (fun _ _ hs => hs.auditReg) hs) hs) hs)))) (.ite (.ite (.foldl (fun _ _ hs => .foldl (fun _ _ hs => hs.auditReg) hs) hs) hs)
    (.foldl (fun _ _ hs => hs.storeField) (.ite (.foldl (fun _ _ hs => .foldl (fun _ _ hs => hs.auditReg) hs) hs) hs)))) (.ite
    (.guestError (.ite (.put (.ite (.ite (.foldl (fun _ _ hs => .foldl (fun _ _ hs => hs.auditReg) hs) hs) hs) (.foldl (fun _ _ hs =>
    hs.storeField) (.ite (.foldl (fun _ _ hs => .foldl (fun _ _ hs => hs.auditReg) hs) hs) hs)))) (.ite (.ite (.foldl (fun _ _ hs =>
    .foldl (fun _ _ hs => hs.auditReg) hs) hs) hs) (.foldl (fun _ _ hs => hs.storeField) (.ite (.foldl (fun _ _ hs => .foldl (fun _ _ hs
    => hs.auditReg) hs) hs) hs))))) (.cfgError (.ite (.put (.ite (.ite (.foldl (fun _ _ hs => .foldl (fun _ _ hs => hs.auditReg) hs) hs)
    hs) (.foldl (fun _ _ hs => hs.storeField) (.ite (.foldl (fun _ _ hs => .foldl (fun _ _ hs => hs.auditReg) hs) hs) hs)))) (.ite (.ite
    (.foldl (fun _ _ hs => .foldl (fun _ _ hs => hs.auditReg) hs) hs) hs) (.foldl (fun _ _ hs => hs.storeField) (.ite (.foldl (fun _ _ hs
    => .foldl (fun _ _ hs => hs.auditReg) hs) hs) hs)))))))) (.regEffect (.ite (.ite (.put (.ite (.ite (.foldl (fun _ _ hs => .foldl (fun
    _ _ hs => hs.auditReg) hs) hs) hs) (.foldl (fun _ _ hs => hs.storeField) (.ite (.foldl (fun _ _ hs => .foldl (fun _ _ hs =>
    hs.auditReg) hs) hs) hs)))) (.ite (.ite (.foldl (fun _ _ hs => .foldl (fun _ _ hs => hs.auditReg) hs) hs) hs) (.foldl (fun _ _ hs =>
    hs.storeField) (.ite (.foldl (fun _ _ hs => .foldl (fun _ _ hs => hs.auditReg) hs) hs) hs)))) (.ite (.guestError (.ite (.put (.ite
    (.ite (.foldl (fun _ _ hs => .foldl (fun _ _ hs => hs.auditReg) hs) hs) hs) (.foldl (fun _ _ hs => hs.storeField) (.ite (.foldl (fun _
    _ hs => .foldl (fun _ _ hs => hs.auditReg) hs) hs) hs)))) (.ite (.ite (.foldl (fun _ _ hs => .foldl (fun _ _ hs => hs.auditReg) hs)
    hs) hs) (.foldl (fun _ _ hs => hs.storeField) (.ite (.foldl (fun _ _ hs => .foldl (fun _ _ hs => hs.auditReg) hs) hs) hs)))))
    (.cfgError (.ite (.put (.ite (.ite (.foldl (fun _ _ hs => .foldl (fun _ _ hs => hs.auditReg) hs) hs) hs) (.foldl (fun _ _ hs =>
    hs.storeField) (.ite (.foldl (fun _ _ hs => .foldl (fun _ _ hs => hs.auditReg) hs) hs) hs)))) (.ite (.ite (.foldl (fun _ _ hs =>
    .foldl (fun _ _ hs => hs.auditReg) hs) hs) hs) (.foldl (fun _ _ hs => hs.storeField) (.ite (.foldl (fun _ _ hs => .foldl (fun _ _ hs
    => hs.auditReg) hs) hs) hs)))))))))

theorem State.Canonical.regWriteAt {o : Origin} {r : Reg} {i off a n v : Nat} {by_ : WriteBy} (hs : s.Canonical) : (s.regWriteAt o r i off
    a n v by_).Canonical :=
  .ite hs.accessError (.ite hs.accessError (.ite hs.accessError (.ite hs.upd (.ite hs.hold (.ite (.accessError (.ite (.foldl (fun _ _ hs =>
    hs.auditReg) hs.upd) hs.upd)) (.ite hs.upd.recordError hs.upd.regApply))))))

theorem State.Canonical.holdWrite {o : Origin} {a n v : Nat} (hs : s.Canonical) : (s.holdWrite o a n v).Canonical := hs.hold

theorem State.Canonical.regWrite {o : Origin} {a n v : Nat} (hs : s.Canonical) : (s.regWrite o a n v).Canonical := by
  refine .ite hs.accessError (.ite hs.holdWrite ?_)
  split
  · exact hs.accessError
  · refine .ite ?_ hs.regWriteAt
    dsimp only
    split
    · exact hs.regWriteAt
    · exact .ite hs.regWriteAt.holdWrite hs.regWriteAt.regWriteAt

theorem State.Canonical.readClears {o : Origin} {r : Reg} {i rng : Nat} (hs : s.Canonical) : (s.readClears o r i rng).Canonical :=
  .ite (.modDrw (.ite (.upd (.ite (.upd (.foldl (fun _ _ hs => .ite (.ite hs.put hs.put) hs.put) hs)) (.foldl (fun _ _ hs => .ite (.ite
    hs.put hs.put) hs.put) hs))) (.ite (.upd (.foldl (fun _ _ hs => .ite (.ite hs.put hs.put) hs.put) hs)) (.foldl (fun _ _ hs => .ite
    (.ite hs.put hs.put) hs.put) hs)))) (.ite (.upd (.ite (.upd (.foldl (fun _ _ hs => .ite (.ite hs.put hs.put) hs.put) hs)) (.foldl (fun
    _ _ hs => .ite (.ite hs.put hs.put) hs.put) hs))) (.ite (.upd (.foldl (fun _ _ hs => .ite (.ite hs.put hs.put) hs.put) hs)) (.foldl
    (fun _ _ hs => .ite (.ite hs.put hs.put) hs.put) hs)))

theorem State.Canonical.readActs (hs : s.Canonical) {o : Origin} {r : Reg} {i : Nat} {x : State × Nat} (hx : s.readActs o r i = some x) :
    x.1.Canonical := by
  unfold State.readActs at hx
  split_ifs at hx <;> obtain rfl := Option.some.inj hx
  · exact hs.claimRead
  · exact hs.hutClaimRead
  · exact hs.bwRead
  · exact hs.bwWrRead
  · exact hs.bwPeakRead

theorem State.Canonical.regReadAt {o : Origin} {r : Reg} {i off a n : Nat} {byCmd : Bool} (hs : s.Canonical) :
    (s.regReadAt o r i off a n byCmd).1.Canonical := by
  have h1 (rng) : (match s.readActs o r i with
      | some x => x
      | none => (s.readClears o r i rng, s.viewWord o r i)).1.Canonical := by
    split
    · exact hs.readActs ‹_›
    · exact hs.readClears
  refine .ite_fst hs.accessError (.ite_fst hs.accessError (.ite_fst hs.accessError (.ite_fst hs.recordError ?_)))
  extract_lets half lat
  cases lat with
  | some l => exact hs.upd
  | none => exact .ite_fst (h1 _) (.ite_fst (h1 _) (.ite_fst (h1 _).upd (h1 _)))

theorem State.Canonical.regRead {o : Origin} {a n : Nat} (hs : s.Canonical) : (s.regRead o a n).1.Canonical := by
  unfold State.regRead
  obtain ⟨find, hf⟩ : ∃ find, regAt = find := ⟨_, rfl⟩
  rw [hf]
  refine .ite_fst hs.accessError ?_
  extract_lets a4
  split
  · exact hs.accessError
  · refine .ite_fst ?_ (.ite_fst hs.regReadAt.mk_fst hs.regReadAt)
    split
    · exact hs.regReadAt
    · exact hs.regReadAt.regReadAt.mk_fst

theorem State.Canonical.regReadOrHold {o : Origin} {a n : Nat} (hs : s.Canonical) : (s.regReadOrHold o a n).Canonical :=
  .ite hs.hold hs.regRead.ret

theorem State.Canonical.heldGo {h : Held} (hs : s.Canonical) : (s.heldGo h).Canonical := by
  unfold State.heldGo
  split
  exacts [hs.regRead.ret, hs.regWrite]

theorem State.Canonical.heldStep (hs : s.Canonical) : s.heldStep.Canonical := by
  unfold State.heldStep
  split
  exacts [hs, .ite hs.upd.heldGo.upd hs]

/-! ### Bus -/

theorem State.Canonical.vfTable {d off n v : Nat} (hs : s.Canonical) : (s.vfTable d off n v).Canonical :=
  .foldl (fun _ _ hs => hs.modDrw.sendPending) hs

theorem State.Canonical.pfTable {p off n v : Nat} (hs : s.Canonical) : (s.pfTable p off n v).Canonical :=
  .foldl (fun _ _ hs => hs.modPort.sendPending) hs

theorem State.Canonical.pageWrite {o : Origin} {d off n v : Nat} (hs : s.Canonical) : (s.pageWrite o d off n v).Canonical :=
  .ite hs.regWrite (.ite hs.accessError (.ite hs.accessError (.ite (.foldl (fun _ _ hs => .ite hs.doorbell hs.completionDoorbell) hs) (.ite
    hs.vfTable (.ite hs hs.accessError)))))

theorem State.Canonical.pageRead {o : Origin} {d off n : Nat} (hs : s.Canonical) : (s.pageRead o d off n).1.Canonical :=
  .ite_fst hs.regRead (.ite_fst hs.accessError (.ite_fst hs.accessError (.ite_fst hs (.ite_fst hs (.ite_fst hs hs.accessError)))))

theorem State.Canonical.dramFetch {o : Origin} {a n : Nat} (hs : s.Canonical) : (s.dramFetch o a n).1.Canonical := hs.dramAccess.enterFifo

/-- A store to DRAM changes memory as the write of its bytes does; what it counts and records leaves memory alone. -/
theorem State.Canonical.dramStore {o : Origin} {a : Nat} {bs : List Byte} (hs : s.Canonical) : (s.dramStore o a bs).Canonical := by
  have hm := memRest_putLines s a bs
  have hd := (State.SameMem.refl s).dramAccess (o := o) (write := true) (a := a) (n := bs.length)
  refine .markDirty ⟨?_, hs.dramAccess.enterFifo.2⟩
  have hr : ((s.dramAccess o true a bs.length).enterFifo a bs.length).memRest = s.memRest := by
    obtain ⟨m, he⟩ := enterFifo_frame (s.dramAccess o true a bs.length) a bs.length
    rw [he]
    exact hd.2
  exact (congrArg (fun n => Memory.wf n _ = true) (hr.trans hm.symm)).mpr (hs.putLines (a := a) (bs := bs)).1

theorem State.Canonical.stall {x : Stalled} (hs : s.Canonical) : (s.stall x).Canonical := hs.upd

theorem State.Canonical.memFetch {o : Origin} {blk a n : Nat} (hs : s.Canonical) : (s.memFetch o blk a n).1.Canonical :=
  .ite_fst hs (.ite_fst hs.accessError (by split; exacts [hs.dramFetch, hs]))

theorem State.Canonical.memStore {o : Origin} {blk a : Nat} {bs : List Byte} (hs : s.Canonical) : (s.memStore o blk a bs).Canonical :=
  .ite hs (.ite hs.accessError (by split; exacts [hs.dramStore, hs.writeBytes]))

theorem State.Canonical.busAccess {o : Origin} {blk a n : Nat} {data : Option (List Byte)} (hs : s.Canonical) : (s.busAccess o blk a n
    data).Canonical := by
  unfold State.busAccess
  split
  exacts [hs.regWrite, hs.regReadOrHold, hs.pageWrite, .ite hs.hold hs.pageRead.ret, hs.remoteCore, hs.remoteCore, .ite hs.stall
    hs.memStore, .ite hs.stall hs.memFetch.ret]

theorem State.Canonical.barDone {x : BarAccess} {v : Nat} (hs : s.Canonical) : (s.barDone x v).Canonical := .ite hs.hostOutPush hs

theorem State.Canonical.pfBar0 {x : BarAccess} (hs : s.Canonical) : (s.pfBar0 x).Canonical := by
  unfold State.pfBar0
  cases x.data with
  | none => exact .ite hs.regReadOrHold (.ite hs.barDone (.ite hs.barDone (.ite hs.barDone (.ite hs.barDone hs.accessError.barDone))))
  | some bs => exact .ite hs.regWrite (.ite hs.modPort (.ite hs.modPort (.ite (.ite hs.pfTable hs) (.ite hs.barDone hs.accessError.barDone))))

theorem State.Canonical.pfBar2 {x : BarAccess} (hs : s.Canonical) : (s.pfBar2 x).Canonical :=
  .ite hs.accessError.barDone (.ite hs.stall (by split; exacts [hs.memStore, hs.memFetch.barDone]))

theorem State.Canonical.vfBar2 {d : Nat} {x : BarAccess} (hs : s.Canonical) : (s.vfBar2 d x).Canonical :=
  .ite hs.guestError.barDone (.ite hs.stall (by split; exacts [hs.memStore, hs.memFetch.barDone]))

theorem State.Canonical.bar2 {x : BarAccess} (hs : s.Canonical) : (s.bar2 x).Canonical := .ite hs.pfBar2 hs.vfBar2

/-! ### Debug -/

theorem State.Canonical.dbgReadCmd {wide : Bool} (hs : s.Canonical) : (s.dbgReadCmd wide).Canonical := by
  unfold State.dbgReadCmd
  split
  exacts [hs.put, hs.put.busAccess]

theorem State.Canonical.dbgWriteCmd {wide : Bool} (hs : s.Canonical) : (s.dbgWriteCmd wide).Canonical := by
  unfold State.dbgWriteCmd
  split
  exacts [hs.put, hs.put.busAccess]

theorem State.Canonical.dbgCommand {w : Nat} (hs : s.Canonical) : (s.dbgCommand w).Canonical :=
  .ite hs (.ite hs.challenge (.ite hs.submit (.ite hs.dbgEnd (.ite hs.dbgReadCmd (.ite hs.dbgWriteCmd hs.cfgError)))))

theorem State.Canonical.tapWrite {w v : Nat} (hs : s.Canonical) : (s.tapWrite w v).Canonical := by
  unfold State.tapWrite
  split
  exacts [hs, .ite hs.dbgCommand (.ite hs.put (.ite (.ite hs.upd hs.upd.put) hs))]

/-! ### Image -/

theorem State.Canonical.loadWord {r i v : Nat} (hs : s.Canonical) : (s.loadWord r i v).Canonical := by
  unfold State.loadWord
  split
  exacts [hs, .foldl (fun _ _ hs => .ite hs.putImg hs) hs]

theorem State.Canonical.loadWords {r : Nat} {b : List Byte} {off n i : Nat} (hs : s.Canonical) : (s.loadWords r b off n i).Canonical :=
  .foldl (fun _ _ hs => hs.loadWord) hs

theorem State.Canonical.loadDefaults (hs : s.Canonical) : s.loadDefaults.Canonical :=
  .foldl (fun _ _ hs => hs.putImg) hs.putImg.putImg.putImg.putImg.putImg.putImg.putImg.putImg.putImg.putImg.putImg.putImg.putImg.putImg

theorem State.Canonical.loadKeys {b : List Byte} (hs : s.Canonical) : (s.loadKeys b).1.Canonical := hs.upd

theorem State.Canonical.loadClock {b : List Byte} (hs : s.Canonical) : (s.loadClock b).1.Canonical :=
  .ite (.putStState (.upd (.putB (.foldl (fun _ _ hs => hs.loadWord) hs.loadWord.loadWord.loadWord)))) (.upd (.putB (.foldl (fun _ _ hs =>
    hs.loadWord) hs.loadWord.loadWord.loadWord)))

theorem State.Canonical.loadDram {b : List Byte} (hs : s.Canonical) : (s.loadDram b).1.Canonical :=
  .modDmc (.putB (.putImg (.putImg (.putImg (.foldl (fun _ _ hs => hs.putImg.putImg.putImg.putImg.putImg.putImg.putImg.putImg) hs)))))

theorem State.Canonical.loadHead {h : Nat} {e : List Byte} (hs : s.Canonical) : (s.loadHead h e).Canonical :=
  hs.modHead.loadWord.loadWord.putImg.putImg.putImg.putImg.putImg.putImg.putImg.putImg.putImg.putImg.putImg.putImg.putImg.put

theorem State.Canonical.loadHeads {b : List Byte} (hs : s.Canonical) : (s.loadHeads b).1.Canonical :=
  .put (.putImg (.putImg (.foldl (fun _ _ hs => hs.loadHead) hs)))

theorem State.Canonical.loadTelltales {b : List Byte} (hs : s.Canonical) : (s.loadTelltales b).1.Canonical := hs.upd

theorem State.Canonical.loadTouch {b : List Byte} (hs : s.Canonical) : (s.loadTouch b).1.Canonical :=
  .foldl (fun _ _ hs => .foldl (fun _ _ hs => hs.putImg) hs) (.foldl (fun _ _ hs => hs.loadWord.loadWord) (.foldl (fun _ _ hs =>
    hs.loadWord.loadWord.loadWord.loadWord.loadWord.loadWord) hs))

theorem State.Canonical.loadHaptic {b : List Byte} (hs : s.Canonical) : (s.loadHaptic b).1.Canonical :=
  .upd (.foldl (fun _ _ hs => hs.loadWord.loadWord) hs)

theorem State.Canonical.loadAudio {b : List Byte} (hs : s.Canonical) : (s.loadAudio b).1.Canonical :=
  .audFresh (.modAud (.ite (.foldl (fun _ _ hs => hs.putImg) (.foldl (fun _ _ hs => hs.loadWord.loadWord) (.loadWords (.foldl (fun _ _ hs =>
    hs.loadWord.loadWord) hs.loadWord.loadWords.loadWords.loadWords.loadWords)))) (.foldl (fun _ _ hs => hs.loadWord.loadWord) (.loadWords
    (.foldl (fun _ _ hs => hs.loadWord.loadWord) hs.loadWord.loadWords.loadWords.loadWords.loadWords)))))

theorem State.Canonical.loadDrawers {b : List Byte} (hs : s.Canonical) : (s.loadDrawers b).1.Canonical := hs.modPort.modPort.upd

theorem State.Canonical.loadPlynlink {b : List Byte} (hs : s.Canonical) : (s.loadPlynlink b).1.Canonical :=
  .modPlk (.foldl (fun _ _ hs => hs.loadWords) (.foldl (fun _ _ hs => hs.loadWords) (.foldl (fun _ _ hs => hs.loadWord.loadWord) (.foldl
    (fun _ _ hs => hs.loadWord.loadWord) (.foldl (fun _ _ hs => hs.putImg.putImg) hs.putImg.putImg.putImg.putImg.putImg.putImg.putImg)))))

theorem State.Canonical.loadPolicy {b : List Byte} (hs : s.Canonical) : (s.loadPolicy b).1.Canonical := hs.putImg.putImg.upd

theorem State.Canonical.loadMutable {b : List Byte} (hs : s.Canonical) : (s.loadMutable b).1.Canonical := hs.upd

theorem State.Canonical.loadSection {x : Section} {b : List Byte} (hs : s.Canonical) : (s.loadSection x b).1.Canonical :=
  .ite_fst (.ite_fst hs.loadKeys hs) (.ite_fst hs.loadClock (.ite_fst hs.loadDram (.ite_fst hs.loadHeads (.ite_fst hs.loadTelltales
    (.ite_fst hs.loadTouch (.ite_fst hs.loadHaptic (.ite_fst hs.loadAudio (.ite_fst hs.loadDrawers (.ite_fst hs.loadPlynlink (.ite_fst
    hs.loadPolicy (.ite_fst hs.loadMutable (.ite_fst hs.writeBytes (.ite_fst hs.writeBytes hs)))))))))))))

theorem State.Canonical.loadConfig {x : ImageCopy} {cs : List (Nat × SecCheck)} (hs : s.Canonical) : (s.loadConfig x cs).1.Canonical :=
  .ite_fst hs (by split; exacts [hs, .foldl_fst (fun _ _ hs => .ite_fst hs hs.loadSection) hs.loadDefaults])

theorem State.Canonical.loadShelf {b : List Byte} (hs : s.Canonical) : (s.loadShelf b).1.Canonical :=
  .upd (.foldl (fun _ _ hs => hs.writeBytes) hs.zeroBytes)

theorem State.Canonical.imageRegions (hs : s.Canonical) : s.imageRegions.Canonical :=
  .foldl (fun _ _ hs => .foldl (fun _ _ hs => hs.putImg.putImg.putImg.putImg.putImg.putImg.putImg.modRegion) hs) hs

/-! ### Startup -/

theorem State.Canonical.husk (_ : s.Canonical) : s.husk.Canonical := ⟨rfl, rfl⟩

theorem State.Canonical.portsFromPerst (hs : s.Canonical) : s.portsFromPerst.Canonical := .foldl (fun _ _ hs => hs.modPort) hs

theorem State.Canonical.porStart (hs : s.Canonical) : s.porStart.Canonical := hs.husk.upd.portsFromPerst

theorem State.Canonical.modReset (hs : s.Canonical) : s.modReset.Canonical :=
  .portsFromPerst ⟨memory_wf_nil _, tsorted_filter _ _ hs.endSession.flushAndSeal.clearTransition.putNext.put.put.2⟩

theorem State.Canonical.powerOff {c : OffCause} (hs : s.Canonical) : (s.powerOff c).Canonical := hs.husk.upd

theorem State.Canonical.loadResult {k : Nat} {r : TestRecord} (hs : s.Canonical) : (s.loadResult k r).Canonical :=
  hs.put.put.put.put.put.put.put.put.put.put.put

theorem State.Canonical.loadHw (hs : s.Canonical) : s.loadHw.Canonical :=
  .putB (.loadResult (.put (.put (.auditCountHeld (.put (.put (.ite (.foldl (fun _ _ hs => hs.put) hs.put.put.putB.put.put.putB.put.put.put)
    (.upd (.foldl (fun _ _ hs => hs.put) hs.put.put.putB.put.put.putB.put.put.put)))))))))

theorem State.Canonical.dropConfig (hs : s.Canonical) : s.dropConfig.Canonical := by
  have h1 : ((List.range 8).foldl (fun s h =>
      if 1 ≤ s.get F.HDn_STATUS_STATE h ∧ s.get F.HDn_STATUS_STATE h ≤ 2 then s.headStopped h else s) s).Canonical :=
    .foldl (fun _ _ hs => .ite hs.headStopped hs) hs
  unfold State.dropConfig
  generalize (List.range 8).foldl _ s = s1 at h1 ⊢
  have h2 : ({ s1 with regs := s1.regs.filter (fun p => !(s1.shadow.any (fun q => q.1 = p.1))), shadow := [] } : State).Canonical := 
    ⟨h1.1, tsorted_filter _ _ h1.2⟩
  exact .upd (.putB (.put (.put (.foldl (fun _ _ hs => hs.modPort) h2.islandReset))))

theorem State.Canonical.rejectCopy {cause sec : Nat} (hs : s.Canonical) : (s.rejectCopy cause sec).Canonical :=
  .ite hs.put.put.dropConfig.put.put.put.upd hs.put.put.dropConfig.put.faultN.upd

theorem State.Canonical.memLost {m : Nat} (hs : s.Canonical) : (s.memLost m).Canonical := .ite hs.upd (.ite hs.setBg (.ite hs.put hs))

theorem State.Canonical.openingFail {f : TestFail} (hs : s.Canonical) : (s.openingFail f).Canonical :=
  .ite (.memLost (.ite hs.upd (.ite hs.put hs.upd))) hs.addRepair.memLost

theorem State.Canonical.trainChan {x : ChanTrain} (hs : s.Canonical) : (s.trainChan x).Canonical := by
  unfold State.trainChan
  dsimp only
  split
  · exact hs.putTraining
  · split
    · exact hs.put.putTraining.saveTraining
    · exact hs.put.recordError

theorem State.Canonical.checker0 {u n : Nat} (hs : s.Canonical) : (s.checker0 u n).Canonical := hs.put.put.put.put.put.put.put.put

theorem State.Canonical.portsOpen (hs : s.Canonical) : s.portsOpen.Canonical := .ite hs.upd.shutdownBegin hs

theorem State.Canonical.shutdownRequest (hs : s.Canonical) : s.shutdownRequest.Canonical := by
  unfold State.shutdownRequest
  split
  exacts [hs.upd, .ite hs (.ite hs.replaceNext.putNext.put hs.shutdownBegin), hs]

theorem State.Canonical.shutdownEnd {fails : List TestFail} {coverage durationUs : Nat} (hs : s.Canonical) : (s.shutdownEnd fails coverage
    durationUs).Canonical :=
  .powerOff (.flushAndSeal (.foldl (fun _ _ hs => hs.baselineWrite) (.ite (.foldl (fun _ _ hs => hs.saveTraining) (.ite (.upd (.foldl (fun _
    _ hs => hs.addRepair) hs)) hs)) (.ite (.upd (.foldl (fun _ _ hs => hs.addRepair) hs)) hs))))

theorem State.Canonical.emergency {c : OffCause} (hs : s.Canonical) : (s.emergency c).Canonical := by
  unfold State.emergency
  split
  exacts [hs, hs, .upd (.hutchRaise (.putNext (.clearTransition (.foldl (fun _ _ hs => hs.modPort) (.foldl (fun _ _ hs => hs.plkDown)
    (.foldl (fun _ _ hs => hs.headStopped.hapKill) hs.put.squashTests))))))]

theorem State.Canonical.supplyFlag {f : Fld} (hs : s.Canonical) : (s.supplyFlag f).Canonical := .put (.ite hs hs.hutchRaise)

theorem State.Canonical.setThrottle {l : Nat} (hs : s.Canonical) : (s.setThrottle l).Canonical :=
  .hutchRaise (.ite (.put (.ite hs.put.clockActions.faultN hs.put.clockActions.faultNRelease)) (.ite hs.put.clockActions.faultN
    hs.put.clockActions.faultNRelease))

theorem State.Canonical.holdReload (hs : s.Canonical) : s.holdReload.Canonical := hs.writeBytes.writeBytes

/-! ### Mailbox -/

theorem State.Canonical.respondValue {p v : Nat} (hs : s.Canonical) : (s.respondValue p v).Canonical := hs.respond

theorem State.Canonical.imageStops {p cause : Nat} (hs : s.Canonical) : (s.imageStops p cause).Canonical := hs.modPort.respond

theorem State.Canonical.imageStage {p : Nat} {x : PartialImage} {k : Nat} (hs : s.Canonical) : (s.imageStage p x k).Canonical :=
  hs.modPort

/-! ### PlkRx -/

theorem State.Canonical.helloIn {p : Nat} {m : Msg} (hs : s.Canonical) : (s.helloIn p m).Canonical := hs.put.put

theorem State.Canonical.leaveIn {p : Nat} (hs : s.Canonical) : (s.leaveIn p).Canonical := hs.plkDown.plkTrain

theorem State.Canonical.wrAck {m : Msg} {r : Nat} (hs : s.Canonical) : (s.wrAck m r).Canonical := hs.sendTo

theorem State.Canonical.wrIn {m : Msg} {bs : List Byte} {mask : Nat} (hs : s.Canonical) : (s.wrIn m bs mask).Canonical :=
  .ite hs.accessError.wrAck (.ite hs.wrAck (.ite hs.stall hs.memStore.wrAck))

theorem State.Canonical.rdIn {m : Msg} (hs : s.Canonical) : (s.rdIn m).Canonical :=
  .ite hs.accessError.sendTo (.ite hs.sendTo (.ite hs.stall hs.memFetch.sendTo))

theorem State.Canonical.peerAccess {m : Msg} (hs : s.Canonical) : (s.peerAccess m).Canonical := .ite hs.rdIn (.ite hs.wrIn hs.wrIn)

theorem State.Canonical.mgmtIn {m : Msg} (hs : s.Canonical) : (s.mgmtIn m).Canonical := .ite hs.sendTo hs.modPlk.icuLine.sendTo

theorem State.Canonical.mgmtAckIn {m : Msg} (hs : s.Canonical) : (s.mgmtAckIn m).Canonical := by
  unfold State.mgmtAckIn
  split
  exacts [hs, .ite hs.sendTo hs.modPlk]

theorem State.Canonical.plkDeliver {p : Nat} {m : Msg} (hs : s.Canonical) : (s.plkDeliver p m).Canonical := by
  unfold State.plkDeliver
  split
  exacts [hs.helloIn, hs.routeIn, hs.leaveIn, hs.syncReq, hs.syncRsp, hs.peerAccess, hs.peerAccess, hs.openReq, hs.peerAccess, hs.remoteRsp,
    hs.remoteRsp, hs.openRsp, hs.subscribeReq, hs.tileIn, hs.genEnd, hs.genAck, hs.genCommitIn, hs.subAck, hs.touchIn, hs.audioIn,
    hs.mgmtIn, hs.mgmtAckIn, hs.plkDrop]

theorem State.Canonical.noRoute {m : Msg} (hs : s.Canonical) : (s.noRoute m).Canonical :=
  .ite hs.sendTo (.ite hs.sendTo (.ite hs.sendTo hs.plkDrop))

theorem State.Canonical.forward {m : Msg} (hs : s.Canonical) : (s.forward m).Canonical := .ite hs.plkDrop (.ite hs.sendOn hs.noRoute)

theorem State.Canonical.creditBack {p c : Nat} {m : Msg} (hs : s.Canonical) : (s.creditBack p c m).Canonical :=
  .ite hs.modPport hs.flitOut

theorem State.Canonical.plkArrive {p : Nat} {m : Msg} (hs : s.Canonical) : (s.plkArrive p m).Canonical :=
  .ite hs (by split; exacts [hs.plkDrop, .ite hs.creditBack.plkDeliver hs.creditBack.forward])

theorem State.Canonical.sendNak {p : Nat} (hs : s.Canonical) : (s.sendNak p).Canonical := .ite hs hs.modPport.flitOut

theorem State.Canonical.resend {p : Nat} (hs : s.Canonical) : (s.resend p).Canonical := .foldl (fun _ _ hs => hs.flitOut) hs.incSat

theorem State.Canonical.ackIn {p : Nat} {f : Flit} (hs : s.Canonical) : (s.ackIn p f).Canonical :=
  .ite (.pump (.ite (.modPport (.ite hs.modPport hs)) (.ite hs.modPport hs))) (.ite (.plkTrain (.plkDown (.ite (.modPport (.ite hs.modPport
    hs)) (.ite hs.modPport hs)))) (.pump (.resend (.modPport (.ite (.modPport (.ite hs.modPport hs)) (.ite hs.modPport hs))))))

theorem State.Canonical.flitIn {p : Nat} {corr uncorr : Bool} {b : List Byte} (hs : s.Canonical) : (s.flitIn p corr uncorr b).Canonical :=
  .ite hs (.ite (.ite (.plkTrain (.plkDown (.incSat (.modPport (.ite hs.incSat.pmuEvent hs))))) (.sendNak (.incSat (.modPport (.ite
    hs.incSat.pmuEvent hs))))) (.ite (.sendNak (.modPport (.ite hs.incSat.pmuEvent hs))) (.ite (.modPport (.ite hs.incSat.pmuEvent hs))
    (.ite (.ackIn (.modPport (.ite hs.incSat.pmuEvent hs))) (.ite (.sendNak (.ackIn (.modPport (.ite hs.incSat.pmuEvent hs)))) (.foldl
    (fun _ _ hs => hs.plkArrive) (.flitOut (.pmuEvent (.modPport (.ackIn (.modPport (.ite hs.incSat.pmuEvent hs))))))))))))

theorem State.Canonical.arriveAs {t p : Nat} {m : Msg} (hs : s.Canonical) : (s.arriveAs t p m).Canonical := hs.plkArrive

theorem State.Canonical.mgmtSend {cab : Bool} {dest tag : Nat} {data : List Byte} (hs : s.Canonical) : (s.mgmtSend cab dest tag
    data).Canonical :=
  .ite hs hs.modPlk.sendTo

theorem State.Canonical.mgmtTake {cab : Bool} (hs : s.Canonical) : (s.mgmtTake cab).Canonical := hs.modPlk.icuLine

theorem State.Canonical.admitStalled {x : Stalled} (hs : s.Canonical) : (s.admitStalled x).Canonical := by
  unfold State.admitStalled
  split
  exacts [hs.busAccess, hs.bar2, hs.peerAccess]

/-! ### Recovery -/

theorem State.Canonical.replayGroup {g : Nat} (hs : s.Canonical) : (s.replayGroup g).Canonical :=
  .modBg (.foldl (fun _ _ hs => by split; exacts [hs, hs.replay]) hs)

theorem State.Canonical.replayEngines {which : Nat → Bool} (hs : s.Canonical) : (s.replayEngines which).Canonical :=
  .foldl (fun _ _ hs => .foldl (fun _ _ hs => by split; exacts [hs, .ite hs.replay hs]) hs) hs

theorem State.Canonical.unitWork {u : ResetUnit} (hs : s.Canonical) : (s.unitWork u).Canonical := by
  have h1 := fun p => hs.squashTests (which := p)
  unfold State.unitWork
  cases u with
  | bg g => exact (h1 _).replayGroup
  | gpuIsland => exact (h1 _).replayEngines
  | perIsland => exact (h1 _).replayEngines.voicesStop
  | coreIsland => exact .foldl (fun _ _ hs => .ite hs.respond hs) (h1 _)
  | hostIsland => exact (h1 _).prtReset.prtReset
  | plkIsland => exact .foldl (fun _ _ hs => .ite hs hs.plkDown) (h1 _)
  | tchIsland => exact .foldl (fun _ _ hs => hs.cancelTouches) (h1 _)
  | head h => exact .foldl (fun _ _ hs => hs.unbind) (h1 _)
  | witIsland => exact .foldl (fun _ _ hs => .foldl (fun _ _ hs => hs.unbind) hs) (h1 _)
  | rtPair n => exact h1 _

theorem State.Canonical.unitReset {u : ResetUnit} {esc : Bool} (hs : s.Canonical) : (s.unitReset u esc).Canonical :=
  .foldl (fun _ _ hs => hs.put) hs.unitWork.incSat.putB.put.upd.islandReset

theorem State.Canonical.unitBack {u : ResetUnit} (hs : s.Canonical) : (s.unitBack u).Canonical := by
  unfold State.unitBack
  split
  exacts [hs, hs.coreRestart, .ite hs.panelRaise.headStart hs, .foldl (fun _ _ hs => .ite hs.panelRaise.headStart hs) hs, hs.clockActions,
    .foldl (fun _ _ hs => hs.coreRestart) hs, hs, hs, .foldl (fun _ _ hs => .ite hs hs.plkTrain) hs, .foldl (fun _ _ hs => .ite hs
    hs.panelStart) hs]

end Sys2Proof.Machine
end

section
/-! SUPPORT. The canonical form of memory and registers: every command, and so every step, keeps it. -/

namespace Sys2Proof.Machine

variable {s t : State}
/-! ### The commands -/

/-- Every next state that the outcome answers has the canonical form. -/
def NextCanonical (r : Host.Outcome State Fault Refusal) : Prop := ∀ t, r = .next t → t.Canonical

theorem NextCanonical.next (ht : t.Canonical) : NextCanonical (.next t) := fun _ h => Host.Outcome.next.inj h ▸ ht

theorem canonical_execRomEntry {slot : Fin 16} (hs : s.Canonical) : NextCanonical (execRomEntry slot s) :=
  .next (.ite hs (.ite (.upd (.ite hs.upd.putWord.put.putWord.loadHw hs.upd.putWord.put.putWord.loadHw.recordError)) (.put (.ite
    hs.upd.putWord.put.putWord.loadHw hs.upd.putWord.put.putWord.loadHw.recordError))))

theorem canonical_execSignatureVerdict {c : HdrCheck} (hs : s.Canonical) : NextCanonical (execSignatureVerdict c s) :=
  .next (.ite hs (.ite hs.rejectCopy hs.put.put.put.upd))

theorem canonical_execSectionLoad {cs : List (Nat × SecCheck)} (hs : s.Canonical) : NextCanonical (execSectionLoad cs s) :=
  .next (.ite hs (.ite hs.loadConfig.rejectCopy hs.loadConfig.sealFound.put.upd))

theorem canonical_execRepairApply (hs : s.Canonical) : NextCanonical (execRepairApply s) :=
  .next (.ite hs (.foldl (fun _ _ hs => hs.memLost) hs.upd.put))

theorem canonical_execOpeningTest {fails : List TestFail} {coverage : Fin 1001} {durationUs : Nat} (hs : s.Canonical) : NextCanonical
    (execOpeningTest fails coverage durationUs s) :=
  .next (.ite hs (.ite (.loadResult (.upd (.foldl (fun _ _ hs => hs.openingFail) hs))) (.put (.loadResult (.upd (.foldl (fun _ _ hs =>
    hs.openingFail) hs))))))

theorem canonical_execDramTraining {xs : List ChanTrain} (hs : s.Canonical) : NextCanonical (execDramTraining xs s) :=
  .next (.ite hs (.ite (.foldl (fun _ _ hs => hs.trainChan) hs) (.upd (.put (.foldl (fun _ _ hs => hs.trainChan) hs)))))

theorem canonical_execShelfLoad {cab shelf : SecCheck} {cabUnit : Nat} (hs : s.Canonical) : NextCanonical (execShelfLoad cab shelf cabUnit
    s) :=
  .next (.ite hs (.ite hs.rejectCopy (.ite hs.writeBytes.checker0.rejectCopy (.ite hs.writeBytes.checker0.loadShelf.rejectCopy (.upd
    (.coreRestart (.coreRestart (.foldl (fun _ _ hs => .ite hs.panelStart hs) (.foldl (fun _ _ hs => hs.headUp)
    hs.writeBytes.checker0.loadShelf.imageRegions.put)))))))))

theorem canonical_execExtendedTest {fails : List TestFail} {ports : List PlkPort} {coverage : Fin 1001} {slice : Fin 8} {durationUs : Nat}
    (hs : s.Canonical) : NextCanonical (execExtendedTest fails ports coverage slice durationUs s) :=
  .next (.ite hs (.upd (.loadResult (.put (.put (.foldl (fun _ _ hs => hs.put) (.foldl (fun _ _ hs => .ite hs.addRepair.memLost
    hs.addRepair) hs)))))))

theorem canonical_execPlynlinkStart {app : SecCheck} {appBase : Nat} (hs : s.Canonical) : NextCanonical (execPlynlinkStart app appBase s)
    :=
  .next (.ite hs (.ite hs.rejectCopy (.upd (.foldl (fun _ _ hs => hs.coreRestart) (.foldl (fun _ _ hs => .ite hs.plkTrain hs)
    hs.writeBytes.put.upd.put.modPlk)))))

theorem canonical_execRecoveryStart (hs : s.Canonical) : NextCanonical (execRecoveryStart s) :=
  .next (.ite hs.recoveryStart.portsOpen (.ite hs.portsOpen hs))

theorem canonical_execOrderlyShutdown {x : ShutdownStep} (hs : s.Canonical) : NextCanonical (execOrderlyShutdown x s) := by
  unfold execOrderlyShutdown
  refine .next ?_
  split
  exacts [hs.shutdownRequest.hutchRaise, .ite hs.shutdownEnd hs]

theorem canonical_execEmergencyTrigger {t : Trigger} (hs : s.Canonical) : NextCanonical (execEmergencyTrigger t s) := by
  unfold execEmergencyTrigger
  refine .next ?_
  split
  exacts [hs.upd.emergency, hs.upd.emergency, hs.upd.emergency]

theorem canonical_execEmergencyRecord (hs : s.Canonical) : NextCanonical (execEmergencyRecord s) := by
  unfold execEmergencyRecord
  refine .next ?_
  split
  exacts [hs.flushAndSeal.upd.powerOff, hs]

theorem canonical_execWakeNPulse (hs : s.Canonical) : NextCanonical (execWakeNPulse s) :=
  .next (.ite hs (.ite (hs.hutchRaise.guarded (fun _ hs => hs.powerRequest) (fun _ hs => hs)) hs.hutchRaise))

theorem canonical_execPpsInEdge (hs : s.Canonical) : NextCanonical (execPpsInEdge s) :=
  .next (.ite hs.hutchRaise (.ite hs.hutchRaise.put.upd (.ite (.ite hs.hutchRaise.put.upd.put.put.upd.putStState.put.stSet
    hs.hutchRaise.put.upd) (.ppsDiscipline (.ite hs.hutchRaise.put.upd.put.incWrap hs.hutchRaise.put.upd.put)))))

theorem canonical_execSupplySample {mv : Nat} (hs : s.Canonical) : NextCanonical (execSupplySample mv s) :=
  .next (.ite (.ite hs.upd hs) (.powerLimits (.ite (.supplyFlag (.ite hs.upd.put.supplyFlag hs.upd.put)) (.ite hs.upd.put.supplyFlag
    hs.upd.put))))

theorem canonical_execThrottleEval {plate die : Int} (hs : s.Canonical) : NextCanonical (execThrottleEval plate die s) :=
  .next (.ite hs (.ite (.emergency (.ite hs.put.upd.setThrottle hs.put.upd)) (.ite hs.put.upd.setThrottle hs.put.upd)))

theorem canonical_execHostBarAccess {x : BarAccess} (hs : s.Canonical) : NextCanonical (execHostBarAccess x s) := by
  refine .next (.ite hs (.ite hs.barDone (.ite (.ite hs.pfBar2 hs.pfBar0) (.ite hs (.ite hs.barDone (.ite hs.vfBar2 ?_))))))
  split
  · exact hs.pageWrite
  · exact .ite hs.hold hs.pageRead.barDone

theorem canonical_execPrtReset {p : PortId} {cause : Fin 4} (hs : s.Canonical) : NextCanonical (execPrtReset p cause s) :=
  .next (.ite hs.prtReset.modPort.upd (.ite hs.prtReset.modPort hs.prtReset))

theorem canonical_execVfDisable {p : PortId} (hs : s.Canonical) : NextCanonical (execVfDisable p s) :=
  .next (.foldl (fun _ _ hs => hs.drawerReset) hs.modPort)

theorem canonical_execD3hotEntry {p : PortId} {f : Fin 33} {m : Pmcsr} (hs : s.Canonical) : NextCanonical (execD3hotEntry p f m s) :=
  .next (.ite hs.setFn (.ite hs.setFn.pmeSignal hs.setFn))

theorem canonical_execD0Return {p : PortId} {f : Fin 33} {m : Pmcsr} (hs : s.Canonical) : NextCanonical (execD0Return p f m s) :=
  .next (.foldl (fun _ _ hs => .ite hs.fireFn hs.sendPending) hs.setFn)

theorem canonical_execMsixUnmask {p : PortId} {f : Fin 33} {v : Option (Fin 64)} (hs : s.Canonical) : NextCanonical (execMsixUnmask p f v
    s) := by
  unfold execMsixUnmask
  refine .next ?_
  dsimp only
  split
  exacts [.ite hs hs.setFn.sendPending, .foldl (fun _ _ hs => hs.sendPending) hs.setFn]

theorem canonical_execModerationTimer {d : DrawerId} {v : VecId} (hs : s.Canonical) : NextCanonical (execModerationTimer d v s) := by
  unfold execModerationTimer
  refine .next ?_
  dsimp only
  split
  exacts [hs, .ite hs.fireFn hs]

theorem canonical_execEventRead {p : PortId} (hs : s.Canonical) : NextCanonical (execEventRead p s) :=
  .next (hs.serve (fun _ => .ite hs.respond hs.modPort.respond))

theorem canonical_execSetShare {p : PortId} (hs : s.Canonical) : NextCanonical (execSetShare p s) :=
  .next (hs.serve (fun _ => .ite hs.respond (.ite hs.respond hs.shareWrite.respond)))

theorem canonical_execGrantWait {p : PortId} (hs : s.Canonical) : NextCanonical (execGrantWait p s) :=
  .next (hs.serve (fun _ => .ite hs.respond (.ite hs.respond (by split; exacts [hs.respond, .respond (.ite hs.modTl
    hs.modTl.grantsChecked)]))))

theorem canonical_execReset {p : PortId} (hs : s.Canonical) : NextCanonical (execReset p s) :=
  .next (hs.serve (fun _ => .ite hs.respond (.ite hs.respond hs.mbxWait.drawerReset)))

theorem canonical_execDestroy {p : PortId} (hs : s.Canonical) : NextCanonical (execDestroy p s) :=
  .next (hs.serve (fun _ => .ite hs.respond hs.mbxWait.drawerReset))

theorem canonical_execSave {p : PortId} (hs : s.Canonical) : NextCanonical (execSave p s) :=
  .next (hs.serve (fun _ => .ite hs.respond (.ite hs.respond hs.quiesceBegin)))

theorem canonical_execRestore {p : PortId} (hs : s.Canonical) : NextCanonical (execRestore p s) :=
  .next (hs.serve (fun _ => .ite hs.respond (.ite hs.respond hs.loadImage.put.respond)))

theorem canonical_execResume {p : PortId} (hs : s.Canonical) : NextCanonical (execResume p s) :=
  .next (hs.serve (fun _ => .ite hs.modDrw.put.respond hs.respond))

theorem canonical_execQuiesceTimeout {d : DrawerId} (hs : s.Canonical) : NextCanonical (execQuiesceTimeout d s) :=
  .next (.ite hs (.ite hs.quiesced hs.quiesceEnd))

theorem canonical_execDirtyStart {p : PortId} (hs : s.Canonical) : NextCanonical (execDirtyStart p s) :=
  .next (hs.serve (fun _ => .ite hs.respond (.ite hs.respond hs.modDrw.put.respond)))

theorem canonical_execDirtySwap {p : PortId} (hs : s.Canonical) : NextCanonical (execDirtySwap p s) :=
  .next (hs.serve (fun _ => by split; exacts [hs.respond, hs.modDrw.respond]))

theorem canonical_execDirtyStop {p : PortId} (hs : s.Canonical) : NextCanonical (execDirtyStop p s) :=
  .next (hs.serve (fun _ => .ite hs.respond hs.modDrw.put.respond))

theorem canonical_execHeapExport {p : PortId} (hs : s.Canonical) : NextCanonical (execHeapExport p s) :=
  .next (hs.serve (fun _ => .ite hs.respond (.ite hs.respond (.respond (.foldl (fun _ _ hs => hs.heapReadErr.portData) hs)))))

theorem canonical_execHeapImport {p : PortId} {data : List (List Byte)} (hs : s.Canonical) : NextCanonical (execHeapImport p data s) :=
  .next (hs.serve (fun _ => .ite hs.respond (.ite hs.respond (.respond (.foldl (fun _ _ hs => hs.portRead.heapWrite) hs)))))

theorem canonical_execRegWrite {p : PortId} (hs : s.Canonical) : NextCanonical (execRegWrite p s) :=
  .next (hs.serve (fun _ => by dsimp only; split; exacts [hs.respond, .ite hs.respond (.ite hs.respond (.ite hs.respond (.ite hs
    hs.regWriteAt.respondValue)))]))

theorem canonical_execRegRead {p : PortId} (hs : s.Canonical) : NextCanonical (execRegRead p s) :=
  .next (hs.serve (fun _ => by split; exacts [hs.respond, .ite hs hs.regReadAt.respondValue]))

theorem canonical_execImageBegin {p : PortId} (hs : s.Canonical) : NextCanonical (execImageBegin p s) :=
  .next (hs.serve (fun _ => .ite hs.respond (.ite hs.respond hs.modPort.respond)))

theorem canonical_execImageData {p : PortId} (hs : s.Canonical) : NextCanonical (execImageData p s) :=
  .next (hs.serve (fun _ => .ite hs.respond (by split; exacts [hs.respond, .ite hs.respond hs.modPort.respond])))

theorem canonical_execImageCommit {p : PortId} {c : HdrCheck} (hs : s.Canonical) : NextCanonical (execImageCommit p c s) :=
  .next (hs.serve (fun _ => .ite hs.respond (by split; exacts [hs.respond, .ite (.ite hs.imageStops hs.imageStage.upd) (.ite (.ite
    hs.upd.imageStops hs.upd.imageStage.upd) (.ite hs.upd.imageStops hs.upd.modPort.respond))])))

theorem canonical_execAuditRead {p : PortId} (hs : s.Canonical) : NextCanonical (execAuditRead p s) :=
  .next (hs.serve (fun _ => .ite hs.respond (by dsimp only; split; exacts [hs.respond, hs.respond.markTo])))

theorem canonical_execErrorRead {p : PortId} (hs : s.Canonical) : NextCanonical (execErrorRead p s) :=
  .next (hs.serve (fun _ => .ite hs.respond (.ite hs.upd.respond (.ite hs.respond hs.respond))))

theorem canonical_execMailboxResponse {p : PortId} (hs : s.Canonical) : NextCanonical (execMailboxResponse p s) := by
  unfold execMailboxResponse
  refine .next ?_
  split
  exacts [hs, hs.modPort.put.put.pfEvent]

theorem canonical_execCommandFetch {d : DrawerId} {q : QueueId} {entry : List Byte} (hs : s.Canonical) : NextCanonical (execCommandFetch d
    q entry s) :=
  .next (.ite hs (.ite hs.setStall hs.portRead.takeEntry.screenCmd))

theorem canonical_execHostReadError {d : DrawerId} {q : QueueId} {seq : Option Nat} {how : HostReadEnd} (hs : s.Canonical) : NextCanonical
    (execHostReadError d q seq how s) := by
  unfold execHostReadError
  refine .next ?_
  split
  exacts [.ite hs (.ite hs.setStall hs.portRead.aerError.takeEntry.endCmd), (by split; exacts [hs, .ite hs.aerError.endCmd hs])]

theorem canonical_execNop {d : CtxId} {q : QueueId} {seq : Nat} (hs : s.Canonical) : NextCanonical (execNop d q seq s) :=
  .next (hs.dispatch (fun _ => by dsimp only; split; exacts [hs.startCmd.unitDone, hs.startCmd.unitDone.finishCmd]))

theorem canonical_execPass {d : CtxId} {q : QueueId} {seq : Nat} {binds : List (Nat × Nat)} {fieldsOk : Bool} {prims : List Prim} {stalls
    : List (GroupId × Nat)} (hs : s.Canonical) : NextCanonical (execPass d q seq binds fieldsOk prims stalls s) :=
  .next (hs.dispatch (fun _ => .ite (.endCmd (.ite hs.heapReadErr hs)) (.ite hs.endCmd (by split; exacts [hs.endCmd, .ite hs hs.passGo]))))

theorem canonical_execCompute {d : CtxId} {q : QueueId} {seq : Nat} (hs : s.Canonical) : NextCanonical (execCompute d q seq s) :=
  .next (hs.dispatch (fun _ => .ite hs.endCmd (by dsimp only; split; exacts [.modCmd (.startCmd (.ite hs.heapReadErr hs)), .ite (.finishCmd
    (.ite (.postRunning (.modCmd (.startCmd (.ite hs.heapReadErr hs)))) (.modCmd (.startCmd (.ite hs.heapReadErr hs))))) (.ite
    (.postRunning (.modCmd (.startCmd (.ite hs.heapReadErr hs)))) (.modCmd (.startCmd (.ite hs.heapReadErr hs))))])))

theorem canonical_execCaptureTimeout {d : DrawerId} {q : QueueId} {seq : Nat} (hs : s.Canonical) : NextCanonical (execCaptureTimeout d q
    seq s) := by
  unfold execCaptureTimeout
  refine .next ?_
  split
  exacts [hs, .ite hs.endCmd hs]

theorem canonical_execAudio {d : DrawerId} {q : QueueId} {seq : Nat} (hs : s.Canonical) : NextCanonical (execAudio d q seq s) :=
  .next (hs.dispatch (fun _ => .ite hs.guestError.endCmd (.ite hs.endCmd hs.streamSettle.startCmd.modCmd.modStream)))

theorem canonical_execUnitCommit {w : WorkRef} {data : List Byte} {writes : List (Nat × List Byte)} (hs : s.Canonical) : NextCanonical
    (execUnitCommit w data writes s) := by
  unfold execUnitCommit
  refine .next ?_
  split
  exacts [hs.unitCommit, hs.bstUnit]

theorem canonical_execStatusWordUpdate {d : CtxId} {q : QueueId} {seq : Nat} (hs : s.Canonical) : NextCanonical (execStatusWordUpdate d q
    seq s) := by
  unfold execStatusWordUpdate
  refine .next ?_
  split
  exacts [hs, .ite hs.postRunning hs]

theorem canonical_execDataVisible {d : CtxId} {q : QueueId} {seq : Nat} (hs : s.Canonical) : NextCanonical (execDataVisible d q seq s) := by
  unfold execDataVisible
  refine .next ?_
  split
  exacts [hs, .ite (.ite hs (.finishCmd (.ite hs.passSigEnd hs))) (.ite hs.dropReqs.modCmd hs)]

theorem canonical_execReportAccept {d : CtxId} {q : QueueId} {seq : Nat} (hs : s.Canonical) : NextCanonical (execReportAccept d q seq s)
    := by
  unfold execReportAccept
  refine .next ?_
  split
  exacts [hs, .ite hs (.ite hs.jnlCount hs.upd.put.maxTo.modCmd)]

theorem canonical_execCompletionRelease {d : CtxId} {q : QueueId} (hs : s.Canonical) : NextCanonical (execCompletionRelease d q s) := by
  unfold execCompletionRelease
  refine .next ?_
  split
  exacts [hs, .ite hs.release hs]

theorem canonical_execCommandFault {d : CtxId} {q : QueueId} {seq blk : Nat} {code : Option (Fin 16)} (hs : s.Canonical) : NextCanonical
    (execCommandFault d q seq blk code s) := by
  unfold execCommandFault
  refine .next ?_
  split
  exacts [hs, .ite hs (by split; exacts [.ite hs hs.jnlWrite.endCmd, hs.replay])]

theorem canonical_execTileStart {d : CtxId} {q : QueueId} {seq : Nat} {g : GroupId} (hs : s.Canonical) : NextCanonical (execTileStart d q
    seq g s) := by
  unfold execTileStart
  refine .next ?_
  dsimp only
  split
  exacts [.ite hs.charge.shortCheck (by split; exacts [hs.charge.shortCheck, .ite hs.charge.shortCheck.endCmd (.takeTile (.ite
    hs.charge.shortCheck.upd.resumeGroup hs.charge.shortCheck.upd))]), hs.charge.shortCheck]

theorem canonical_execTileWriteback {d : CtxId} {q : QueueId} {seq tile refused : Nat} (hs : s.Canonical) : NextCanonical
    (execTileWriteback d q seq tile refused s) := by
  unfold execTileWriteback
  refine .next ?_
  split
  exacts [hs, (by split; exacts [hs, .ite hs.tileRetries.replay hs.tileRetries.storeTile.tileLeft])]

theorem canonical_execPartialRenderFlush {d : CtxId} {q : QueueId} {seq : Nat} (hs : s.Canonical) : NextCanonical (execPartialRenderFlush
    d q seq s) := by
  unfold execPartialRenderFlush
  refine .next ?_
  split
  exacts [hs, .ite hs (.ite hs.endCmd hs.flushTiles)]

theorem canonical_execShaderFault {d : CtxId} {q : QueueId} {seq : Nat} {writes : List (Nat × List Byte)} (hs : s.Canonical) :
    NextCanonical (execShaderFault d q seq writes s) := by
  unfold execShaderFault
  refine .next ?_
  split
  exacts [hs, .ite hs.progStores.shaderEnd hs]

theorem canonical_execBenchOffer {g : GroupId} (hs : s.Canonical) : NextCanonical (execBenchOffer g s) := by
  unfold execBenchOffer
  refine .next ?_
  dsimp only
  split
  exacts [hs.charge.shortCheck, .ite hs.charge.shortCheck.upd.resumeGroup (by split; exacts [hs.charge.shortCheck.upd,
    hs.charge.shortCheck.upd.giveHold.cxStarted])]

theorem canonical_execCxCommandRelease {ctx : Fin 2} {q : QueueId} {entry : List Byte} {ring : Nat × Fin 17} (hs : s.Canonical) :
    NextCanonical (execCxCommandRelease ctx q entry ring s) := by
  refine .next (.ite hs.charge.setStall ?_)
  extract_lets e k s1 s2
  have h2 : s2.Canonical := hs.charge.modIq.takeCmd.screenCmd
  clear_value s2
  split
  · exact h2
  · exact .ite h2.upd.cxTake h2.upd

theorem canonical_execPreemptionPoint {g : GroupId} (hs : s.Canonical) : NextCanonical (execPreemptionPoint g s) := by
  unfold execPreemptionPoint
  refine .next ?_
  split
  exacts [hs, .ite hs (.ite hs.charge.discardTiles.modBg.setBg (by split; exacts [hs.charge.discardTiles.modBg,
    hs.charge.discardTiles.modBg.modCx]))]

theorem canonical_execPreemptTimeout {g : GroupId} (hs : s.Canonical) : NextCanonical (execPreemptTimeout g s) := by
  unfold execPreemptTimeout
  refine .next ?_
  split
  exacts [hs, .ite hs hs.recordError]

theorem canonical_execPreemptResume {g : GroupId} (hs : s.Canonical) : NextCanonical (execPreemptResume g s) :=
  .next (.ite hs.charge.modBg hs.charge.resumeGroup)

theorem canonical_execDeadlineEval {id : Nat} (hs : s.Canonical) : NextCanonical (execDeadlineEval id s) := by
  unfold execDeadlineEval
  refine .next ?_
  dsimp only
  split
  exacts [hs.charge, (by split; exacts [hs.charge, .ite (.incSat (.foldl (fun _ _ hs => hs.preempt) hs.charge)) hs.charge])]

theorem canonical_execCxCutoffMiss {id : Nat} (hs : s.Canonical) : NextCanonical (execCxCutoffMiss id s) := by
  unfold execCxCutoffMiss
  refine .next ?_
  split
  exacts [hs, .ite hs hs.modCx.putBit.incSat.icuRaise.modHead]

theorem canonical_execNpLimitTimeout {d : DrawerId} {q : QueueId} {seq : Nat} (hs : s.Canonical) : NextCanonical (execNpLimitTimeout d q
    seq s) := by
  unfold execNpLimitTimeout
  refine .next ?_
  dsimp only
  split
  exacts [hs.charge, .ite hs.charge.ctxTimeout hs.charge]

theorem canonical_execRunLimitTimeout {c : CtxId} {q : QueueId} {seq : Nat} (hs : s.Canonical) : NextCanonical (execRunLimitTimeout c q
    seq s) :=
  .next (.ite hs.charge (by split; exacts [hs.charge, .ite hs.charge.ctxTimeout hs.charge]))

theorem canonical_execLayerOwnerWrite {o : Origin} {h : HeadId} {l : Fin 9} {owner : Fin 128} {slot : Fin 64} (hs : s.Canonical) :
    NextCanonical (execLayerOwnerWrite o h l owner slot s) :=
  .next (hs.guarded (fun _ hs => hs.lownWrite) (fun _ hs => hs))

theorem canonical_execFlipCommit {who : FlipSource} {group : Bool} (hs : s.Canonical) : NextCanonical (execFlipCommit who group s) := by
  unfold execFlipCommit
  refine .next ?_
  split
  exacts [hs.flipGo, .ite hs.commitApply hs]

theorem canonical_execSafetyFlip {o : Origin} {h : HeadId} {w : Fin 65536} (hs : s.Canonical) : NextCanonical (execSafetyFlip o h w s) :=
  .next (hs.guarded (fun _ hs => hs.sflipWrite) (fun _ hs => hs))

theorem canonical_execPipeSwapRequest {o : Origin} {h : HeadId} (hs : s.Canonical) : NextCanonical (execPipeSwapRequest o h s) :=
  .next (hs.guarded (fun _ hs => hs.swapRequest) (fun _ hs => hs))

theorem canonical_execFenceSample {h : HeadId} (hs : s.Canonical) : NextCanonical (execFenceSample h s) :=
  .next (.foldl (fun _ _ hs => by split; exacts [hs, .ite hs (.ite hs (.foldl (fun _ _ hs => hs.modLayer) hs))]) (.foldl (fun _ _ hs =>
    hs.modLayer) hs))

theorem canonical_execLatchPoint {h : HeadId} (hs : s.Canonical) : NextCanonical (execLatchPoint h s) :=
  .next (.ite hs hs.modHead.layersLatch.pipeLatch.sflipLatch.witLatch.telltaleLatch.fetchLatch.modHead)

theorem canonical_execFrameEnd {h : HeadId} (hs : s.Canonical) : NextCanonical (execFrameEnd h s) :=
  .next (.ite hs (.ite (.headStopped (.headIrq (.modHead (.foldl (fun _ _ hs => hs.put) hs)))) (.headIrq (.modHead (.foldl (fun _ _ hs =>
    hs.put) hs)))))

theorem canonical_execTeEdge {h : HeadId} {minLeadUs : Nat} (hs : s.Canonical) : NextCanonical (execTeEdge h minLeadUs s) :=
  .next (.ite hs (.modHead (.ite hs.modHead.put.frameStart hs.modHead.put)))

theorem canonical_execTeMiss {h : HeadId} {minLeadUs : Nat} (hs : s.Canonical) : NextCanonical (execTeMiss h minLeadUs s) :=
  .next (.ite hs hs.put.incSat.frameStart.modHead.headIrq)

theorem canonical_execLayerUnderrun {h : HeadId} {l : Fin 8} {y x : Nat} (hs : s.Canonical) : NextCanonical (execLayerUnderrun h l y x s)
    :=
  .next (.ite hs hs.modHead.put.pmuEvent.put.headIrq)

theorem canonical_execPauseGrant {leads : List (HeadId × Nat)} (hs : s.Canonical) : NextCanonical (execPauseGrant leads s) := by
  unfold execPauseGrant
  refine .next ?_
  split
  exacts [hs, .ite hs hs.modDmc.incSat.maxTo]

theorem canonical_execWitnessResult {h : HeadId} {actual : List (Nat × Nat)} {decode noRef : Nat} {proofMade : Bool} (hs : s.Canonical) :
    NextCanonical (execWitnessResult h actual decode noRef proofMade s) :=
  .next (.ite hs (.ite (.proofCompare (.foldl (fun _ _ hs => .ite hs hs.witEvent) (.put (.pmuEvent (.pmuEvent (.foldl (fun _ _ hs =>
    hs.regionDone) hs)))))) (.foldl (fun _ _ hs => .ite hs hs.witEvent) (.put (.pmuEvent (.pmuEvent (.foldl (fun _ _ hs => hs.regionDone)
    hs)))))))

theorem canonical_execWitnessRestore {o : Origin} {h : HeadId} (hs : s.Canonical) : NextCanonical (execWitnessRestore o h s) :=
  .next (hs.guarded (fun _ hs => hs.put) (fun _ hs => hs))

theorem canonical_execWitnessEventPop {o : Origin} (hs : s.Canonical) : NextCanonical (execWitnessEventPop o s) :=
  .next (hs.guarded (fun _ hs => hs.witPop) (fun _ hs => hs))

theorem canonical_execHpdUnplug {h : HeadId} (hs : s.Canonical) : NextCanonical (execHpdUnplug h s) :=
  .next (.ite hs (.portLine (.ite hs.put.put.put.put.modDp.sbEnd hs.put.put.put.put.modDp)))

theorem canonical_execHpdReplug {h : HeadId} {sink : Sink} (hs : s.Canonical) : NextCanonical (execHpdReplug h sink s) :=
  .next (.ite hs (.ite hs.put.modDp.readSink.trainBegin hs.put.modDp.readSink))

theorem canonical_execLinkTrainingDone {h : HeadId} {ok : Bool} (hs : s.Canonical) : NextCanonical (execLinkTrainingDone h ok s) := by
  refine .next (.ite hs (.ite ?_ (.ite hs.modDp ?_)))
  · extract_lets s1 s2 s3 s4
    have h4 : s4.Canonical := .ite hs.modDp.put.put.put.putB.headBegin hs.modDp.put.put.put.putB.modDp
    split
    · exact h4
    · exact h4.modDp.hpdIrq
  · split
    · exact hs.modDp
    · exact hs.trainFailed

theorem canonical_execSidebandRequest {o : Origin} {h : HeadId} {w : Fin 4294967296} (hs : s.Canonical) : NextCanonical
    (execSidebandRequest o h w s) :=
  .next (hs.guarded (fun _ hs => hs.sbStart) (fun _ hs => hs))

theorem canonical_execSidebandDone {h : HeadId} {result : Fin 5} {reply : List (Fin 4294967296)} (hs : s.Canonical) : NextCanonical
    (execSidebandDone h result reply s) := by
  unfold execSidebandDone
  refine .next ?_
  split
  exacts [hs, .ite hs (.sbEnd (.ite (.foldl (fun _ _ hs => by split; exacts [hs, hs.put]) hs) hs))]

theorem canonical_execPlkLinkUp {p : PlkPort} {credits : List Nat} (hs : s.Canonical) : NextCanonical (execPlkLinkUp p credits s) :=
  .next (.ite hs hs.put.putB.modPport.sendLocal.originate)

theorem canonical_execPortRetrain {o : Origin} {p : PlkPort} (hs : s.Canonical) : NextCanonical (execPortRetrain o p s) :=
  .next (hs.guarded (fun _ hs => hs.portRetrain) (fun _ hs => hs))

theorem canonical_execPortDisable {o : Origin} {p : PlkPort} (hs : s.Canonical) : NextCanonical (execPortDisable o p s) :=
  .next (hs.guarded (fun _ hs => hs.portDisable) (fun _ hs => hs))

theorem canonical_execMgmt {x : MgmtEvent} (hs : s.Canonical) : NextCanonical (execMgmt x s) := by
  unfold execMgmt
  refine .next ?_
  split
  exacts [hs.arriveAs, hs.mgmtSend, hs.mgmtTake]

theorem canonical_execSyncTick (hs : s.Canonical) : NextCanonical (execSyncTick s) := by
  refine .next (.ite hs ?_)
  extract_lets s1 req
  split
  · exact hs.modPlk.sendLocal
  · exact .ite (.foldl (fun _ _ hs => hs.sendLocal) hs.modPlk.modPlk) hs.modPlk

theorem canonical_execTickLost (hs : s.Canonical) : NextCanonical (execTickLost s) :=
  .next (.ite (.upd (.plkTickOk (.ite hs.modPlk hs))) (.plkTickOk (.ite hs.modPlk hs)))

theorem canonical_execApertureEnable {o : Origin} {k : Fin 64} {peer : Fin 16384} {win : Fin 32} {read write fw : Bool} (hs : s.Canonical)
    : NextCanonical (execApertureEnable o k peer win read write fw s) :=
  .next (hs.guarded (fun _ hs => hs.putImg.putImg.putImg.putImg.putImg.putImg.apWrite) (fun _ hs => hs))

theorem canonical_execRemoteTimeout {tag : Fin 4096} (hs : s.Canonical) : NextCanonical (execRemoteTimeout tag s) := by
  unfold execRemoteTimeout
  refine .next ?_
  split
  exacts [hs, .ite hs hs.remoteFail]

theorem canonical_execWindowClose {o : Origin} {w : Fin 32} {sizeM1 : Fin 1048576} {peer : Fin 16384} {any read write en : Bool} (hs :
    s.Canonical) : NextCanonical (execWindowClose o w sizeM1 peer any read write en s) :=
  .next (hs.guarded (fun _ hs => .ite hs hs.putImg.putImg.putImg.putImg.putImg.putImg.windowChanged) (fun _ hs => hs))

theorem canonical_execImportDecode {i : Fin 16} {descs : List (Nat × List Byte)} (hs : s.Canonical) : NextCanonical (execImportDecode i
    descs s) := by
  unfold execImportDecode
  refine .next ?_
  split
  exacts [hs, .ite hs (.sendTo (.ite (.commitApply (.put (.returnHeld (.modImp (.foldl (fun _ _ hs => hs.mirrorRows) (.foldl (fun _ _ hs =>
    .mirrorRows (.foldl (fun _ _ hs => hs.readErr) hs)) hs)))))) (.put (.returnHeld (.modImp (.foldl (fun _ _ hs => hs.mirrorRows) (.foldl
    (fun _ _ hs => .mirrorRows (.foldl (fun _ _ hs => hs.readErr) hs)) hs)))))))]

theorem canonical_execCommitInstant {i : Fin 16} (hs : s.Canonical) : NextCanonical (execCommitInstant i s) :=
  .next (.foldl (fun _ _ hs => hs.impRaise) hs.modImp)

theorem canonical_execRefreshRatePoll {rate : Fin 3} {ch : ChanId} (hs : s.Canonical) : NextCanonical (execRefreshRatePoll rate ch s) :=
  .next (.ite hs (.ite (.ite hs.modDmc.put.put.put.recordError hs.modDmc.put.put) (.hutchRaise (.retrainAll (.ite
    hs.modDmc.put.put.put.recordError hs.modDmc.put.put)))))

theorem canonical_execScrub {lines : List Nat} (hs : s.Canonical) : NextCanonical (execScrub lines s) :=
  .next (.ite hs (.foldl (fun _ _ hs => .ite hs hs.dramAccess.modDmc) hs.modDmc))

theorem canonical_execRetrainPause (hs : s.Canonical) : NextCanonical (execRetrainPause s) := by
  unfold execRetrainPause
  refine .next ?_
  split
  exacts [hs, .ite hs hs.modDmc.put.put.incSat]

theorem canonical_execRetrainPauseEnd {eyes : List Eye} {lengthNs : Nat} (hs : s.Canonical) : NextCanonical (execRetrainPauseEnd eyes
    lengthNs s) := by
  unfold execRetrainPauseEnd
  refine .next ?_
  split
  exacts [hs, .ite hs (.foldl (fun _ _ hs => hs.admitStalled) hs.centreDelays.put.maxTo.modDmc.retrainNext.hutchRaise.upd)]

theorem canonical_execRetrainSkip (hs : s.Canonical) : NextCanonical (execRetrainSkip s) := by
  unfold execRetrainSkip
  refine .next ?_
  split
  exacts [hs, .ite hs (.retrainNext (.ite hs.incSat.modDmc.recordError hs.incSat.modDmc))]

theorem canonical_execRetrainNow {o : Origin} (hs : s.Canonical) : NextCanonical (execRetrainNow o s) :=
  .next (hs.guarded (fun _ hs => hs.retrainAll) (fun _ hs => hs))

theorem canonical_execTrainingOpDone {errs : List Nat} {eyes : List (ChanId × List Eye)} (hs : s.Canonical) : NextCanonical
    (execTrainingOpDone errs eyes s) := by
  unfold execTrainingOpDone
  refine .next ?_
  split
  exacts [hs, .hutchRaise (.put (.modDmc (.ite (.foldl (fun _ _ hs => hs.centreDelays) (.foldl (fun _ _ hs => hs.put) hs)) (.foldl (fun _ _
    hs => hs.put) hs))))]

theorem canonical_execVrefWrite {o : Origin} {ch : ChanId} {code : Fin 128} (hs : s.Canonical) : NextCanonical (execVrefWrite o ch code s)
    :=
  .next (hs.guarded (fun _ hs => .ite hs.put.modDmc hs.recordError) (fun _ hs => hs))

theorem canonical_execScanStart {p : PanelId} (hs : s.Canonical) : NextCanonical (execScanStart p s) :=
  .next (.ite hs (.ite (.ite hs.panelStart hs) (.modPanel (.pmuEvent (.ite hs.panelStart hs)))))

theorem canonical_execGateWindowEnd {p : PanelId} {step : ScanStep} {counts : List Gate} (hs : s.Canonical) : NextCanonical
    (execGateWindowEnd p step counts s) :=
  .next (.ite hs (by dsimp only; split; exacts [hs.modPanel.modPanel.gateTriggers, hs.modPanel.modPanel, hs.modPanel.modPanel]))

theorem canonical_execScanProcess {p : PanelId} (hs : s.Canonical) : NextCanonical (execScanProcess p s) :=
  .next (.ite hs (.tchLines (.tchVectors (.tchResend (.ite hs.incWrap.modPanel.modPanel.panelAbsent (.ite
    hs.incWrap.modPanel.modPanel.rebaseNow.put.modPanel (.ite hs.incWrap.modPanel.modPanel.freshScan
    hs.incWrap.modPanel.modPanel.modPanel.scanTouches)))))))

theorem canonical_execRebase {o : Origin} {p : PanelId} (hs : s.Canonical) : NextCanonical (execRebase o p s) :=
  .next (hs.guarded (fun _ hs => hs.panelRebase) (fun _ hs => hs))

theorem canonical_execPanelProbe {p : PanelId} {valid : Nat} (hs : s.Canonical) : NextCanonical (execPanelProbe p valid s) :=
  .next (.ite hs (.ite hs.modPanel.panelStart hs.modPanel.modPanel))

theorem canonical_execWakeScan {p : PanelId} {sense drive : List Gate} (hs : s.Canonical) : NextCanonical (execWakeScan p sense drive s)
    :=
  .next (.ite hs (.ite hs.modPanel.modPanel.hutchRaise hs.modPanel.modPanel))

theorem canonical_execTouchFwqPop {o : Origin} (hs : s.Canonical) : NextCanonical (execTouchFwqPop o s) :=
  .next (hs.guarded (fun _ hs => hs.fwqPop) (fun _ hs => hs))

theorem canonical_execHapticTrigger {o : Origin} {c : HapId} {i : Fin 64} (hs : s.Canonical) : NextCanonical (execHapticTrigger o c i s)
    :=
  .next (hs.guarded (fun _ hs => hs.hapTrigger) (fun _ hs => hs))

theorem canonical_execDriveOffGap {c : HapId} {errHz : Int} {emfMv : Nat} (hs : s.Canonical) : NextCanonical (execDriveOffGap c errHz
    emfMv s) :=
  .next (.ite (.ite hs.hapBrakeEnd hs) (.ite hs.hapFreq hs))

theorem canonical_execWaitTimeout {c : HapId} (hs : s.Canonical) : NextCanonical (execWaitTimeout c s) :=
  .next (.ite (by split; exacts [hs, hs.hapWait.hapStart]) hs)

theorem canonical_execHapticTick (hs : s.Canonical) : NextCanonical (execHapticTick s) :=
  .next (.ite hs (.foldl (fun _ _ hs => .ite hs (.ite (.hapBrake (.put (.put (.modHap (.ite hs.incSat hs))))) (.ite (.put (.put (.modHap
    (.ite hs.incSat hs)))) (.put (.modHap (.ite hs.incSat hs)))))) hs.upd))

theorem canonical_execClr {o : Origin} {c : HapId} (hs : s.Canonical) : NextCanonical (execClr o c s) :=
  .next (hs.guarded (fun _ hs => hs.hapClr) (fun _ hs => hs))

theorem canonical_execAudioFrame {x : AudioIn} (hs : s.Canonical) : NextCanonical (execAudioFrame x s) := by
  refine .next (.ite hs ?_)
  extract_lets s1 s2 s3 tdm
  have h3 : s3.Canonical := .foldl (fun _ _ hs => .ite hs hs.incSat) hs.modAud.put.put.bankSwap.pmuEvent
  split
  next s4 voice e4 =>
  have h4 := h3.of_eachOf e4 (fun _ _ hs => hs.voiceStep)
  extract_lets ks
  split
  next s5 ps e5 =>
  have h5 := h4.of_eachOf e5 (fun _ _ hs => hs.playStep)
  extract_lets at_ play
  split
  next s6 rs e6 =>
  have h6 := h5.of_eachOf e6 (fun _ _ hs => hs.recvStep)
  extract_lets recv v1 v2
  split
  next s7 outs e7 =>
  have h7 := h6.of_eachOf e7 (fun _ _ hs => hs.outStep)
  exact .modAud (.foldl (fun _ _ hs => hs.sendStep) (.foldl (fun _ _ hs => hs.captureStep) h7))

theorem canonical_execBankSwap {o : Origin} {mask : Fin 4294967296} (hs : s.Canonical) : NextCanonical (execBankSwap o mask s) :=
  .next (hs.guarded (fun _ hs => .foldl (fun _ _ hs => hs.putBit) hs) (fun _ hs => .foldl (fun _ _ hs => hs.putBit) hs))

theorem canonical_execComplete {o : Origin} {c : IcuCtx} {n : Nat} (hs : s.Canonical) : NextCanonical (execComplete o c n s) :=
  .next (hs.guarded (fun _ hs => hs.completeWrite) (fun _ hs => hs))

theorem canonical_execIcuSet {o : Origin} {n : SrcId} (hs : s.Canonical) : NextCanonical (execIcuSet o n s) :=
  .next (hs.guarded (fun _ hs => hs.icuSetWrite) (fun _ hs => hs))

theorem canonical_execGdis {o : Origin} {v : Bool} (hs : s.Canonical) : NextCanonical (execGdis o v s) :=
  .next (hs.guarded (fun _ hs => hs.gdisEffect) (fun _ hs => hs))

theorem canonical_execCoreSleep {t : Target} (hs : s.Canonical) : NextCanonical (execCoreSleep t s) :=
  .next (.ite hs (.ite (.ite hs.put hs.put) (.targetAsleep (.ite hs.put hs.put))))

theorem canonical_execCoreWake {t : Target} {o : Option Origin} (hs : s.Canonical) : NextCanonical (execCoreWake t o s) := by
  unfold execCoreWake
  refine .next ?_
  split
  exacts [hs.coreWakeEffect, hs.guarded (fun _ hs => hs.coreWakeEffect) (fun _ hs => hs)]

theorem canonical_execCoreRunning {t : Target} (hs : s.Canonical) : NextCanonical (execCoreRunning t s) :=
  .next (.ite hs (.icuReeval (.putBit (.putBit (.ite hs.put hs.put)))))

theorem canonical_execRtLockstep {n : Fin 2} (hs : s.Canonical) : NextCanonical (execRtLockstep n s) :=
  .next hs.incSat.put.targetAsleep.cabEvent.recordError

theorem canonical_execHutDbell {o : Origin} (hs : s.Canonical) : NextCanonical (execHutDbell o s) :=
  .next (hs.guarded (fun _ hs => hs.dbellWrite) (fun _ hs => hs))

theorem canonical_execHutIcuClaim {o : Origin} (hs : s.Canonical) : NextCanonical (execHutIcuClaim o s) :=
  .next (hs.guardedRead (fun _ hs => hs.hutClaimRead))

theorem canonical_execLifeCycleRequest {o : Origin} {target : Fin 8} (hs : s.Canonical) : NextCanonical (execLifeCycleRequest o target s)
    :=
  .next (hs.guarded (fun _ hs => .ite hs hs.lcRequest) (fun _ hs => hs))

theorem canonical_execRaiseTo {o : Origin} {v : Fin 128} (hs : s.Canonical) : NextCanonical (execRaiseTo o v s) :=
  .next (hs.guarded (fun _ hs => .ite hs hs.raiseTo) (fun _ hs => hs))

theorem canonical_execRevoke {o : Origin} {mask : Fin 16} (hs : s.Canonical) : NextCanonical (execRevoke o mask s) :=
  .next (hs.guarded (fun _ hs => .ite hs hs.revoke) (fun _ hs => hs))

theorem canonical_execFuseBurnDone (hs : s.Canonical) : NextCanonical (execFuseBurnDone s) := by
  unfold execFuseBurnDone
  refine .next ?_
  split
  exacts [hs, hs.burnDone.putB.upd]

theorem canonical_execDbg {write : Bool} {w : Fin 128} {v : Fin 4294967296} (hs : s.Canonical) : NextCanonical (execDbg write w v s) :=
  .next (.ite hs.tapLoad (.ite hs.tapLoad.tapWrite (by dsimp only; split; exacts [hs.tapLoad.upd.upd, hs.tapLoad.upd.regReadAt.upd])))

theorem canonical_execProv {op : ProvOp} (hs : s.Canonical) : NextCanonical (execProv op s) := by
  have ht := hs.tapLoad (code := 0x21)
  refine .next (.ite ht ?_)
  split
  · exact .ite ht ht.upd
  · exact ht.upd
  · exact .ite ht.put.upd ht
  · exact .ite (ht.withEntry (fun _ hs => hs.put.startBurn)) ht

theorem canonical_execCertificateVerdict (hs : s.Canonical) : NextCanonical (execCertificateVerdict s) := by
  unfold execCertificateVerdict
  refine .next ?_
  split
  exacts [hs, .ite hs (.ite (.submitFails (.ite hs.put.upd.put hs.put.upd)) (.ite hs.put.upd.lcScope hs.put.upd.openSession))]

theorem canonical_execSessionExpire (hs : s.Canonical) : NextCanonical (execSessionExpire s) := by
  unfold execSessionExpire
  refine .next ?_
  split
  exacts [hs, .ite hs.endSession hs]

theorem canonical_execPowerRequest {o : Origin} {t : Fin 8} (hs : s.Canonical) : NextCanonical (execPowerRequest o t s) :=
  .next (hs.guarded (fun _ hs => hs.powerRequest) (fun _ hs => hs.powerRequest))

theorem canonical_execDrainPhaseEnd (hs : s.Canonical) : NextCanonical (execDrainPhaseEnd s) := by
  unfold execDrainPhaseEnd
  refine .next ?_
  split
  exacts [hs, .ite hs (.ite hs.put.modPm.modPm.upd hs.put.modPm)]

theorem canonical_execEntryRefused (hs : s.Canonical) : NextCanonical (execEntryRefused s) := by
  unfold execEntryRefused
  refine .next ?_
  split
  exacts [hs, (by split; exacts [hs, .ite hs hs.endRequests.countEntry.clearTransition.entryUndone.nextStarts])]

theorem canonical_execIsolatePhaseEnd (hs : s.Canonical) : NextCanonical (execIsolatePhaseEnd s) := by
  unfold execIsolatePhaseEnd
  refine .next ?_
  split
  exacts [hs, .ite hs (.transitionDone (.setPd (.ite (.foldl (fun _ _ hs => .putBit (.putBit (.ite hs.put hs.put))) (.ite (.upd (.zeroBytes
    (.ite (.modDmc (.ite (.foldl (fun _ _ hs => .ite hs hs.plkDown) (.ite hs.put.portsDown hs.put)) (.ite hs.put.portsDown hs.put))) (.ite
    (.foldl (fun _ _ hs => .ite hs hs.plkDown) (.ite hs.put.portsDown hs.put)) (.ite hs.put.portsDown hs.put))))) (.ite (.modDmc (.ite
    (.foldl (fun _ _ hs => .ite hs hs.plkDown) (.ite hs.put.portsDown hs.put)) (.ite hs.put.portsDown hs.put))) (.ite (.foldl (fun _ _ hs
    => .ite hs hs.plkDown) (.ite hs.put.portsDown hs.put)) (.ite hs.put.portsDown hs.put))))) (.ite (.upd (.zeroBytes (.ite (.modDmc (.ite
    (.foldl (fun _ _ hs => .ite hs hs.plkDown) (.ite hs.put.portsDown hs.put)) (.ite hs.put.portsDown hs.put))) (.ite (.foldl (fun _ _ hs
    => .ite hs hs.plkDown) (.ite hs.put.portsDown hs.put)) (.ite hs.put.portsDown hs.put))))) (.ite (.modDmc (.ite (.foldl (fun _ _ hs =>
    .ite hs hs.plkDown) (.ite hs.put.portsDown hs.put)) (.ite hs.put.portsDown hs.put))) (.ite (.foldl (fun _ _ hs => .ite hs hs.plkDown)
    (.ite hs.put.portsDown hs.put)) (.ite hs.put.portsDown hs.put)))))))]

theorem canonical_execPowerPhaseEnd (hs : s.Canonical) : NextCanonical (execPowerPhaseEnd s) := by
  unfold execPowerPhaseEnd
  refine .next ?_
  split
  exacts [hs, .ite hs (.put (.restoreSaved (.upd (.ite hs.setPd.islandReset.put.put hs.setPd.islandReset))))]

theorem canonical_execRestorePhaseEnd (hs : s.Canonical) : NextCanonical (execRestorePhaseEnd s) := by
  unfold execRestorePhaseEnd
  refine .next ?_
  split
  exacts [hs, .ite hs (.put (.ite hs.levelsAfresh.stRestore hs))]

theorem canonical_execResumePhaseEnd {hdr : HdrCheck} {cab app : SecCheck} {eyes : List (ChanId × List Eye × List Eye)} {train : List
    ChanTrain} (hs : s.Canonical) : NextCanonical (execResumePhaseEnd hdr cab app eyes train s) := by
  unfold execResumePhaseEnd
  refine .next ?_
  split
  exacts [hs, .ite hs (.ite hs.clearTransition.upd (.transitionDone (.foldl (fun _ _ hs => hs.pdStart) (.ite (.foldl (fun _ _ hs => .ite
    hs.modPanel hs) (.unitsBack (.ite (.foldl (fun _ _ hs => hs.coreRestart) (.ite (.foldl (fun _ _ hs => hs.trainChan) hs.holdReload)
    (.ite (.foldl (fun _ _ hs => hs.centreDelays.centreDelays) hs) hs))) (.ite (.foldl (fun _ _ hs => hs.trainChan) hs.holdReload) (.ite
    (.foldl (fun _ _ hs => hs.centreDelays.centreDelays) hs) hs))))) (.unitsBack (.ite (.foldl (fun _ _ hs => hs.coreRestart) (.ite
    (.foldl (fun _ _ hs => hs.trainChan) hs.holdReload) (.ite (.foldl (fun _ _ hs => hs.centreDelays.centreDelays) hs) hs))) (.ite (.foldl
    (fun _ _ hs => hs.trainChan) hs.holdReload) (.ite (.foldl (fun _ _ hs => hs.centreDelays.centreDelays) hs) hs))))))))]

theorem canonical_execPadRelease {o : Origin} {m : Fin 65536} (hs : s.Canonical) : NextCanonical (execPadRelease o m s) :=
  .next (hs.guarded (fun _ hs => hs.padRelease) (fun _ hs => hs))

theorem canonical_execIslandReset {u : ResetUnit} (hs : s.Canonical) : NextCanonical (execIslandReset u s) := by
  unfold execIslandReset
  refine .next ?_
  split
  exacts [hs, .ite hs (.ite (by split; exacts [hs.upd.unitWork.setBg, hs.upd.moduleAction]) hs.upd.unitReset)]

theorem canonical_execDrawerResetDone {d : DrawerId} (hs : s.Canonical) : NextCanonical (execDrawerResetDone d s) := by
  unfold execDrawerResetDone
  refine .next ?_
  split
  exacts [hs, .ite hs.resetDone (.ite hs hs.squash.resetDone)]

theorem canonical_execDrainTimeout {d : DrawerId} (hs : s.Canonical) : NextCanonical (execDrainTimeout d s) := by
  unfold execDrainTimeout
  refine .next ?_
  split
  exacts [hs, .ite hs.squash hs]

theorem canonical_execSwrep {o : Origin} {v : Nat} (hs : s.Canonical) : NextCanonical (execSwrep o v s) :=
  .next (hs.guarded (fun _ hs => hs.swrepEffect) (fun _ hs => hs))

theorem canonical_execAuditFlush {verified : Bool} (hs : s.Canonical) : NextCanonical (execAuditFlush verified s) :=
  .next (.ite hs (.ite hs.upd.flushOne hs.upd.slotFails.flushOne))

theorem canonical_execAdlMark {o : Origin} {start : Fin 65536} {seq : Fin 4294967296} (hs : s.Canonical) : NextCanonical (execAdlMark o
    start seq s) :=
  .next (hs.guarded (fun _ hs => hs.markTo) (fun _ hs => hs))

theorem canonical_execInit {o : Origin} {u poly : Fin 4} {ie : Bool} (hs : s.Canonical) : NextCanonical (execInit o u poly ie s) :=
  .next (hs.guarded (fun _ hs => hs.crcCtrl) (fun _ hs => hs))

theorem canonical_execFeed {o : Origin} {u : Fin 4} {k : Fin 3} {v : Fin 4294967296} (hs : s.Canonical) : NextCanonical (execFeed o u k v
    s) :=
  .next (hs.guarded (fun _ hs => hs.crcFeed) (fun _ hs => hs))

theorem canonical_execCounterOverflow {n : Fin 128} {inc pc : Nat} {mode : Fin 4} {trap : Bool} (hs : s.Canonical) : NextCanonical
    (execCounterOverflow n inc pc mode trap s) :=
  .next (.ite hs (.ite hs.pmuAdd.pmuSample hs.pmuAdd))

theorem canonical_execArm {o : Origin} {t : Nat} {frz : Bool} (hs : s.Canonical) : NextCanonical (execArm o t frz s) :=
  .next (hs.guarded (fun _ hs => hs.pmuArm) (fun _ hs => hs))

theorem canonical_execSnapshot {late : Bool} (hs : s.Canonical) : NextCanonical (execSnapshot late s) :=
  .next (.ite hs (.ite (.put (.incWrap (.put (.put (.put (.ite (.put (.ite (.put (.foldl (fun _ _ hs => hs.put) (.foldl (fun _ _ hs =>
    hs.put) hs))) (.foldl (fun _ _ hs => hs.put) (.foldl (fun _ _ hs => hs.put) hs)))) (.foldl (fun _ _ hs => hs.put) (.foldl (fun _ _ hs
    => hs.put) hs)))))))) (.incWrap (.put (.put (.put (.ite (.put (.ite (.put (.foldl (fun _ _ hs => hs.put) (.foldl (fun _ _ hs =>
    hs.put) hs))) (.foldl (fun _ _ hs => hs.put) (.foldl (fun _ _ hs => hs.put) hs)))) (.foldl (fun _ _ hs => hs.put) (.foldl (fun _ _ hs
    => hs.put) hs)))))))))

theorem canonical_execBwRead {o : Origin} {m : Fin 24} (hs : s.Canonical) : NextCanonical (execBwRead o m s) :=
  .next (.ite hs.accessError.ret (.ite hs.hold (.ite hs.accessError.ret hs.bwRead.ret)))

theorem canonical_execTestDone {n : Fin 7} {fails : List TestFail} {train : Option TrainRec} (hs : s.Canonical) :
    NextCanonical (execTestDone n fails train s) := by
  unfold execTestDone
  refine .next ?_
  split
  · exact hs
  · refine .ite hs.unitEnter (.bstEvent (.bstReport (.dropJob ?_)))
    have h1 : ∀ {c : Prop} {i : Decidable c}, (if c then s else fails.foldl State.addRepair s).Canonical :=
      .ite hs (.foldl (fun _ _ hs => hs.addRepair) hs)
    refine .ite h1.unitRetire (.ite h1.marched (.ite ?_ (.ite h1.unitReturn h1.unitRetire)))
    cases train with
    | none => exact h1
    | some r => exact h1.putTraining.saveTraining

theorem canonical_execVfEnable {p : PortId} {cfg : PciCfg} (hs : s.Canonical) : NextCanonical (execVfEnable p cfg s) :=
  .next (.ite hs (.ite hs.hostOutPush (.ite hs hs.modPort)))

theorem canonical_execSynthesiserLock {h : HeadId} {ok : Bool} {sink : Sink} (hs : s.Canonical) : NextCanonical (execSynthesiserLock h ok
    sink s) :=
  .next (.ite hs (.ite hs.put.put (.ite hs.modHead hs.modHead.linkStart)))

theorem canonical_execHpdAssert {h : HeadId} {sink : Sink} (hs : s.Canonical) : NextCanonical (execHpdAssert h sink s) :=
  .next (.ite hs (.ite hs.put.modDp.readSink.trainBegin hs.put))

/-- A command leaves a state of the canonical form in it. -/
theorem State.Canonical.exec (hs : s.Canonical) (i : Instr) : NextCanonical (exec i s) :=
  match i with
  | .supervisorPowerUp .. => .next (.ite hs hs.upd)
  | .prechargeAbort .. => .next (.ite hs (.ite hs.upd hs.upd))
  | .mainSwitchClose => .next (.ite hs.upd hs)
  | .inputQualified => .next (.ite hs.upd hs)
  | .supervisorArm => .next (.ite hs.upd hs)
  | .startEvent => .next (.ite hs.porStart (.ite hs.upd hs))
  | .romEntry .. => canonical_execRomEntry hs
  | .signatureVerdict .. => canonical_execSignatureVerdict hs
  | .sectionLoad .. => canonical_execSectionLoad hs
  | .repairApply => canonical_execRepairApply hs
  | .openingTest .. => canonical_execOpeningTest hs
  | .dramTraining .. => canonical_execDramTraining hs
  | .shelfLoad .. => canonical_execShelfLoad hs
  | .linkStart .. => .next (.ite (.linkStart (.ite hs.put hs)) hs)
  | .extendedTest .. => canonical_execExtendedTest hs
  | .plynlinkStart .. => canonical_execPlynlinkStart hs
  | .commit => .next (.ite hs hs.auditAccept.put.put.upd.portsOpen)
  | .recoveryStart => canonical_execRecoveryStart hs
  | .orderlyShutdown .. => canonical_execOrderlyShutdown hs
  | .emergencyTrigger .. => canonical_execEmergencyTrigger hs
  | .emergencyRecord => canonical_execEmergencyRecord hs
  | .wakeNPulse => canonical_execWakeNPulse hs
  | .ppsInEdge => canonical_execPpsInEdge hs
  | .ppsTimeout => .next (.ite hs.putStState.upd hs)
  | .ppsOutPulse => .next (.ite hs hs.upd)
  | .supplySample .. => canonical_execSupplySample hs
  | .throttleEval .. => canonical_execThrottleEval hs
  | .throttleDrop => .next (.ite hs.setThrottle hs)
  | .hapticShort .. => .next (.put (.ite hs.hapKill hs.modHap))
  | .canFrameRx .. => .next (.ite hs (.upd (.ite hs.upd hs)))
  | .telltaleTimeout .. => .next (.ite hs hs.upd)
  | .canStatusFrame => .next (.ite hs hs.upd)
  | .lampTestEnd => .next (.ite hs.put hs)
  | .registerWrite .. => .next hs.regWrite
  | .auditEntry => .next hs.heldStep
  | .memoryAccess .. => .next hs.busAccess
  | .hostBarAccess .. => canonical_execHostBarAccess hs
  | .prtReset .. => canonical_execPrtReset hs
  | .vfDisable .. => canonical_execVfDisable hs
  | .vfFlr .. => .next hs.drawerReset.modDrw
  | .d3hotEntry .. => canonical_execD3hotEntry hs
  | .d0Return .. => canonical_execD0Return hs
  | .msixUnmask .. => canonical_execMsixUnmask hs
  | .moderationTimer .. => canonical_execModerationTimer hs
  | .query .. => .next (hs.serve (fun _ => hs.respond))
  | .listTemplates .. => .next (hs.serve (fun _ => hs.respond))
  | .drawerInfo .. => .next (hs.serve (fun _ => hs.respond))
  | .eventRead .. => canonical_execEventRead hs
  | .create .. => .next (hs.serve (fun _ => .ite hs.respond hs.create))
  | .resize .. => .next (hs.serve (fun _ => .ite hs.respond hs.resize))
  | .setShare .. => canonical_execSetShare hs
  | .grantWait .. => canonical_execGrantWait hs
  | .reset .. => canonical_execReset hs
  | .destroy .. => canonical_execDestroy hs
  | .save .. => canonical_execSave hs
  | .restore .. => canonical_execRestore hs
  | .resume .. => canonical_execResume hs
  | .quiesce .. => .next (hs.serve (fun _ => hs.quiesceBegin))
  | .drawerQuiesced .. => .next (.ite hs.quiesced hs)
  | .quiesceTimeout .. => canonical_execQuiesceTimeout hs
  | .dirtyStart .. => canonical_execDirtyStart hs
  | .dirtySwap .. => canonical_execDirtySwap hs
  | .dirtyStop .. => canonical_execDirtyStop hs
  | .heapExport .. => canonical_execHeapExport hs
  | .heapImport .. => canonical_execHeapImport hs
  | .regWrite .. => canonical_execRegWrite hs
  | .regRead .. => canonical_execRegRead hs
  | .imageBegin .. => canonical_execImageBegin hs
  | .imageData .. => canonical_execImageData hs
  | .imageCommit .. => canonical_execImageCommit hs
  | .auditRead .. => canonical_execAuditRead hs
  | .errorRead .. => canonical_execErrorRead hs
  | .mailboxResponse .. => canonical_execMailboxResponse hs
  | .doorbell .. => .next hs.doorbell
  | .completionDoorbell .. => .next hs.completionDoorbell
  | .queueEnable .. => .next (.ite hs (.ite hs.put hs.queueEnable))
  | .queueDisable .. => .next hs.queueDisable
  | .commandFetch .. => canonical_execCommandFetch hs
  | .hostReadError .. => canonical_execHostReadError hs
  | .nop .. => canonical_execNop hs
  | .copy .. => .next hs.copyStart
  | .fill .. => .next hs.copyStart
  | .pass .. => canonical_execPass hs
  | .compute .. => canonical_execCompute hs
  | .composeList .. => .next hs.composeStart
  | .capture .. => .next hs.composeStart
  | .captureTimeout .. => canonical_execCaptureTimeout hs
  | .audio .. => canonical_execAudio hs
  | .unitCommit .. => canonical_execUnitCommit hs
  | .statusWordUpdate .. => canonical_execStatusWordUpdate hs
  | .dataVisible .. => canonical_execDataVisible hs
  | .reportAccept .. => canonical_execReportAccept hs
  | .completionRelease .. => canonical_execCompletionRelease hs
  | .commandFault .. => canonical_execCommandFault hs
  | .tileStart .. => canonical_execTileStart hs
  | .tileWriteback .. => canonical_execTileWriteback hs
  | .partialRenderFlush .. => canonical_execPartialRenderFlush hs
  | .shaderFault .. => canonical_execShaderFault hs
  | .windowStart => .next (.ite hs hs.windowStart)
  | .benchOffer .. => canonical_execBenchOffer hs
  | .cxCommandRelease ctx q entry ring =>
    canonical_execCxCommandRelease (s := s) (ctx := ctx) (q := q) (entry := entry) (ring := ring) hs
  | .preemptionPoint .. => canonical_execPreemptionPoint hs
  | .preemptTimeout .. => canonical_execPreemptTimeout hs
  | .preemptResume .. => canonical_execPreemptResume hs
  | .deadlineEval .. => canonical_execDeadlineEval hs
  | .cxCutoffMiss .. => canonical_execCxCutoffMiss hs
  | .npLimitTimeout .. => canonical_execNpLimitTimeout hs
  | .runLimitTimeout .. => canonical_execRunLimitTimeout hs
  | .layerOwnerWrite .. => canonical_execLayerOwnerWrite hs
  | .flipCommit .. => canonical_execFlipCommit hs
  | .safetyFlip .. => canonical_execSafetyFlip hs
  | .pipeSwapRequest .. => canonical_execPipeSwapRequest hs
  | .fenceSample .. => canonical_execFenceSample hs
  | .latchPoint .. => canonical_execLatchPoint hs
  | .frameStart .. => .next hs.frameStart
  | .frameEnd .. => canonical_execFrameEnd hs
  | .headStart .. => .next (hs.runWrite (fun _ hs => hs.headStart))
  | .headStop .. => .next (hs.runWrite (fun _ hs => hs.headStop))
  | .holdoverEntry .. => .next (.ite hs.holdover hs)
  | .teEdge .. => canonical_execTeEdge hs
  | .teMiss .. => canonical_execTeMiss hs
  | .layerUnderrun .. => canonical_execLayerUnderrun hs
  | .pauseGrant .. => canonical_execPauseGrant hs
  | .witnessResult .. => canonical_execWitnessResult hs
  | .witnessRestore .. => canonical_execWitnessRestore hs
  | .witnessEventPop .. => canonical_execWitnessEventPop hs
  | .hpdIrq .. => .next (.ite hs (.ite hs.modDp hs.hpdIrq))
  | .hpdUnplug .. => canonical_execHpdUnplug hs
  | .hpdReplug .. => canonical_execHpdReplug hs
  | .linkTrainingDone .. => canonical_execLinkTrainingDone hs
  | .trainingRetry .. => .next (.ite hs.trainBegin hs)
  | .backlightOn .. => .next (.ite hs.modDp.blDrive hs)
  | .panelPowerDown .. => .next (.ite hs.panelDown hs)
  | .sidebandRequest .. => canonical_execSidebandRequest hs
  | .sidebandDone .. => canonical_execSidebandDone hs
  | .plkLinkUp .. => canonical_execPlkLinkUp hs
  | .nrzFallback .. => .next (.ite hs hs.modPport.incSat)
  | .plkLinkDown .. => .next (.ite hs.plkDown.plkTrain hs)
  | .portRetrain .. => canonical_execPortRetrain hs
  | .portDisable .. => canonical_execPortDisable hs
  | .flitReceive .. => .next hs.flitIn
  | .hello .. => .next hs.arriveAs
  | .route .. => .next hs.arriveAs
  | .leave .. => .next hs.arriveAs
  | .syncReq .. => .next hs.arriveAs
  | .syncRsp .. => .next hs.arriveAs
  | .wr .. => .next hs.arriveAs
  | .wrPart .. => .next hs.arriveAs
  | .rdReq .. => .next hs.arriveAs
  | .openMsg .. => .next hs.arriveAs
  | .wrAck .. => .next hs.arriveAs
  | .rdData .. => .next hs.arriveAs
  | .openRsp .. => .next hs.arriveAs
  | .subscribe .. => .next hs.arriveAs
  | .subAck .. => .next hs.arriveAs
  | .tile .. => .next hs.arriveAs
  | .genEnd .. => .next hs.arriveAs
  | .genAck .. => .next hs.arriveAs
  | .genCommit .. => .next hs.arriveAs
  | .touch .. => .next hs.arriveAs
  | .audioMessage .. => .next hs.arriveAs
  | .mgmt .. => canonical_execMgmt hs
  | .mgmtAck .. => .next hs.arriveAs
  | .routeOriginate => .next (.ite hs.originate hs)
  | .routeRefresh => .next (.ite hs.modPlk.advertise hs)
  | .routeExpire .. => .next (.ite hs hs.setRoutes)
  | .syncTick => canonical_execSyncTick hs
  | .frameTick => .next (.ite hs (.ite hs.put.modPlk.upd hs.put.modPlk))
  | .tickLost => canonical_execTickLost hs
  | .stSelfFine => .next (.ite hs.putStState hs)
  | .apertureEnable .. => canonical_execApertureEnable hs
  | .apertureOpenRetry .. => .next (.ite hs.apOpen hs)
  | .remoteTimeout .. => canonical_execRemoteTimeout hs
  | .windowClose .. => canonical_execWindowClose hs
  | .generationStart .. => .next (.ite hs.genRun hs)
  | .genAckTimeout .. => .next (.ite hs hs.genCommit)
  | .importDecode .. => canonical_execImportDecode hs
  | .commitInstant .. => canonical_execCommitInstant hs
  | .subscribeRetry .. => .next (.ite hs.subscribe hs)
  | .refresh .. => .next (.ite hs hs.modDmc)
  | .refreshRatePoll .. => canonical_execRefreshRatePoll hs
  | .scrub .. => canonical_execScrub hs
  | .retrainRequest .. => .next (.ite hs hs.modDmc.retrainAsk)
  | .retrainPause => canonical_execRetrainPause hs
  | .retrainPauseEnd .. => canonical_execRetrainPauseEnd hs
  | .retrainSkip => canonical_execRetrainSkip hs
  | .retrainNow .. => canonical_execRetrainNow hs
  | .writePat .. => .next hs.trnStart
  | .readCmp .. => .next hs.trnStart
  | .loop .. => .next hs.trnStart
  | .centre .. => .next hs.trnStart
  | .trainingOpDone .. => canonical_execTrainingOpDone hs
  | .vrefWrite .. => canonical_execVrefWrite hs
  | .scanStart .. => canonical_execScanStart hs
  | .gateWindowEnd .. => canonical_execGateWindowEnd hs
  | .scanProcess .. => canonical_execScanProcess hs
  | .baselineSave .. => .next (.ite hs.baselineWrite hs)
  | .suspectClear .. => .next (.ite hs.rebaseNow.put hs)
  | .rebase .. => canonical_execRebase hs
  | .panelProbe .. => canonical_execPanelProbe hs
  | .wakeScan .. => canonical_execWakeScan hs
  | .touchConsume .. => .next hs.tchConsume
  | .touchRingEnable .. => .next (.ite hs hs.tchEnable)
  | .touchFwqPop .. => canonical_execTouchFwqPop hs
  | .hapticTrigger .. => canonical_execHapticTrigger hs
  | .effectPhaseEnd .. => .next (.ite hs (.ite hs.hapEnter hs.hapBrake))
  | .driveOffGap .. => canonical_execDriveOffGap hs
  | .brakeEnd .. => .next (.ite hs (.hapBrakeEnd (.ite hs hs.incSat)))
  | .waitTimeout .. => canonical_execWaitTimeout hs
  | .hapticTick => canonical_execHapticTick hs
  | .openDetect .. => .next (.ite hs.hapKill.put hs)
  | .clr .. => canonical_execClr hs
  | .audioFrame x =>
    canonical_execAudioFrame (s := s) (x := x) hs
  | .bankSwap .. => canonical_execBankSwap hs
  | .play .. => .next (hs.voiceWrite (fun _ hs => hs.voicePlay))
  | .stop .. => .next (hs.voiceWrite (fun _ hs => hs.voiceStop))
  | .streamEnable .. => .next hs.streamEnable
  | .icuSourceEvent .. => .next (.ite hs.icuRaise hs.icuLower)
  | .claim .. => .next (hs.guardedRead (fun _ hs => hs.claimRead))
  | .complete .. => canonical_execComplete hs
  | .icuSet .. => canonical_execIcuSet hs
  | .gdis .. => canonical_execGdis hs
  | .coreSleep .. => canonical_execCoreSleep hs
  | .coreWake .. => canonical_execCoreWake hs
  | .coreRunning .. => canonical_execCoreRunning hs
  | .timerCompare .. => .next hs.fireTimers
  | .rtLockstep .. => canonical_execRtLockstep hs
  | .hutDbell .. => canonical_execHutDbell hs
  | .hutchWake => .next (.ite hs hs.upd)
  | .hutIcuClaim .. => canonical_execHutIcuClaim hs
  | .trapToCabinet .. => .next hs.put.upd
  | .mretToOpen .. => .next hs.put.upd
  | .lifeCycleRequest .. => canonical_execLifeCycleRequest hs
  | .raiseTo .. => canonical_execRaiseTo hs
  | .revoke .. => canonical_execRevoke hs
  | .fuseBurnDone => canonical_execFuseBurnDone hs
  | .extest .. => .next (.ite hs.tapLoad.upd hs.tapLoad)
  | .idcode => .next hs.tapLoad
  | .samplePreload .. => .next (.ite hs.tapLoad hs.tapLoad.upd)
  | .clamp => .next (.ite hs.tapLoad.upd hs.tapLoad)
  | .highz => .next (.ite hs.tapLoad.upd hs.tapLoad)
  | .bypass => .next hs.tapLoad
  | .dbg .. => canonical_execDbg hs
  | .prov .. => canonical_execProv hs
  | .challenge => .next (.ite hs.challenge hs)
  | .submit => .next (.ite hs.submit hs)
  | .certificateVerdict => canonical_execCertificateVerdict hs
  | .endSession => .next (.ite hs.dbgEnd hs)
  | .read .. => .next (.ite hs.dbgReadCmd hs)
  | .write .. => .next (.ite hs.dbgWriteCmd hs)
  | .sessionExpire => canonical_execSessionExpire hs
  | .nonceExpire => .next (.ite hs.upd.put hs)
  | .trstLow => .next hs.endSession.upd.put.put
  | .powerRequest .. => canonical_execPowerRequest hs
  | .drainPhaseEnd => canonical_execDrainPhaseEnd hs
  | .entryRefused => canonical_execEntryRefused hs
  | .savePhaseEnd => .next (.ite hs.put hs)
  | .isolatePhaseEnd => canonical_execIsolatePhaseEnd hs
  | .powerPhaseEnd => canonical_execPowerPhaseEnd hs
  | .restorePhaseEnd => canonical_execRestorePhaseEnd hs
  | .resumePhaseEnd .. => canonical_execResumePhaseEnd hs
  | .padRelease .. => canonical_execPadRelease hs
  | .stAlarm => .next hs.fireAlarm
  | .hardwareError .. => .next hs.detected
  | .hang .. => .next hs.detected
  | .islandReset .. => canonical_execIslandReset hs
  | .islandResetDone .. => .next (.ite hs hs.upd.putB.unitBack.upd)
  | .modReset => .next (.ite hs.modReset hs)
  | .drawerResetDone .. => canonical_execDrawerResetDone hs
  | .drainTimeout .. => canonical_execDrainTimeout hs
  | .errorAck .. => .next (.ite hs.accessError hs.ackTo)
  | .swrep .. => canonical_execSwrep hs
  | .auditFlush .. => canonical_execAuditFlush hs
  | .adlMark .. => canonical_execAdlMark hs
  | .initCrc .. => canonical_execInit hs
  | .feed .. => canonical_execFeed hs
  | .counterOverflow .. => canonical_execCounterOverflow hs
  | .arm .. => canonical_execArm hs
  | .snapshot .. => canonical_execSnapshot hs
  | .bwWindow .. => .next (.ite hs hs.upd.put.put.maxTo.incWrap.putB.upd)
  | .bwRead .. => canonical_execBwRead hs
  | .unitTest .. => .next hs.goWrite
  | .unitRetire .. => .next hs.goWrite
  | .memMarch .. => .next hs.goWrite
  | .dramTrain .. => .next hs.goWrite
  | .testDone .. => canonical_execTestDone hs
  | .registerRead .. => .next hs.regReadOrHold
  | .perstNDeassert .. => .next hs.upd.modPort.hutchRaise
  | .hostLinkUp .. => .next (.ite hs.modPort hs)
  | .vfEnable .. => canonical_execVfEnable hs
  | .synthesiserLock .. => canonical_execSynthesiserLock hs
  | .hpdAssert .. => canonical_execHpdAssert hs
  | .panelPowerUp .. => .next (.ite hs.panelRaise hs)
  | .portTrainRetry .. => .next (.ite hs.plkTrain hs)
  | .stSlewDone => .next (.ite hs.stSlew hs)

/-! ### Steps -/

theorem step_of_empty {s : State} (h : s.pending = []) : step s = .next s.idle := by
  unfold step
  rw [h]

theorem step_of_front {s : State} {c : Instr} {q : List Instr} (h : s.pending = c :: q) :
    step s = exec c { s with pending := q } := by
  unfold step
  rw [h]

/-- Settles O50: a step is a clock or one command, and each keeps the form. -/
theorem everyStepKeepsTheCanonicalForm : Obligations.EveryStepKeepsTheCanonicalForm := by
  unfold Obligations.EveryStepKeepsTheCanonicalForm
  intro s t hs hstep
  cases hq : s.pending with
  | nil =>
    rw [step_of_empty hq] at hstep
    exact NextCanonical.next hs.idle t hstep
  | cons c q =>
    rw [step_of_front hq] at hstep
    exact State.Canonical.exec (s := { s with pending := q }) hs c t hstep

/-- Settles O51. -/
theorem resetIsCanonical : Obligations.ResetIsCanonical := ⟨canonical_reset, rfl, rfl, rfl⟩

/-- Settles O47. -/
theorem stepRunsTheFrontCommand : Obligations.StepRunsTheFrontCommand := fun _ _ _ => step_of_front rfl

theorem exec_goes_on (c : Instr) (s : State) : ∃ t, exec c s = .next t := by
  cases c <;> exact ⟨_, rfl⟩

/-- Settles O49. -/
theorem everyStepGoesOn : Obligations.EveryStepGoesOn := by
  unfold Obligations.EveryStepGoesOn
  refine ⟨exec_goes_on, fun s => ?_⟩
  cases hq : s.pending with
  | nil => exact ⟨_, step_of_empty hq⟩
  | cons c q =>
    obtain ⟨t, ht⟩ := exec_goes_on c { s with pending := q }
    exact ⟨t, (step_of_front hq).trans ht⟩

end Sys2Proof.Machine
end

section
/-! SUPPORT. The state right after reset. -/

namespace Sys2Proof.Machine

set_option Elab.async false

/-! ### The state right after reset -/

/-- Right after reset no register element is listed, so each reads the reset value of its table. -/
theorem get_reset (f : Fld) (i : Nat) : State.reset.get f i = f.rstv i := rfl

theorem get_lut_reset {i : Nat} (hi : i < 1024) : State.reset.get F.HDn_LUT_VALUE i = 4 * i :=
  (get_reset _ i).trans (congrArg (4 * ·) (Nat.mod_eq_of_lt hi))

/-- The identity matrix has its ones on the diagonal. -/
theorem get_mtx_reset : ∀ i < 9, State.reset.get F.HDn_MTX_COEF i = if i % 4 = 0 then 0x1000 else 0 := by decide

theorem cabOwned_reset : ∀ b < 64, State.reset.cabOwned b = decide (b ∈ [1, 3, 4, 0x21, 0x27, 0x29]) := by decide

/-- Settles O52: the register store is empty, so every field reads the value of its table, and the parts beside it have their defaults. -/
theorem resetLeavesItsValues : Obligations.ResetLeavesItsValues := by
  unfold Obligations.ResetLeavesItsValues
  exact ⟨get_reset, rfl, rfl, fun _ => rfl, fun _ => rfl, fun _ => get_lut_reset, get_mtx_reset, fun _ => rfl, fun _ => rfl, fun _ => rfl,
    rfl, rfl, fun _ => rfl, fun _ => rfl, cabOwned_reset, rfl, rfl, rfl, rfl, rfl⟩

end Sys2Proof.Machine
end

section
/-! SUPPORT. What the Cabinet's ownership of a block refuses, and what an admitted command does. -/

namespace Sys2Proof.Machine

set_option Elab.async false

section
variable {s : State} {o : Origin} {b : Nat} {w : RegWrite}

theorem behindHeld_of_empty (h : s.held = []) (a : Nat) : s.behindHeld a = false := by simp [State.behindHeld, h]

/-- The write of an unaudited register by the Open world to a Cabinet-owned block records REGION and does no more. -/
theorem guarded_owned_unaudited (hcab : o.cab = false) (hon : s.blkOn b = true) (hheld : s.held = []) (hown : s.cabOwned b = true)
    (hb : w.blk = b) (haud : w.audited = false) (hfree : w.free = false) (n : Nat) (k part : State → State) :
    s.guarded o w n k part = s.accessError o 0 0x29 w.addr := by
  subst hb
  rw [guarded_owned hon (by simp [State.mustWait, haud, behindHeld_of_empty hheld]) hfree hown hcab, haud, Bool.false_and]
  rfl

/-- A read by the Open world of a Cabinet-owned block records REGION and returns 0. -/
theorem guardedRead_owned (hcab : o.cab = false) (hon : s.blkOn b = true) (hheld : s.held = []) (hown : s.cabOwned b = true) (a : Nat)
    (k : State → State × Nat) : s.guardedRead o a b k = (s.accessError o 0 0x29 a).ret o a 0 := by
  unfold State.guardedRead
  rw [if_neg (by simp [hon]), if_neg (by simp [behindHeld_of_empty hheld]), if_pos (by simp [hown, hcab])]

end

/-- The write of ICU_GDIS by the Open world makes its refused entry first. -/
theorem exec_gdis_owned {s : State} {o : Origin} (hcab : o.cab = false) (hon : s.blkOn 0x20 = true) (hheld : s.held = [])
    (hown : s.cabOwned 0x20 = true) (hbuf : s.adl.buf.length ≤ 63) (hcom : s.committed = true) (v : Bool) :
    exec (.gdis o v) s = .next ((s.auditReg o (icuAddr 0) (s.get F.ICU_GDIS_GDIS % 2 ^ 32) (b2n v % 2 ^ 32) false true 4).accessError
      o 0 0x29 (icuAddr 0)) := by
  have hroom : ¬ 64 < s.adl.buf.length + 1 := by omega
  have hwait : s.mustWait o { addr := icuAddr 0, blk := 0x20, old := s.get F.ICU_GDIS_GDIS, new := b2n v } = false := by
    simp [State.mustWait, State.auditedHeld, behindHeld_of_empty hheld, hheld, hroom]
  refine congrArg Host.Outcome.next ((guarded_owned hon hwait rfl hown hcab ..).trans ?_)
  rw [if_pos (by simp [hcom])]
  rfl

/-- Settles O58: each of these accesses goes through the guard of its block, which refuses an Open-world origin. -/
theorem cabinetBlocksRefuseTheOpenWorld : Obligations.CabinetBlocksRefuseTheOpenWorld := by
  unfold Obligations.CabinetBlocksRefuseTheOpenWorld
  refine ⟨fun s o c n hcab hon hheld hown => ⟨congrArg _ (guarded_owned_unaudited hcab hon hheld hown rfl rfl rfl ..),
      congrArg _ (guardedRead_owned hcab hon hheld hown ..)⟩,
    fun s o n hcab hon hheld hown => congrArg _ (guarded_owned_unaudited hcab hon hheld hown rfl rfl rfl ..),
    fun s o v hcab hon hheld hown hbuf hcom => exec_gdis_owned hcab hon hheld hown hbuf hcom v,
    fun s o hcab hon hheld hown => congrArg _ (guarded_owned_unaudited hcab hon hheld hown rfl rfl rfl ..),
    fun s o u poly ie hcab hon hheld hown => congrArg _ (guarded_owned_unaudited hcab hon hheld hown rfl rfl rfl ..),
    fun s o u k v hcab hon hheld hown => congrArg _ (guarded_owned_unaudited hcab hon hheld hown rfl rfl rfl ..)⟩

section
variable {s : State} {o : Origin} {w : RegWrite} {n : Nat} {k part : State → State}

/-- A command that is a guarded write has its effect in the state with its entry, where nothing stands in its way and no rule of the
block refuses it. -/
theorem next_guarded (h : s.Admits o w) (hn : n = 0) :
    (.next (s.guarded o w n k part) : Host.Outcome State Fault Refusal) = .next (k (s.entered o w)) := by
  rw [hn, guarded_admitted h]

theorem entered_of_unaudited (h : w.audited = false) : s.entered o w = s := by
  unfold State.entered
  rw [if_neg (by simp [h])]

/-- The same of a write that makes no entry. -/
theorem next_guarded_unaudited (h : s.Admits o w) (haud : w.audited = false) (hn : n = 0) :
    (.next (s.guarded o w n k part) : Host.Outcome State Fault Refusal) = .next (k s) := by
  rw [next_guarded h hn, entered_of_unaudited haud]

end

/-! ### Commands that are a guarded write under a condition of their own -/

section
variable {s : State} {o : Origin}

theorem runWrite_of_ne {h v : Nat} (hv : s.get F.HDn_CTRL_RUN h ≠ v) (k : State → State) : s.runWrite o h v k =
    s.guarded o { addr := blkAddr (0x10 + h) 0, blk := 0x10 + h, old := s.ctrlWord h (1 - v), new := s.ctrlWord h v, img := 1 } 0 k :=
  if_neg (by simp [hv])

/-- A training operation that its master may start, on an idle controller that serves, with a known pattern. -/
theorem next_trnStart {op : Nat} {c : TrnCfg} (h : s.Admits o { addr := dmcAddr 0x1000, blk := 0x19, audited := false })
    (hmay : s.trnAllowed o = true) (hpat : c.pattern < 5) (hbusy : s.on F.DMC_TRN_CTRL_BUSY = false) (hserves : s.dramServes = true) :
    (.next (s.trnStart o op c) : Host.Outcome State Fault Refusal) = .next (s.trnGo op c) := by
  refine (next_guarded_unaudited h rfl rfl).trans (congrArg _ ?_)
  rw [if_neg (by simp [hmay]), if_neg (by omega), if_neg (by simp [hbusy, hserves])]

/-- GO of the Cabinet's test descriptor, by the command of its operation. -/
theorem next_goWrite_cab {f : Nat → Bool} (h : s.Admits o { addr := bstAddr 0x20, blk := 0x26, new := 1 }) (hcab : o.cab = true)
    (hop : f (fieldLE (s.bstDesc none) 0 1) = true) : (.next (s.goWrite o none f) : Host.Outcome State Fault Refusal) =
    .next ((s.entered o { addr := bstAddr 0x20, blk := 0x26, new := 1 }).bstGo none) :=
  (congrArg _ (if_neg (by simp [hop]))).trans (next_guarded h (if_pos hcab))

/-- GO of the test descriptor of host port `p`. -/
theorem next_goWrite_host {p : PortId} {f : Nat → Bool}
    (h : s.Admits o { addr := 0x00F001A00420 + 0x100000 * p, blk := 0x1A + p, new := 1 })
    (hop : f (fieldLE (s.bstDesc (some p)) 0 1) = true) : (.next (s.goWrite o (some p) f) : Host.Outcome State Fault Refusal) =
    .next ((s.entered o { addr := 0x00F001A00420 + 0x100000 * p, blk := 0x1A + p, new := 1 }).bstGo (some p)) :=
  (congrArg _ (if_neg (by simp [hop]))).trans (next_guarded h rfl)

/-- A voice is the Cabinet's to play and stop. -/
theorem next_voiceWrite {v b : Nat} {k : State → State} (h : s.Admits o
      { addr := audAddr (0xC00 + 0x10 * v), blk := 0x1F, wide := true, old := s.regWord 145 v, new := s.regWord 145 v + 2 ^ b })
    (hcab : o.cab = true) : (.next (s.voiceWrite o v b k) : Host.Outcome State Fault Refusal) = .next (k (s.entered o
      { addr := audAddr (0xC00 + 0x10 * v), blk := 0x1F, wide := true, old := s.regWord 145 v, new := s.regWord 145 v + 2 ^ b })) := by
  unfold State.voiceWrite
  exact next_guarded h (if_pos hcab)

/-- The bank swaps of a Cabinet origin, whose locks do not bind it (R568). -/
theorem exec_bankSwap_cab {mask : Fin 4294967296} (h : s.Admits o
      { addr := audAddr 0xE00, blk := 0x1F, old := s.get F.AUD_BQ_SWAP_MASK, new := mask }) (hcab : o.cab = true) : exec (.bankSwap o mask) s =
    .next (((List.range 32).filter (fun b => bit mask b)).foldl (fun (u : State) b => u.putBit F.AUD_BQ_SWAP_MASK 0 b true) (s.entered o
      { addr := audAddr 0xE00, blk := 0x1F, old := s.get F.AUD_BQ_SWAP_MASK, new := mask })) := by
  refine (next_guarded h (if_pos (by simp [hcab]))).trans ?_
  simp only [hcab, Bool.true_or, Bool.and_true]

theorem exec_bwRead_open {m : Fin 24} (hon : s.blkOn 0x25 = true) (hwait : s.behindHeld (pmuAddr (0x4008 + 0x20 * m)) = false)
    (hopen : s.cabOwned 0x25 = false ∨ o.cab = true) :
    exec (.bwRead o m) s = .next ((s.bwRead o m).1.ret o (pmuAddr (0x4008 + 0x20 * m)) (s.bwRead o m).2) := by
  have hworld : (!o.cab && s.cabOwned 0x25) = false := by rcases hopen with h | h <;> simp [h]
  refine congrArg Host.Outcome.next ?_
  rw [if_neg (by simp [hon]), if_neg (by simp [hwait]), if_neg (by simp [hworld])]

end

/-- Settles O59: each of these commands is a guarded access of one register, which nothing holds up or refuses here. -/
theorem registerCommandsTakeEffect : Obligations.RegisterCommandsTakeEffect := by
  unfold Obligations.RegisterCommandsTakeEffect
  exact ⟨
    fun _ _ _ _ _ _ h => next_guarded h rfl,
    fun _ _ _ _ h hw => next_guarded h (if_neg (by simpa [or_iff_not_imp_left] using hw)),
    fun _ _ _ h => next_guarded h rfl,
    fun _ _ _ h hrun => (congrArg _ (runWrite_of_ne hrun _)).trans (next_guarded h rfl),
    fun _ _ _ h hrun => (congrArg _ (runWrite_of_ne hrun _)).trans (next_guarded h rfl),
    fun _ _ _ h hw => next_guarded h (if_neg (by simpa [or_iff_not_imp_left] using hw)),
    fun _ _ h => next_guarded_unaudited h rfl rfl,
    fun _ _ _ _ h => next_guarded h rfl,
    fun _ _ _ h => next_guarded h rfl,
    fun _ _ _ h => next_guarded h rfl,
    fun _ _ _ _ _ _ _ _ h hcab => next_guarded h (if_pos (by simp [hcab])),
    fun _ _ _ _ _ _ _ _ _ h hcab hne => (next_guarded h (if_pos (by simp [hcab]))).trans (congrArg _ (if_neg hne)),
    fun _ _ h => next_guarded h rfl,
    fun _ _ _ h hmay hpat hbusy hserves => next_trnStart h hmay hpat hbusy hserves,
    fun _ _ _ h hmay hpat hbusy hserves => next_trnStart h hmay hpat hbusy hserves,
    fun _ _ _ h hmay hpat hbusy hserves => next_trnStart h hmay hpat hbusy hserves,
    fun _ _ _ h hmay hpat hbusy hserves => next_trnStart h hmay hpat hbusy hserves,
    fun _ _ _ _ h hmay => (next_guarded_unaudited h rfl rfl).trans (congrArg _ (if_pos hmay)),
    fun _ _ _ h => next_guarded h rfl,
    fun _ _ h => next_guarded_unaudited h rfl rfl,
    fun _ _ _ _ h => next_guarded_unaudited h rfl rfl,
    fun _ _ _ h => next_guarded h rfl,
    fun _ _ _ h hcab => exec_bankSwap_cab h hcab,
    fun _ _ _ h hcab => next_voiceWrite h hcab,
    fun _ _ _ h hcab => next_voiceWrite h hcab,
    fun _ _ _ _ h => next_guarded_unaudited h rfl rfl,
    fun _ _ _ h => next_guarded_unaudited h rfl rfl,
    fun _ _ _ h hcab => next_guarded h (if_neg (by simp [hcab])),
    fun _ _ _ h hw => next_guarded_unaudited h rfl (if_neg (by rcases hw with hw | hw <;> simp [hw])),
    fun _ _ h => next_guarded_unaudited h rfl rfl,
    fun _ _ _ h hne => (next_guarded h rfl).trans (congrArg _ (if_neg hne)),
    fun _ _ _ h hne => (next_guarded h rfl).trans (congrArg _ (if_neg hne)),
    fun _ _ _ h hne => (next_guarded h rfl).trans (congrArg _ (if_neg hne)),
    fun _ _ _ h hreason => next_guarded h hreason,
    fun _ _ _ h => next_guarded h rfl,
    fun _ _ _ h => next_guarded h rfl,
    fun _ _ _ _ h hcab => next_guarded h (if_pos hcab),
    fun _ _ _ _ _ h => next_guarded_unaudited h rfl rfl,
    fun _ _ _ _ _ h => next_guarded_unaudited h rfl rfl,
    fun _ _ _ _ h => next_guarded_unaudited h rfl rfl,
    fun _ _ h hcab hop => next_goWrite_cab h hcab (by simpa [and_assoc] using hop),
    fun _ _ _ h hop => next_goWrite_host h (by simpa [and_assoc] using hop),
    fun _ _ h hcab hop => next_goWrite_cab h hcab (by simp [hop]),
    fun _ _ _ h hop => next_goWrite_host h (by simp [hop]),
    fun _ _ h hcab hop => next_goWrite_cab h hcab (by simp [hop]),
    fun _ _ _ h hop => next_goWrite_host h (by simp [hop]),
    fun _ _ h hcab hop => next_goWrite_cab h hcab (by simp [hop]),
    fun _ _ _ h hop => next_goWrite_host h (by simp [hop]),
    fun _ _ _ hon hwait hopen => congrArg _ (guardedRead_open hon hwait hopen _),
    fun _ _ hon hwait hopen => congrArg _ (guardedRead_open hon hwait hopen _),
    fun _ _ _ hon hwait hopen => exec_bwRead_open hon hwait hopen⟩

end Sys2Proof.Machine
end

section
/-! SUPPORT. The frame of a change, put together step by step, and the clock of an empty queue. -/

namespace Sys2Proof.Machine

set_option Elab.async false

/-! ### The frame of a change, step by step -/

/-- `s` with the register store and the parts of `ps` of `t`. -/
def State.patch (s t : State) (ps : List Part) : State :=
  { s with regs := t.regs, shadow := if .shadow ∈ ps then t.shadow else s.shadow, mem := if .mem ∈ ps then t.mem else s.mem, memRest :=
    if .memRest ∈ ps then t.memRest else s.memRest, now := if .now ∈ ps then t.now else s.now, freeCtr := if .freeCtr ∈ ps then t.freeCtr
    else s.freeCtr, phase := if .phase ∈ ps then t.phase else s.phase, pd := if .pd ∈ ps then t.pd else s.pd, pins := if .pins ∈ ps then
    t.pins else s.pins, sup := if .sup ∈ ps then t.sup else s.sup, boot := if .boot ∈ ps then t.boot else s.boot, nv := if .nv ∈ ps then
    t.nv else s.nv, fuses := if .fuses ∈ ps then t.fuses else s.fuses, flashA := if .flashA ∈ ps then t.flashA else s.flashA, flashB := if
    .flashB ∈ ps then t.flashB else s.flashB, latches := if .latches ∈ ps then t.latches else s.latches, held := if .held ∈ ps then t.held
    else s.held, hostOut := if .hostOut ∈ ps then t.hostOut else s.hostOut, reads := if .reads ∈ ps then t.reads else s.reads, adl := if
    .adl ∈ ps then t.adl else s.adl, err := if .err ∈ ps then t.err else s.err, pm := if .pm ∈ ps then t.pm else s.pm, dbg := if .dbg ∈ ps
    then t.dbg else s.dbg, cores := if .cores ∈ ps then t.cores else s.cores, templates := if .templates ∈ ps then t.templates else
    s.templates, mutables := if .mutables ∈ ps then t.mutables else s.mutables, ports := if .ports ∈ ps then t.ports else s.ports, drw :=
    if .drw ∈ ps then t.drw else s.drw, tls := if .tls ∈ ps then t.tls else s.tls, jnl := if .jnl ∈ ps then t.jnl else s.jnl, layers := if
    .layers ∈ ps then t.layers else s.layers, flipCtr := if .flipCtr ∈ ps then t.flipCtr else s.flipCtr, heads := if .heads ∈ ps then
    t.heads else s.heads, dps := if .dps ∈ ps then t.dps else s.dps, wit := if .wit ∈ ps then t.wit else s.wit, shelf := if .shelf ∈ ps
    then t.shelf else s.shelf, tell := if .tell ∈ ps then t.tell else s.tell, gpu := if .gpu ∈ ps then t.gpu else s.gpu, dmc := if .dmc ∈
    ps then t.dmc else s.dmc, stalled := if .stalled ∈ ps then t.stalled else s.stalled, plk := if .plk ∈ ps then t.plk else s.plk, hap :=
    if .hap ∈ ps then t.hap else s.hap, tch := if .tch ∈ ps then t.tch else s.tch, aud := if .aud ∈ ps then t.aud else s.aud, pmu := if
    .pmu ∈ ps then t.pmu else s.pmu, tests := if .tests ∈ ps then t.tests else s.tests }

section
variable {r s t : State} {ps qs : List Part} {fs gs : List Fld}

theorem patch_same {p : Part} (h : p ∉ ps) : s.same (s.patch t ps) p := by
  cases p <;> exact if_neg h

/-- Where `t` is `s` but for its register store and the parts of `ps`, the other parts are kept. -/
theorem partsKept_of_patch (h : t = s.patch t ps) : s.PartsKept t ps := by
  rw [h]
  exact ⟨fun _ => patch_same, rfl⟩

theorem State.PartsKept.refl (s : State) (ps : List Part) : s.PartsKept s ps := ⟨fun p _ => by cases p <;> rfl, rfl⟩

theorem State.PartsKept.trans (h : r.PartsKept s ps) (h' : s.PartsKept t ps) : r.PartsKept t ps :=
  ⟨fun p hp => (h.1 p hp).trans (h'.1 p hp), h'.2.trans h.2⟩

/-- A change within the frame, then another. -/
theorem State.PartsKept.comp (h : r.PartsKept s ps) (h' : s.PartsKept t qs) (hp : qs ⊆ ps := by decide) : r.PartsKept t ps :=
  h.trans ⟨fun p hmem => h'.1 p (fun hq => hmem (hp hq)), h'.2⟩

theorem State.Kept.comp (h : r.Kept s ps fs) (h' : s.Kept t qs gs) (hp : qs ⊆ ps := by decide) (hf : gs ⊆ fs := by decide) :
    r.Kept t ps fs :=
  ⟨h.1.comp h'.1 hp, fun f i hne => (h'.2 f i (fun g hg => hne g (hf hg))).trans (h.2 f i hne)⟩

theorem State.PartsKept.ite {c : Prop} {i : Decidable c} (hs : r.PartsKept s ps) (ht : r.PartsKept t ps) :
    r.PartsKept (if c then s else t) ps := by
  split
  · exact hs
  · exact ht

theorem State.Kept.ite {c : Prop} {i : Decidable c} (hs : r.Kept s ps fs) (ht : r.Kept t ps fs) : r.Kept (if c then s else t) ps fs := by
  split
  · exact hs
  · exact ht

theorem State.PartsKept.foldl {α : Type} {g : State → α → State} {xs : List α} (hs : r.PartsKept s ps)
    (hg : ∀ s x, r.PartsKept s ps → r.PartsKept (g s x) ps) : r.PartsKept (xs.foldl g s) ps := by
  induction xs generalizing s with
  | nil => exact hs
  | cons x xs ih => exact ih (hg s x hs)

theorem State.Kept.foldl {α : Type} {g : State → α → State} {xs : List α} (hs : r.Kept s ps fs)
    (hg : ∀ s x, r.Kept s ps fs → r.Kept (g s x) ps fs) : r.Kept (xs.foldl g s) ps fs := by
  induction xs generalizing s with
  | nil => exact hs
  | cons x xs ih => exact ih (hg s x hs)

/-- A change of parts of the frame and of the register store. -/
theorem State.PartsKept.upd (hs : r.PartsKept s ps) {regs shadow mem memRest now freeCtr phase pd pins sup boot nv fuses flashA flashB latches held hostOut reads adl err pm dbg cores templates mutables ports drw tls jnl layers flipCtr heads dps wit shelf tell gpu dmc stalled plk hap tch aud pmu tests : _}
    (h : State.mk s.pending regs shadow mem memRest now freeCtr phase pd pins sup boot nv fuses flashA flashB latches held hostOut reads adl
    err pm dbg cores templates mutables ports drw tls jnl layers flipCtr heads dps wit shelf tell gpu dmc stalled plk hap tch aud pmu
    tests = s.patch (State.mk s.pending regs shadow mem memRest now freeCtr phase pd pins sup boot nv fuses flashA flashB latches held hostOut reads adl
    err pm dbg cores templates mutables ports drw tls jnl layers flipCtr heads dps wit shelf tell gpu dmc stalled plk hap tch aud pmu
    tests) ps := by rfl) :
    r.PartsKept (State.mk s.pending regs shadow mem memRest now freeCtr phase pd pins sup boot nv fuses flashA flashB latches held hostOut reads adl
    err pm dbg cores templates mutables ports drw tls jnl layers flipCtr heads dps wit shelf tell gpu dmc stalled plk hap tch aud pmu
    tests) ps := hs.trans (partsKept_of_patch h)

/-- A change of parts of the frame. -/
theorem State.Kept.upd (hs : r.Kept s ps fs) {shadow mem memRest now freeCtr phase pd pins sup boot nv fuses flashA flashB latches held hostOut reads adl err pm dbg cores templates
    mutables ports drw tls jnl layers flipCtr heads dps wit shelf tell gpu dmc stalled plk hap tch aud pmu tests : _}
    (h : State.mk s.pending s.regs shadow mem memRest now freeCtr phase pd pins sup boot nv fuses flashA flashB latches held hostOut reads adl
    err pm dbg cores templates mutables ports drw tls jnl layers flipCtr heads dps wit shelf tell gpu dmc stalled plk hap tch aud pmu
    tests = s.patch (State.mk s.pending s.regs shadow mem memRest now freeCtr phase pd pins sup boot nv fuses flashA flashB latches held hostOut reads adl
    err pm dbg cores templates mutables ports drw tls jnl layers flipCtr heads dps wit shelf tell gpu dmc stalled plk hap tch aud pmu
    tests) ps := by rfl) :
    r.Kept (State.mk s.pending s.regs shadow mem memRest now freeCtr phase pd pins sup boot nv fuses flashA flashB latches held hostOut reads adl
    err pm dbg cores templates mutables ports drw tls jnl layers flipCtr heads dps wit shelf tell gpu dmc stalled plk hap tch aud pmu
    tests) ps fs := hs.trans ⟨partsKept_of_patch h, fun _ _ _ => rfl⟩

theorem State.PartsKept.put (hs : r.PartsKept s ps) {f : Fld} {i v : Nat} : r.PartsKept (s.put f i v) ps := hs.trans (kept_put s (List.mem_singleton_self f) i v ps).1

theorem State.Kept.put (hs : r.Kept s ps fs) {f : Fld} {i v : Nat} (hf : f ∈ fs := by decide) : r.Kept (s.put f i v) ps fs :=
  hs.trans (kept_put s hf i v ps)

end

/-! ### The clock of an empty queue -/

theorem kept_calibrate (s : State) : s.Kept s.calibrate [.pm] [F.TIM_CAL_RATIO] :=
  have hs := State.Kept.refl s _ _
  .ite hs.upd hs.put.upd

/-- The count that a clock gives ST: one up, and where a slew doubles or skips a count, two or none. -/
def State.stNext (s : State) : Nat :=
  if (s.pm.slewPhase + 1) % 2000 = 0 ∧ s.pm.slew ≠ 0 then (if 0 < s.pm.slew then s.st + 2 else s.st) else s.st + 1

/-- A clock moves the time on and ends the pulses that are due; with PD01 on, ST takes its next count and the time base follows. -/
theorem stTick_cases (s : State) : ∃ u : State, s.Kept u [.now, .pins] [] ∧ u.now = s.now + 1 ∧
    ((s.pdOnB 1 = false ∧ s.stTick = u) ∨ (s.pdOnB 1 = true ∧ (u.put F.TIM_ST_ST 0 s.stNext).Kept s.stTick [.pm]
      [F.TIM_CAL_RATIO, F.TIM_STATUS_UNC])) := by
  unfold State.stTick
  extract_lets now s1 p1 s2 p2 s3 ph mv up s4 left p5 s5 s6 f p7 s7
  have hs := State.Kept.refl s [.now, .pins] []
  have h1 : s.Kept s1 _ _ := hs.upd
  have h2 : s.Kept s2 _ _ := .ite h1 (.ite h1.upd h1)
  have h3 : s.Kept s3 _ _ := .ite h2 (.ite h2.upd h2)
  have hpd : s3.pd = s.pd := h3.1.1 .pd (by decide)
  have hpm : s3.pm = s.pm := h3.1.1 .pm (by decide)
  have hst : s3.st = s.st := h3.2 _ _ (by simp)
  have h2now : s2.now = s.now + 1 := by
    simp only [s2]
    split
    · rfl
    · split <;> rfl
  have h3now : s3.now = s.now + 1 := by
    simp only [s3]
    split
    · exact h2now
    · split <;> exact h2now
  have hon : s3.pdOnB 1 = s.pdOnB 1 := by rw [State.pdOnB, State.pdOnB, hpd]
  refine ⟨s3, h3, h3now, ?_⟩
  cases hpd1 : s.pdOnB 1 with
  | false => exact .inl ⟨rfl, if_pos (by simp [hon, hpd1])⟩
  | true =>
    refine .inr ⟨rfl, ?_⟩
    rw [if_neg (by simp [hon, hpd1])]
    have h4 : s4 = s3.put F.TIM_ST_ST 0 s.stNext := by
      simp only [s4, mv, up, ph, State.stNext, hpm, hst]
      simp
    have h5 : s4.Kept s5 [.pm] [F.TIM_CAL_RATIO, F.TIM_STATUS_UNC] := (State.Kept.refl s4 _ _).upd
    have h6 : s4.Kept s6 [.pm] [F.TIM_CAL_RATIO, F.TIM_STATUS_UNC] := h5.comp (kept_calibrate s5)
    rw [← h4]
    exact .ite h6 (.ite h6.upd h6.upd.put)

theorem now_stTick (s : State) : s.stTick.now = s.now + 1 := by
  obtain ⟨u, -, hnow, ⟨-, rfl⟩ | ⟨-, ht⟩⟩ := stTick_cases s
  · exact hnow
  · exact Eq.trans (ht.1.1 .now (by decide)) hnow

theorem partsKept_stTick (s : State) : s.PartsKept s.stTick [.now, .pins, .pm] := by
  have hs := State.PartsKept.refl s [.now, .pins, .pm]
  obtain ⟨u, hu, -, ⟨-, rfl⟩ | ⟨-, ht⟩⟩ := stTick_cases s
  · exact hs.comp hu.1
  · exact (hs.comp hu.1).put.comp ht.1

theorem st_stTick_of_off {s : State} (h : s.pdOnB 1 = false) : s.stTick.st = s.st := by
  obtain ⟨u, hu, -, ⟨-, rfl⟩ | ⟨hon, -⟩⟩ := stTick_cases s
  · exact hu.2 _ _ (by simp)
  · exact absurd (h.symm.trans hon) (by decide)

theorem st_stTick_of_on {s : State} (h : s.pdOnB 1 = true) : s.stTick.st = s.stNext % 2 ^ 64 := by
  obtain ⟨u, -, -, ⟨hoff, -⟩ | ⟨-, ht⟩⟩ := stTick_cases s
  · exact absurd (hoff.symm.trans h) (by decide)
  · exact (ht.2 F.TIM_ST_ST 0 (by decide)).trans (get_put_same _ _ _ _)

theorem leaveCheck_of_none {s : State} (h : ∀ p < 4, (s.pport p).leaving = none) : s.leaveCheck = s := by
  simp [State.leaveCheck, List.range_succ, h]

/-- Settles O48: the clock's cases give the time and ST, and no port leaves that does not wait for it. -/
theorem emptyQueueIsOneClock : Obligations.EmptyQueueIsOneClock := by
  unfold Obligations.EmptyQueueIsOneClock
  refine ⟨fun _ => step_of_empty, fun s h => ?_, fun s => ⟨now_stTick s, partsKept_stTick s⟩, fun s hon hslew => ?_,
    fun s hon hph hslew => ?_, fun s hon hph hslew => ?_, fun s hoff => st_stTick_of_off hoff⟩
  · have hplk : s.stTick.plk = s.plk := (partsKept_stTick s).1 .plk (by decide)
    exact leaveCheck_of_none fun p hp => by
      rw [State.pport, hplk]
      exact h p hp
  · rw [st_stTick_of_on hon, State.stNext, if_neg (by simp [hslew])]
  · rw [st_stTick_of_on hon, State.stNext, if_pos ⟨by rw [hph], hslew.ne'⟩, if_pos hslew]
  · rw [st_stTick_of_on hon, State.stNext, if_pos ⟨by rw [hph], hslew.ne⟩, if_neg hslew.asymm]

end Sys2Proof.Machine
end

section
/-! SUPPORT. What a counted event changes, and memory read after a write. -/

namespace Sys2Proof.Machine

set_option Elab.async false

/-! ### What a counted event changes -/

theorem kept_wakeTarget (s : State) (t : Nat) : s.Kept (s.wakeTarget t) [] [F.CCL_CORE_SLEEP, F.CCL_CORE_STATE, F.ICU_STATUS_WAKING,
    F.RTx_CTRL_SLEEP, F.RTx_CTRL_STATE] :=
  have hs := State.Kept.refl s _ _
  .ite hs.put.put.put (.ite hs.put hs.put.put.put)

theorem kept_icuGive (s : State) (n t : Nat) : s.Kept (s.icuGive n t) [.cores] [F.ICU_SRC_LAST, F.ICU_SRC_CTX, F.ICU_SRC_OFFERED] :=
  have hs := State.Kept.refl s _ _
  hs.put.put.put.upd

theorem kept_icuTry (s : State) (n : Nat) : s.Kept (s.icuTry n) [.cores] [F.ICU_STATUS_WAKES, F.CCL_CORE_SLEEP, F.CCL_CORE_STATE,
    F.ICU_STATUS_WAKING, F.RTx_CTRL_SLEEP, F.RTx_CTRL_STATE, F.ICU_SRC_LAST, F.ICU_SRC_CTX, F.ICU_SRC_OFFERED] := by
  have hs := State.Kept.refl s [.cores] [F.ICU_STATUS_WAKES, F.CCL_CORE_SLEEP, F.CCL_CORE_STATE, F.ICU_STATUS_WAKING, F.RTx_CTRL_SLEEP,
    F.RTx_CTRL_STATE, F.ICU_SRC_LAST, F.ICU_SRC_CTX, F.ICU_SRC_OFFERED]
  have hgive (x : Nat) := hs.comp (kept_icuGive s n x)
  unfold State.icuTry
  dsimp only
  refine .ite hs ?_
  split
  · split
    · exact hs
    · exact .ite hs (hs.comp (kept_wakeTarget ..)).put
  · refine .ite ?_ (hgive _)
    split
    · exact hgive _
    · exact hgive _

theorem kept_icuRaise (s : State) (n : Nat) : s.Kept (s.icuRaise n) [.cores] [F.ICU_SRC_PENDING, F.ICU_STATUS_WAKES, F.CCL_CORE_SLEEP,
    F.CCL_CORE_STATE, F.ICU_STATUS_WAKING, F.RTx_CTRL_SLEEP, F.RTx_CTRL_STATE, F.ICU_SRC_LAST, F.ICU_SRC_CTX, F.ICU_SRC_OFFERED] :=
  have hs := State.Kept.refl s _ _
  .ite (hs.put.comp (kept_icuTry ..)) hs

theorem kept_icuWithdraw (s : State) (n : Nat) (bySleep : Bool) : s.Kept (s.icuWithdraw n bySleep) [.cores] [F.ICU_STATUS_WITHDRAWN,
    F.ICU_SRC_OFFERED, F.ICU_STATUS_WAKES, F.CCL_CORE_SLEEP, F.CCL_CORE_STATE, F.ICU_STATUS_WAKING, F.RTx_CTRL_SLEEP, F.RTx_CTRL_STATE,
    F.ICU_SRC_LAST, F.ICU_SRC_CTX] :=
  have hs := State.Kept.refl s _ _
  .ite (State.Kept.comp (.ite hs.put.put.upd hs.put.put) (kept_icuTry ..)) hs

theorem kept_icuLower (s : State) (n : Nat) : s.Kept (s.icuLower n) [.cores] [F.ICU_SRC_PENDING, F.ICU_STATUS_WITHDRAWN,
    F.ICU_SRC_OFFERED, F.ICU_STATUS_WAKES, F.CCL_CORE_SLEEP, F.CCL_CORE_STATE, F.ICU_STATUS_WAKING, F.RTx_CTRL_SLEEP, F.RTx_CTRL_STATE,
    F.ICU_SRC_LAST, F.ICU_SRC_CTX] :=
  have hs := State.Kept.refl s _ _
  .ite (hs.put.comp (kept_icuWithdraw ..)) hs

theorem kept_icuLine (s : State) (n : Nat) (v : Bool) : s.Kept (s.icuLine n v) [.cores] [F.ICU_SRC_PENDING, F.ICU_STATUS_WAKES,
    F.CCL_CORE_SLEEP, F.CCL_CORE_STATE, F.ICU_STATUS_WAKING, F.RTx_CTRL_SLEEP, F.RTx_CTRL_STATE, F.ICU_SRC_LAST, F.ICU_SRC_CTX,
    F.ICU_SRC_OFFERED, F.ICU_STATUS_WITHDRAWN] :=
  have hs := State.Kept.refl s _ _
  .ite (hs.comp (kept_icuRaise ..)) (hs.comp (kept_icuLower ..))

theorem kept_pmuLine (s : State) : s.Kept s.pmuLine [.cores] [F.ICU_SRC_PENDING, F.ICU_STATUS_WAKES, F.CCL_CORE_SLEEP, F.CCL_CORE_STATE,
    F.ICU_STATUS_WAKING, F.RTx_CTRL_SLEEP, F.RTx_CTRL_STATE, F.ICU_SRC_LAST, F.ICU_SRC_CTX, F.ICU_SRC_OFFERED, F.ICU_STATUS_WITHDRAWN] :=
  have hs := State.Kept.refl s _ _
  hs.comp (kept_icuLine ..)

theorem kept_pmuAdd (s : State) (n inc : Nat) : s.Kept (s.pmuAdd n inc) [.cores] [F.PMU_CNT_COUNT, F.PMU_CTRL_FREEZE_CAB, F.PMU_OVF_OVF,
    F.PMU_CTRL_FREEZE_OPEN, F.ICU_SRC_PENDING, F.ICU_STATUS_WAKES, F.CCL_CORE_SLEEP, F.CCL_CORE_STATE, F.ICU_STATUS_WAKING,
    F.RTx_CTRL_SLEEP, F.RTx_CTRL_STATE, F.ICU_SRC_LAST, F.ICU_SRC_CTX, F.ICU_SRC_OFFERED, F.ICU_STATUS_WITHDRAWN] :=
  have hs := State.Kept.refl s _ _
  .ite hs.put (State.Kept.comp (.ite (.ite hs.put.put.put hs.put.put) (.ite hs.put.put.put hs.put.put)) (kept_pmuLine ..))

theorem kept_pmuEvent (s : State) (b ev sub inc : Nat) (tag : Option Nat) (open_ : Bool) : s.Kept (s.pmuEvent b ev sub inc tag open_)
    [.cores] [F.PMU_CNT_COUNT, F.PMU_CTRL_FREEZE_CAB, F.PMU_OVF_OVF, F.PMU_CTRL_FREEZE_OPEN, F.ICU_SRC_PENDING, F.ICU_STATUS_WAKES,
    F.CCL_CORE_SLEEP, F.CCL_CORE_STATE, F.ICU_STATUS_WAKING, F.RTx_CTRL_SLEEP, F.RTx_CTRL_STATE, F.ICU_SRC_LAST, F.ICU_SRC_CTX,
    F.ICU_SRC_OFFERED, F.ICU_STATUS_WITHDRAWN] :=
  have hs := State.Kept.refl s _ _
  .ite hs (hs.foldl (fun _ _ hs => hs.comp (kept_pmuAdd ..)))

/-! ### Memory: a read after a write -/

section
variable {s t : State}

theorem writeBytes_eq (s : State) (a : Nat) (bs : List Byte) : ∃ m, s.writeBytes a bs = { s with mem := m } := by
  induction bs generalizing s a with
  | nil => exact ⟨s.mem, rfl⟩
  | cons b bs ih =>
    obtain ⟨m, hm⟩ := ih (s.poke a b) (a + 1)
    exact ⟨m, hm⟩

theorem readBytes_congr (h : ∀ c, s.peek c = t.peek c) (a n : Nat) : s.readBytes a n = t.readBytes a n := by
  induction n generalizing a with
  | zero => rfl
  | succ n ih => simp only [State.readBytes, h, ih]

theorem readBytes_eq_map (s : State) (a n : Nat) : s.readBytes a n = (List.range n).map (fun k => s.peek (a + k)) := by
  induction n generalizing a with
  | zero => rfl
  | succ n ih => simp [State.readBytes, ih, List.range_succ_eq_map, Nat.add_right_comm, ← Nat.add_assoc]

theorem readBytes_writeBytes (s : State) (a : Nat) (bs : List Byte) : (s.writeBytes a bs).readBytes a bs.length = bs := by
  rw [readBytes_eq_map]
  exact List.ext_getElem (by simp) fun k h _ => by simpa using peek_writeBytes_in s a k bs (by simpa using h)

theorem fifoWaits_of_not_dram {a : Nat} (h : memArea a ≠ .dram) (o : Origin) (write : Bool) (n : Nat) : s.fifoWaits o write a n = false := by
  simp [State.fifoWaits, h]

theorem fifoWaits_of_running (h : s.dmc.retrain = none) (o : Origin) (write : Bool) (a n : Nat) : s.fifoWaits o write a n = false := by
  simp [State.fifoWaits, State.admits, State.pausedLines, h]

/-! ### What an access to DRAM changes -/

/-- The registers of the counters of DRAM, and of the events that they count. -/
def dramFields : List Fld := [F.DMC_CH_ACC_ACCESSES, F.DMC_CH_EVT_MISSES, F.DMC_CH_EVT_TURNS, F.PMU_CNT_COUNT, F.PMU_CTRL_FREEZE_CAB,
  F.PMU_OVF_OVF, F.PMU_CTRL_FREEZE_OPEN, F.ICU_SRC_PENDING, F.ICU_STATUS_WAKES, F.CCL_CORE_SLEEP, F.CCL_CORE_STATE, F.ICU_STATUS_WAKING,
  F.RTx_CTRL_SLEEP, F.RTx_CTRL_STATE, F.ICU_SRC_LAST, F.ICU_SRC_CTX, F.ICU_SRC_OFFERED, F.ICU_STATUS_WITHDRAWN]

theorem kept_countEvent (s : State) (f : Fld) (hf : f ∈ dramFields) (ch e : Nat) (tag : Option Nat) (open_ : Bool) :
    s.Kept ((s.incSat f ch).pmuEvent 0x19 e ch 1 tag open_) [.cores] dramFields :=
  ((State.Kept.refl s _ _).put hf).comp (kept_pmuEvent ..)

/-- A counted line: the counters, and of the controllers the open row and the direction of the channel's last access. -/
theorem dramCount_frame (s : State) (o : Origin) (write : Bool) (line : Nat) : s.Kept (s.dramCount o write line) [.dmc, .cores] dramFields ∧
    (s.dramCount o write line).dmc.bad = s.dmc.bad ∧ (s.dramCount o write line).dmc.retrain = s.dmc.retrain := by
  unfold State.dramCount
  split
  · exact ⟨.refl .., rfl, rfl⟩
  · next i _ =>
    rcases s.dramMap i line with ⟨ch, cl⟩
    dsimp -zeta only
    extract_lets b miss turn tag ev s1 s2 s3
    have h1 : s.Kept s1 [.cores] dramFields := kept_countEvent s _ (by decide) ..
    have h2 : s.Kept s2 [.cores] dramFields := .ite (h1.comp (kept_countEvent s1 _ (by decide) ..)) h1
    have h3 : s.Kept s3 [.cores] dramFields := .ite (h2.comp (kept_countEvent s2 _ (by decide) ..)) h2
    have hdmc : s3.dmc = s.dmc := h3.1.1 .dmc (by decide)
    have h4 : s.Kept s3 [.dmc, .cores] dramFields := (State.Kept.refl s _ _).comp h3 (by decide) (List.Subset.refl _)
    exact ⟨h4.upd, show s3.dmc.bad = _ by rw [hdmc], show s3.dmc.retrain = _ by rw [hdmc]⟩

theorem dramAccess_frame (h : s.dmc.bad = []) (o : Origin) (write : Bool) (a n : Nat) :
    s.Kept (s.dramAccess o write a n) [.dmc, .cores] dramFields ∧ (s.dramAccess o write a n).dmc.bad = [] ∧
    (s.dramAccess o write a n).dmc.retrain = s.dmc.retrain := by
  have hlines (ls : List Nat) : ∀ s : State, s.dmc.bad = [] → s.Kept (ls.foldl (fun s l => s.dramCount o write l) s) [.dmc, .cores] dramFields ∧
      (ls.foldl (fun s l => s.dramCount o write l) s).dmc.bad = [] ∧
      (ls.foldl (fun s l => s.dramCount o write l) s).dmc.retrain = s.dmc.retrain := by
    induction ls with
    | nil => exact fun s h => ⟨.refl .., h, rfl⟩
    | cons l ls ih =>
      intro s h
      obtain ⟨hk, hbad, hret⟩ := dramCount_frame s o write l
      obtain ⟨hk', hbad', hret'⟩ := ih _ (hbad.trans h)
      exact ⟨hk.trans hk', hbad', hret'.trans hret⟩
  have hl := hlines (linesOf a n) s h
  unfold State.dramAccess State.eccLines
  rwa [hl.2.1]

theorem enterFifo_of_running (h : s.dmc.retrain = none) (a n : Nat) : s.enterFifo a n = s := by
  simp [State.enterFifo, State.pausedLines, h]

/-- The save areas of the Drawers. -/
def State.drwSaves (s : State) : List Nat := (s.drw.filter (fun p => decide (0 < p.2.heapSize))).map (fun p => p.2.saveBase)

theorem drwSaves_congr (h : t.drw = s.drw) : t.drwSaves = s.drwSaves := by rw [State.drwSaves, State.drwSaves, h]

theorem drwSaves_markDirty (s : State) (a n : Nat) : (s.markDirty a n).drwSaves = s.drwSaves := by
  unfold State.drwSaves State.markDirty
  simp only [List.filter_map, List.map_map]
  refine congrArg₂ _ (funext fun p => ?_) (List.filter_congr fun p _ => ?_)
  all_goals
    cases hd : p.2.dirty <;> simp [hd]

/-! ### Which accesses DRAM admits -/

/-- The registers that say which DRAM accesses are admitted (R482, R610). -/
abbrev admitFields : List Fld := [F.PWR_STATUS_STATE, F.PWR_STATUS_PHASE, F.DMC_RGN_A_BASE_64M, F.DMC_RGN_A_SIZE_64M, F.DMC_RGN_B_EN,
  F.DMC_RGN_B_ECC, F.DMC_RGN_B_CLASS, F.CAB_RGN_CFG_EN, F.CAB_RGN_BASE_BASE, F.CAB_RGN_CFG_SIZE_M1, F.CAB_RGN_CFG_CAB_W,
  F.CAB_RGN_CFG_CAB_R, F.CAB_RGN_CFG_OPEN_W, F.CAB_RGN_CFG_OPEN_R, F.CAB_RGN_CFG_KINDS]

/-- What says which DRAM accesses are admitted is in `t` as in `s`. -/
structure State.SameDram (s t : State) : Prop where
  fuses : t.fuses = s.fuses
  pd : t.pd = s.pd
  running : t.err.running = s.err.running
  saves : t.drwSaves = s.drwSaves
  get : ∀ f ∈ admitFields, ∀ i, t.get f i = s.get f i

theorem State.SameDram.on (h : s.SameDram t) {f : Fld} (hf : f ∈ admitFields := by decide) (i : Nat) : t.on f i = s.on f i := by
  rw [State.on, State.on, h.get f hf]

theorem State.SameDram.dramRegion (h : s.SameDram t) : t.dramRegion = s.dramRegion := by
  funext a
  simp only [State.dramRegion, h.on (f := F.DMC_RGN_B_EN), h.get F.DMC_RGN_A_BASE_64M (by decide), h.get F.DMC_RGN_A_SIZE_64M (by decide)]

theorem State.SameDram.dramMapped (h : s.SameDram t) : t.dramMapped = s.dramMapped := by
  funext a
  simp only [State.dramMapped, h.dramRegion, h.on (f := F.DMC_RGN_B_ECC), h.get F.DMC_RGN_A_BASE_64M (by decide),
    h.get F.DMC_RGN_A_SIZE_64M (by decide)]

theorem State.SameDram.rgnUsable (h : s.SameDram t) : t.rgnUsable = s.rgnUsable := by
  funext r
  simp only [State.rgnUsable, h.on (f := F.DMC_RGN_B_EN), h.on (f := F.DMC_RGN_B_ECC), h.get F.DMC_RGN_A_BASE_64M (by decide),
    h.get F.DMC_RGN_A_SIZE_64M (by decide)]

theorem State.SameDram.cxSaves (h : s.SameDram t) : t.cxSaves = s.cxSaves := by
  simp only [State.cxSaves, h.on (f := F.DMC_RGN_B_EN), h.get F.DMC_RGN_B_CLASS (by decide), h.rgnUsable]

theorem State.SameDram.checkerOf (h : s.SameDram t) : t.checkerOf = s.checkerOf := by
  funext a
  simp only [State.checkerOf, h.on (f := F.CAB_RGN_CFG_EN), h.get F.CAB_RGN_BASE_BASE (by decide), h.get F.CAB_RGN_CFG_SIZE_M1 (by decide)]

theorem State.SameDram.lineGrant (h : s.SameDram t) : t.lineGrant = s.lineGrant := by
  funext o w a
  cases w <;> simp only [State.lineGrant, h.checkerOf, h.on (f := F.CAB_RGN_CFG_CAB_W), h.on (f := F.CAB_RGN_CFG_CAB_R),
    h.on (f := F.CAB_RGN_CFG_OPEN_W), h.on (f := F.CAB_RGN_CFG_OPEN_R), h.get F.CAB_RGN_CFG_KINDS (by decide), Bool.false_eq_true, if_true, if_false]

theorem State.SameDram.dramServes (h : s.SameDram t) : t.dramServes = s.dramServes := by
  simp only [State.dramServes, State.blkOn, State.pdOnB, State.dramParked, h.pd, h.running, h.get F.PWR_STATUS_STATE (by decide),
    h.get F.PWR_STATUS_PHASE (by decide)]

theorem State.SameDram.dramErr (h : s.SameDram t) : t.dramErr = s.dramErr := by
  funext o w a n
  simp only [State.dramErr, State.dramSize, State.saveHit, h.fuses, h.dramServes, h.dramMapped, h.cxSaves, h.lineGrant,
    ← State.drwSaves.eq_1, h.saves]

/-- The checks of a range of memory do not look at what an access to DRAM changes. -/
theorem spanCheck_congr (h : s.Kept t [.dmc, .cores, .mem, .drw] dramFields) (hsave : t.drwSaves = s.drwSaves) (o : Origin) (write : Bool)
    (a n : Nat) : t.spanCheck o write a n = s.spanCheck o write a n := by
  have hpd : t.pd = s.pd := h.1.1 .pd (by decide)
  have herr : t.err = s.err := h.1.1 .err (by decide)
  have hdram : s.SameDram t := ⟨h.1.1 .fuses (by decide), hpd, congrArg ErrState.running herr, hsave,
    fun f hf i => h.2 f i (by revert f; decide)⟩
  have hphase : t.committed = s.committed := by rw [State.committed, State.on, h.2 F.CFG_STATUS_COMMITTED 0 (by decide)]; rfl
  have hblk (b : Nat) : t.blkOn b = s.blkOn b := by rw [State.blkOn, State.blkOn, State.pdOnB, State.pdOnB, hpd, herr]
  have hcheck (a n : Nat) : t.memCheck o write a n = s.memCheck o write a n := by
    simp only [State.memCheck, hdram.dramErr, hblk, hphase, State.pdOnB, hpd]
    rfl
  simp only [State.spanCheck, hcheck]

/-! ### Stores and fetches that the rules let through -/

/-- Memory on the die and in MRAM, which no controller counts. -/
def MemArea.plain (m : MemArea) : Prop := m ∈ [.shelf, .hutchSram, .mram, .tcm 0, .tcm 1]

theorem spanCheck_mem (m : List Host.Cell) (o : Origin) (write : Bool) (a n : Nat) :
    { s with mem := m }.spanCheck o write a n = s.spanCheck o write a n :=
  spanCheck_congr (State.Kept.refl s _ _).upd rfl o write a n

variable {o : Origin} {a n : Nat} {bs : List Byte}

theorem memStore_plain (h : MemArea.plain (memArea a)) (hw : s.spanCheck o true a bs.length = 0) (blk : Nat) :
    s.memStore o blk a bs = s.writeBytes a bs := by
  unfold State.memStore
  cases bs with
  | nil => rfl
  | cons b bs =>
    rw [if_neg (by simp), if_neg (not_not.mpr hw)]
    split
    · next hd => simp [MemArea.plain, hd] at h
    · rfl

theorem memFetch_plain (h : MemArea.plain (memArea a)) (hr : s.spanCheck o false a n = 0) (blk : Nat) :
    s.memFetch o blk a n = (s, s.readBytes a n) := by
  unfold State.memFetch
  split
  · next hn => rw [hn]; rfl
  · rw [if_neg (by simp [hr])]
    split
    · next hd => simp [MemArea.plain, hd] at h
    · unfold State.memRead
      split
      · next hd => simp [MemArea.plain, hd] at h
      · rfl

/-- Where no FIFO is in the way, a write to memory is a store. -/
theorem busAccess_write (h : memArea a = .dram ∨ MemArea.plain (memArea a)) (hfifo : s.fifoWaits o true a bs.length = false) (blk n : Nat) :
    s.busAccess o blk a n (some bs) = s.memStore o blk a bs := by
  unfold State.busAccess
  rcases h with h | h
  · rw [h]
    exact if_neg (by simp [hfifo])
  · unfold MemArea.plain at h
    split <;> simp_all

/-- And a read a fetch. -/
theorem busAccess_read (h : memArea a = .dram ∨ MemArea.plain (memArea a)) (hfifo : s.fifoWaits o false a n = false) (blk : Nat) :
    s.busAccess o blk a n none = (s.memFetch o blk a n).1.ret o a (leNat (s.memFetch o blk a n).2) := by
  unfold State.busAccess
  rcases h with h | h
  · rw [h]
    exact if_neg (by simp [hfifo])
  · unfold MemArea.plain at h
    split <;> simp_all

theorem plain_ne_dram (h : MemArea.plain (memArea a)) : memArea a ≠ .dram := fun hd => by simp [MemArea.plain, hd] at h

/-- A plain store, read again. -/
theorem read_after_write_plain (h : MemArea.plain (memArea a)) (hw : s.spanCheck o true a bs.length = 0)
    (hr : s.spanCheck o false a bs.length = 0) (blk blk' : Nat) (n : Nat) :
    s.busAccess o blk a n (some bs) = s.writeBytes a bs ∧
    (s.writeBytes a bs).busAccess o blk' a bs.length none = (s.writeBytes a bs).ret o a (leNat bs) := by
  have hf := plain_ne_dram h
  obtain ⟨m, hm⟩ := writeBytes_eq s a bs
  have hr' : (s.writeBytes a bs).spanCheck o false a bs.length = 0 := by rw [hm, spanCheck_mem, hr]
  rw [busAccess_write (.inr h) (fifoWaits_of_not_dram hf ..), memStore_plain h hw, busAccess_read (.inr h) (fifoWaits_of_not_dram hf ..),
    memFetch_plain h hr', readBytes_writeBytes]
  exact ⟨rfl, rfl⟩

/-! ### DRAM without a flawed line, no channel retrained -/

theorem poisoned_of_sound (h : s.dmc.bad = []) (a n : Nat) : s.poisoned a n = false := by simp [State.poisoned, h]

theorem putLines_of_sound (h : s.dmc.bad = []) (a : Nat) (bs : List Byte) : s.putLines a bs = s.writeBytes a bs :=
  if_neg (by simp [State.partPoisoned, h])

/-- A store to sound DRAM writes its bytes, is counted, and leaves what the checks of an access look at. -/
theorem memStore_dram (hd : memArea a = .dram) (hbad : s.dmc.bad = []) (hret : s.dmc.retrain = none)
    (hw : s.spanCheck o true a bs.length = 0) (blk : Nat) :
    (s.memStore o blk a bs).mem = (s.writeBytes a bs).mem ∧ s.Kept (s.memStore o blk a bs) [.dmc, .cores, .mem, .drw] dramFields ∧
    (s.memStore o blk a bs).drwSaves = s.drwSaves ∧ (s.memStore o blk a bs).dmc.bad = [] ∧ (s.memStore o blk a bs).dmc.retrain = none := by
  unfold State.memStore
  cases bs with
  | nil => exact ⟨rfl, .refl .., rfl, hbad, hret⟩
  | cons b bs =>
    rw [if_neg (by simp), if_neg (not_not.mpr hw), hd]
    obtain ⟨hk, hbad', hret'⟩ := dramAccess_frame hbad o true a (b :: bs).length
    have hret' := hret'.trans hret
    dsimp only
    unfold State.dramStore
    rw [putLines_of_sound hbad, enterFifo_of_running hret']
    refine ⟨rfl, ?_, ?_, hbad', hret'⟩
    · exact State.Kept.upd (State.Kept.upd ((State.Kept.refl s _ _).comp hk (by decide) (List.Subset.refl _)))
    · rw [drwSaves_markDirty]
      have hdrw : (s.dramAccess o true a (b :: bs).length).drw = s.drw := hk.1.1 .drw (by decide)
      exact drwSaves_congr hdrw

/-- A fetch from sound DRAM answers its bytes and is counted. -/
theorem memFetch_dram (hd : memArea a = .dram) (hbad : s.dmc.bad = []) (hret : s.dmc.retrain = none)
    (hr : s.spanCheck o false a n = 0) (blk : Nat) :
    (s.memFetch o blk a n).2 = s.readBytes a n ∧ s.Kept (s.memFetch o blk a n).1 [.dmc, .cores] dramFields := by
  unfold State.memFetch
  split
  · next hn => exact ⟨by rw [hn]; rfl, .refl ..⟩
  · obtain ⟨hk, -, hret'⟩ := dramAccess_frame hbad o false a n
    rw [if_neg (not_not.mpr hr), hd]
    dsimp only
    unfold State.dramFetch
    rw [enterFifo_of_running (hret'.trans hret), if_neg (by simp [poisoned_of_sound hbad])]
    exact ⟨rfl, hk⟩

theorem peek_congr (hm : t.mem = s.mem) (hr : t.memRest = s.memRest) (c : Nat) : t.peek c = s.peek c := by
  rw [State.peek, State.peek, hm, hr]

theorem read_after_write_dram (hd : memArea a = .dram) (hbad : s.dmc.bad = []) (hret : s.dmc.retrain = none) (hkind : o.kind = .hutch)
    (hw : s.spanCheck o true a bs.length = 0) (hr : s.spanCheck o false a bs.length = 0) (blk blk' : Nat) (n : Nat) :
    let t := s.busAccess o blk a n (some bs)
    let u := t.busAccess o blk' a bs.length none
    u.reads = s.reads ++ [⟨o, a, leNat bs⟩] ∧ u.mem = t.mem ∧ u.memRest = t.memRest ∧
    t.mem = (s.writeBytes a bs).mem ∧ t.memRest = s.memRest := by
  intro t u
  obtain ⟨hmem, hk, hsave, hbad', hret'⟩ := memStore_dram hd hbad hret hw blk
  have ht : t = s.memStore o blk a bs := busAccess_write (.inl hd) (fifoWaits_of_running hret ..) ..
  rw [← ht] at hmem hk hsave hbad' hret'
  have hr' : t.spanCheck o false a bs.length = 0 := (spanCheck_congr hk hsave ..).trans hr
  obtain ⟨hbytes, hk'⟩ := memFetch_dram hd hbad' hret' hr' blk'
  have hu : u = _ := busAccess_read (.inl hd) (fifoWaits_of_running hret' ..) blk'
  have hrest : t.memRest = s.memRest := hk.1.1 .memRest (by decide)
  have hreads : t.reads = s.reads := hk.1.1 .reads (by decide)
  have hreads' : (t.memFetch o blk' a bs.length).1.reads = t.reads := hk'.1.1 .reads (by decide)
  have hval : t.readBytes a bs.length = bs := by
    rw [readBytes_congr (peek_congr (t := t) hmem (hrest.trans (memRest_writeBytes ..).symm)), readBytes_writeBytes]
  rw [State.ret, hkind, hbytes, hval, hreads', hreads, if_neg (by decide), if_neg (by decide)] at hu
  rw [hu]
  exact ⟨rfl, hk'.1.1 .mem (by decide), hk'.1.1 .memRest (by decide), hmem, hrest⟩

end

/-- Settles O53. -/
theorem memoryReadsWhatWasWritten : Obligations.MemoryReadsWhatWasWritten := by
  unfold Obligations.MemoryReadsWhatWasWritten
  refine ⟨fun s o blk blk' a n bs ha hw hr => ?_, fun s o blk blk' a n bs ha hbad hret hkind hw hr => ?_⟩
  · obtain ⟨hwrite, hread⟩ := read_after_write_plain ha hw hr blk blk' n
    obtain ⟨m, hm⟩ := writeBytes_eq s a bs
    refine ⟨_, rfl, ?_⟩
    rw [hwrite]
    exact ⟨congrArg _ hread, fun c hc => peek_writeBytes_out s a c bs hc, by rw [hm]; exact (State.Kept.refl s _ _).upd⟩
  · obtain ⟨hreads, hmem, hrest, hwmem, hwrest⟩ := read_after_write_dram ha hbad hret hkind hw hr blk blk' n
    refine ⟨_, rfl, _, rfl, hreads, hmem, hrest, fun c hc => ?_⟩
    rw [← peek_writeBytes_out s a c bs hc]
    exact peek_congr (hmem.trans hwmem) ((hrest.trans hwrest).trans (memRest_writeBytes ..).symm) c

end Sys2Proof.Machine
end

section
/-! SUPPORT. Statements that fail, each with a state on which the model answers otherwise. -/

namespace Sys2Proof.Machine

set_option Elab.async false

/-! ### Counterexamples -/

/-- A module in RUN with the power of panel 0 on. -/
def panelLit : State := { phase := .running, pins := { panelPwrEn := 1 } }

/-- An emergency holds the pads as they are. -/
theorem panelPwrEn_emergency_panelLit :
    (({ panelLit with pins := { panelLit.pins with prsntN := true } } : State).emergency .removal).pins.panelPwrEn = 1 := rfl

/-- Refutes O4: a removal leaves PANEL_PWR_EN as it was, for the emergency holds the pads; the statement has it low at once. -/
theorem not_shutdownAndLossAreRecorded : ¬ Obligations.ShutdownAndLossAreRecorded := by
  unfold Obligations.ShutdownAndLossAreRecorded
  rintro ⟨-, -, -, -, hremoval, -⟩
  obtain ⟨t, hexec, -, -, hpwr, -⟩ := hremoval panelLit (.inl rfl)
  rw [← Host.Outcome.next.inj hexec] at hpwr
  exact absurd (hpwr.symm.trans panelPwrEn_emergency_panelLit) (by decide)

/-- DRAM of 1 GiB in RUN, channel 0 paused for its retraining and the FIFO full. -/
def fifoFull : State :=
  let s : State := { phase := .running, pd := 0xFFFF, dmc := { retrain := some { ch := 0, paused := true }, fifo := 64 } }
  (((s.put F.DMC_RGN_B_EN 0 1).put F.DMC_RGN_A_SIZE_64M 0 16).put F.DMC_RGN_A_CHMASK 0 0xFFFF).put F.DMC_RGN_B_GRAIN_LOG2 0 8

theorem busAccess_write_waits {s : State} {o : Origin} {a : Nat} {bs : List Byte} (hd : memArea a = .dram)
    (hfifo : s.fifoWaits o true a bs.length = true) (blk n : Nat) :
    s.busAccess o blk a n (some bs) = s.stall (.access o blk a n (some bs)) := by
  unfold State.busAccess
  rw [hd]
  exact if_pos hfifo

/-- Refutes O6: the clause on a DRAM write leaves out that the FIFO admits it. Byte 0x1000 lies on a paused channel and the FIFO is full, so the
write waits and the byte still reads 0. -/
theorem not_busAccessesReachTheirTargets : ¬ Obligations.BusAccessesReachTheirTargets := by
  unfold Obligations.BusAccessesReachTheirTargets
  rintro ⟨-, -, -, -, -, -, -, hwrite, -⟩
  obtain ⟨t, hexec, hread, -⟩ := hwrite fifoFull { kind := .hutch, cab := true } 0x20 0x1000 1 [1] rfl (by decide) rfl
  have ht : fifoFull.busAccess { kind := .hutch, cab := true } 0x20 0x1000 1 (some [1]) = t := Host.Outcome.next.inj hexec
  rw [← ht, busAccess_write_waits rfl (by decide)] at hread
  exact absurd hread (by decide)

/-- Port 0 with an answer to send, and its PF in D3hot. -/
def answerInD3hot : State :=
  { ports := [(0, { job := some { rsp := some { result := 0, tag := 0, detail := 0, payload := [] } }, pf := { d3hot := true, vecs := [(0, { masked := false })] } })] }

theorem hostOut_mailboxResponse_d3hot : Does (.mailboxResponse 0) answerInD3hot (fun t => t.hostOut = []) :=
  ⟨_, rfl, by decide⟩

/-- Refutes O9: the clause on MAILBOX_RESPONSE leaves out that the PF is in D0. In D3hot the event is kept for its vector and no message is
sent. -/
theorem not_mailboxReportsTheModule : ¬ Obligations.MailboxReportsTheModule := by
  unfold Obligations.MailboxReportsTheModule
  rintro ⟨-, -, -, -, -, -, hrsp⟩
  obtain ⟨t, hexec, -, -, -, -, hout, -⟩ := hrsp answerInD3hot 0 { result := 0, tag := 0, detail := 0, payload := [] } (by decide) rfl (by decide)
    rfl rfl rfl (by decide) (by decide)
  obtain ⟨u, hexec', hout'⟩ := hostOut_mailboxResponse_d3hot
  rw [Host.Outcome.next.inj (hexec.symm.trans hexec'), hout'] at hout
  exact absurd hout (by decide)

/-- A start with an unsealed service record, whose error the policy raises to class 3. -/
def unsealedStart : State := { phase := .starting, err := { overrides := [(0x35, 3)] }, nv := { service := some { sealOk := false } } }

theorem phase_romEntry_unsealedStart : Does (.romEntry 0) unsealedStart (fun t => t.phase = .running) := ⟨_, rfl, by decide +kernel⟩

/-- Refutes O2: the clause on ROM entry leaves out the error of an invalid service record. With an override of POLICY that raises its code
0x35 to class 3, the module's action before COMMIT is recovery start, and the start is over. -/
theorem not_startSequenceLoadsACopy : ¬ Obligations.StartSequenceLoadsACopy := by
  unfold Obligations.StartSequenceLoadsACopy
  rintro ⟨hrom, -⟩
  obtain ⟨t, hexec, -, -, -, -, -, -, -, -, -, hphase⟩ := hrom unsealedStart 0 rfl rfl
  obtain ⟨u, hexec', hphase'⟩ := phase_romEntry_unsealedStart
  rw [Host.Outcome.next.inj (hexec.symm.trans hexec'), hphase'] at hphase
  exact absurd hphase (by decide)

/-- Drawer 0 with a NOP, while a Bench group has held work of context 3 for 5 ns. -/
def nopBesideWork : State :=
  { now := 5, drw := [(0, { cmds := [{}] })], gpu := { groups := [(0, { holds := [{ ctx := 3 }] })] } }

theorem ledger_nop_nopBesideWork : Does (.nop 0 0 0) nopBesideWork (fun t => t.get F.GFE_CTX_LEDGER_USED 3 = 5) :=
  ⟨_, rfl, by decide⟩

/-- Refutes O15: the frame of the clause on NOP leaves out the ledgers. The end of a command charges the time of all Bench work, so the ledger of
context 3 moves from 0 to 5. -/
theorem not_commandsAreFetchedAndRun : ¬ Obligations.CommandsAreFetchedAndRun := by
  unfold Obligations.CommandsAreFetchedAndRun
  rintro ⟨-, -, -, -, -, -, hnop, -⟩
  obtain ⟨t, hexec, -, -, -, hframe⟩ := hnop nopBesideWork 0 0 0 {} rfl rfl rfl (by decide) (by decide) (by decide) rfl (by decide) rfl
    (by decide)
  obtain ⟨u, hexec', hused⟩ := ledger_nop_nopBesideWork
  rw [← Host.Outcome.next.inj (hexec.symm.trans hexec'), hframe F.GFE_CTX_LEDGER_USED 3 (by decide)] at hused
  exact absurd hused (by decide)

/-- Drawer 0 with a NONPREEMPT PASS over its limit, whose Tray of 64 bytes at 0 holds a 1. -/
def longPass : State :=
  { mem := [(0, 1)],
    drw := [(0, { cmds := [{ entry := [0x10, 4], stage := .running, started := true, runNs := 10 ^ 12, pass := { traySize := 64 } }] })] }

theorem mem_npLimitTimeout_longPass : Does (.npLimitTimeout 0 0 0) longPass (fun t => t.mem = []) := ⟨_, rfl, by decide⟩

/-- Refutes O17: the clause on NP_LIMIT_US has memory unchanged, but the end of a PASS leaves its Tray undefined. -/
theorem not_gpuCommandsRun : ¬ Obligations.GpuCommandsRun := by
  unfold Obligations.GpuCommandsRun
  rintro ⟨-, -, -, -, -, -, -, -, -, -, -, -, hlimit, -⟩
  obtain ⟨t, hexec, -, -, hmem, -⟩ := hlimit longPass 0 0 0
    { entry := [0x10, 4], stage := .running, started := true, runNs := 10 ^ 12, pass := { traySize := 64 } } rfl rfl rfl rfl (by decide)
    (by decide)
  obtain ⟨u, hexec', hmem'⟩ := mem_npLimitTimeout_longPass
  rw [← Host.Outcome.next.inj (hexec.symm.trans hexec'), hmem] at hmem'
  exact absurd hmem' (by decide)

/-- Head 0 with a latched frame whose only layer reads DRAM that is off, in a start whose policy raises POWER_OFF to class 3. -/
def deadFetch : State :=
  ({ phase := .starting, err := { overrides := [(0x2A, 3)] }
     heads := [(0, { latched := true, first := false, next := { layers := [{ desc := some { flags := 1, srcW := 1, srcH := 1 } }] } })]
   } : State).put F.HDn_STATUS_STATE 0 2

theorem running_frameStart_deadFetch : Does (.frameStart 0 0 0) deadFetch (fun t => (t.headOf 0).running = false) := ⟨_, rfl, by decide +kernel⟩

/-- Refutes O21: the clause on a frame's start leaves out that a fetch of the frame may be refused. Where the policy raises its error to class
3, the module's action before COMMIT is recovery start, which stops every head. -/
theorem not_headsRunTheirFrames : ¬ Obligations.HeadsRunTheirFrames := by
  unfold Obligations.HeadsRunTheirFrames
  rintro ⟨-, -, -, -, -, -, -, hstart, -⟩
  obtain ⟨t, hexec, -, -, hrun, -⟩ := hstart deadFetch 0 0 0 (by decide) (by decide) (by decide) (by decide)
  obtain ⟨u, hexec', hrun'⟩ := running_frameStart_deadFetch
  rw [← Host.Outcome.next.inj (hexec.symm.trans hexec')] at hrun'
  exact absurd (hrun.symm.trans hrun') (by decide)

/-- `fifoFull` with port 0 up, window 0 at 0, a session that may write it, and a checker that lets the neighbour write. -/
def fifoFullSession : State :=
  ((((((fifoFull.put F.PLK_PORT_STATUS_STATE 0 2).put F.CAB_RGN_CFG_EN 0 1).put F.CAB_RGN_CFG_OPEN_W 0 1).put F.CAB_RGN_CFG_KINDS 0 0x1FF).modPlk
    (fun k => { k with sessions := [{ id := 0, win := 0, peer := 0, read := true, write := true }] })))

/-- A write of the byte 1 at 0x1000 of window 0. -/
def peerWrite : Msg := { toLocal := true, arg := 0x1000, data := [1] }

theorem mem_wr_fifoFullSession : Does (.wr 0 peerWrite) fifoFullSession (fun t => t.mem = []) := ⟨_, rfl, by decide⟩

/-- Refutes O27: the clause on WR leaves out that the FIFO admits the write. Byte 0x1000 lies on a paused channel and the FIFO is full, so the write
waits and memory stays as it was. -/
theorem not_messagesDoWhatTheySay : ¬ Obligations.MessagesDoWhatTheySay := by
  unfold Obligations.MessagesDoWhatTheySay
  rintro ⟨-, -, -, hwr, -⟩
  obtain ⟨t, hexec, hmem, -⟩ := hwr fifoFullSession 0 peerWrite 0x1000 (by decide) (by decide) (by decide) (by decide)
    (by decide)
  obtain ⟨u, hexec', hmem'⟩ := mem_wr_fifoFullSession
  rw [← Host.Outcome.next.inj (hexec.symm.trans hexec'), hmem] at hmem'
  exact absurd hmem' (by decide)

/-- A module in RUN after COMMIT. -/
def runCommitted : State := ({ phase := .running, pd := 0xFFFF } : State).put F.CFG_STATUS_COMMITTED 0 1

theorem op_centre_runCommitted : Does (.centre { kind := .hutch, cab := true } {}) runCommitted (fun t => t.dmc.op = none) :=
  ⟨_, rfl, by decide⟩

/-- Refutes O32: the clause on CENTRE holds before COMMIT only. After it the operation is a request to retrain the channels, and none is left in
progress. -/
theorem not_trainingOperationsRun : ¬ Obligations.TrainingOperationsRun := by
  unfold Obligations.TrainingOperationsRun
  rintro ⟨-, -, -, -, -, -, -, hcentre, -⟩
  obtain ⟨t, hexec, hop, -⟩ := hcentre runCommitted { kind := .hutch, cab := true } {} (by decide) (by decide) (by decide)
    (by decide) (by decide) (by decide)
  obtain ⟨u, hexec', hop'⟩ := op_centre_runCommitted
  rw [← Host.Outcome.next.inj (hexec.symm.trans hexec'), hop] at hop'
  exact absurd hop' (by simp)

/-- Drawer 0 with a playback stream at the last frame of a replayed command, in a start whose policy raises the error of a replay to class 3. -/
def replayedStream : State :=
  ({ phase := .starting, pd := 0xFFFF, now := 2000000, err := { overrides := [(0x22, 3)] }
     drw := [(0, { streams := [0], cmds := [{ entry := [0x30], stage := .running, attempt := 1, total := 1 }] })]
     aud := { present := true, streams := [(0, { cmd := some (0, 0), period := 1 })] }
   } : State).put F.DRW_AUD_CFG_EN 0 1

theorem frameAt_audioFrame_replayedStream : Does (.audioFrame { play := [(0, [1])] }) replayedStream (fun t => t.aud.frameAt = 0) :=
  ⟨_, rfl, by decide +kernel⟩

/-- Refutes O35: the last clause leaves out that a frame may end a command. The end of a replayed command is an error; where the policy raises it to
class 3, the module's action before COMMIT is recovery start, which empties the audio unit. -/
theorem not_audioRunsFrameByFrame : ¬ Obligations.AudioRunsFrameByFrame := by
  unfold Obligations.AudioRunsFrameByFrame
  rintro ⟨-, -, -, -, -, -, -, -, -, -, hframe⟩
  obtain ⟨t, hexec, -, -, hat, -⟩ := hframe replayedStream { play := [(0, [1])] } (by decide) (by decide) (by decide)
  obtain ⟨u, hexec', hat'⟩ := frameAt_audioFrame_replayedStream
  rw [← Host.Outcome.next.inj (hexec.symm.trans hexec'), hat] at hat'
  exact absurd hat' (by decide)

/-- PPS is the reference, and is armed for second 0; ST is invalid and has counted to 1. -/
def armedLate : State :=
  (((({ pd := 0xFFFF } : State).put F.TIM_CFG_TIME_REF 0 1).put F.TIM_PPS_ARM_ARMED 0 1).put F.TIM_ST_ST 0 1).put F.TIM_STATUS_STATE 0 2

theorem st_ppsInEdge_armedLate : Does .ppsInEdge armedLate (fun t => t.st = 1) := ⟨_, rfl, by decide⟩

/-- Refutes O36: the clause on an armed edge leaves out that ST is not past the armed second. Time never goes back, so ST is slewed and keeps its
value at the edge. -/
theorem not_timeIsDisciplined : ¬ Obligations.TimeIsDisciplined := by
  unfold Obligations.TimeIsDisciplined
  rintro ⟨-, hedge, -⟩
  obtain ⟨t, hexec, hst, -⟩ := hedge armedLate (by decide) (by decide) (by decide) (by decide) (by decide)
  obtain ⟨u, hexec', hst'⟩ := st_ppsInEdge_armedLate
  rw [← Host.Outcome.next.inj (hexec.symm.trans hexec'), hst] at hst'
  exact absurd hst' (by decide)

/-- A start with a layer in use. -/
def lockstepStart : State := { phase := .starting, layers := [(0, {})] }

theorem layers_rtLockstep_lockstepStart : Does (.rtLockstep 0) lockstepStart (fun t => t.layers = []) := ⟨_, rfl, by decide +kernel⟩

/-- Refutes O38: the clause on a lockstep mismatch leaves out the action of its error, which has class 3: before COMMIT it is recovery start,
which empties the layers. -/
theorem not_coresSleepWakeAndChangeWorlds : ¬ Obligations.CoresSleepWakeAndChangeWorlds := by
  unfold Obligations.CoresSleepWakeAndChangeWorlds
  rintro ⟨-, -, -, -, -, -, -, -, -, -, -, -, -, hmismatch⟩
  obtain ⟨t, hexec, -, -, -, -, hlayers⟩ := hmismatch lockstepStart 0
  obtain ⟨u, hexec', hlayers'⟩ := layers_rtLockstep_lockstepStart
  rw [← Host.Outcome.next.inj (hexec.symm.trans hexec'), hlayers] at hlayers'
  exact absurd hlayers' (by decide)

/-- A start with a layer in use and PD00 off, whose policy raises POWER_OFF to class 3. -/
def debugOffStart : State := { phase := .starting, err := { overrides := [(0x2A, 3)] }, layers := [(0, {})] }

theorem layers_dbg_debugOffStart : Does (.dbg false 0 0) debugOffStart (fun t => t.layers = []) := ⟨_, rfl, by decide⟩

/-- Refutes O40: the clause on a DBG read leaves out that its register may be off. Where the policy raises that error to class 3, the module's action
before COMMIT is recovery start, which empties the layers. -/
theorem not_theTapServesItsInstructions : ¬ Obligations.TheTapServesItsInstructions := by
  unfold Obligations.TheTapServesItsInstructions
  rintro ⟨-, -, -, -, -, -, -, -, -, -, -, hread⟩
  cases hreg : regAt (0x00F002900000 + 4 * ((0 : Fin 128) : Nat)) with
  | none => exact absurd hreg (by decide)
  | some x =>
    obtain ⟨r, i, off⟩ := x
    obtain ⟨t, hexec, -, -, hlayers, -⟩ := hread debugOffStart 0 0 r i off (by decide) hreg
    obtain ⟨u, hexec', hlayers'⟩ := layers_dbg_debugOffStart
    rw [← Host.Outcome.next.inj (hexec.symm.trans hexec'), hlayers] at hlayers'
    exact absurd hlayers' (by decide)

/-- A module in RUN with an empty audit log. -/
def running : State := { phase := .running, pd := 0xFFFF }

theorem markStart_adlMark_running : Does (.adlMark { kind := .hutch, cab := true } 40000 0) running (fun t => t.get F.ADL_MARK_START 0 = 0) :=
  ⟨_, rfl, by decide⟩

/-- Refutes O44: the clause on the mark compares positions as numbers, the log compares starts modulo 65536. A mark at start 40000 lies behind one at
start 0, and is dropped. -/
theorem not_theAuditLogIsFlushedAndMarked : ¬ Obligations.TheAuditLogIsFlushedAndMarked := by
  unfold Obligations.TheAuditLogIsFlushedAndMarked
  rintro ⟨-, -, -, hmark⟩
  obtain ⟨t, hexec, hstart, -⟩ := hmark running { kind := .hutch, cab := true } 40000 0 (by decide) (by decide) rfl (by decide)
  obtain ⟨u, hexec', hstart'⟩ := markStart_adlMark_running
  rw [← Host.Outcome.next.inj (hexec.symm.trans hexec'), hstart] at hstart'
  exact absurd hstart' (by decide)

theorem reads_bwRead_running : Does (.bwRead { kind := .debug, cab := true } 0) running (fun t => t.reads = []) := ⟨_, rfl, by decide⟩

/-- Refutes O45: the clause on a read of a bandwidth window leaves out who reads. The value that a debug session reads goes to DBG_ACC_DATA. -/
theorem not_crcUnitsAndCountersCount : ¬ Obligations.CrcUnitsAndCountersCount := by
  unfold Obligations.CrcUnitsAndCountersCount
  rintro ⟨-, -, -, -, -, -, -, -, -, hread⟩
  obtain ⟨t, hexec, hreads, -⟩ := hread running { kind := .debug, cab := true } 0 (by decide) (by decide) rfl
  obtain ⟨u, hexec', hreads'⟩ := reads_bwRead_running
  rw [← Host.Outcome.next.inj (hexec.symm.trans hexec'), hreads] at hreads'
  exact absurd hreads' (by decide)

/-- A start with a layer in use, whose policy raises an access outside DRAM to class 3, and the descriptor of a test of haptic channel 0 that
reports to address 8. -/
def testOutsideDram : State :=
  (({ phase := .starting, pd := 0xFFFF, err := { overrides := [(0x28, 3)] }, layers := [(0, {})] } : State).put F.BST_DESC_WORD 0 0x401).put
    F.BST_DESC_WORD 1 8

theorem layers_unitTest_testOutsideDram : Does (.unitTest { kind := .hutch, cab := true } none) testOutsideDram (fun t => t.layers = []) :=
  ⟨_, rfl, by decide +kernel⟩

/-- Refutes O46: the clause on a unit test leaves out that its status word may be refused. Where the policy raises that error to class 3, the
module's action before COMMIT is recovery start, which empties the layers. -/
theorem not_testsRunAndReport : ¬ Obligations.TestsRunAndReport := by
  unfold Obligations.TestsRunAndReport
  rintro ⟨htest, -⟩
  obtain ⟨t, hexec, -, -, hlayers, -⟩ := htest testOutsideDram { kind := .hutch, cab := true } (by decide) rfl (by decide)
    (by decide)
  obtain ⟨u, hexec', hlayers'⟩ := layers_unitTest_testOutsideDram
  rw [← Host.Outcome.next.inj (hexec.symm.trans hexec'), hlayers] at hlayers'
  exact absurd hlayers' (by decide)

end Sys2Proof.Machine
end

section
/-! SUPPORT. Panels, telltales, doorbells, power-up and arriving messages. -/

namespace Sys2Proof.Machine

set_option Elab.async false

/-! ### Panels -/

theorem getLsbD_set (x : BitVec 8) (h : HeadId) : (x ||| (1#8 <<< (h : Nat))).getLsbD h = true := by
  have hlt : (h : Nat) < 8 := by omega
  simp [hlt]

theorem getLsbD_clear (x : BitVec 8) (h : HeadId) : (x &&& ~~~(1#8 <<< (h : Nat))).getLsbD h = false := by
  have hlt : (h : Nat) < 8 := by omega
  simp [hlt]

theorem dpOf_modDp (s : State) (h : Nat) (g : PortRt → PortRt) : (s.modDp h g).dpOf h = g (s.dpOf h) := tget_tset_same ..

/-- The backlight of a permitted head that asks for it goes on. -/
theorem blEn_blDrive_on {s : State} {h : HeadId} (hbl : s.on F.HDn_PANEL_BL h = true) (hperm : (s.dpOf h).blPermitted = true) :
    (s.blDrive h).pins.blEn.getLsbD h = true := by
  simp [State.blDrive, hbl, hperm]

theorem blEn_blOff (s : State) (h : HeadId) : (s.blOff h).pins.blEn.getLsbD h = false := by
  simp [State.blOff, State.blDrive, dpOf_modDp]

theorem kept_blDrive (s : State) (h : Nat) : s.Kept (s.blDrive h) [.pins, .dps] [] := (State.Kept.refl s _ _).upd

theorem kept_panelDown (s : State) (h : Nat) : s.Kept (s.panelDown h) [.pins, .dps] [F.HDn_PORT_STATUS_LINK, F.HDn_PORT_STATUS_RATE_ACT,
    F.HDn_PORT_STATUS_LANES_ACT] := (State.Kept.refl s _ _).upd.upd.upd.put.put.put.upd.upd

theorem kept_panelRaise (s : State) (h : Nat) : s.Kept (s.panelRaise h) [.pins, .dps] [] :=
  .ite (State.Kept.refl s _ _).upd.upd (State.Kept.refl s _ _).upd

theorem panelPwrEn_panelDown (s : State) (h : HeadId) : (s.panelDown h).pins.panelPwrEn.getLsbD h = false :=
  getLsbD_clear ((s.blOff h).linkDown h).pins.panelPwrEn h

theorem blEn_panelDown (s : State) (h : HeadId) : (s.panelDown h).pins.blEn.getLsbD h = false := blEn_blOff s h

theorem lanesAct_panelDown (s : State) (h : Nat) : (s.panelDown h).get F.HDn_PORT_STATUS_LANES_ACT h = 0 := by
  change ((((State.put _ F.HDn_PORT_STATUS_LANES_ACT h 0).put F.HDn_PORT_STATUS_RATE_ACT _ _).put F.HDn_PORT_STATUS_LINK _ _).get
    F.HDn_PORT_STATUS_LANES_ACT h) = 0
  rw [get_put_of_num (by decide), get_put_of_num (by decide), get_put_same, Nat.zero_mod]

theorem panelOffAt_panelDown (s : State) (h : Nat) : ((s.panelDown h).dpOf h).panelOffAt = s.now := by
  rw [State.panelDown, dpOf_modDp]

/-- Settles O24: each event's condition holds, and its effect is one change of the pins and of the display port. -/
theorem panelsFollowTheirOrder : Obligations.PanelsFollowTheirOrder := by
  unfold Obligations.PanelsFollowTheirOrder
  have on : ∀ (s : State) (h : HeadId), (s.headOf h).entry.enable = true → (s.headOf h).running = true → (s.headOf h).first = false →
      (s.headOf h).firstAt + (s.headOf h).entry.blDelayMs * 1000000 ≤ s.now →
      exec (.backlightOn h) s = .next ((s.modDp h (fun p => { p with blPermitted := true })).blDrive h) := by
    intro s h hen hrun hfirst hat
    exact congrArg _ (if_pos (by simp [hen, hrun, hfirst, hat]))
  have raise : ∀ (s : State) (h : HeadId), (s.dpOf h).panelWant = true → exec (.panelPowerUp h) s = .next (s.panelRaise h) :=
    fun s h hwant => congrArg _ (if_pos hwant)
  refine ⟨?_, on, ?_, ?_, ?_, ?_⟩
  · intro s h hen hrun hfirst hat hbl
    have hperm : ((s.modDp h (fun p => { p with blPermitted := true })).dpOf h).blPermitted = true := by rw [dpOf_modDp]
    exact ⟨_, on s h hen hrun hfirst hat, hperm, blEn_blDrive_on hbl hperm, (State.Kept.refl s _ _).upd.comp (kept_blDrive ..)⟩
  · intro s h hpin hoff hask
    have hask' : (!s.on F.HDn_PANEL_PWR h || (s.dpOf h).downPending) = true := by
      rcases hask with hpwr | hdown
      · simp [State.on, hpwr]
      · simp [hdown]
    have hexec : exec (.panelPowerDown h) s = .next (s.panelDown h) := congrArg _ (if_pos (by simp [hpin, hoff, hask']))
    exact ⟨_, hexec, panelPwrEn_panelDown s h, blEn_panelDown s h, panelOffAt_panelDown s h, lanesAct_panelDown s h, kept_panelDown s h⟩
  · intro s h hwant hat
    have hraise : s.panelRaise h = (s.panelPin h true).modDp h (fun p => { p with panelWant := false, panelOnAt := s.now }) := by
      simp [State.panelRaise, hat]
    refine ⟨_, raise s h hwant, ?_, ?_, kept_panelRaise ..⟩
    · rw [hraise]
      exact getLsbD_set ..
    · rw [hraise, dpOf_modDp]
  · intro s h hwant hoff hnow
    rw [raise s h hwant]
    simp [State.panelRaise, hoff, Nat.not_le.2 hnow]
  · exact raise

/-! ### Telltales -/

/-- The identifier of an entry is that of a frame. -/
def Telltale.named (x : Telltale) (ext : Bool) (id : Nat) : Bool := decide (x.canId % 2 ^ 29 = id) && decide (bit x.canId 29 = ext)

/-- The telltales with other entries. -/
def State.withEntries (s : State) (es : List Telltale) : State := { s with tell := { s.tell with entries := es } }

/-- A frame of port `p` discarded, where `c` says so. -/
def State.discardFrame (s : State) (p : Nat) (c : Bool) : State :=
  if c then { s with tell := { s.tell with discarded := tset 0 s.tell.discarded p (tget 0 s.tell.discarded p + 1) } } else s

theorem discardFrame_discarded (s : State) (p : Nat) (c : Bool) :
    tget 0 (s.discardFrame p c).tell.discarded p = tget 0 s.tell.discarded p + b2n c := by
  cases c
  · rfl
  · simp [State.discardFrame, tget_tset_same, b2n]

theorem now_discardFrame (s : State) (p : Nat) (c : Bool) : (s.discardFrame p c).now = s.now := by
  cases c
  · rfl
  · rfl

theorem kept_discardFrame (s : State) (p : Nat) (c : Bool) (es : List Telltale) : s.Kept ((s.discardFrame p c).withEntries es) [.tell] [] :=
  State.Kept.upd (.ite (State.Kept.refl s _ _).upd (State.Kept.refl s _ _))

/-- A frame on a port that is read: what it gives to the entries, and whether an entry that it names discards it. -/
theorem canFrameRx_read {s : State} {p : Fin 2} (hon : s.canOn p = true) (ext : Bool) (id : Fin 536870912) (data : List Byte) :
    exec (.canFrameRx p ext id data) s = .next ((s.discardFrame p (s.tell.entries.any fun x => x.named ext id && !x.frameOk p id data)).withEntries
      (s.tell.entries.map fun x => if x.named ext id && x.frameOk p id data then x.take s.now data else x)) := by
  have hdis : (fun x : Telltale => x.named ext id && !x.frameOk p id data) =
      fun x => x.named ext id && !(x.named ext id && x.frameOk p id data) := by
    funext x
    cases x.named ext id
    · rfl
    · rfl
  rw [hdis]
  rw [← now_discardFrame s p (s.tell.entries.any fun x => x.named ext id && !(x.named ext id && x.frameOk p id data))]
  exact congrArg Host.Outcome.next (if_neg (c := (!s.canOn p) = true) (by rw [hon]; decide))

/-- The one entry, which a frame names. -/
theorem any_named {x : Telltale} {ext : Bool} {id : Nat} (hid : x.canId % 2 ^ 29 = id) (hext : bit x.canId 29 = ext) : x.named ext id = true := by
  rw [Telltale.named, decide_eq_true hid, decide_eq_true hext, Bool.and_self]

theorem telltaleTimeout_timedOut {s : State} {i : Fin 64} (hfirst : s.boot.firstFrame = true) (hlen : (i : Nat) < s.tell.entries.length)
    (hat : max s.boot.firstFrameAt ((((s.tell.entries.getD i {}).history.head?).map (fun p => p.1)).getD 0) + s.tell.timeoutMs * 1000000 ≤
      s.now) : Does (.telltaleTimeout i) s (fun t => (t.tell.entries.getD i {}).timedOut = true ∧ s.Kept t [.tell] []) := by
  have hexec : exec (.telltaleTimeout i) s = .next (s.withEntries (s.tell.entries.modify i fun x => { x with timedOut := true })) :=
    congrArg Host.Outcome.next (if_neg (by simpa [hfirst] using hat))
  refine ⟨_, hexec, ?_, (State.Kept.refl s _ _).upd⟩
  simp [State.withEntries, List.getD_eq_getElem?_getD, hlen]

theorem canStatusFrame_sent {s : State} (hper : s.tell.statusPeriodMs ≠ 0)
    (hat : ∀ a ∈ s.tell.sentAt, a + s.tell.statusPeriodMs * 1000000 ≤ s.now) : exec .canStatusFrame s = .next { s with tell := { s.tell with
      sentAt := some s.now, sent := s.tell.sent ++ ((List.range 2).filter (fun p => s.canUp p && bit s.tell.statusId (30 + p))).map
        (fun p => (p, s.tell.statusId % 2 ^ 30, s.canStatus)) } } := by
  have hany : s.tell.sentAt.any (fun t => decide (s.now < t + s.tell.statusPeriodMs * 1000000)) = false := by
    rcases hsent : s.tell.sentAt with _ | a
    · rfl
    · rw [Option.any_some]
      exact decide_eq_false (Nat.not_lt.2 (hat a hsent))
  have hper' : decide (s.tell.statusPeriodMs = 0) = false := decide_eq_false hper
  exact congrArg Host.Outcome.next (if_neg (by rw [hany, hper']; decide))

theorem lampTestEnd_lampActive {s : State} {a : Nat} (hlamp : s.tell.lampFrom = some a) (hat : a + 2000000000 ≤ s.now) :
    Does .lampTestEnd s (fun t => t.get F.CFG_STATUS_LAMP_ACTIVE = 0 ∧ s.Kept t [] [F.CFG_STATUS_LAMP_ACTIVE]) := by
  have hany : s.tell.lampFrom.any (fun l => decide (l + 2000000000 ≤ s.now)) = true := by
    rw [hlamp, Option.any_some]
    exact decide_eq_true hat
  have hexec : exec .lampTestEnd s = .next (s.put F.CFG_STATUS_LAMP_ACTIVE 0 0) := congrArg Host.Outcome.next (if_pos hany)
  exact ⟨_, hexec, by rw [get_put_same, Nat.zero_mod], (State.Kept.refl s _ _).put⟩

/-- Settles O5: what a frame does to each entry, and one condition for each of the other events. -/
theorem telltalesFollowTheirFrames : Obligations.TelltalesFollowTheirFrames := by
  unfold Obligations.TelltalesFollowTheirFrames
  refine ⟨?_, ?_, ?_, fun _ _ => telltaleTimeout_timedOut, fun _ => canStatusFrame_sent, fun _ _ => lampTestEnd_lampActive⟩
  · intro s p ext id data hon
    exact ⟨_, canFrameRx_read hon ext id data, rfl, discardFrame_discarded .., kept_discardFrame ..⟩
  · intro s p ext id data x hon hone hid hext hok
    rw [canFrameRx_read hon, hone]
    simp [any_named hid hext, hok, State.discardFrame, State.withEntries]
  · intro s p ext id data x hon hone hid hext hok
    have hany : (s.tell.entries.any fun x => x.named ext id && !x.frameOk p id data) = true := by simp [hone, any_named hid hext, hok]
    refine ⟨_, canFrameRx_read hon ext id data, ?_, ?_, kept_discardFrame ..⟩
    · simp [State.withEntries, hone, hok]
    · exact (discardFrame_discarded ..).trans (by rw [hany]; rfl)

/-! ### Doorbells and queue enables -/

section
variable {s : State} {d q t : Nat}

/-- A Drawer that is ACTIVE or QUIESCED is neither FREE nor RESETTING. -/
theorem not_free_or_resetting (h : s.drwState d = 1 ∨ s.drwState d = 2) : (decide (s.drwState d = 3) || decide (s.drwState d = 0)) = false := by
  rcases h with h | h
  · rw [h]; decide
  · rw [h]; decide

theorem doorbell_open (hst : s.drwState d = 1 ∨ s.drwState d = 2) (hen : s.on F.DRW_Q_CTRL_ENABLE (qIx d q) = true) :
    s.doorbell d q t = if (t + 2 ^ 32 - s.get F.DRW_Q_POS_HEAD (qIx d q)) % 2 ^ 32 ≤ 2 ^ s.get F.DRW_Q_RING_SIZE_LOG2 (qIx d q) ∧
      (t + 2 ^ 32 - s.get F.DRW_Q_POS_TAIL (qIx d q)) % 2 ^ 32 ≤ 2 ^ s.get F.DRW_Q_RING_SIZE_LOG2 (qIx d q) then
      s.put F.DRW_Q_POS_TAIL (qIx d q) t else s.guestError d 1 q := by
  rw [State.doorbell, if_neg (by rw [not_free_or_resetting hst]; decide), if_neg (by rw [hen]; decide)]

theorem doorbell_closed (hst : s.drwState d = 1 ∨ s.drwState d = 2) (hen : s.on F.DRW_Q_CTRL_ENABLE (qIx d q) = false) :
    s.doorbell d q t = s.guestError d 2 q := by
  rw [State.doorbell, if_neg (by rw [not_free_or_resetting hst]; decide), if_pos (by rw [hen]; decide)]

/-- A completion doorbell in range of a queue that is enabled or closing. -/
theorem completionDoorbell_open (hst : s.drwState d = 1 ∨ s.drwState d = 2)
    (hen : (s.on F.DRW_Q_CTRL_ENABLE (qIx d q) || s.on F.DRW_Q_CTRL_CLOSING (qIx d q)) = true)
    (hlow : (t + 2 ^ 32 - s.get F.DRW_Q_CPOS_CONSUMED (qIx d q)) % 2 ^ 32 ≤ 2 ^ s.get F.DRW_Q_CPL_SIZE_LOG2 (qIx d q))
    (hhigh : (s.get F.DRW_Q_CPOS_WRITTEN (qIx d q) + 2 ^ 32 - t) % 2 ^ 32 ≤ 2 ^ s.get F.DRW_Q_CPL_SIZE_LOG2 (qIx d q)) :
    s.completionDoorbell d q t = s.put F.DRW_Q_CPOS_CONSUMED (qIx d q) t := by
  rw [State.completionDoorbell, if_neg (by rw [not_free_or_resetting hst]; decide), if_neg (by rw [hen]; decide), if_pos ⟨hlow, hhigh⟩]

theorem completionDoorbell_closed (hst : s.drwState d = 1 ∨ s.drwState d = 2) (hen : s.on F.DRW_Q_CTRL_ENABLE (qIx d q) = false)
    (hcl : s.on F.DRW_Q_CTRL_CLOSING (qIx d q) = false) : s.completionDoorbell d q t = s.guestError d 2 q := by
  rw [State.completionDoorbell, if_neg (by rw [not_free_or_resetting hst]; decide), if_pos (by rw [hen, hcl]; decide)]

/-- The field of an element that was put before other fields of it. -/
theorem get_queueEnable (hbad : s.enableBad d q = false) (e v : Nat) {f : Fld} {i w : Nat}
    (hf : (((((((s.put F.DRW_Q_CTRL_ENABLE (qIx d q) 1).put F.DRW_Q_CTRL_ENGINE (qIx d q) e).put F.DRW_Q_CTRL_VECTOR (qIx d q) v).put
      F.DRW_Q_POS_HEAD (qIx d q) 0).put F.DRW_Q_POS_TAIL (qIx d q) 0).put F.DRW_Q_CPOS_WRITTEN (qIx d q) 0).put F.DRW_Q_CPOS_CONSUMED
      (qIx d q) 0).get f i = w) : (s.queueEnable d q e v).get f i = w := by
  rw [State.queueEnable, if_neg (by rw [hbad]; decide)]
  exact hf

theorem kept_queueEnable (hbad : s.enableBad d q = false) (e v : Nat) : s.Kept (s.queueEnable d q e v) [.drw] [F.DRW_Q_CTRL_ENABLE,
    F.DRW_Q_CTRL_ENGINE, F.DRW_Q_CTRL_VECTOR, F.DRW_Q_POS_HEAD, F.DRW_Q_POS_TAIL, F.DRW_Q_CPOS_WRITTEN, F.DRW_Q_CPOS_CONSUMED] := by
  rw [State.queueEnable, if_neg (by rw [hbad]; decide)]
  exact (State.Kept.refl s _ _).put.put.put.put.put.put.put.upd

end

/-- A queue that is opened. -/
theorem queueEnable_sound {s : State} {d : DrawerId} {q : QueueId} (e : Fin 4) (v : VecId) (hst : s.drwState d ≠ 0)
    (hen : s.on F.DRW_Q_CTRL_ENABLE (qIx d q) = false) : exec (.queueEnable d q e v) s = .next (s.queueEnable d q e v) :=
  congrArg Host.Outcome.next ((if_neg hst).trans (if_neg (by rw [hen]; decide)))

theorem queueDisable_closing {s : State} {d : DrawerId} {q : QueueId} (hen : s.on F.DRW_Q_CTRL_ENABLE (qIx d q) = true) :
    Does (.queueDisable d q) s (fun t => t.on F.DRW_Q_CTRL_ENABLE (qIx d q) = false ∧ t.on F.DRW_Q_CTRL_CLOSING (qIx d q) =
      (s.cmds d).any (fun c => c.queue = q) ∧ s.Kept t [] [F.DRW_Q_CTRL_ENABLE, F.DRW_Q_CTRL_CLOSING]) := by
  have hexec : exec (.queueDisable d q) s = .next ((s.put F.DRW_Q_CTRL_ENABLE (qIx d q) 0).put F.DRW_Q_CTRL_CLOSING (qIx d q)
      (b2n ((s.cmds d).any (fun c => c.queue = q)))) := congrArg Host.Outcome.next (if_neg (by rw [hen]; decide))
  refine ⟨_, hexec, ?_, ?_, (State.Kept.refl s _ _).put.put⟩
  · rw [on_eq, get_put_of_num (by decide), get_put_same]; decide
  · rw [on_eq, get_put_same]
    cases (s.cmds d).any (fun c => c.queue = q)
    · rfl
    · rfl

/-- Settles O14: each doorbell and each write of DRW_Q_CTRL in the case that its guards pick. -/
theorem doorbellsAndQueueEnables : Obligations.DoorbellsAndQueueEnables := by
  unfold Obligations.DoorbellsAndQueueEnables
  have bound : ∀ {s : State} {d : Nat}, s.drwState d = 1 ∨ s.drwState d = 2 → s.drwState d ≠ 0 := by
    rintro s d (h | h)
    · rw [h]; decide
    · rw [h]; decide
  refine ⟨?_, ?_, ?_, ?_, ?_, ?_, ?_, ?_, ?_, ?_, fun _ _ _ => queueDisable_closing⟩
  · intro s d q v hst hen hhead htail
    exact congrArg Host.Outcome.next ((doorbell_open hst hen).trans (if_pos ⟨hhead, htail⟩))
  · intro s d q v hst hen hhead
    exact congrArg Host.Outcome.next ((doorbell_open hst hen).trans (if_neg fun h => Nat.not_le.2 hhead h.1))
  · intro s d q v hst hen
    exact congrArg Host.Outcome.next (doorbell_closed hst hen)
  · intro s d q v hst hen hlow hhigh
    exact congrArg Host.Outcome.next (completionDoorbell_open hst (by rw [hen]; rfl) hlow hhigh)
  · intro s d q v hst hen hcl
    exact congrArg Host.Outcome.next (completionDoorbell_closed hst hen hcl)
  · intro s d q v hst hcl hlow hhigh
    exact congrArg Host.Outcome.next (completionDoorbell_open hst (by rw [hcl, Bool.or_true]) hlow hhigh)
  · intro s d q e v hst hen hbad
    refine ⟨_, queueEnable_sound e v (bound hst) hen, ?_, get_queueEnable hbad e v ?_, get_queueEnable hbad e v ?_,
      get_queueEnable hbad e v ?_, get_queueEnable hbad e v ?_, get_queueEnable hbad e v ?_, get_queueEnable hbad e v ?_,
      kept_queueEnable hbad e v⟩
    · rw [on_eq, get_queueEnable hbad e v (w := 1)]
      · decide
      · iterate 6 rw [get_put_of_num (by decide)]
        exact get_put_same ..
    · iterate 5 rw [get_put_of_num (by decide)]
      rw [get_put_same]
      exact Nat.mod_eq_of_lt e.isLt
    · iterate 4 rw [get_put_of_num (by decide)]
      rw [get_put_same]
      exact Nat.mod_eq_of_lt v.isLt
    · iterate 3 rw [get_put_of_num (by decide)]
      rw [get_put_same, Nat.zero_mod]
    · rw [get_put_of_num (by decide), get_put_of_num (by decide), get_put_same, Nat.zero_mod]
    · rw [get_put_of_num (by decide), get_put_same, Nat.zero_mod]
    · rw [get_put_same, Nat.zero_mod]
  · intro s d q e v hst hen hbad
    exact (queueEnable_sound e v (bound hst) hen).trans (congrArg Host.Outcome.next (if_pos hbad))
  · intro s d q e v hst hen
    exact congrArg Host.Outcome.next ((if_neg hst).trans (if_pos hen))
  · intro s d q e v hst hen
    exact queueEnable_sound e v hst hen

/-! ### Power-up -/

/-- Only the host ports change. -/
theorem portsFromPerst_eq (s : State) : ∃ ps, s.portsFromPerst = { s with ports := ps } := by
  unfold State.portsFromPerst
  generalize List.range 2 = xs
  induction xs generalizing s with
  | nil => exact ⟨s.ports, rfl⟩
  | cons p xs ih => exact ih _

/-- Settles O1: the condition of each event holds, and a start keeps what `husk` lists. -/
theorem powerUpReachesAStart : Obligations.PowerUpReachesAStart := by
  unfold Obligations.PowerUpReachesAStart
  refine ⟨?_, ?_, ?_, ?_, ?_, ?_, ?_, ?_⟩
  · intro s mv hpow hoff
    exact congrArg Host.Outcome.next (if_neg (by simp [hpow, hoff]))
  · intro s hoff
    exact congrArg Host.Outcome.next (if_neg (not_not_intro hoff))
  · intro s hoff
    exact ⟨_, congrArg Host.Outcome.next (if_neg (not_not_intro hoff)), rfl, rfl, rfl, rfl, rfl⟩
  · intro s hpow hsw hmv
    exact congrArg Host.Outcome.next (if_pos (by simp [hpow, hsw, hmv]))
  · intro s hpow hsw hlow hhigh
    exact congrArg Host.Outcome.next (if_pos (by simp [hpow, hsw, within_, hlow, hhigh]))
  · intro s hpow
    exact congrArg Host.Outcome.next (if_pos hpow)
  · intro s harm hqual hoff
    have hexec : exec .startEvent s = .next s.porStart := congrArg Host.Outcome.next (if_pos (by simp [harm, hqual, hoff]))
    refine ⟨_, hexec, ?_⟩
    unfold State.porStart
    dsimp only
    obtain ⟨ps, hps⟩ := portsFromPerst_eq _
    rw [hps]
    exact ⟨rfl, rfl, rfl, rfl, rfl, rfl, rfl, rfl⟩
  · intro s hdue hrun
    have hexec : exec .modReset s = .next s.modReset := congrArg Host.Outcome.next (if_pos (by simp [hdue, hrun]))
    refine ⟨_, hexec, ?_⟩
    unfold State.modReset
    dsimp only
    obtain ⟨ps, hps⟩ := portsFromPerst_eq _
    rw [hps]
    exact ⟨rfl, rfl, rfl, rfl, rfl, rfl⟩

/-! ### Arriving messages -/

/-- A returned credit leaves whose message it is. -/
theorem isMine_creditBack (s : State) (p c : Nat) (m m' : Msg) : (s.creditBack p c m).isMine m' = s.isMine m' := by
  have hid : (s.creditBack p c m).ownId = s.ownId := by
    unfold State.creditBack
    dsimp only
    split
    · rfl
    · rfl
  simp only [State.isMine, hid]

/-- A message for this module returns its credit and is delivered. -/
theorem arriveAs_mine {s : State} {p : Nat} {m : Msg} (hup : s.plkUp p = true) (hmine : s.isMine m = true) (ty c : Nat)
    (hc : msgClass ty = some c) :
    s.arriveAs ty p m = (s.creditBack p c { m with type := ty }).plkDeliver p { m with type := ty } := by
  have hmine' : (s.creditBack p c { m with type := ty }).isMine { m with type := ty } = true := (isMine_creditBack ..).trans hmine
  simp [State.arriveAs, State.plkArrive, hup, hc, hmine']

/-- A message for another module returns its credit and is forwarded. -/
theorem arriveAs_other {s : State} {p : Nat} {m : Msg} (hup : s.plkUp p = true) (ty c : Nat) (hc : msgClass ty = some c)
    (hother : s.isMine { m with type := ty } = false) :
    s.arriveAs ty p m = (s.creditBack p c { m with type := ty }).forward { m with type := ty } := by
  have hother' : (s.creditBack p c { m with type := ty }).isMine { m with type := ty } = false := (isMine_creditBack ..).trans hother
  simp [State.arriveAs, State.plkArrive, hup, hc, hother']

/-- Settles O26, by the class of each type of message. -/
theorem messagesReachTheirUnits : Obligations.MessagesReachTheirUnits := by
  unfold Obligations.MessagesReachTheirUnits
  have mine : ∀ {s : State} {p : PlkPort} {m : Msg} (ty c : Nat), msgClass ty = some c → s.plkUp p = true → s.isMine m = true →
      (.next (s.arriveAs ty p m) : Host.Outcome State Fault Refusal) =
        .next ((s.creditBack p c { m with type := ty }).plkDeliver p { m with type := ty }) :=
    fun ty c hc hup hmine => congrArg _ (arriveAs_mine hup hmine ty c hc)
  have other : ∀ {s : State} {p : PlkPort} {m : Msg} (ty c : Nat), msgClass ty = some c → s.plkUp p = true →
      s.isMine { m with type := ty } = false → (.next (s.arriveAs ty p m) : Host.Outcome State Fault Refusal) =
        .next ((s.creditBack p c { m with type := ty }).forward { m with type := ty }) :=
    fun ty c hc hup hother => congrArg _ (arriveAs_other hup ty c hc hother)
  exact ⟨fun _ _ _ => mine 0x01 1 rfl, fun _ _ _ => mine 0x02 1 rfl, fun _ _ _ => mine 0x03 1 rfl, fun _ _ _ => mine 0x08 0 rfl,
    fun _ _ _ => mine 0x09 0 rfl, fun _ _ _ => mine 0x11 3 rfl, fun _ _ _ => mine 0x12 3 rfl, fun _ _ _ => mine 0x10 3 rfl,
    fun _ _ _ => mine 0x13 3 rfl, fun _ _ _ => mine 0x18 2 rfl, fun _ _ _ => mine 0x19 2 rfl, fun _ _ _ => mine 0x1A 2 rfl,
    fun _ _ _ => mine 0x20 5 rfl, fun _ _ _ => mine 0x21 5 rfl, fun _ _ _ => mine 0x22 5 rfl, fun _ _ _ => mine 0x23 2 rfl,
    fun _ _ _ => mine 0x24 1 rfl, fun _ _ _ => mine 0x25 2 rfl, fun _ _ _ => mine 0x28 4 rfl, fun _ _ _ => mine 0x29 4 rfl,
    fun _ _ _ => mine 0x31 2 rfl,
    fun _ _ _ => other 0x01 1 rfl, fun _ _ _ => other 0x02 1 rfl, fun _ _ _ => other 0x03 1 rfl, fun _ _ _ => other 0x08 0 rfl,
    fun _ _ _ => other 0x09 0 rfl, fun _ _ _ => other 0x11 3 rfl, fun _ _ _ => other 0x12 3 rfl, fun _ _ _ => other 0x10 3 rfl,
    fun _ _ _ => other 0x13 3 rfl, fun _ _ _ => other 0x18 2 rfl, fun _ _ _ => other 0x19 2 rfl, fun _ _ _ => other 0x1A 2 rfl,
    fun _ _ _ => other 0x20 5 rfl, fun _ _ _ => other 0x21 5 rfl, fun _ _ _ => other 0x22 5 rfl, fun _ _ _ => other 0x23 2 rfl,
    fun _ _ _ => other 0x24 1 rfl, fun _ _ _ => other 0x25 2 rfl, fun _ _ _ => other 0x28 4 rfl, fun _ _ _ => other 0x29 4 rfl,
    fun _ _ _ => other 0x31 2 rfl, fun _ _ _ => other 0x30 3 rfl, fun _ _ _ _ _ => rfl, fun _ _ _ => mine 0x30 3 rfl, fun _ _ => rfl⟩

end Sys2Proof.Machine
end

section
/-! SUPPORT. What an audited write changes beside its effect, the fuses, and the haptic channels. -/

namespace Sys2Proof.Machine

set_option Elab.async false

/-! ### What an audited write changes beside its effect -/

theorem kept_auditAccept (s : State) (e : AuditEntry) : s.Kept (s.auditAccept e) [.adl] auditFields :=
  .ite (State.Kept.refl s _ _).upd.put.put.put (State.Kept.refl s _ _).upd.put.put

theorem kept_auditWrite (s : State) (o : Origin) (w : RegWrite) (refused : Bool) (reason : Nat) :
    s.Kept (s.auditWrite o w refused reason) [.adl] auditFields :=
  .ite ((kept_auditAccept ..).comp (kept_auditAccept ..)) (kept_auditAccept ..)

theorem kept_entered (s : State) (o : Origin) (w : RegWrite) : s.Kept (s.entered o w) [.adl] auditFields :=
  .ite (kept_auditWrite ..) (State.Kept.refl s _ _)

theorem get_entered {g : Fld} (h : auditNum g.num = false) (s : State) (o : Origin) (w : RegWrite) (j : Nat) :
    (s.entered o w).get g j = s.get g j := by
  unfold State.entered
  split
  · exact get_auditWrite h ..
  · rfl

/-- A write of one word makes at most one entry. -/
theorem buf_entered_le (s : State) (o : Origin) {w : RegWrite} (h : w.wide = false) :
    (s.entered o w).adl.buf.length ≤ s.adl.buf.length + 1 := by
  unfold State.entered
  split
  · rw [State.auditWrite, if_neg (by rw [h]; decide), State.auditReg, auditAccept_buf, List.length_append]
    exact Nat.le_refl _
  · exact Nat.le_succ _

/-- A block that is reached admits a write of a word of it that no image governs, with room for its entries. -/
theorem admits_of_reaches {s : State} {o : Origin} {b : Nat} {w : RegWrite} (h : s.Reaches o b) (hblk : w.blk = b) (himg : w.img = 0)
    (hroom : (if w.wide then 2 else 1) + w.more ≤ 2) : s.Admits o w := by
  obtain ⟨hon, hheld, hbuf, hown⟩ := h
  have hfull : decide (64 < s.adl.buf.length + (if w.wide then 2 else 1) + w.more) = false := decide_eq_false (by omega)
  refine ⟨.inr (hblk ▸ hon), ?_, .inr (hblk ▸ hown), ?_⟩
  · simp [State.mustWait, State.auditedHeld, State.behindHeld, hheld, hfull]
  · simp [State.imgDenied, himg]

/-! ### Fuses and the life cycle -/

theorem auditFull_entered {s : State} (o : Origin) {w : RegWrite} (h : s.adl.buf.length ≤ 60) (hw : w.wide = false) :
    (s.entered o w).auditFull = false := by
  have hle := buf_entered_le s o hw
  exact decide_eq_false (by omega)

theorem withEntry_room {s : State} (h : s.auditFull = false) (e : AuditEntry) (k : State → State) : s.withEntry e k = k (s.auditAccept e) :=
  if_neg (by rw [h]; decide)

/-- A burn begins: BUSY, and the burn waits behind the others. -/
theorem startBurn_busy (s : State) (b : Burn) : (s.startBurn b).get F.CAB_FUSE_BUSY = 1 :=
  get_put_same s F.CAB_FUSE_BUSY 0 1

theorem kept_startBurn (s : State) (b : Burn) : s.Kept (s.startBurn b) [.fuses] [F.CAB_FUSE_BUSY] := (State.Kept.refl s _ _).put.upd

theorem kept_cabEvent (s : State) (f : Fld) (b : Nat) : s.PartsKept (s.cabEvent f b) [.cores] :=
  .ite (State.PartsKept.comp (State.PartsKept.refl s _).put (kept_icuRaise ..).1) (State.PartsKept.refl s _).put

theorem get_cabEvent {f g : Fld} (hg : g.num ≠ f.num) (hicu : icuNum g.num = false) (s : State) (b : Nat) :
    (s.cabEvent f b).get g 0 = s.get g 0 := by
  unfold State.cabEvent
  dsimp only
  split
  · rw [get_icuRaise hicu, get_put_of_num hg]
  · rw [get_put_of_num hg]

/-- The fuses are no part of what a CAB event changes. -/
theorem fuses_cabEvent (s : State) (f : Fld) (b : Nat) : (s.cabEvent f b).fuses = s.fuses := (kept_cabEvent s f b).1 .fuses (by decide)

/-- A request for FIELD from PROVISIONED. -/
theorem lcRequest_field {s : State} {o : Origin} (hst : s.get F.CAB_LC_STATE = 1) (hnx : s.get F.CAB_LC_NEXT = 1) (hroom : s.auditFull = false) :
    s.lcRequest o 2 = ((s.auditAccept (lcEntry o 1 2)).put F.CAB_LC_NEXT 0 2).startBurn .toField := by
  unfold State.lcRequest
  dsimp only
  rw [if_pos ⟨rfl, hst, hnx⟩, withEntry_room hroom, hst]

theorem lcRequest_err {s : State} {o : Origin} (hst : s.get F.CAB_LC_STATE = 4) : s.lcRequest o 2 = s.put F.CAB_LC_REQ_ERR 0 1 := by
  unfold State.lcRequest
  dsimp only
  rw [hst, if_neg (by omega), if_neg (by omega)]

/-- The write of CAB_LC.TARGET. -/
def lcWrite (s : State) (target : Nat) : RegWrite :=
  { addr := cabAddr 0, blk := 0x21, old := s.get F.CAB_LC_STATE, new := target * 256, more := if target = 0 then 0 else 1 }

theorem exec_lifeCycleRequest {s : State} {o : Origin} (h : s.Reaches o 0x21) :
    exec (.lifeCycleRequest o 2) s = .next ((s.entered o (lcWrite s 2)).lcRequest o 2) :=
  next_guarded (w := lcWrite s 2) (admits_of_reaches h rfl rfl (Nat.le_refl 2)) rfl

/-- The write of a floor or of slots to CAB_FUSE. -/
def fuseWrite (new : Nat) : RegWrite := { addr := cabAddr 8, blk := 0x21, new := new }

theorem exec_raiseTo {s : State} {o : Origin} {v : Fin 128} (h : s.Reaches o 0x21) (hv : (v : Nat) ≠ 0) :
    exec (.raiseTo o v) s = .next ((s.entered o (fuseWrite (v * 2 ^ 16))).raiseTo v) :=
  (next_guarded (w := fuseWrite (v * 2 ^ 16)) (admits_of_reaches h rfl rfl (Nat.le_succ 1)) rfl).trans (congrArg _ (if_neg hv))

theorem exec_revoke {s : State} {o : Origin} {mask : Fin 16} (h : s.Reaches o 0x21) (hv : (mask : Nat) ≠ 0) :
    exec (.revoke o mask) s = .next ((s.entered o (fuseWrite (mask * 2 ^ 23))).revoke mask) :=
  (next_guarded (w := fuseWrite (mask * 2 ^ 23)) (admits_of_reaches h rfl rfl (Nat.le_succ 1)) rfl).trans (congrArg _ (if_neg hv))

theorem runningSvn_entered (s : State) (o : Origin) (w : RegWrite) : (s.entered o w).runningSvn = s.runningSvn := by
  obtain ⟨⟨hsame, -⟩, -⟩ := kept_entered s o w
  rw [State.runningSvn, get_entered (by decide), hsame .flashA (by decide), hsame .flashB (by decide)]
  rfl

theorem fuses_entered (s : State) (o : Origin) (w : RegWrite) : (s.entered o w).fuses = s.fuses := (kept_entered s o w).1.1 .fuses (by decide)

/-- The instruction PROV, where the life cycle permits it. -/
theorem tapLoad_prov {s : State} (hperm : tapPermitted (s.get F.CAB_LC_STATE) 0x21 = true) (hon : s.phase ≠ .off) :
    s.tapLoad 0x21 = { s with dbg := { s.dbg with tapInstr := 0x21, pinsDriven := false, pinsHiZ := false } } := by
  unfold State.tapLoad
  rw [if_neg hon, if_pos hperm]

/-- PROV is loaded and powered. -/
theorem prov_loaded {s : State} (hperm : tapPermitted (s.get F.CAB_LC_STATE) 0x21 = true) (hon : s.phase ≠ .off) :
    ¬ (decide ((s.tapLoad 0x21).dbg.tapInstr ≠ 0x21) || decide ((s.tapLoad 0x21).phase = .off)) = true := by
  rw [tapLoad_prov hperm hon]
  simp [hon]

theorem kept_tapLoad (s : State) (c : Nat) : s.Kept (s.tapLoad c) [.dbg] [] := .ite (State.Kept.refl s _ _) (State.Kept.refl s _ _).upd

theorem fuses_tapLoad (s : State) (c : Nat) : (s.tapLoad c).fuses = s.fuses := (kept_tapLoad s c).1.1 .fuses (by decide)

theorem get_tapLoad (s : State) (c : Nat) (f : Fld) (i : Nat) : (s.tapLoad c).get f i = s.get f i := (kept_tapLoad s c).2 f i (by simp)

theorem adl_tapLoad (s : State) (c : Nat) : (s.tapLoad c).adl = s.adl := (kept_tapLoad s c).1.1 .adl (by decide)

/-- The end of the only burn. -/
theorem exec_fuseBurnDone {s : State} {b : Burn} {rest : List Burn} (h : s.fuses.burns = b :: rest) : exec .fuseBurnDone s = .next
    { (s.burnDone b).putB F.CAB_FUSE_BUSY 0 (!rest.isEmpty) with fuses := { (s.burnDone b).fuses with burns := rest } } := by
  change execFuseBurnDone s = _
  rw [execFuseBurnDone, h]

/-- Settles O39: each request's guards pick its case in the state with its audit entry, which leaves fuses and CAB registers alone. -/
theorem fusesBurnAndLifecycleAdvances : Obligations.FusesBurnAndLifecycleAdvances := by
  unfold Obligations.FusesBurnAndLifecycleAdvances
  refine ⟨?_, ?_, ?_, ?_, ?_, ?_, ?_, fun _ _ _ => exec_fuseBurnDone, ?_, ?_, ?_, ?_⟩
  · intro s o h hst hnx hbuf
    have hreq := lcRequest_field (o := o) ((get_entered (by decide) s o (lcWrite s 2) 0).trans hst)
      ((get_entered (by decide) s o (lcWrite s 2) 0).trans hnx) (auditFull_entered o hbuf rfl)
    refine ⟨_, (exec_lifeCycleRequest h).trans (congrArg _ hreq), ?_, startBurn_busy .., ?_, ?_⟩
    · change (((State.put _ F.CAB_LC_NEXT 0 2).put F.CAB_FUSE_BUSY 0 1).get F.CAB_LC_NEXT 0) = 2
      rw [get_put_of_num (by decide), get_put_same]
      rfl
    · simp [State.startBurn, fuses_entered]
    · exact (((State.Kept.refl s _ _).comp (kept_entered s o _)).comp (kept_auditAccept ..)).put.comp (kept_startBurn ..)
  · intro s o h hst
    have hreq := lcRequest_err (o := o) ((get_entered (by decide) s o (lcWrite s 2) 0).trans hst)
    exact ⟨_, (exec_lifeCycleRequest h).trans (congrArg _ hreq), get_put_same .., fuses_entered ..,
      ((State.Kept.refl s _ _).comp (kept_entered s o _)).put⟩
  · intro s o v h hlow hhigh
    have hreq : (s.entered o (fuseWrite (v * 2 ^ 16))).raiseTo v = (s.entered o (fuseWrite (v * 2 ^ 16))).startBurn (.svn v) :=
      if_pos ⟨by rwa [get_entered (by decide)], by rwa [runningSvn_entered]⟩
    refine ⟨_, (exec_raiseTo h (by omega)).trans (congrArg _ hreq), startBurn_busy .., ?_,
      ((State.Kept.refl s _ _).comp (kept_entered s o _)).comp (kept_startBurn ..)⟩
    simp [State.startBurn, fuses_entered]
  · intro s o v h hlow hhigh
    have hreq : (s.entered o (fuseWrite (v * 2 ^ 16))).raiseTo v = (s.entered o (fuseWrite (v * 2 ^ 16))).put F.CAB_FUSE_FUSE_ERR 0 1 :=
      if_neg fun hlt => Nat.not_lt.2 hhigh (by rw [get_entered (by decide)] at hlt; exact hlt.1)
    exact ⟨_, (exec_raiseTo h (by omega)).trans (congrArg _ hreq), get_put_same .., fuses_entered ..,
      ((State.Kept.refl s _ _).comp (kept_entered s o _)).put⟩
  · intro s o mask h hmask hroot hburns hleft
    have hreq : (s.entered o (fuseWrite (mask * 2 ^ 23))).revoke mask = (s.entered o (fuseWrite (mask * 2 ^ 23))).startBurn (.revoke mask) := by
      unfold State.revoke
      dsimp only
      rw [fuses_entered, hburns, get_entered (by decide), get_entered (by decide), hroot]
      exact if_neg (by simp only [Bool.false_or, decide_eq_true_eq]; exact hleft)
    refine ⟨_, (exec_revoke h hmask).trans (congrArg _ hreq), startBurn_busy .., ?_,
      ((State.Kept.refl s _ _).comp (kept_entered s o _)).comp (kept_startBurn ..)⟩
    simp [State.startBurn, fuses_entered]
  · intro s v hburns hv hfloor
    refine ⟨_, exec_fuseBurnDone hburns, rfl, ?_, rfl, get_put_same (s.burnDone (.svn v)) F.CAB_FUSE_BUSY 0 0, ?_⟩
    · change (((s.put F.CAB_FUSE_SVN_FLOOR 0 (max s.fuses.svnFloor v)).cabEvent F.CAB_EVT_FUSE_DONE 5).put F.CAB_FUSE_BUSY 0 0).get
        F.CAB_FUSE_SVN_FLOOR 0 = _
      rw [get_put_of_num (by decide), get_cabEvent (by decide) (by decide), get_put_same]
      exact Nat.mod_eq_of_lt (Nat.max_lt.2 ⟨hfloor, hv⟩)
    · exact ((State.PartsKept.refl s _).put.comp (kept_cabEvent ..)).upd.put.upd
  · intro s hburns
    refine ⟨_, exec_fuseBurnDone hburns, rfl, rfl, get_put_same (s.burnDone .toField) F.CAB_FUSE_BUSY 0 0, ?_, ?_⟩
    · exact (kept_cabEvent s F.CAB_EVT_LC_DONE 2).1 .nv (by decide)
    · exact ((State.PartsKept.refl s _).comp (kept_cabEvent ..)).upd.put.upd
  · intro s slot d hperm hon hslot hnew
    refine ⟨_, congrArg Host.Outcome.next ((if_neg (prov_loaded hperm hon)).trans (if_neg ?_)), ?_, ?_⟩
    · rw [fuses_tapLoad, hnew]
      simp [hslot]
    · exact congrArg (fun x : Fuses => x.rootDigest ++ [(slot, d)]) (fuses_tapLoad s 0x21)
    · exact ((State.Kept.refl s _ _).comp (kept_tapLoad ..)).upd
  · intro s hperm hon
    refine ⟨_, congrArg Host.Outcome.next (if_neg (prov_loaded hperm hon)), rfl, ?_, ((State.Kept.refl s _ _).comp (kept_tapLoad ..)).upd⟩
    exact congrArg (fun t : State => t.dbg.tapInstr) (tapLoad_prov hperm hon)
  · intro s n hperm hon hn hfloor
    have hfloor' : (s.tapLoad 0x21).fuses.svnFloor ≤ n := by rwa [fuses_tapLoad]
    refine ⟨_, congrArg Host.Outcome.next ((if_neg (prov_loaded hperm hon)).trans (if_pos ⟨hn, hfloor'⟩)), rfl, ?_, ?_⟩
    · exact (get_put_same ..).trans (Nat.mod_eq_of_lt (Nat.lt_of_le_of_lt hn (by decide)))
    · exact ((State.Kept.refl s _ _).comp (kept_tapLoad ..)).put.upd
  · intro s hperm hon hroot hkey hnx hbuf
    have hroom : (s.tapLoad 0x21).auditFull = false := decide_eq_false (by rw [adl_tapLoad]; omega)
    refine ⟨_, congrArg Host.Outcome.next (((if_neg (prov_loaded hperm hon)).trans (if_pos ?_)).trans (withEntry_room hroom ..)), ?_,
      startBurn_busy .., ?_, ?_⟩
    · rw [fuses_tapLoad, get_tapLoad, hroot, hkey, hnx]
      decide
    · change (((State.put _ F.CAB_LC_NEXT 0 1).put F.CAB_FUSE_BUSY 0 1).get F.CAB_LC_NEXT 0) = 1
      rw [get_put_of_num (by decide), get_put_same]
      rfl
    · simp [State.startBurn, fuses_tapLoad]
    · exact ((((State.Kept.refl s _ (auditFields ++ [F.CAB_LC_NEXT, F.CAB_FUSE_BUSY])).comp (kept_tapLoad ..)).comp
        (kept_auditAccept ..)).put.comp (kept_startBurn ..)).1

/-! ### Haptic effects -/

/-- A counter that saturates counts one. -/
theorem get_incSat_one (s : State) (f : Fld) (i : Nat) : (s.incSat f i).get f i = satInc (s.get f i) f.width := by
  rw [incSat_eq, get_put_same, satInc]
  generalize 2 ^ f.width = w
  split
  · rw [Nat.min_eq_left (by omega), Nat.mod_eq_of_lt (by assumption)]
  · rcases Nat.eq_zero_or_pos w with rfl | hw
    · simp
    · rw [Nat.min_eq_right (by omega), Nat.mod_eq_of_lt (by omega)]

section
variable {s : State} {c i ph : Nat} {e : Effect}

theorem hapCh_modHap (s : State) (c : Nat) (g : HapCh → HapCh) : (s.modHap c g).hapCh c = g (s.hapCh c) := tget_tset_same ..

theorem hapCh_modHap_ne {c' : Nat} (h : c' ≠ c) (s : State) (g : HapCh → HapCh) : (s.modHap c g).hapCh c' = s.hapCh c' := tget_tset_ne _ _ _ h _

theorem hapPhase_hapEnter (h : ph < 8) (s : State) (c : Nat) : (s.hapEnter c ph).hapPhase c = ph :=
  (get_put_same s F.HAP_CH_STATUS_PHASE c ph).trans (Nat.mod_eq_of_lt h)

theorem hapCh_hapEnter (s : State) (c ph : Nat) : (s.hapEnter c ph).hapCh c = { s.hapCh c with
    hiZ := ph = 0 || ph = 5, phaseAt := s.now, driveAt := if (s.hapCh c).hiZ then s.now else (s.hapCh c).driveAt } := hapCh_modHap ..

theorem kept_hapEnter (s : State) (c ph : Nat) : s.Kept (s.hapEnter c ph) [.hap] [F.HAP_CH_STATUS_PHASE] := (State.Kept.refl s _ _).put.upd

theorem kept_hapFreq (s : State) (c : Nat) (f4 : Int) : s.Kept (s.hapFreq c f4) [.hap] [F.HAP_CH_STATUS_FREQ] := (State.Kept.refl s _ _).upd.put

theorem kept_hapWait (s : State) (c : Nat) (w : Option Nat) : s.Kept (s.hapWait c w) [.hap] [F.HAP_CH_STATUS_WAITING] :=
  (State.Kept.refl s _ _).upd.put

theorem kept_hapBrake (s : State) (c : Nat) : s.Kept (s.hapBrake c) [.hap] [F.HAP_CH_STATUS_PHASE] :=
  .ite (kept_hapEnter ..) (State.Kept.refl s _ _)

theorem hapCh_hapFreq (s : State) (c : Nat) (f4 : Int) : (s.hapFreq c f4).hapCh c = { s.hapCh c with freq4 := f4 } :=
  hapCh_modHap s c (fun h => { h with freq4 := f4 })

theorem hapCh_hapWait (s : State) (c : Nat) (w : Option Nat) : (s.hapWait c w).hapCh c = { s.hapCh c with waiting := w, waitAt := s.now } :=
  hapCh_modHap s c (fun h => { h with waiting := w, waitAt := s.now })

theorem hapPhase_hapWait (s : State) (c c' : Nat) (w : Option Nat) : (s.hapWait c w).hapPhase c' = s.hapPhase c' :=
  (kept_hapWait s c w).2 _ _ (by decide)

theorem firstPhase_pos (e : Effect) : e.firstPhase ≠ 0 ∧ e.firstPhase ≠ 5 ∧ e.firstPhase < 8 := by
  unfold Effect.firstPhase
  split
  · decide
  · split
    · decide
    · decide

/-- A channel at the start of effect `i`, its frequency still that before. -/
def State.hapBegin (s : State) (c i : Nat) (e : Effect) : State := (s.put F.HAP_CH_STATUS_EFFECT c i).hapEnter c e.firstPhase

theorem hapStart_cont (h : s.hap.effects[i]? = some e) : s.hapStart c i true = s.hapBegin c i e := by
  unfold State.hapStart
  rw [h]
  exact if_pos rfl

theorem hapStart_fresh (h : s.hap.effects[i]? = some e) : s.hapStart c i false = (s.hapBegin c i e).hapFreq c
    (4 * ((if e.track then s.get F.HAP_CH_CFG_F0_HZ c else e.freqHz : Nat) : Int)) := by
  have hf0 : (s.hapBegin c i e).get F.HAP_CH_CFG_F0_HZ c = s.get F.HAP_CH_CFG_F0_HZ c :=
    ((kept_hapEnter ..).2 _ _ (by decide)).trans (get_put_of_num (by decide) ..)
  unfold State.hapStart
  rw [h, ← hf0]
  exact if_neg Bool.false_ne_true

theorem hapPhase_hapBegin (s : State) (c i : Nat) (e : Effect) : (s.hapBegin c i e).hapPhase c = e.firstPhase :=
  hapPhase_hapEnter (firstPhase_pos e).2.2 ..

theorem effect_hapBegin (h : i < 64) (s : State) (c : Nat) (e : Effect) : (s.hapBegin c i e).get F.HAP_CH_STATUS_EFFECT c = i :=
  ((kept_hapEnter ..).2 _ _ (by decide)).trans ((get_put_same ..).trans (Nat.mod_eq_of_lt h))

theorem hiZ_hapBegin (s : State) (c i : Nat) (e : Effect) : ((s.hapBegin c i e).hapCh c).hiZ = false := by
  obtain ⟨h0, h5, -⟩ := firstPhase_pos e
  simp [State.hapBegin, hapCh_hapEnter, h0, h5]

theorem kept_hapBegin (s : State) (c i : Nat) (e : Effect) : s.Kept (s.hapBegin c i e) [.hap] [F.HAP_CH_STATUS_EFFECT, F.HAP_CH_STATUS_PHASE] :=
  (State.Kept.refl s _ _).put.comp (kept_hapEnter ..)

theorem kept_hapStart_fresh (h : s.hap.effects[i]? = some e) (c : Nat) : s.Kept (s.hapStart c i false) [.hap] [F.HAP_CH_STATUS_EFFECT,
    F.HAP_CH_STATUS_PHASE, F.HAP_CH_STATUS_FREQ] := by
  rw [hapStart_fresh h]
  exact ((State.Kept.refl s _ _).comp (kept_hapBegin ..)).comp (kept_hapFreq ..)

/-- What a fresh start leaves: phase and effect of the channel. -/
theorem hapStart_fresh_shows (h : s.hap.effects[i]? = some e) (hi : i < 64) (c : Nat) : (s.hapStart c i false).hapPhase c = e.firstPhase ∧
    (s.hapStart c i false).get F.HAP_CH_STATUS_EFFECT c = i := by
  rw [hapStart_fresh h]
  exact ⟨((kept_hapFreq ..).2 _ _ (by decide)).trans (hapPhase_hapBegin ..), ((kept_hapFreq ..).2 _ _ (by decide)).trans (effect_hapBegin hi ..)⟩

theorem hapBrakeEnd_idle (h : (s.hapCh c).waiting = none) : s.hapBrakeEnd c = s.hapEnter c 0 := by rw [State.hapBrakeEnd, h]

theorem hiZ_hapIdle (s : State) (c : Nat) : ((s.hapEnter c 0).hapCh c).hiZ = true := by rw [hapCh_hapEnter]; rfl

theorem hapBrake_driving (h : s.hapPhase c = 1 ∨ s.hapPhase c = 2) : s.hapBrake c = s.hapEnter c 3 :=
  if_pos (by rcases h with h | h <;> simp [h])

theorem kept_hapKill (s : State) (c : Nat) : s.Kept (s.hapKill c) [.hap] [F.HAP_CH_STATUS_WAITING, F.HAP_CH_STATUS_PHASE] :=
  (State.Kept.refl s _ _).upd.put.comp (kept_hapEnter ..)

/-! ### A tick of the budget and of the coils' heat -/

/-- The estimate of a channel. -/
def State.hapSetE (s : State) (c e : Nat) : State := (s.modHap c (fun h => { h with e := e })).put F.HAP_CH_STATUS_E c (min 65535 (e / 200000000))

/-- The lock that the estimate `e` of a channel sets or clears, its limit `lim`. -/
def State.hapLimit (s : State) (c e lim : Nat) : State :=
  if lim ≤ e then (s.put F.HAP_CH_STATUS_THERM_LOCK c 1).hapBrake c
  else if e ≤ lim / 2 then s.put F.HAP_CH_STATUS_THERM_LOCK c 0
  else s

/-- The estimate after a tick in which the square of the current is `sq`. -/
def State.hapNewE (s : State) (c : Nat) (sq : Int) : Nat :=
  (((s.hapCh c).e : Int) - roundOpen (s.hapCh c).e (1000 * s.get F.HAP_CH_THERM_TAU_DS c) + sq).toNat

/-- The estimate and the lock of channel `c` after such a tick. -/
def State.hapHeat (s : State) (c : Nat) (sq : Int) : State := (s.hapSetE c (s.hapNewE c sq)).hapLimit c (s.hapNewE c sq)
  ((s.hapSetE c (s.hapNewE c sq)).get F.HAP_CH_THERM_I2T_LIMIT c * 200000000)

/-- The square of the current of channel `c` in a tick: `drv` drive, together `sum`, under a budget. -/
def State.hapSquare (s : State) (drv : List Nat) (sum budget c : Nat) : Int :=
  if drv.contains c then (if decide (budget < sum) then roundOpen (s.hapAmp c ^ 2 * budget : Nat) sum else (s.hapAmp c ^ 2 : Nat)) else 0

/-- A tick at channel `c`. -/
def hapTickOne (drv : List Nat) (sum budget : Nat) (s : State) (c : Nat) : State :=
  if s.get F.HAP_CH_CFG_R_COIL c = 0 then s
  else (if decide (budget < sum) && drv.contains c then s.incSat F.HAP_CH_CNT_BUDGET_LIM c else s).hapHeat c (s.hapSquare drv sum budget c)

/-- The time of the tick. -/
def State.ticked (s : State) : State := { s with hap := { s.hap with tickAt := s.now } }

/-- The power of the channels that drive, and the budget for it. -/
def State.hapSum (s : State) : Nat := (s.hapDriving.map s.hapPower).foldl (· + ·) 0
def State.hapBudget (s : State) : Nat := if s.on F.PWR_SUPPLY_HAP_RES then 2500000000 else 0

theorem exec_hapticTick (h : s.hap.tickAt + 100000 ≤ s.now) : exec .hapticTick s = .next ((List.range 8).foldl
    (hapTickOne s.ticked.hapDriving s.ticked.hapSum s.ticked.hapBudget) s.ticked) :=
  congrArg Host.Outcome.next (if_neg (Nat.not_lt.2 h))

theorem kept_hapSetE (s : State) (c e : Nat) : s.Kept (s.hapSetE c e) [.hap] [F.HAP_CH_STATUS_E] := (State.Kept.refl s _ _).upd.put

theorem kept_hapLimit (s : State) (c e lim : Nat) : s.Kept (s.hapLimit c e lim) [.hap] [F.HAP_CH_STATUS_THERM_LOCK, F.HAP_CH_STATUS_PHASE] :=
  .ite ((State.Kept.refl s _ _).put.comp (kept_hapBrake ..)) (.ite (State.Kept.refl s _ _).put (State.Kept.refl s _ _))

theorem kept_hapHeat (s : State) (c : Nat) (sq : Int) : s.Kept (s.hapHeat c sq) [.hap] [F.HAP_CH_STATUS_E, F.HAP_CH_STATUS_THERM_LOCK,
    F.HAP_CH_STATUS_PHASE] := ((State.Kept.refl s _ _).comp (kept_hapSetE ..)).comp (kept_hapLimit ..)

theorem hapBrake_idle (h : s.hapPhase c = 0 ∨ 4 ≤ s.hapPhase c) : s.hapBrake c = s :=
  if_neg (by simp only [Bool.or_eq_true, decide_eq_true_eq]; omega)

theorem kept_hapLimit_idle (h : s.hapPhase c = 0 ∨ 4 ≤ s.hapPhase c) (e lim : Nat) : s.Kept (s.hapLimit c e lim) [] [F.HAP_CH_STATUS_THERM_LOCK] := by
  have hph : (s.put F.HAP_CH_STATUS_THERM_LOCK c 1).hapPhase c = s.hapPhase c := get_put_of_num (by decide) ..
  unfold State.hapLimit
  rw [hapBrake_idle (by rwa [hph])]
  exact .ite (State.Kept.refl s _ _).put (.ite (State.Kept.refl s _ _).put (State.Kept.refl s _ _))

theorem kept_hapTickOne (drv : List Nat) (sum budget : Nat) (s : State) (c : Nat) : s.Kept (hapTickOne drv sum budget s c) [.hap]
    [F.HAP_CH_STATUS_E, F.HAP_CH_STATUS_THERM_LOCK, F.HAP_CH_STATUS_PHASE, F.HAP_CH_CNT_BUDGET_LIM] :=
  .ite (State.Kept.refl s _ _) ((State.Kept.ite (State.Kept.refl s _ _).put (State.Kept.refl s _ _)).comp (kept_hapHeat ..))

theorem tickAt_ite {p : Prop} [Decidable p] {a b : State} {n : Nat} (ha : a.hap.tickAt = n) (hb : b.hap.tickAt = n) :
    (if p then a else b).hap.tickAt = n := by
  split
  · exact ha
  · exact hb

theorem tickAt_put (s : State) (f : Fld) (i v : Nat) : (s.put f i v).hap.tickAt = s.hap.tickAt := rfl

theorem tickAt_modHap (s : State) (c : Nat) (g : HapCh → HapCh) : (s.modHap c g).hap.tickAt = s.hap.tickAt := rfl

theorem tickAt_hapBrake (s : State) (c : Nat) : (s.hapBrake c).hap.tickAt = s.hap.tickAt :=
  tickAt_ite ((tickAt_modHap ..).trans (tickAt_put ..)) rfl

theorem tickAt_hapLimit (s : State) (c e lim : Nat) : (s.hapLimit c e lim).hap.tickAt = s.hap.tickAt :=
  tickAt_ite ((tickAt_hapBrake ..).trans (tickAt_put ..)) (tickAt_ite (tickAt_put ..) rfl)

theorem tickAt_hapSetE (s : State) (c e : Nat) : (s.hapSetE c e).hap.tickAt = s.hap.tickAt := (tickAt_put ..).trans (tickAt_modHap ..)

theorem tickAt_hapHeat (s : State) (c : Nat) (sq : Int) : (s.hapHeat c sq).hap.tickAt = s.hap.tickAt :=
  (tickAt_hapLimit ..).trans (tickAt_hapSetE ..)

theorem tickAt_hapTickOne (drv : List Nat) (sum budget : Nat) (s : State) (c : Nat) :
    (hapTickOne drv sum budget s c).hap.tickAt = s.hap.tickAt :=
  tickAt_ite rfl ((tickAt_hapHeat ..).trans (tickAt_ite (tickAt_put ..) rfl))

theorem tickAt_foldl (drv : List Nat) (sum budget : Nat) (xs : List Nat) (s : State) :
    (xs.foldl (hapTickOne drv sum budget) s).hap.tickAt = s.hap.tickAt :=
  foldl_keeps (fun t : State => t.hap.tickAt) (fun s c => tickAt_hapTickOne drv sum budget s c) xs s

theorem kept_foldl_hapTickOne (drv : List Nat) (sum budget : Nat) (xs : List Nat) (s : State) :
    s.Kept (xs.foldl (hapTickOne drv sum budget) s) [.hap] [F.HAP_CH_STATUS_E, F.HAP_CH_STATUS_THERM_LOCK, F.HAP_CH_STATUS_PHASE,
      F.HAP_CH_CNT_BUDGET_LIM] :=
  State.Kept.foldl (State.Kept.refl s _ _) (fun _ _ h => h.trans (kept_hapTickOne ..))

/-- A channel that does not drive: its estimate falls by what the time constant says. -/
def State.hapCooled (s : State) (c : Nat) : Nat := (((s.hapCh c).e : Int) - roundOpen (s.hapCh c).e (1000 * s.get F.HAP_CH_THERM_TAU_DS c)).toNat

theorem hapNewE_zero (s : State) (c : Nat) : s.hapNewE c 0 = s.hapCooled c := by rw [State.hapNewE, Int.add_zero, State.hapCooled]

/-- The tick at a channel while nothing drives. -/
theorem hapTickOne_idle (sum budget : Nat) (hcoil : s.get F.HAP_CH_CFG_R_COIL c ≠ 0) : hapTickOne [] sum budget s c = s.hapHeat c 0 := by
  rw [hapTickOne, if_neg hcoil, State.hapSquare, List.contains_nil, Bool.and_false, if_neg Bool.false_ne_true, if_neg Bool.false_ne_true]

theorem kept_hapHeat_idle (h : s.hapPhase c = 0 ∨ 4 ≤ s.hapPhase c) (sq : Int) : (s.hapSetE c (s.hapNewE c sq)).Kept (s.hapHeat c sq) []
    [F.HAP_CH_STATUS_THERM_LOCK] := by
  have hph : (s.hapSetE c (s.hapNewE c sq)).hapPhase c = s.hapPhase c := (kept_hapSetE ..).2 _ _ (by decide)
  exact kept_hapLimit_idle (by rwa [hph]) ..

/-- No channel is in a phase that drives. -/
def State.hapAllIdle (s : State) : Prop := ∀ c < 8, s.hapPhase c = 0 ∨ 4 ≤ s.hapPhase c

theorem hapAllIdle_of_driving (h : s.hapDriving = []) : s.hapAllIdle := by
  intro c hc
  have hnot := (List.filter_eq_nil_iff.1 h) c (List.mem_range.2 hc)
  simp only [Bool.and_eq_true, decide_eq_true_eq] at hnot
  omega

theorem kept_hapTickOne_idle (h : s.hapAllIdle) (hc : c < 8) (sum budget : Nat) : s.Kept (hapTickOne [] sum budget s c) [.hap]
    [F.HAP_CH_STATUS_E, F.HAP_CH_STATUS_THERM_LOCK] := by
  by_cases hcoil : s.get F.HAP_CH_CFG_R_COIL c = 0
  · rw [hapTickOne, if_pos hcoil]
    exact State.Kept.refl s _ _
  · rw [hapTickOne_idle sum budget hcoil]
    exact ((State.Kept.refl s _ _).comp (kept_hapSetE ..)).comp (kept_hapHeat_idle (h c hc) 0)

/-- The tick at one channel leaves the others, and cools this one. -/
theorem e_hapTickOne_idle (h : s.hapAllIdle) (hc : c < 8) (sum budget : Nat) :
    (∀ c' ≠ c, (hapTickOne [] sum budget s c).hapCh c' = s.hapCh c') ∧
      (s.get F.HAP_CH_CFG_R_COIL c ≠ 0 → ((hapTickOne [] sum budget s c).hapCh c).e = s.hapCooled c) := by
  by_cases hcoil : s.get F.HAP_CH_CFG_R_COIL c = 0
  · rw [hapTickOne, if_pos hcoil]
    exact ⟨fun _ _ => rfl, fun hne => absurd hcoil hne⟩
  · have hhap : (s.hapHeat c 0).hap = (s.hapSetE c (s.hapNewE c 0)).hap := (kept_hapHeat_idle (h c hc) 0).1.1 .hap (by decide)
    rw [hapTickOne_idle sum budget hcoil, ← hapNewE_zero]
    refine ⟨fun c' hne => ?_, fun _ => ?_⟩
    · rw [State.hapCh, hhap]
      exact hapCh_modHap_ne hne s (fun h => { h with e := s.hapNewE c 0 })
    · rw [State.hapCh, hhap]
      exact congrArg HapCh.e (hapCh_modHap s c (fun h => { h with e := s.hapNewE c 0 }))

/-- The ticks at the channels of a list without repetition. -/
theorem foldl_hapTickOne_idle {xs : List Nat} (hnd : xs.Nodup) (hlt : ∀ c ∈ xs, c < 8) (h : s.hapAllIdle) (sum budget : Nat) :
    s.Kept (xs.foldl (hapTickOne [] sum budget) s) [.hap] [F.HAP_CH_STATUS_E, F.HAP_CH_STATUS_THERM_LOCK] ∧
      (∀ c ∉ xs, (xs.foldl (hapTickOne [] sum budget) s).hapCh c = s.hapCh c) ∧
      ∀ c ∈ xs, s.get F.HAP_CH_CFG_R_COIL c ≠ 0 → ((xs.foldl (hapTickOne [] sum budget) s).hapCh c).e = s.hapCooled c := by
  induction xs generalizing s with
  | nil => exact ⟨State.Kept.refl s _ _, fun _ _ => rfl, fun _ hc => absurd hc List.not_mem_nil⟩
  | cons x xs ih =>
    obtain ⟨hx, hnd'⟩ := List.nodup_cons.1 hnd
    have hx8 : x < 8 := hlt x List.mem_cons_self
    have hkept := kept_hapTickOne_idle h hx8 sum budget
    have hidle : (hapTickOne [] sum budget s x).hapAllIdle := by
      intro c hc
      have hph : (hapTickOne [] sum budget s x).hapPhase c = s.hapPhase c := hkept.2 _ _ (by decide)
      rw [hph]
      exact h c hc
    obtain ⟨hothers, hown⟩ := e_hapTickOne_idle h hx8 sum budget
    obtain ⟨hk, hout, hin⟩ := ih hnd' (fun c hc => hlt c (List.mem_cons_of_mem _ hc)) hidle
    refine ⟨hkept.trans hk, ?_, ?_⟩
    · intro c hc
      obtain ⟨hne, hc'⟩ := not_or.1 (mt List.mem_cons.2 hc)
      exact (hout c hc').trans (hothers c hne)
    · intro c hc hcoil
      rcases List.mem_cons.1 hc with rfl | hc'
      · exact (congrArg HapCh.e (hout c hx)).trans (hown hcoil)
      · have hne : c ≠ x := fun heq => hx (heq ▸ hc')
        have hcoil' : (hapTickOne [] sum budget s x).get F.HAP_CH_CFG_R_COIL c ≠ 0 := by rwa [hkept.2 _ _ (by decide)]
        rw [List.foldl_cons, hin c hc' hcoil', State.hapCooled, hothers c hne, hkept.2 _ _ (by decide)]
        rfl

/-! ### The statement -/

theorem hapTrigger_free (hno : s.hapRefuse c i = false) (h : s.hapPhase c = 0) : s.hapTrigger c i = s.hapStart c i false := by
  unfold State.hapTrigger
  rw [hno, h]
  rfl

theorem hapTrigger_driving (hno : s.hapRefuse c i = false) (h : s.hapPhase c = 1 ∨ s.hapPhase c = 2) :
    s.hapTrigger c i = s.hapStart c i true := by
  unfold State.hapTrigger
  rw [hno]
  rcases h with h | h
  · rw [h]; rfl
  · rw [h]; rfl

theorem hapTrigger_braking (hno : s.hapRefuse c i = false) (h : s.hapPhase c = 3) (he : s.hap.effects[i]? = some e)
    (hurg : e.urgent = false) (hw : (s.hapCh c).waiting = none) : s.hapTrigger c i = s.hapWait c (some i) := by
  unfold State.hapTrigger
  rw [hno, h, he, hw]
  simp [hurg]

end

section
variable {s : State} {o : Origin} {c : HapId}

theorem exec_hapticTrigger {i : Fin 64} (h : s.Reaches o 0x1E) : exec (.hapticTrigger o c i) s = .next (s.hapTrigger c i) :=
  next_guarded_unaudited (w := { addr := hapAddr 0x10, blk := 0x1E, audited := false }) (admits_of_reaches h rfl rfl (Nat.le_succ 1)) rfl rfl

theorem exec_effectPhaseEnd_attack (hph : s.hapPhase c = 1) (hl : s.hapLasted c (s.hapEffect c).attackMs = true) :
    exec (.effectPhaseEnd c) s = .next (if (s.hapEffect c).sustainMs ≠ 0 then s.hapEnter c 2 else s.hapBrake c) := by
  change execEffectPhaseEnd c s = _
  unfold execEffectPhaseEnd
  simp [hph, hl]

theorem exec_effectPhaseEnd_sustain (hph : s.hapPhase c = 2) (hl : s.hapLasted c (s.hapEffect c).sustainMs = true) :
    exec (.effectPhaseEnd c) s = .next (s.hapBrake c) := by
  change execEffectPhaseEnd c s = _
  unfold execEffectPhaseEnd
  simp [hph, hl]

theorem exec_driveOffGap_track {errHz : Int} {emfMv : Nat} (hph : s.hapPhase c = 1 ∨ s.hapPhase c = 2)
    (htrack : (s.hapEffect c).track = true) : exec (.driveOffGap c errHz emfMv) s = .next (s.hapFreq c (clampI ((s.hapCh c).freq4 + errHz)
      (4 * (s.get F.HAP_CH_CFG_F_MIN_HZ c : Int)) (4 * (s.get F.HAP_CH_CFG_F_MAX_HZ c : Int)))) :=
  congrArg Host.Outcome.next ((if_neg (by omega)).trans (if_pos (by rcases hph with h | h <;> simp [h, htrack])))

theorem exec_driveOffGap_brake {errHz : Int} {emfMv : Nat} (hph : s.hapPhase c = 3) (hemf : emfMv < s.get F.HAP_CH_CFG_STOP_MV c) :
    exec (.driveOffGap c errHz emfMv) s = .next (s.hapBrakeEnd c) := congrArg Host.Outcome.next ((if_pos hph).trans (if_pos hemf))

theorem exec_brakeEnd_late (hph : s.hapPhase c = 3) (hl : s.hapLasted c (s.hapEffect c).brakeMs = true) :
    exec (.brakeEnd c false) s = .next ((s.incSat F.HAP_CH_CNT_BRAKE_TIMEOUT c).hapBrakeEnd c) :=
  congrArg Host.Outcome.next (if_neg (by simp [hph, hl]))

theorem exec_waitTimeout {i : Nat} (hph : s.hapPhase c = 3) (hat : (s.hapCh c).waitAt + 2000000 ≤ s.now)
    (hw : (s.hapCh c).waiting = some i) : exec (.waitTimeout c) s = .next ((s.hapWait c none).hapStart c i false) := by
  refine congrArg Host.Outcome.next ((if_pos ?_).trans ?_)
  · rw [decide_eq_true hat, hph]
    rfl
  · rw [hw]

end

/-- Settles O34: each event's guards pick one change of the channel; a tick is an induction over the channels. -/
theorem hapticEffectsRun : Obligations.HapticEffectsRun := by
  unfold Obligations.HapticEffectsRun
  refine ⟨?_, ?_, ?_, fun _ _ _ _ => exec_hapticTrigger, ?_, ?_, ?_, ?_, ?_, ?_, fun _ _ _ _ => exec_driveOffGap_brake, ?_,
    fun _ _ => exec_brakeEnd_late, ?_, ?_, fun _ _ _ => exec_waitTimeout, ?_, ?_, ?_, ?_, ?_⟩
  · intro s o c i e h hno hph he
    refine ⟨_, (exec_hapticTrigger h).trans (congrArg _ (hapTrigger_free hno hph)), (hapStart_fresh_shows he i.isLt c).1,
      (hapStart_fresh_shows he i.isLt c).2, ?_, ?_, kept_hapStart_fresh he c⟩
    · rw [hapStart_fresh he, hapCh_hapFreq]
    · rw [hapStart_fresh he, hapCh_hapFreq]
      exact hiZ_hapBegin ..
  · intro s o c i h hyes
    exact ⟨_, (exec_hapticTrigger h).trans (congrArg _ (if_pos hyes)), get_incSat_one .., (State.Kept.refl s _ _).put⟩
  · intro s o c i e h hno hph he hurg hw
    refine ⟨_, (exec_hapticTrigger h).trans (congrArg _ (hapTrigger_braking hno hph he hurg hw)), ?_, get_put_same .., ?_, kept_hapWait ..⟩
    · rw [hapCh_hapWait]
    · rwa [hapPhase_hapWait]
  · intro s o c i e h hno hph he
    refine ⟨_, (exec_hapticTrigger h).trans (congrArg _ ((hapTrigger_driving hno hph).trans (hapStart_cont he))), hapPhase_hapBegin ..,
      effect_hapBegin i.isLt .., ?_, kept_hapBegin ..⟩
    rw [State.hapBegin, hapCh_hapEnter]
    rfl
  · intro s c hph hl hsus
    exact ⟨_, (exec_effectPhaseEnd_attack hph hl).trans (congrArg _ (if_pos hsus)), hapPhase_hapEnter (by decide) .., kept_hapEnter ..⟩
  · intro s c hph hl hsus
    exact ⟨_, (exec_effectPhaseEnd_attack hph hl).trans (congrArg _ ((if_neg (not_not_intro hsus)).trans (hapBrake_driving (.inl hph)))),
      hapPhase_hapEnter (by decide) .., kept_hapEnter ..⟩
  · intro s c hph hl
    exact ⟨_, (exec_effectPhaseEnd_sustain hph hl).trans (congrArg _ (hapBrake_driving (.inr hph))), hapPhase_hapEnter (by decide) ..,
      kept_hapEnter ..⟩
  · intro s c errHz emfMv e hph he htrack
    have htrack' : (s.hapEffect c).track = true := by rwa [State.hapEffect, he]
    exact ⟨_, exec_driveOffGap_track hph htrack', congrArg HapCh.freq4 (hapCh_hapFreq ..), kept_hapFreq ..⟩
  · intro s c errHz emfMv hph hemf hw
    exact ⟨_, (exec_driveOffGap_brake hph hemf).trans (congrArg _ (hapBrakeEnd_idle hw)), hapPhase_hapEnter (by decide) .., hiZ_hapIdle ..,
      kept_hapEnter ..⟩
  · intro s c hph hl hw
    refine ⟨_, (exec_brakeEnd_late hph hl).trans (congrArg _ (hapBrakeEnd_idle hw)), hapPhase_hapEnter (by decide) .., hiZ_hapIdle .., ?_,
      (State.Kept.refl s _ _).put.comp (kept_hapEnter ..)⟩
    exact ((kept_hapEnter ..).2 _ _ (by decide)).trans (get_incSat_one ..)
  · intro s c hph
    exact congrArg Host.Outcome.next (if_neg (by simp [hph]))
  · intro s c i e hph hat hw hi he
    have he : (s.hapWait c none).hap.effects[i]? = some e := he
    refine ⟨_, exec_waitTimeout hph hat hw, (hapStart_fresh_shows he hi c).1, (hapStart_fresh_shows he hi c).2, ?_,
      ((State.Kept.refl s _ _).comp (kept_hapWait ..)).comp (kept_hapStart_fresh he c)⟩
    rw [hapStart_fresh he, hapCh_hapFreq]
    change (((s.hapWait c none).hapBegin c i e).hapCh c).waiting = none
    rw [State.hapBegin, hapCh_hapEnter]
    exact congrArg HapCh.waiting (hapCh_hapWait s c none)
  · intro s hat hdrv
    have hidle : s.ticked.hapAllIdle := hapAllIdle_of_driving hdrv
    obtain ⟨hkept, -, hcool⟩ := foldl_hapTickOne_idle (xs := List.range 8) List.nodup_range (fun c hc => List.mem_range.1 hc) hidle
      s.ticked.hapSum s.ticked.hapBudget
    have hexec := exec_hapticTick hat
    rw [show s.ticked.hapDriving = [] from hdrv] at hexec
    refine ⟨_, hexec, ?_, (State.Kept.refl s _ _).upd.comp hkept⟩
    refine List.all_eq_true.2 fun c hc => ?_
    by_cases hcoil : s.get F.HAP_CH_CFG_R_COIL c = 0
    · simp [hcoil]
    · rw [hcool c hc hcoil, Bool.or_eq_true]
      exact .inr (decide_eq_true (p := s.hapCooled c = s.hapCooled c) rfl)
  · intro s hat
    exact ⟨_, exec_hapticTick hat, tickAt_foldl .., (State.Kept.refl s _ _).upd.comp (kept_foldl_hapTickOne ..)⟩
  · intro s c hlow hhigh hat
    have hcond : (decide (1 ≤ s.hapPhase c) && decide (s.hapPhase c ≤ 3) && decide ((s.hapCh c).driveAt + 2000000 ≤ s.now)) = true := by
      rw [decide_eq_true hlow, decide_eq_true hhigh, decide_eq_true hat]
      rfl
    exact ⟨_, congrArg Host.Outcome.next (if_pos hcond), get_put_same .., hiZ_hapIdle (s.hapWait c none) c,
      ((State.PartsKept.refl s _).comp (kept_hapKill ..).1).put⟩
  · intro s c
    refine ⟨_, rfl, get_put_same .., ?_, ?_⟩
    · dsimp only
      split
      · exact hiZ_hapIdle (s.hapWait c none) c
      · exact congrArg HapCh.hiZ (hapCh_modHap s c (fun h => { h with hiZ := true }))
    · exact (State.PartsKept.ite ((State.PartsKept.refl s _).comp (kept_hapKill ..).1) (State.PartsKept.refl s _).upd).put
  · intro s o c h hbuf
    refine ⟨_, next_guarded (w := { addr := hapAddr (0x100 + 0x20 * c), blk := 0x1E, new := 2 ^ 47, wide := true })
      (admits_of_reaches h rfl rfl (Nat.le_refl 2)) rfl, ?_, get_put_same .., ((State.Kept.refl s _ _).comp (kept_entered ..)).put.put⟩
    rw [State.hapClr, get_put_of_num (by decide), get_put_same]
    rfl

end Sys2Proof.Machine
end

section
/-! SUPPORT. Routes and ticks, messages that move, exports and imports. -/

namespace Sys2Proof.Machine

set_option Elab.async false

/-! ### Routes and ticks -/

section
variable {s : State}

/-- The register fields that showing the status of PlynLink changes, with what its interrupt wakes. -/
def plkShowFields : List Fld := [F.PLK_STATUS_REACHABLE, F.PLK_STATUS_MASTER_ID, F.PLK_STATUS_MASTER_HOPS, F.PLK_TICK_PERIOD_Q,
  F.PLK_STATUS_TICK_OK, F.ICU_SRC_PENDING, F.ICU_STATUS_WAKES, F.CCL_CORE_SLEEP, F.CCL_CORE_STATE, F.ICU_STATUS_WAKING, F.RTx_CTRL_SLEEP, F.RTx_CTRL_STATE, F.ICU_SRC_LAST,
  F.ICU_SRC_CTX, F.ICU_SRC_OFFERED, F.ICU_STATUS_WITHDRAWN]

theorem kept_plkLine (s : State) : s.Kept s.plkLine [.cores] plkShowFields := (State.Kept.refl s _ _).comp (kept_icuLine ..)

theorem kept_plkTickOk (s : State) : s.Kept s.plkTickOk [.cores] plkShowFields := (State.Kept.refl s _ _).put.comp (kept_plkLine ..)

theorem kept_plkStatus (s : State) : s.Kept s.plkStatus [.plk, .cores] plkShowFields := by
  have hs : s.Kept (s.put F.PLK_STATUS_REACHABLE 0 ((s.allRoutes.filter (fun e => decide (e.2.hops < 63))).length)) [.plk, .cores]
    plkShowFields := (State.Kept.refl s _ _).put
  refine State.Kept.comp ?_ (kept_plkTickOk ..)
  dsimp only
  split
  · exact hs.put.put
  · exact .ite (.put (.ite hs.put.put hs.put.put.upd)) (.ite hs.put.put hs.put.put.upd)

/-- Showing the status changes of PlynLink's own parts only whether the parent's time is good. -/
theorem plk_plkStatus (s : State) : ∃ ok ex, s.plkStatus.plk = { s.plk with parentOk := ok, goodEx := ex } := by
  have hline : ∀ t : State, t.plkTickOk.plk = t.plk := fun t => (kept_plkTickOk t).1.1 .plk (by decide)
  unfold State.plkStatus
  rw [hline]
  dsimp only
  split
  · exact ⟨s.plk.parentOk, s.plk.goodEx, rfl⟩
  · split
    · split
      · exact ⟨s.plk.parentOk, s.plk.goodEx, rfl⟩
      · exact ⟨s.plk.parentOk, s.plk.goodEx, rfl⟩
    · split
      · exact ⟨false, 0, rfl⟩
      · exact ⟨false, 0, rfl⟩

theorem advertise_nil (s : State) (es : List (Nat × Route)) : s.advertise [] es = s := rfl

/-- An origination with no port up. -/
theorem originate_alone (h : s.upPorts = []) : s.originate =
    (s.modPlk (fun k => { k with ownSeq := (k.ownSeq / 2 * 2 + 2) % 65536, origAt := s.now })).plkStatus := by
  have hports : (s.modPlk (fun k => { k with ownSeq := (k.ownSeq / 2 * 2 + 2) % 65536, origAt := s.now })).upPorts = [] := h
  rw [State.originate, hports, advertise_nil]

/-- A route that becomes unreachable with no port up and nothing that depends on it: only the route and the status change. -/
theorem setRoutes_lost {id : Nat} {r : Route} (hup : s.upPorts = []) (hreach : s.reachable id = true) (hid : id ≠ s.ownId)
    (hhops : r.hops = 63) : s.setRoutes [(id, r)] =
      ((s.modPlk (fun k => { k with routes := tset {} k.routes id r })).plkStatus).reachChange id false := by
  have hports : (s.modPlk (fun k => { k with routes := tset {} k.routes id r })).upPorts = [] := hup
  have hlost : (s.modPlk (fun k => { k with routes := tset {} k.routes id r })).reachable id = false := by
    have hroute : (s.modPlk (fun k => { k with routes := tset {} k.routes id r })).route id = r := tget_tset_same ..
    have hown : (s.modPlk (fun k => { k with routes := tset {} k.routes id r })).ownId = s.ownId := rfl
    simp [State.reachable, hroute, hown, hid, hhops]
  simp [State.setRoutes, hports, advertise_nil, hreach, hlost]

/-- The loss of a module that no aperture and no subscriber names. -/
theorem reachChange_unused {id : Nat} (hap : ∀ k < 64, s.get F.PLK_AP_CTRL_PEER k ≠ id) (hexp : s.plk.exports = []) :
    s.reachChange id false = s := by
  have hexp' : ∀ e, (s.exp_ e).subs = [] := fun e => by rw [State.exp_, hexp]; rfl
  have h64 : ∀ xs : List Nat, (∀ k ∈ xs, k < 64) → xs.foldl (fun s k =>
      if s.on F.PLK_AP_CTRL_EN k && s.get F.PLK_AP_CTRL_PEER k = id then s.put F.PLK_AP_CTRL_STATE k 4 else s) s = s := by
    intro xs hxs
    induction xs with
    | nil => rfl
    | cons k xs ih =>
      rw [List.foldl_cons, if_neg (by simp [hap k (hxs k List.mem_cons_self)])]
      exact ih fun k hk => hxs k (List.mem_cons_of_mem _ hk)
  have h16 : ∀ xs : List Nat, xs.foldl (fun s e => if (s.exp_ e).subs.any (fun x => x.peer = id) then
      s.modExp e (fun x => { x with subs := x.subs.filter (fun y => y.peer ≠ id) }) else s) s = s := by
    intro xs
    induction xs with
    | nil => rfl
    | cons e xs ih => rwa [List.foldl_cons, if_neg (by simp [hexp' e])]
  unfold State.reachChange
  rw [if_neg Bool.false_ne_true]
  dsimp only
  rw [h64 _ (fun k hk => List.mem_range.1 hk), h16]

end

theorem exec_routeOriginate {s : State} (hst : s.plk.started = true) (hat : s.plk.origAt + s.get F.PLK_CFG_ORIG_US * 1000 ≤ s.now) :
    exec .routeOriginate s = .next s.originate :=
  congrArg Host.Outcome.next (if_pos (by rw [hst, decide_eq_true hat]; rfl))

theorem exec_routeExpire {s : State} {id : Fin 16384} (hid : (id : Nat) ≠ s.ownId) (hreach : s.reachable id = true)
    (hat : (s.route id).freshAt + 4 * s.get F.PLK_CFG_ORIG_US * 1000 ≤ s.now) :
    exec (.routeExpire id) s = .next (s.setRoutes [((id : Nat), { s.route id with hops := 63 })]) := by
  refine congrArg Host.Outcome.next (if_neg ?_)
  rw [decide_eq_false hid, hreach, decide_eq_false (Nat.not_lt.2 hat)]
  decide

/-- The synchronisation's time noted. -/
def State.synced (s : State) : State := s.modPlk (fun k => { k with syncAt := s.now })

theorem exec_syncTick {s : State} (hst : s.plk.started = true) (hat : s.plk.syncAt + 1000000 ≤ s.now) :
    (∀ p, s.parentPort = some p → exec .syncTick s = .next (s.synced.sendLocal p { type := 8, arg := s.st })) ∧
    (s.parentPort = none → s.stState ≠ 2 → exec .syncTick s = .next s.synced) ∧
    (s.parentPort = none → s.stState = 2 → s.upPorts = [] → exec .syncTick s =
      .next (s.modPlk (fun k => { k with syncAt := s.now, selfFrom := some (k.selfFrom.getD s.now) }))) := by
  have hcond : ¬ (!s.plk.started || decide (s.now < s.plk.syncAt + 1000000)) = true := by
    rw [hst, decide_eq_false (Nat.not_lt.2 hat)]
    decide
  have hpar : s.synced.parentPort = s.parentPort := rfl
  change (∀ p, s.parentPort = some p → execSyncTick s = _) ∧ (_ → _ → execSyncTick s = _) ∧ (_ → _ → _ → execSyncTick s = _)
  unfold execSyncTick
  rw [if_neg hcond]
  refine ⟨fun p hp => ?_, fun hp hvalid => ?_, fun hp hinvalid hup => ?_⟩
  · change Host.Outcome.next (match s.synced.parentPort with | some p => _ | none => _) = _
    rw [hpar, hp]
    rfl
  · change Host.Outcome.next (match s.synced.parentPort with | some p => _ | none => _) = _
    rw [hpar, hp]
    exact congrArg Host.Outcome.next (if_neg hvalid)
  · change Host.Outcome.next (match s.synced.parentPort with | some p => _ | none => _) = _
    rw [hpar, hp]
    refine congrArg Host.Outcome.next ((if_pos hinvalid).trans ?_)
    change (State.upPorts s).foldl _ _ = _
    rw [hup]
    rfl

/-- The number of the tick shown, and the tick noted. -/
def State.tickShown (s : State) : State := (s.put F.PLK_TICK_NUM_K 0 s.tickNum).modPlk (fun k => { k with ticked := true })

/-- FRAME_SYNC rises. -/
def State.frameSyncUp (s : State) : State := { s with pins := { s.pins with frameSync := true, frameSyncFall := s.now + 1000 } }

theorem get_frameSyncUp (s : State) (f : Fld) (i : Nat) : s.frameSyncUp.get f i = s.get f i := rfl

theorem plk_frameSyncUp (s : State) : s.frameSyncUp.plk = s.plk := rfl

theorem kept_frameSyncUp (s : State) : s.Kept s.frameSyncUp [.pins] [] := (State.Kept.refl s _ _).upd

theorem exec_frameTick {s : State} (hok : s.get F.PLK_STATUS_TICK_OK = 1) (hper : s.get F.PLK_TICK_PERIOD_Q ≠ 0)
    (hnew : (s.plk.ticked && s.get F.PLK_TICK_NUM_K = s.tickNum) = false) : exec .frameTick s = .next (if s.tickShown.pm.frameSyncPlyn then
      s.tickShown.frameSyncUp else s.tickShown) := by
  refine congrArg Host.Outcome.next (if_neg ?_)
  rw [hnew, on_eq, hok, decide_eq_false hper]
  decide

theorem num_tickShown {s : State} (h : s.tickNum < 2 ^ 64) : s.tickShown.get F.PLK_TICK_NUM_K = s.tickNum :=
  (get_modPlk ..).trans ((get_put_same ..).trans (Nat.mod_eq_of_lt h))

theorem kept_tickShown (s : State) : s.Kept s.tickShown [.plk] [F.PLK_TICK_NUM_K] := (State.Kept.refl s _ _).put.upd

theorem pm_tickShown (s : State) : s.tickShown.pm = s.pm := (kept_tickShown s).1.1 .pm (by decide)

theorem ticked_tickShown (s : State) : s.tickShown.plk.ticked = true := rfl

theorem tickOk_plkTickOk {s : State} (h : s.tickOk = false) : s.plkTickOk.get F.PLK_STATUS_TICK_OK = 0 := by
  rw [State.plkTickOk, State.plkLine, get_icuLine (by decide), putB_eq, get_put_same, h]
  rfl

/-- The parent's time lost. -/
def State.parentLost (s : State) : State := s.modPlk (fun k => { k with parentOk := false, goodEx := 0 })

/-- FRAME_SYNC falls where it is PlynLink's and the tick is not good. -/
def State.tickPin (s : State) : State :=
  if s.pm.frameSyncPlyn && !s.on F.PLK_STATUS_TICK_OK then { s with pins := { s.pins with frameSync := false } } else s

theorem execTickLost_eq (s : State) : execTickLost s =
    .next (if decide (s.plk.rspAt + 10000000 ≤ s.now) then s.parentLost else s).plkTickOk.tickPin := by
  unfold execTickLost State.tickPin
  rfl

theorem kept_tickPin (s : State) : s.Kept s.tickPin [.pins] [] := .ite (State.Kept.refl s _ _).upd (State.Kept.refl s _ _)

theorem tickPin_other {s : State} (h : s.pm.frameSyncPlyn = false) : s.tickPin = s := if_neg (by rw [h]; exact Bool.false_ne_true)

/-- Settles O28: each event's guards hold, and with no port up an advertisement sends nothing. -/
theorem routesAndTicksKeepTime : Obligations.RoutesAndTicksKeepTime := by
  unfold Obligations.RoutesAndTicksKeepTime
  refine ⟨fun _ => exec_routeOriginate, ?_, ?_, fun _ _ => exec_routeExpire, ?_, fun _ _ hst hpar hat => (exec_syncTick hst hat).1 _ hpar,
    fun _ hst hpar hinv hup hat => (exec_syncTick hst hat).2.2 hpar hinv hup, fun _ hst hpar hval hat => (exec_syncTick hst hat).2.1 hpar hval,
    ?_, ?_, ?_, ?_⟩
  · intro s hst hup hat
    refine ⟨_, (exec_routeOriginate hst hat).trans (congrArg _ (originate_alone hup)), ?_,
      (State.PartsKept.refl s _).upd.comp (kept_plkStatus ..).1⟩
    obtain ⟨ok, ex, hplk⟩ := plk_plkStatus (s.modPlk (fun k => { k with ownSeq := (k.ownSeq / 2 * 2 + 2) % 65536, origAt := s.now }))
    rw [hplk]
    rfl
  · intro s hst hat
    exact congrArg Host.Outcome.next (if_pos (by rw [hst, decide_eq_true hat]; rfl))
  · intro s id hid hreach hat hup hexp hap
    obtain ⟨ok, ex, hplk⟩ := plk_plkStatus (s.modPlk (fun k => { k with routes := tset {} k.routes id { s.route id with hops := 63 } }))
    have hkept := kept_plkStatus (s.modPlk (fun k => { k with routes := tset {} k.routes id { s.route id with hops := 63 } }))
    have hroute : (s.modPlk (fun k => { k with routes := tset {} k.routes id { s.route id with hops := 63 } })).plkStatus.route id =
        { s.route id with hops := 63 } := by
      rw [State.route, hplk]
      exact tget_tset_same _ s.plk.routes _ _
    have hown : (s.modPlk (fun k => { k with routes := tset {} k.routes id { s.route id with hops := 63 } })).plkStatus.ownId = s.ownId :=
      hkept.2 _ _ (by decide)
    have hset := (setRoutes_lost (r := { s.route id with hops := 63 }) hup hreach hid rfl).trans
      (reachChange_unused (fun k hk => by rw [hkept.2 _ _ (by decide)]; exact hap ⟨k, hk⟩) (by rw [hplk]; exact hexp))
    refine ⟨_, (exec_routeExpire hid hreach hat).trans (congrArg _ hset), hroute, ?_, (State.PartsKept.refl s _).upd.comp hkept.1⟩
    rw [State.reachable, hroute, hown, decide_eq_false hid]
    exact (Bool.false_or _).trans (decide_eq_false (Nat.lt_irrefl 63))
  · intro s hok hper hnew hsync hlt
    exact ⟨_, (exec_frameTick hok hper hnew).trans (congrArg _ (if_pos ((pm_tickShown s).symm ▸ hsync))),
      (get_frameSyncUp ..).trans (num_tickShown hlt), rfl,
      (congrArg Plk.ticked (plk_frameSyncUp s.tickShown)).trans (ticked_tickShown s),
      ((State.Kept.refl s _ _).comp (kept_tickShown s)).comp (kept_frameSyncUp _)⟩
  · intro s hok hper hnew hsync hlt
    exact ⟨_, (exec_frameTick hok hper hnew).trans (congrArg _ (if_neg
      (by rw [pm_tickShown, hsync]; exact Bool.false_ne_true))), num_tickShown hlt, ticked_tickShown s, kept_tickShown s⟩
  · intro s hat hhops
    have hlost : s.parentLost.tickOk = false := by
      have hhops' : s.parentLost.get F.PLK_STATUS_MASTER_HOPS ≠ 0 := hhops
      rw [State.tickOk, decide_eq_false hhops']
      exact Bool.and_false _
    have hkept : s.PartsKept s.parentLost.plkTickOk [.plk, .pins, .cores] := (State.PartsKept.refl s _).upd.comp (kept_plkTickOk ..).1
    have hplk : s.parentLost.plkTickOk.plk = s.parentLost.plk := (kept_plkTickOk _).1.1 .plk (by decide)
    have hexec : exec .tickLost s = .next s.parentLost.plkTickOk.tickPin := (execTickLost_eq s).trans (by rw [if_pos (decide_eq_true hat)])
    have hpin := kept_tickPin s.parentLost.plkTickOk
    have hplk' : s.parentLost.plkTickOk.tickPin.plk = s.parentLost.plk := Eq.trans (hpin.1.1 .plk (by decide)) hplk
    exact ⟨_, hexec, (hpin.2 _ _ (by decide)).trans (tickOk_plkTickOk hlost), congrArg Plk.parentOk hplk', congrArg Plk.goodEx hplk',
      hkept.comp hpin.1⟩
  · intro s hat hsync
    have hpm : s.plkTickOk.pm.frameSyncPlyn = false := by rw [(kept_plkTickOk s).1.1 .pm (by decide)]; exact hsync
    have hexec : exec .tickLost s = .next s.plkTickOk.tickPin :=
      (execTickLost_eq s).trans (by rw [if_neg (by rw [decide_eq_true_eq]; exact Nat.not_le.2 hat)])
    rw [hexec, tickPin_other hpm]

/-! ### What a message sent changes -/

/-- The register fields that a message sent or dropped changes, with what the counters of its event wake. -/
def linkFields : List Fld := [F.PLK_STATUS_DROPS, F.PMU_CNT_COUNT, F.PMU_CTRL_FREEZE_CAB, F.PMU_OVF_OVF, F.PMU_CTRL_FREEZE_OPEN,
  F.ICU_SRC_PENDING, F.ICU_STATUS_WAKES, F.CCL_CORE_SLEEP, F.CCL_CORE_STATE, F.ICU_STATUS_WAKING, F.RTx_CTRL_SLEEP, F.RTx_CTRL_STATE,
  F.ICU_SRC_LAST, F.ICU_SRC_CTX, F.ICU_SRC_OFFERED, F.ICU_STATUS_WITHDRAWN]

/-- From `s` to `t` only messages move: the ports of PlynLink, what they sent, and what counting it changes. -/
def State.Sent (s t : State) : Prop := s.Kept t [.plk, .cores] linkFields ∧ ∃ ports out, t.plk = { s.plk with ports := ports, out := out }

section
variable {r s t : State}

theorem State.Sent.refl (s : State) : s.Sent s := ⟨State.Kept.refl s _ _, s.plk.ports, s.plk.out, rfl⟩

theorem State.Sent.trans (h : r.Sent s) (h' : s.Sent t) : r.Sent t := by
  obtain ⟨hk, ps, out, hp⟩ := h
  obtain ⟨hk', ps', out', hp'⟩ := h'
  exact ⟨hk.trans hk', ps', out', by rw [hp', hp]⟩

theorem State.Sent.ite {c : Prop} {i : Decidable c} (hs : r.Sent s) (ht : r.Sent t) : r.Sent (if c then s else t) := by
  split
  · exact hs
  · exact ht

theorem State.Sent.foldl {α : Type} {g : State → α → State} {xs : List α} (hs : r.Sent s) (hg : ∀ (s : State) x, s.Sent (g s x)) :
    r.Sent (xs.foldl g s) := by
  induction xs generalizing s with
  | nil => exact hs
  | cons x xs ih => exact ih (hs.trans (hg s x))

/-- A change that leaves PlynLink's part alone. -/
theorem State.Sent.ofKept (h : s.Kept t [.cores] linkFields) : s.Sent t :=
  ⟨(State.Kept.refl s _ _).comp h, s.plk.ports, s.plk.out, h.1.1 .plk (by decide)⟩

theorem sent_modPport (s : State) (p : Nat) (g : PlkPortRt → PlkPortRt) : s.Sent (s.modPport p g) := ⟨(State.Kept.refl s _ _).upd, _, s.plk.out, rfl⟩

theorem sent_plkDrop (s : State) : s.Sent s.plkDrop := .ofKept (State.Kept.refl s _ _).put

theorem sent_pmuEvent (s : State) (b ev sub inc : Nat) (tag : Option Nat) (open_ : Bool) : s.Sent (s.pmuEvent b ev sub inc tag open_) :=
  .ofKept ((State.Kept.refl s _ _).comp (kept_pmuEvent ..))

theorem sent_flitOut (s : State) (p : Nat) (f : Flit) : s.Sent (s.flitOut p f) := by
  have hout : ∀ t : State, t.Sent (t.modPlk (fun k => { k with out := k.out ++ [(p, f)] })) :=
    fun t => ⟨(State.Kept.refl t _ _).upd, t.plk.ports, _, rfl⟩
  refine State.Sent.trans ?_ (hout _)
  exact .ite (.trans (.ite (sent_pmuEvent ..) (.refl s)) (sent_pmuEvent ..)) (.ite (sent_pmuEvent ..) (.refl s))

theorem sent_pump (s : State) (p n : Nat) : s.Sent (s.pump p n) := by
  induction n generalizing s with
  | zero => exact .refl s
  | succ n ih =>
    rw [State.pump]
    refine .ite (.refl s) ?_
    split
    · exact .refl s
    · exact ((sent_flitOut ..).trans (sent_modPport ..)).trans (ih _)

theorem sent_sendOn (s : State) (p : Nat) (m : Msg) : s.Sent (s.sendOn p m) := .ite (.refl s) ((sent_modPport ..).trans (sent_pump ..))

theorem sent_sendTo (s : State) (m : Msg) : s.Sent (s.sendTo m) := .ite (sent_sendOn ..) (sent_plkDrop s)

theorem sent_returnHeld (s : State) : s.Sent s.returnHeld :=
  .foldl (.refl s) fun t _ => .ite (.refl t) ((sent_modPport ..).trans (sent_flitOut ..))

/-! What messages that move leave alone. -/

theorem State.Sent.part (h : s.Sent t) : s.PartsKept t [.plk, .cores] := h.1.1

theorem State.Sent.get (h : s.Sent t) {f : Fld} (hf : ∀ g ∈ linkFields, f.num ≠ g.num) (i : Nat) : t.get f i = s.get f i := h.1.2 f i hf

theorem State.Sent.imp (h : s.Sent t) (i : Nat) : t.imp i = s.imp i := by
  obtain ⟨-, _, _, hp⟩ := h
  rw [State.imp, hp]
  rfl

theorem State.Sent.exp_ (h : s.Sent t) (e : Nat) : t.exp_ e = s.exp_ e := by
  obtain ⟨-, _, _, hp⟩ := h
  rw [State.exp_, hp]
  rfl

theorem State.Sent.opening (h : s.Sent t) : t.plk.opening = s.plk.opening := by
  obtain ⟨-, _, _, hp⟩ := h
  rw [hp]

theorem State.Sent.sessions (h : s.Sent t) : t.plk.sessions = s.plk.sessions := by
  obtain ⟨-, _, _, hp⟩ := h
  rw [hp]

/-- Memory, Drawers and what the host gets. -/
theorem State.PartsKept.world (h : s.PartsKept t [.plk, .cores]) : t.mem = s.mem ∧ t.drw = s.drw ∧ t.hostOut = s.hostOut :=
  ⟨h.1 .mem (by decide), h.1 .drw (by decide), h.1 .hostOut (by decide)⟩

end

/-- A block that is reached admits a write that the image governs where its origin is free of the image. -/
theorem admits_of_imgFree {s : State} {o : Origin} {b : Nat} {w : RegWrite} (h : s.Reaches o b) (hblk : w.blk = b) (himg : s.imgFree o b = true)
    (hroom : (if w.wide then 2 else 1) + w.more ≤ 2) : s.Admits o w := by
  obtain ⟨hon, hwait, hown, -⟩ := admits_of_reaches (w := { w with img := 0 }) h hblk rfl hroom
  exact ⟨hon, hwait, hown, by simp [State.imgDenied, hblk, himg]⟩

/-! ### Exports and imports -/

section
variable {s : State} {e i v : Nat}

theorem exp_modExp (s : State) (e : Nat) (g : ExportRt → ExportRt) : (s.modExp e g).exp_ e = g (s.exp_ e) := tget_tset_same ..

theorem imp_modImp (s : State) (i : Nat) (g : ImportRt → ImportRt) : (s.modImp i g).imp i = g (s.imp i) := tget_tset_same ..

theorem kept_modExp (s : State) (e : Nat) (g : ExportRt → ExportRt) : s.Kept (s.modExp e g) [.plk] [F.PLK_EXP_STATUS_SUBS] :=
  (State.Kept.refl s _ _).upd.put

/-- Only changes of an import's runtime that differ in their result differ. -/
theorem modImp_congr {g g' : ImportRt → ImportRt} (h : g (s.imp i) = g' (s.imp i)) : s.modImp i g = s.modImp i g' := by
  unfold State.modImp State.modPlk
  rw [h]

/-- A subscriber after a generation ended. -/
def Subscriber.committed (b : Subscriber) : Subscriber :=
  { b with inGen := false, acked := false, resync := b.resync || (b.inGen && !b.acked) }

/-- A generation that nobody acknowledged ends without a message. -/
theorem genCommit_silent (hgen : (s.exp_ e).gen.isSome = true) (hsubs : ∀ b ∈ (s.exp_ e).subs, (b.inGen && b.acked) = false) :
    s.genCommit e = s.modExp e (fun x => { x with gen := none, subs := x.subs.map Subscriber.committed }) := by
  obtain ⟨v, hv⟩ := Option.isSome_iff_exists.1 hgen
  have hnone : (s.exp_ e).subs.filter (fun b => b.inGen && b.acked) = [] :=
    List.filter_eq_nil_iff.2 fun b hb => by rw [hsubs b hb]; exact Bool.false_ne_true
  unfold State.genCommit
  simp only [hv, hnone, List.foldl_nil]
  rfl

/-- A generation with value `v` is in flight. -/
def ExportRt.begun (x : ExportRt) (v now : Nat) : ExportRt :=
  { x with last := max x.last v, gen := some v, endAt := now,
           subs := x.subs.map (fun b => if True then { b with inGen := true, acked := false, resync := false } else b) }

/-- The target timeline of exporting mirror `e` is raised to `v`. -/
def State.expRaise (s : State) (e v : Nat) : State :=
  (s.incSat F.PLK_EXP_STATUS_TILES e 0).tlRaise ((s.incSat F.PLK_EXP_STATUS_TILES e 0).expField e 0x24 2 % 4096) v

/-- A generation that has no subscriber. -/
def State.genAlone (s : State) (e v : Nat) : State := (s.expRaise e v).modExp e (fun x => x.begun v (s.expRaise e v).now)

theorem genRun_alone (h : (s.exp_ e).subs = []) : s.genRun e v (fun _ => true) = (s.genAlone e v).genCheck e := by
  have htiles : (List.range (s.expTw e * s.expTh e)).filter (fun _ => false) = [] := List.filter_eq_nil_iff.2 fun _ _ => Bool.false_ne_true
  unfold State.genRun
  simp only [h, List.filter_nil, List.map_nil, List.any_nil, htiles, List.foldl_nil, List.flatMap_nil, ite_self]
  rfl

theorem kept_expRaise (s : State) (e v : Nat) : s.Kept (s.expRaise e v) [.tls] [F.PLK_EXP_STATUS_TILES, F.PLK_EXP_STATUS_COALESCED] :=
  (State.Kept.refl s _ _).put.comp (kept_tlRaise ..)

theorem kept_genAlone (s : State) (e v : Nat) : s.Kept (s.genAlone e v) [.plk, .tls] [F.PLK_EXP_STATUS_TILES, F.PLK_EXP_STATUS_COALESCED,
    F.PLK_EXP_STATUS_SUBS] :=
  ((State.Kept.refl s _ _).comp (kept_expRaise ..)).comp (kept_modExp ..)

theorem exp_expRaise (s : State) (e v : Nat) : (s.expRaise e v).exp_ e = s.exp_ e := by
  rw [State.exp_, (kept_expRaise s e v).1.1 .plk (by decide)]
  rfl

theorem exp_genAlone (s : State) (e v : Nat) : (s.genAlone e v).exp_ e = (s.exp_ e).begun v (s.expRaise e v).now := by
  rw [State.genAlone, exp_modExp, exp_expRaise]

end

/-- An import that begins anew. -/
def ImportRt.begun (x : ImportRt) (now : Nat) : ImportRt :=
  { x with v16 := none, staged := [], complete := [], ended := none, retry := false, stopped := false, sentAt := now }

/-- Import `i` begins anew, in state `st`. -/
def State.impBegin (s : State) (i st : Nat) : State := (s.modImp i (fun x => x.begun s.now)).put F.PLK_IMP_STATUS_STATE i st

theorem sent_subscribe (s : State) (i st : Nat) : (s.impBegin i st).Sent (s.subscribe i st) :=
  (sent_returnHeld (s.impBegin i st)).trans (sent_sendTo (s.impBegin i st).returnHeld _)

theorem kept_impBegin (s : State) (i st : Nat) : s.Kept (s.impBegin i st) [.plk] [F.PLK_IMP_STATUS_STATE] := by
  unfold State.impBegin State.modImp State.modPlk
  exact (State.Kept.refl s _ _).upd.put

theorem imp_impBegin (s : State) (i st : Nat) : (s.impBegin i st).imp i = (s.imp i).begun s.now := imp_modImp s i (fun x => x.begun s.now)

theorem exec_subscribeRetry {s : State} {i : Fin 16} (hen : s.impEn i = true) (hretry : (s.imp i).retry = true)
    (hat : (s.imp i).sentAt + 100000000 ≤ s.now) : exec (.subscribeRetry i) s = .next (s.subscribe i 1) :=
  congrArg Host.Outcome.next (if_pos (by rw [hen, hretry, decide_eq_true hat]; rfl))

/-- A commit changes layers, with the PENDING fields of their Drawers, and the flip counter. -/
theorem kept_commitApply (s : State) (who : Nat) (sel : List (Nat × Desc)) (group : Bool) (seq : Nat) (cx : Option Nat) :
    s.Kept (s.commitApply who sel group seq cx) [.layers, .flipCtr] [F.DRW_LS_STATUS_PENDING, F.DRW_LS_STATUS_PENDING_SEQ] := by
  unfold State.commitApply
  refine State.Kept.upd (State.Kept.foldl (State.Kept.refl s _ _) fun t p ht => ?_)
  split
  · exact ht
  · unfold State.onLs
    dsimp only
    split
    · exact ht.upd
    · exact ht.upd.put.put

/-- An import whose generation is decoded. -/
def ImportRt.decoded (x : ImportRt) : ImportRt := { x with v16 := none, staged := [], complete := [], ended := none, changed := x.complete }

/-- Import `i` with its generation decoded, complete. -/
def State.impDecoded (s : State) (i : Nat) : State := (s.modImp i ImportRt.decoded).returnHeld.put F.PLK_IMP_STATUS_STATE i 2

/-- The flip of an import's layers, where it is sound. -/
def State.impFlip (s : State) (descs : List (Nat × List Byte)) : State :=
  if (s.commitCheck 0x40 (descs.map (fun p => (p.1, Desc.parse p.2))) false).1 = 0 then
    s.commitApply 0x40 (descs.map (fun p => (p.1, Desc.parse p.2))) false 0 none else s

theorem kept_impFlip (s : State) (descs : List (Nat × List Byte)) : s.Kept (s.impFlip descs) [.layers, .flipCtr] [F.DRW_LS_STATUS_PENDING,
    F.DRW_LS_STATUS_PENDING_SEQ] := .ite (kept_commitApply ..) (State.Kept.refl s _ _)

theorem exec_importDecode {s : State} {i : Fin 16} {descs : List (Nat × List Byte)} {v fmt w h : Nat}
    (hend : (s.imp i).ended = some (v, fmt, w, h)) (hst : (s.imp i).staged = []) (hch : (s.imp i).changed = [])
    (hout : s.mirrorIn (s.impField i (8 * (1 - s.impFront i)) 8) false = false)
    (hin : s.mirrorIn (s.impField i (8 * (1 - s.impFront i)) 8) true = false) : ∃ m, exec (.importDecode i descs) s =
      .next (((s.impDecoded i).impFlip descs).sendTo m) := by
  change ∃ m, execImportDecode i descs s = _
  unfold execImportDecode
  simp only [hend, hst, hch, hout, hin, Bool.or_self, Bool.false_eq_true, if_false, List.foldl_nil]
  exact ⟨_, rfl⟩

theorem kept_modImp (s : State) (i : Nat) (g : ImportRt → ImportRt) : s.Kept (s.modImp i g) [.plk] [] := by
  unfold State.modImp State.modPlk
  exact (State.Kept.refl s _ _).upd

theorem imp_impDecoded (s : State) (i : Nat) : (s.impDecoded i).imp i = (s.imp i).decoded := by
  have hput : ∀ t : State, (t.put F.PLK_IMP_STATUS_STATE i 2).imp i = t.imp i := fun _ => rfl
  rw [State.impDecoded, hput, (sent_returnHeld _).imp, imp_modImp]

theorem kept_impDecoded (s : State) (i : Nat) : s.PartsKept (s.impDecoded i) [.plk, .cores] :=
  (((State.PartsKept.refl s _).comp (kept_modImp ..).1).comp (sent_returnHeld _).part).put

/-- Settles O30: with nobody to send to a generation is one change of the mirror; messages that move leave the rest alone. -/
theorem mirrorsFollowTheirGenerations : Obligations.MirrorsFollowTheirGenerations := by
  unfold Obligations.MirrorsFollowTheirGenerations
  have start : ∀ (s : State) (e : Fin 16), s.expEn e = true → (s.exp_ e).gen = none →
      (s.exp_ e).last < (s.tl (s.expField e 0x22 2 % 4096)).value →
      exec (.generationStart e) s = .next (s.genRun e (s.tl (s.expField e 0x22 2 % 4096)).value (fun _ => true)) :=
    fun s e hen hgen hlast => congrArg Host.Outcome.next (if_pos (by rw [hen, hgen, decide_eq_true hlast]; rfl))
  have timeout : ∀ (s : State) (e : Fin 16), (s.exp_ e).endAt + 20000000 ≤ s.now → exec (.genAckTimeout e) s = .next (s.genCommit e) :=
    fun s e hat => congrArg Host.Outcome.next (if_neg (Nat.not_lt.2 hat))
  refine ⟨?_, start, timeout, ?_, ?_, fun _ _ => rfl, ?_, fun _ _ => exec_subscribeRetry, ?_⟩
  · intro s e hen hgen hsubs hlast
    have hexp := exp_genAlone s e (s.tl (s.expField e 0x22 2 % 4096)).value
    have hnone : ((s.genAlone e (s.tl (s.expField e 0x22 2 % 4096)).value).exp_ e).subs = [] := by rw [hexp, ExportRt.begun, hsubs]; rfl
    have hcheck : (s.genAlone e (s.tl (s.expField e 0x22 2 % 4096)).value).genCheck e = _ :=
      (if_pos (by rw [hnone]; rfl)).trans (genCommit_silent (by rw [hexp]; rfl) (fun b hb => by rw [hnone] at hb; exact absurd hb List.not_mem_nil))
    obtain ⟨hsame, -⟩ := ((State.Kept.refl s [.plk, .tls] [F.PLK_EXP_STATUS_TILES, F.PLK_EXP_STATUS_COALESCED, F.PLK_EXP_STATUS_SUBS]).comp
      (kept_genAlone s e (s.tl (s.expField e 0x22 2 % 4096)).value)).comp (kept_modExp _ e (fun x =>
        { x with gen := none, subs := x.subs.map Subscriber.committed })) |>.1
    refine ⟨_, (start s e hen hgen hlast).trans (congrArg _ ((genRun_alone hsubs).trans hcheck)), ?_, ?_, ?_, hsame .mem (by decide),
      hsame .drw (by decide), hsame .layers (by decide), hsame .hostOut (by decide)⟩
    · rw [exp_modExp, hexp]
      exact max_eq_right hlast.le
    · rw [exp_modExp]
    · rw [exp_modExp, hnone]
      rfl
  · intro s e hat hgen hacked
    have hsilent := genCommit_silent (e := e) hgen fun b hb => by
      have hb' := List.all_eq_true.1 hacked b hb
      rw [Bool.not_eq_true'] at hb'
      rw [hb', Bool.and_false]
    obtain ⟨hsame, -⟩ := (kept_modExp s e (fun x => { x with gen := none, subs := x.subs.map Subscriber.committed })).1
    refine ⟨_, (timeout s e hat).trans (congrArg _ hsilent), ?_, ?_, hsame .mem (by decide), hsame .drw (by decide), hsame .hostOut (by decide)⟩
    · rw [exp_modExp]
    · rw [exp_modExp]
      refine List.map_congr_left fun b hb => ?_
      have hb' := List.all_eq_true.1 hacked b hb
      rw [Bool.not_eq_true'] at hb'
      rw [Subscriber.committed, hb', Bool.not_false, Bool.and_true]
  · intro s i descs v fmt w h hend hst hch hout hin
    obtain ⟨m, hexec⟩ := exec_importDecode (descs := descs) hend hst hch hout hin
    have hsent := sent_sendTo ((s.impDecoded i).impFlip descs) m
    have hflip := kept_impFlip (s.impDecoded i) descs
    have himp : ((s.impDecoded i).impFlip descs).imp i = (s.impDecoded i).imp i := by
      rw [State.imp, hflip.1.1 .plk (by decide)]
      rfl
    obtain ⟨hsame, -⟩ := ((State.PartsKept.refl s [.plk, .cores, .layers, .flipCtr]).comp (kept_impDecoded s i)).comp hflip.1 |>.comp hsent.part
    refine ⟨_, hexec, ?_, ?_, hsame .mem (by decide), hsame .drw (by decide), hsame .hostOut (by decide)⟩
    · rw [hsent.imp, himp, imp_impDecoded]
      rfl
    · exact (hsent.get (by decide) _).trans ((hflip.2 _ _ (by decide)).trans (get_put_same ..))
  · intro s i v at_ hone hat
    have hdue : (s.imp i).commits.filter (fun c => c.2 ≤ s.st) = [(v, at_)] := by rw [hone]; simp [hat]
    have hleft : (s.imp i).commits.filter (fun c => s.st < c.2) = [] := by rw [hone]; simp [hat]
    have hexec : exec (.commitInstant i) s = .next (((s.imp i).commits.filter (fun c => c.2 ≤ s.st)).foldl (fun s c => s.impRaise i c.1)
      (s.modImp i (fun x => { x with commits := x.commits.filter (fun c => s.st < c.2) }))) := rfl
    rw [hexec, hdue, modImp_congr (g' := fun x => { x with commits := [] }) (by rw [hleft])]
    rfl
  · intro s i hen hretry hat
    have hsent := sent_subscribe s i 1
    obtain ⟨hsame, -⟩ := ((State.PartsKept.refl s [.plk, .cores]).comp (kept_impBegin s i 1).1).comp hsent.part
    refine ⟨_, exec_subscribeRetry hen hretry hat, ?_, ?_, (hsent.get (by decide) _).trans (get_put_same ..), hsame .mem (by decide),
      hsame .drw (by decide), hsame .hostOut (by decide)⟩
    · rw [hsent.imp, imp_impBegin]
      rfl
    · rw [hsent.imp, imp_impBegin]
      rfl

end Sys2Proof.Machine
end

section
/-! SUPPORT. Errors and their resets, apertures and windows. -/

namespace Sys2Proof.Machine

set_option Elab.async false

/-! ### What a recorded error changes -/

theorem partsKept_hutchRaise (s : State) (n : Nat) : s.PartsKept (s.hutchRaise n) [] := (State.PartsKept.refl s _).put

theorem kept_faultN (s : State) (c : FaultCause) : s.Kept (s.faultN c) [.pins] [] :=
  .ite (State.Kept.refl s _ _) (State.Kept.refl s _ _).upd

theorem kept_policyFault (s : State) (c : Nat) (e : ErrIn) : s.Kept (s.policyFault c e) [.pins] [] := by
  have hif : ∀ (t : State) {b : Bool} (f : FaultCause), s.Kept t [.pins] [] → s.Kept (if b then t.faultN f else t) [.pins] [] :=
    fun _ _ _ ht => .ite (ht.comp (kept_faultN ..)) ht
  exact hif _ _ (hif _ _ (hif _ _ (State.Kept.refl s _ _)))

theorem kept_setErrq (s : State) (d : Nat) (q : ErrQ) : s.Kept (s.setErrq d q) [.err, .cores] [F.ICU_SRC_PENDING, F.ICU_STATUS_WAKES,
    F.CCL_CORE_SLEEP, F.CCL_CORE_STATE, F.ICU_STATUS_WAKING, F.RTx_CTRL_SLEEP, F.RTx_CTRL_STATE, F.ICU_SRC_LAST, F.ICU_SRC_CTX,
    F.ICU_SRC_OFFERED, F.ICU_STATUS_WITHDRAWN] :=
  (State.Kept.refl s _ _).upd.comp (kept_icuLine ..)

/-- A queue that was set is what was set. -/
theorem errq_setErrq (s : State) (d : Nat) (q : ErrQ) : (s.setErrq d q).errq d = q := by
  have h : (s.setErrq d q).err = { s.err with queues := tset {} s.err.queues d q } := (kept_icuLine ..).1.1 .err (by decide)
  rw [State.errq, h]
  exact tget_tset_same ..

/-- The parts that a start of recovery changes. -/
abbrev recoveryParts : List Part := [.phase, .pins, .boot, .dbg, .templates, .layers, .heads, .dps, .tell, .plk, .hap, .tch, .aud]

theorem partsKept_recoveryStart (s : State) : s.PartsKept s.recoveryStart recoveryParts := by
  have hs := State.PartsKept.refl s recoveryParts
  unfold State.recoveryStart
  dsimp only
  generalize hu : List.foldl _ _ (List.range 4) = u
  have hk : s.PartsKept u recoveryParts := by
    rw [← hu]
    refine .foldl (.foldl (.foldl hs.put.put.put fun _ _ ht => ?_) fun _ _ ht => ?_) fun _ _ ht => ?_
    · exact .ite ht.put.put.put.put.put.put.put ht.put.put.put.put.put.put.put.put
    · exact ht.put.put
    · exact ht.put.put
  exact hk.upd

theorem partsKept_clockActions (s : State) : s.PartsKept s.clockActions [.pm, .freeCtr] :=
  have hs := State.PartsKept.refl s _
  .put (.upd (.ite hs.upd hs))

/-- From `s` to `t` an error has acted on the module: what its record, its class and a start of recovery may change has changed, and
PlynLink's part is as it was, or without its ports. -/
def State.ErrorActed (s t : State) : Prop :=
  s.PartsKept t ([.err, .cores, .pm, .freeCtr] ++ recoveryParts) ∧ (t.plk = s.plk ∨ t.plk = { s.plk with ports := [], started := false })

section
variable {r s t : State}

theorem State.ErrorActed.refl (s : State) : s.ErrorActed s := ⟨.refl s _, .inl rfl⟩

theorem State.ErrorActed.ite {c : Prop} {i : Decidable c} (hs : r.ErrorActed s) (ht : r.ErrorActed t) :
    r.ErrorActed (if c then s else t) := by
  split
  · exact hs
  · exact ht

/-- A change that leaves PlynLink's part alone. -/
theorem State.ErrorActed.comp {qs : List Part} (h : r.ErrorActed s) (h' : s.PartsKept t qs)
    (hq : qs ⊆ [.err, .cores, .pm, .freeCtr, .pins] := by decide) : r.ErrorActed t := by
  obtain ⟨hp, hplk⟩ := h
  have hs : s.PartsKept t [.err, .cores, .pm, .freeCtr, .pins] := (State.PartsKept.refl s _).comp h' hq
  exact ⟨hp.comp hs, (hs.1 .plk (by decide)).symm ▸ hplk⟩

theorem State.ErrorActed.put {f : Fld} {i v : Nat} (h : r.ErrorActed s) : r.ErrorActed (s.put f i v) :=
  h.comp (State.PartsKept.refl s []).put

theorem State.ErrorActed.recoveryStart (h : s.PartsKept t [.err, .cores, .pm, .freeCtr, .pins]) : s.ErrorActed t.recoveryStart := by
  refine ⟨(State.PartsKept.refl s _).comp h |>.comp (partsKept_recoveryStart t), .inr ?_⟩
  have hplk : t.recoveryStart.plk = { t.plk with ports := [], started := false } := by
    unfold State.recoveryStart
    dsimp only
    rw [foldl_keeps (fun u : State => u.plk), foldl_keeps (fun u : State => u.plk), foldl_keeps (fun u : State => u.plk)]
    · rfl
    · exact fun u _ => by split <;> rfl
    · exact fun _ _ => rfl
    · exact fun _ _ => rfl
  rw [hplk, show t.plk = s.plk from h.1 .plk (by decide)]

theorem errorActed_moduleAction (h : s.PartsKept t [.err, .cores, .pm, .freeCtr, .pins]) (d code : Nat) :
    s.ErrorActed (t.moduleAction d code) := by
  have hu := ((h.comp (kept_faultN t .moduleError).1).comp (partsKept_hutchRaise _ 15)).put (f := F.FAB_ERR_MOD_DOMAIN) (i := 0)
    (v := d) |>.put (f := F.FAB_ERR_MOD_CODE) (i := 0) (v := code)
  have ha := (State.ErrorActed.refl s).comp hu
  refine .ite (.recoveryStart hu) (.ite ha.put (.ite ?_ (ha.put.put.comp (partsKept_clockActions _))))
  exact ha.put.put.comp (State.PartsKept.refl _ [.err]).upd

theorem errorActed_callReset (h : s.PartsKept t [.err, .cores, .pm, .freeCtr, .pins]) (d code : Nat) (esc : Bool) :
    s.ErrorActed (t.callReset d code esc) := by
  have ha := (State.ErrorActed.refl s).comp h
  unfold State.callReset
  split
  · exact errorActed_moduleAction h ..
  · exact .ite (.recoveryStart h) (.ite ha (ha.comp (State.PartsKept.refl _ [.err]).upd))

theorem errorActed_classAction (h : s.PartsKept t [.err, .cores, .pm, .freeCtr, .pins]) (c d code : Nat) (esc : Bool) :
    s.ErrorActed (t.classAction c d code esc) :=
  .ite (errorActed_callReset h ..) (.ite (errorActed_moduleAction h ..) ((State.ErrorActed.refl s).comp h))

theorem errorActed_recordError (s : State) (e : ErrIn) : s.ErrorActed (s.recordError e) := by
  have hs := State.PartsKept.refl s [.err, .cores, .pm, .freeCtr, .pins]
  refine .ite (.refl s) (.ite (errorActed_classAction ?_ ..) (.ite (errorActed_classAction hs.put.put.put ..)
    (errorActed_classAction ?_ ..)))
  · exact (hs.comp (kept_setErrq ..).1).comp (kept_policyFault ..).1
  · exact State.PartsKept.comp (State.PartsKept.put (hs.comp (kept_setErrq ..).1)) (kept_policyFault ..).1

theorem errorActed_accessError (s : State) (o : Origin) (blk code addr : Nat) : s.ErrorActed (s.accessError o blk code addr) :=
  .ite (.refl s) (errorActed_recordError ..)

/-- An error of class 0 or 1 only makes its record. -/
theorem classAction_minor (s : State) {c : Nat} (h : c ≤ 1) (d code : Nat) (esc : Bool) : s.classAction c d code esc = s :=
  (if_neg (by omega)).trans (if_neg (by omega))

end

/-! ### Errors, their records and their resets -/

section
variable {s : State} {e : ErrIn}

/-- The record of an error that a domain's queue does not hold yet. -/
def State.errRecord (s : State) (e : ErrIn) : ErrRec :=
  { domain := e.domain, code := e.code, cls := s.classOf e, drawer := e.drawer, source := e.source % 256,
    action := s.actionOf (s.classOf e) e.domain e.action, count := 1, origin := e.origin, seq := s.get F.FAB_ERR_Q_NEXT_SEQ e.domain,
    firstSt := s.st % 2 ^ 62, firstState := s.stState, lastSt := s.st % 2 ^ 62, lastState := s.stState, detail := e.detail }

/-- `e` is not recorded yet. -/
def State.Unrecorded (s : State) (e : ErrIn) : Prop :=
  ((s.errq e.domain).recs.all (fun r => !(r.code = e.code && r.cls = s.classOf e && r.source = e.source))) = true

theorem any_of_unrecorded (h : s.Unrecorded e) :
    (s.errq e.domain).recs.any (fun r => r.code = e.code && r.cls = s.classOf e && r.source = e.source) = false := by
  rw [← Bool.not_eq_true', List.not_any_eq_all_not]
  exact h

theorem errq_of_err {t : State} (h : t.err = s.err) (d : Nat) : t.errq d = s.errq d := by rw [State.errq, h, State.errq]

/-- A new error of class 0 or 1 joins its queue and does nothing more. -/
theorem recordError_new (hq : hasQueue e.domain = true) (hc : s.classOf e ≤ 1) (hlen : (s.errq e.domain).recs.length < 16)
    (hnew : s.Unrecorded e) : s.recordError e = ((s.setErrq e.domain { s.errq e.domain with recs := (s.errq e.domain).recs ++
      [s.errRecord e] }).incWrap F.FAB_ERR_Q_NEXT_SEQ e.domain).policyFault (s.classOf e) e := by
  refine (if_neg (by rw [hq]; decide)).trans ((if_neg (by rw [any_of_unrecorded hnew]; decide)).trans ((if_neg (by omega)).trans ?_))
  exact classAction_minor _ hc ..

/-- A new error of class 0 is lost where its queue is full. -/
theorem recordError_full (hq : hasQueue e.domain = true) (hc : s.classOf e = 0) (hlen : (s.errq e.domain).recs.length = 16)
    (hnew : s.Unrecorded e) : s.recordError e = ((s.put F.FAB_ERR_Q_OVERFLOW e.domain 1).incSat F.FAB_ERR_Q_LOST e.domain).put
      F.FAB_ERR_Q_LOST_CODE e.domain e.code := by
  refine (if_neg (by rw [hq]; decide)).trans ((if_neg (by rw [any_of_unrecorded hnew]; decide)).trans
    ((if_pos (Nat.le_of_eq hlen.symm)).trans ?_))
  exact classAction_minor _ (by rw [hc]; decide) ..

theorem detected_of_on (h : s.phase ≠ .off) (e : ErrIn) : s.detected e = s.recordError e := if_neg h

end

/-- An acknowledgement of a queue's only record empties the queue. -/
theorem ackTo_only {s : State} {d : Nat} {r : ErrRec} (h : (s.errq d).recs = [r]) :
    s.ackTo d r.seq = s.setErrq d { head := ((s.errq d).head + 1) % 16, recs := [] } := by
  unfold State.ackTo
  simp [h]

/-! The resets of islands. -/

theorem partsKept_putImg (s : State) (f : Fld) (i v : Nat) : s.PartsKept (s.putImg f i v) [.shadow] := (State.PartsKept.refl s _).put.upd

theorem partsKept_coreRestart (s : State) (t : Nat) : s.PartsKept (s.coreRestart t) [.cores] := by
  have hs := State.PartsKept.refl s [.cores]
  have hre : ∀ u : State, u.PartsKept u.icuReeval [.cores] :=
    fun u => (State.PartsKept.refl u _).foldl fun _ _ ht => ht.comp (kept_icuTry ..).1
  exact State.PartsKept.comp (.put (.put (.ite hs.put.put hs.put.put))) (hre _)

theorem partsKept_headStart (s : State) (h : Nat) (image : Bool) : s.PartsKept (s.headStart h image) [.shadow, .heads] := by
  have hs := (State.PartsKept.refl s [.shadow, .heads]).comp (partsKept_putImg s F.HDn_CTRL_RUN h 1)
  exact .ite hs (.ite hs.put hs.put.upd)

theorem partsKept_plkTrain (s : State) (p : Nat) : s.PartsKept (s.plkTrain p) [.plk] :=
  have hs := State.PartsKept.refl s _
  .ite hs.put.upd hs.put

theorem partsKept_panelStart (s : State) (p : Nat) : s.PartsKept (s.panelStart p) [.tch] := by
  have hs := State.PartsKept.refl s [.tch]
  refine .ite hs ?_
  dsimp only
  split
  · exact (State.PartsKept.put (hs.put.put.foldl fun _ _ ht => ht.put)).upd
  · exact hs.put.put.upd

/-- A unit that comes back starts its cores, its heads, its links or its panels. -/
theorem partsKept_unitBack (s : State) (u : ResetUnit) : s.PartsKept (s.unitBack u) [.cores, .shadow, .heads, .pins, .dps, .pm, .freeCtr,
    .plk, .tch] := by
  have hs := State.PartsKept.refl s [.cores, .shadow, .heads, .pins, .dps, .pm, .freeCtr, .plk, .tch]
  have hhead : ∀ (t : State) (h : Nat), s.PartsKept t [.cores, .shadow, .heads, .pins, .dps, .pm, .freeCtr, .plk, .tch] →
      s.PartsKept ((t.panelRaise h).headStart h true) [.cores, .shadow, .heads, .pins, .dps, .pm, .freeCtr, .plk, .tch] :=
    fun _ _ ht => (ht.comp (kept_panelRaise ..).1).comp (partsKept_headStart ..)
  cases u with
  | bg g => exact hs
  | rtPair n => exact hs.comp (partsKept_coreRestart ..)
  | head h => exact .ite (hhead _ _ hs) hs
  | witIsland => exact hs.foldl fun _ _ ht => .ite (hhead _ _ ht) ht
  | gpuIsland => exact hs.comp (partsKept_clockActions s)
  | coreIsland => exact hs.foldl fun _ _ ht => ht.comp (partsKept_coreRestart ..)
  | perIsland => exact hs
  | hostIsland => exact hs
  | plkIsland => exact hs.foldl fun _ _ ht => .ite ht (ht.comp (partsKept_plkTrain ..))
  | tchIsland => exact hs.foldl fun _ _ ht => .ite ht (ht.comp (partsKept_panelStart ..))

/-- `s` after the resets of `u` that were due. -/
def State.undue (s : State) (u : ResetUnit) : State :=
  { s with err := { s.err with due := s.err.due.filter (fun (x : ResetDue) => decide (x.unit ≠ u)) } }

/-- The consequence of a reset of `u` over the limit. -/
def State.overReset (s : State) (u : ResetUnit) (r : ResetDue) : State :=
  match u with
  | .bg g => (s.unitWork u).setBg g 3
  | _ => s.moduleAction r.domain r.code

/-- A reset that is due for a unit that is on runs, or has its consequence where it is over the limit. -/
theorem exec_islandReset {s : State} {u : ResetUnit} {r : ResetDue}
    (hdue : s.err.due.find? (fun (x : ResetDue) => x.unit = u) = some r) (h2 : s.get F.PWR_STATUS_PHASE ≠ 2)
    (h3 : s.get F.PWR_STATUS_PHASE ≠ 3) (hon : s.pdOnB u.pd = true) :
    exec (.islandReset u) s = .next (if s.overLimit u then (s.undue u).overReset u r else
      (s.undue u).unitReset u r.esc) := by
  change execIslandReset u s = _
  unfold execIslandReset
  rw [hdue]
  dsimp only
  rw [if_neg (by simp [h2, h3, hon])]
  cases u <;> rfl

/-- `s` with `u` no longer among the resets that run. -/
def State.rerun (s : State) (u : ResetUnit) : State :=
  { s with err := { s.err with running := s.err.running.filter (fun x => decide (x ≠ u)) } }

/-- `s` with the reset of `u` ended. -/
def State.resetEnded (s : State) (u : ResetUnit) : State :=
  let t := ((s.rerun u).putB F.FAB_ERR_ISL_IN_PROGRESS u.pd ((s.rerun u).err.running.any (fun x => x.pd = u.pd))).unitBack u
  { t with err := { t.err with headsRan := t.err.headsRan.filter (fun h => !u.covers (0x10 + h)) } }

theorem exec_islandResetDone {s : State} {u : ResetUnit} (h : s.err.running.contains u = true) :
    exec (.islandResetDone u) s = .next (s.resetEnded u) := congrArg Host.Outcome.next (if_neg (by rw [h]; decide))

theorem kept_resetEnded_bg (s : State) (g : Nat) : s.Kept (s.resetEnded (.bg g)) [.err] [F.FAB_ERR_ISL_IN_PROGRESS] :=
  (State.Kept.refl s _ _).upd.put.upd

theorem running_resetEnded (s : State) (u : ResetUnit) : (s.resetEnded u).err.running = s.err.running.filter (fun x => decide (x ≠ u)) :=
  congrArg ErrState.running ((partsKept_unitBack ((s.rerun u).putB F.FAB_ERR_ISL_IN_PROGRESS u.pd
    ((s.rerun u).err.running.any (fun x => x.pd = u.pd))) u).1 .err (by decide))

/-! Reports of software. -/

theorem swrepEffect_none (s : State) (o : Origin) {v : Nat} (h : bit v 26 = false) : s.swrepEffect o v = s :=
  if_pos (by rw [h]; rfl)

section
variable {s : State} {o : Origin} {v : Nat}

/-- A write that no world is kept from, of a register that no image governs, is admitted where no access waits and the audit buffer has room
or takes no entry. -/
theorem admits_free {w : RegWrite} (hfree : w.free = true) (himg : w.img = 0) (hmore : w.more = 0) (hheld : s.held = [])
    (hroom : s.committed = false ∨ s.adl.buf.length ≤ 60) : s.Admits o w := by
  have hfull : (s.committed && decide (64 < s.adl.buf.length + (if w.wide then 2 else 1) + w.more)) = false := by
    rcases hroom with h | h
    · rw [h, Bool.false_and]
    · rw [decide_eq_false (by split <;> omega), Bool.and_false]
  refine ⟨.inl hfree, ?_, .inl hfree, ?_⟩
  · simp [State.mustWait, State.auditedHeld, State.behindHeld, hheld, Bool.and_assoc, hfull]
  · simp [State.imgDenied, himg]

end

/-- Settles O43: a new error of class 0 or 1 only joins its queue, a full queue only counts it, and a unit that comes back keeps the
errors' part. -/
theorem errorsAreRecordedAndAcknowledged : Obligations.ErrorsAreRecordedAndAcknowledged := by
  unfold Obligations.ErrorsAreRecordedAndAcknowledged
  refine ⟨?_, ?_, ?_, ?_, ?_, ?_, ?_, ?_, ?_, ?_, ?_, ?_, ?_, ?_, ?_⟩
  · intro s e hon hq hc hlen hnew
    have hset := kept_setErrq s e.domain { s.errq e.domain with recs := (s.errq e.domain).recs ++ [s.errRecord e] }
    have hk := kept_policyFault ((s.setErrq e.domain { s.errq e.domain with recs := (s.errq e.domain).recs ++
      [s.errRecord e] }).incWrap F.FAB_ERR_Q_NEXT_SEQ e.domain) (s.classOf e) e
    have hparts := ((State.PartsKept.refl s [.err, .cores, .pins]).comp hset.1).put (f := F.FAB_ERR_Q_NEXT_SEQ) (i := e.domain)
      (v := (s.setErrq e.domain { s.errq e.domain with recs := (s.errq e.domain).recs ++ [s.errRecord e] }).get F.FAB_ERR_Q_NEXT_SEQ
        e.domain + 1) |>.comp hk.1
    refine ⟨_, congrArg Host.Outcome.next ((detected_of_on hon e).trans (recordError_new hq hc hlen hnew)), ?_⟩
    have herrq := (errq_of_err (hk.1.1 .err (by decide)) e.domain).trans (errq_setErrq s e.domain _)
    refine ⟨?_, ?_, ?_, hparts.1 .mem (by decide), hparts.1 .drw (by decide), hparts.1 .hostOut (by decide)⟩
    · rw [herrq]
      simp [State.errRecord]
    · rw [herrq]
      exact List.dropLast_concat
    · rw [hk.2 F.FAB_ERR_Q_NEXT_SEQ _ (by simp), State.incWrap, get_put_same, hset.2 F.FAB_ERR_Q_NEXT_SEQ _ (by decide)]
      rfl
  · intro s e hon hq hc hlen hnew _
    refine ⟨_, congrArg Host.Outcome.next ((detected_of_on hon e).trans (recordError_full hq hc hlen hnew)), rfl, ?_, ?_,
      (State.Kept.refl s _ _).put.put.put⟩
    · rw [get_put_of_num (by decide), State.incSat, get_put_of_num (by decide), get_put_same]
      rfl
    · rw [get_put_of_num (by decide), get_incSat_one, get_put_of_num (by decide)]
      rfl
  · exact fun s e hon => congrArg Host.Outcome.next (detected_of_on hon e)
  · exact fun s e hoff => congrArg Host.Outcome.next (if_pos hoff)
  · exact fun s blk source hon => congrArg Host.Outcome.next (detected_of_on hon _)
  · intro s o d r hworld hrecs hseq
    have hn : ((Fin.ofNat 65536 r.seq : Fin 65536) : Nat) = r.seq := Nat.mod_eq_of_lt hseq
    have hopen : ¬ (s.cabOwned d && !o.cab) = true := by
      rcases hworld with h | h <;> simp [h]
    refine ⟨_, congrArg Host.Outcome.next ((if_neg hopen).trans ((congrArg (s.ackTo d) hn).trans (ackTo_only hrecs))), ?_, ?_,
      (kept_setErrq ..).1⟩ <;> rw [errq_setErrq]
  · intro s o d n hworld
    refine congrArg Host.Outcome.next (if_neg ?_)
    rcases hworld with h | h <;> simp [h]
  · intro s o v hheld hbuf hworld hbit
    refine ⟨_, (next_guarded (admits_free rfl rfl rfl hheld (.inr hbuf)) rfl).trans
      (congrArg Host.Outcome.next (swrepEffect_none _ o hbit)), kept_entered ..⟩
  · intro s o v hheld hcom hbit hcode hq hcls
    have hun : s.entered o { addr := 0x00F0005A0200, blk := 5, new := v, wide := true, free := true } = s := if_neg (by simp [hcom])
    refine (next_guarded (admits_free rfl rfl rfl hheld (.inl hcom)) rfl).trans (congrArg Host.Outcome.next ?_)
    rw [hun]
    refine (if_neg (by rw [hbit]; decide)).trans ((if_neg (by rw [hcode, hq]; decide)).trans (if_neg ?_))
    rw [decide_eq_false (Nat.not_le.2 hcls)]
    exact Bool.false_ne_true
  · intro s r hdue hphase hon hlim
    have hfind : s.err.due.find? (fun (x : ResetDue) => x.unit = r.unit) = some r := by simp [hdue]
    rw [exec_islandReset hfind (by rw [hphase]; decide) (by rw [hphase]; decide) hon, if_neg (by rw [hlim]; decide)]
    simp [State.undue, hdue]
  · intro s u r hdue h2 h3 hon hlim
    rw [exec_islandReset hdue h2 h3 hon, if_neg (by rw [hlim]; decide)]
    rfl
  · intro s g r hdue h2 h3 hon hlim
    rw [exec_islandReset hdue h2 h3 hon, if_pos hlim]
    rfl
  · intro s u r hdue h2 h3 hon hlim hbg
    rw [exec_islandReset hdue h2 h3 hon, if_pos hlim]
    cases u with
    | bg g => cases hbg
    | _ => rfl
  · intro s g hrun
    refine ⟨_, exec_islandResetDone (by simp [hrun]), by simp [running_resetEnded, hrun], ?_, kept_resetEnded_bg s g⟩
    have hnone : (s.rerun (.bg g)).err.running.any (fun x => x.pd = (ResetUnit.bg g).pd) = false := by simp [State.rerun, hrun]
    refine (get_put_same (s.rerun (.bg g)) F.FAB_ERR_ISL_IN_PROGRESS _ _).trans ?_
    rw [hnone]
    rfl
  · intro s u hrun
    exact ⟨_, exec_islandResetDone hrun, running_resetEnded s u, by simp [State.resetEnded]⟩

/-! ### Apertures and windows -/

section
variable {s t : State} {o : Origin} {k : Nat}

theorem get_putImg_same (s : State) (f : Fld) (i v : Nat) : (s.putImg f i v).get f i = v % 2 ^ f.width := get_put_same ..

theorem get_putImg_of_num {f g : Fld} (h : g.num ≠ f.num) (s : State) (i j v : Nat) : (s.putImg f i v).get g j = s.get g j :=
  get_put_of_num h ..

theorem reachable_congr (hplk : t.plk = s.plk) (hown : t.ownId = s.ownId) (id : Nat) : t.reachable id = s.reachable id := by
  rw [State.reachable, hown, State.route, hplk]
  rfl

/-- An aperture asks; its earlier question is forgotten. -/
def State.apAsked (s : State) (k : Nat) : State :=
  s.modPlk (fun p => { p with opening := p.opening.filter (fun x => x ≠ k), openAt := tset 0 p.openAt k s.now })

/-- An aperture whose peer cannot be reached is UNREACHABLE. -/
theorem apOpen_unreachable (h : s.reachable (s.get F.PLK_AP_CTRL_PEER k) = false) : s.apOpen k = (s.apAsked k).put F.PLK_AP_CTRL_STATE k 4 := by
  have hr : (s.apAsked k).reachable (s.get F.PLK_AP_CTRL_PEER k) = false := h
  unfold State.apOpen
  exact if_pos (Bool.or_eq_true_iff.2 (.inl (by rw [Bool.not_eq_true']; exact hr)))

/-- One whose peer can be reached is OPENING, and its question is sent. -/
theorem apOpen_sent (h : s.reachable (s.get F.PLK_AP_CTRL_PEER k) = true) (hown : s.get F.PLK_AP_CTRL_PEER k ≠ s.ownId) :
    (((s.apAsked k).put F.PLK_AP_CTRL_STATE k 1).modPlk (fun p => { p with opening := p.opening ++ [k] })).Sent (s.apOpen k) := by
  have hr : (s.apAsked k).reachable (s.get F.PLK_AP_CTRL_PEER k) = true := h
  have hne : s.get F.PLK_AP_CTRL_PEER k ≠ (s.apAsked k).ownId := hown
  unfold State.apOpen
  dsimp only
  rw [if_neg]
  · exact sent_sendTo ..
  · intro hc
    rcases Bool.or_eq_true_iff.1 hc with hlost | hself
    · rw [Bool.not_eq_true'] at hlost
      exact Bool.noConfusion (hr.symm.trans hlost)
    · exact hne (of_decide_eq_true hself)

/-- What an aperture that asks for its window shows. -/
theorem apOpen_shows (h : s.reachable (s.get F.PLK_AP_CTRL_PEER k) = true) (hown : s.get F.PLK_AP_CTRL_PEER k ≠ s.ownId) :
    (s.apOpen k).get F.PLK_AP_CTRL_STATE k = 1 ∧ k ∈ (s.apOpen k).plk.opening ∧ (s.apOpen k).mem = s.mem ∧ (s.apOpen k).drw = s.drw ∧
      (s.apOpen k).hostOut = s.hostOut := by
  have hsent := apOpen_sent h hown
  refine ⟨(hsent.get (by decide) k).trans (get_put_same (s.apAsked k) F.PLK_AP_CTRL_STATE k 1), ?_, hsent.part.world⟩
  rw [hsent.opening]
  exact List.mem_append_right _ (List.mem_singleton_self k)

/-- Another register keeps its value while an aperture asks. -/
theorem get_apOpen_of_reachable {f : Fld} (h : s.reachable (s.get F.PLK_AP_CTRL_PEER k) = true) (hown : s.get F.PLK_AP_CTRL_PEER k ≠ s.ownId)
    (hf : ∀ g ∈ linkFields, f.num ≠ g.num) (hst : f.num ≠ F.PLK_AP_CTRL_STATE.num) (i : Nat) : (s.apOpen k).get f i = s.get f i :=
  ((apOpen_sent h hown).get hf i).trans (get_put_of_num hst (s.apAsked k) k i 1)

/-- The settings of aperture `k` as APERTURE_ENABLE writes them. -/
def State.apSet (s : State) (k peer win : Nat) (read write fw : Bool) : State :=
  (((((s.putImg F.PLK_AP_CTRL_PEER k peer).putImg F.PLK_AP_CTRL_WIN k win).putImg F.PLK_AP_CTRL_READ k (b2n read)).putImg
    F.PLK_AP_CTRL_WRITE k (b2n write)).putImg F.PLK_AP_CTRL_EN k 1).putImg F.PLK_AP_CTRL_FW k (b2n fw)

theorem partsKept_apSet (s : State) (k peer win : Nat) (read write fw : Bool) : s.PartsKept (s.apSet k peer win read write fw) [.shadow] :=
  have hs := State.PartsKept.refl s _
  (hs.comp (partsKept_putImg ..)).comp (partsKept_putImg ..) |>.comp (partsKept_putImg ..) |>.comp (partsKept_putImg ..) |>.comp
    (partsKept_putImg ..) |>.comp (partsKept_putImg ..)

/-- The fields of an aperture's settings. -/
def apSetFields : List Fld := [F.PLK_AP_CTRL_PEER, F.PLK_AP_CTRL_WIN, F.PLK_AP_CTRL_READ, F.PLK_AP_CTRL_WRITE, F.PLK_AP_CTRL_EN, F.PLK_AP_CTRL_FW]

section
variable (s) (k peer win : Nat) (read write fw : Bool)

theorem get_apSet_of_num {f : Fld} (h : ∀ g ∈ apSetFields, f.num ≠ g.num) (i : Nat) : (s.apSet k peer win read write fw).get f i = s.get f i := by
  simp only [apSetFields, List.forall_mem_cons] at h
  obtain ⟨hpeer, hwin, hread, hwrite, hen, hfw, -⟩ := h
  rw [State.apSet, get_putImg_of_num hfw, get_putImg_of_num hen, get_putImg_of_num hwrite, get_putImg_of_num hread, get_putImg_of_num hwin,
    get_putImg_of_num hpeer]

theorem en_apSet : (s.apSet k peer win read write fw).get F.PLK_AP_CTRL_EN k = 1 := by
  rw [State.apSet, get_putImg_of_num (by decide), get_putImg_same]
  rfl

theorem peer_apSet (h : peer < 16384) : (s.apSet k peer win read write fw).get F.PLK_AP_CTRL_PEER k = peer := by
  rw [State.apSet, get_putImg_of_num (by decide), get_putImg_of_num (by decide), get_putImg_of_num (by decide), get_putImg_of_num (by decide),
    get_putImg_of_num (by decide), get_putImg_same]
  exact Nat.mod_eq_of_lt h

theorem win_apSet (h : win < 32) : (s.apSet k peer win read write fw).get F.PLK_AP_CTRL_WIN k = win := by
  rw [State.apSet, get_putImg_of_num (by decide), get_putImg_of_num (by decide), get_putImg_of_num (by decide), get_putImg_of_num (by decide),
    get_putImg_same]
  exact Nat.mod_eq_of_lt h

theorem apWrite_apSet : (s.apSet k peer win read write fw).apWrite k = (s.apSet k peer win read write fw).apOpen k :=
  if_pos (decide_eq_true (en_apSet ..))

end

end

/-- The write of an aperture's control register that APERTURE_ENABLE makes. -/
def State.apWriteOf (s : State) (k peer win : Nat) (read write fw : Bool) : RegWrite :=
  let keep := s.get F.PLK_AP_CTRL_STATE k * 2 ^ 23 + s.get F.PLK_AP_CTRL_SIZE_M1 k * 2 ^ 26
  let v := peer + win * 2 ^ 14 + b2n read * 2 ^ 19 + b2n write * 2 ^ 20 + 2 ^ 21 + b2n fw * 2 ^ 22
  { addr := plkAddr (0x2000 + 0x10 * k), blk := 0x1C, wide := true, old := s.regWord 92 k, new := v + keep,
    img := s.regWord 92 k ^^^ (v + keep) }

/-- Aperture `k` set, after the entry of the write. -/
def State.apEntered (s : State) (o : Origin) (k peer win : Nat) (read write fw : Bool) : State :=
  (s.entered o (s.apWriteOf k peer win read write fw)).apSet k peer win read write fw

section
variable (s : State) (o : Origin) (k peer win : Nat) (read write fw : Bool)

theorem partsKept_apEntered : s.PartsKept (s.apEntered o k peer win read write fw) [.adl, .shadow] :=
  ((State.PartsKept.refl s _).comp (kept_entered ..).1).comp (partsKept_apSet ..)

theorem reachable_apEntered (id : Nat) : (s.apEntered o k peer win read write fw).reachable id = s.reachable id :=
  reachable_congr ((partsKept_apEntered ..).1 .plk (by decide)) ((get_apSet_of_num _ _ _ _ _ _ _ (by decide) 0).trans
    (get_entered (by decide) ..)) id

theorem ownId_apEntered : (s.apEntered o k peer win read write fw).ownId = s.ownId :=
  (get_apSet_of_num _ _ _ _ _ _ _ (by decide) 0).trans (get_entered (by decide) ..)

theorem world_apEntered : (s.apEntered o k peer win read write fw).mem = s.mem ∧ (s.apEntered o k peer win read write fw).drw = s.drw ∧
    (s.apEntered o k peer win read write fw).hostOut = s.hostOut :=
  have h := (partsKept_apEntered s o k peer win read write fw).1
  ⟨h .mem (by decide), h .drw (by decide), h .hostOut (by decide)⟩

end

/-- The Cabinet's write sets the aperture and has it ask. -/
theorem exec_apertureEnable {s : State} {o : Origin} {k : Fin 64} {peer : Fin 16384} {win : Fin 32} {read write fw : Bool}
    (h : s.Reaches o 0x1C) (hcab : o.cab = true) (himg : s.imgFree o 0x1C = true) :
    exec (.apertureEnable o k peer win read write fw) s = .next ((s.apEntered o k peer win read write fw).apOpen k) := by
  have ha : s.Admits o (s.apWriteOf k peer win read write fw) := admits_of_imgFree h rfl himg (Nat.le_refl 2)
  have hcond : (o.cab || decide (s.regWord 92 k = (s.apWriteOf k peer win read write fw).new)) = true := by rw [hcab]; rfl
  rw [State.apEntered, ← apWrite_apSet]
  exact next_guarded ha (if_pos hcond)

/-- An enabled aperture whose peer cannot be reached, and what it shows. -/
theorem apEntered_unreachable {s : State} {o : Origin} {k win : Nat} {peer : Fin 16384} {read write fw : Bool} {t : State}
    (ht : t = s.apEntered o k peer win read write fw) (hreach : s.reachable peer = false) :
    t.apOpen k = (t.apAsked k).put F.PLK_AP_CTRL_STATE k 4 ∧ (t.apOpen k).get F.PLK_AP_CTRL_EN k = 1 ∧
      (t.apOpen k).get F.PLK_AP_CTRL_PEER k = peer := by
  have hpeer : t.get F.PLK_AP_CTRL_PEER k = peer := by rw [ht]; exact peer_apSet _ _ _ _ _ _ _ peer.isLt
  have hen : t.get F.PLK_AP_CTRL_EN k = 1 := by rw [ht]; exact en_apSet ..
  have hopen := apOpen_unreachable (s := t) (k := k) (by rw [hpeer, ht, reachable_apEntered]; exact hreach)
  rw [hopen]
  exact ⟨rfl, (get_put_of_num (by decide) (t.apAsked k) k k 4).trans hen, (get_put_of_num (by decide) (t.apAsked k) k k 4).trans hpeer⟩

/-- One whose peer can be reached, and what it shows. -/
theorem apEntered_opening {s : State} {o : Origin} {k : Nat} {peer : Fin 16384} {win : Fin 32} {read write fw : Bool} {t : State}
    (ht : t = s.apEntered o k peer win read write fw) (hreach : s.reachable peer = true) (hown : (peer : Nat) ≠ s.ownId) :
    (t.apOpen k).get F.PLK_AP_CTRL_EN k = 1 ∧ (t.apOpen k).get F.PLK_AP_CTRL_WIN k = win ∧
      (t.apOpen k).get F.PLK_AP_CTRL_STATE k = 1 ∧ k ∈ (t.apOpen k).plk.opening ∧ (t.apOpen k).mem = t.mem ∧ (t.apOpen k).drw = t.drw ∧
      (t.apOpen k).hostOut = t.hostOut := by
  have hpeer : t.get F.PLK_AP_CTRL_PEER k = peer := by rw [ht]; exact peer_apSet _ _ _ _ _ _ _ peer.isLt
  have hen : t.get F.PLK_AP_CTRL_EN k = 1 := by rw [ht]; exact en_apSet ..
  have hwin : t.get F.PLK_AP_CTRL_WIN k = win := by rw [ht]; exact win_apSet _ _ _ _ _ _ _ win.isLt
  have hr : t.reachable (t.get F.PLK_AP_CTRL_PEER k) = true := by rw [hpeer, ht, reachable_apEntered]; exact hreach
  have hne : t.get F.PLK_AP_CTRL_PEER k ≠ t.ownId := by rw [hpeer, ht, ownId_apEntered]; exact hown
  exact ⟨(get_apOpen_of_reachable hr hne (by decide) (by decide) k).trans hen,
    (get_apOpen_of_reachable hr hne (by decide) (by decide) k).trans hwin, apOpen_shows hr hne⟩

/-- The write of a window's control register that WINDOW_CLOSE makes. -/
def State.winWriteOf (s : State) (w sizeM1 peer : Nat) (any read write en : Bool) : RegWrite :=
  let v := sizeM1 + peer * 2 ^ 20 + b2n any * 2 ^ 34 + b2n read * 2 ^ 35 + b2n write * 2 ^ 36 + b2n en * 2 ^ 37
    + s.get F.PLK_WIN_CTRL_SESSIONS w * 2 ^ 38
  { addr := plkAddr (0x1008 + 0x10 * w), blk := 0x1C, wide := true, old := s.regWord 91 w, new := v, img := s.regWord 91 w ^^^ v }

/-- The settings of window `w` as WINDOW_CLOSE writes them. -/
def State.winSet (s : State) (w sizeM1 peer : Nat) (any read write en : Bool) : State :=
  (((((s.putImg F.PLK_WIN_CTRL_SIZE_M1 w sizeM1).putImg F.PLK_WIN_CTRL_PEER w peer).putImg F.PLK_WIN_CTRL_ANY_PEER w (b2n any)).putImg
    F.PLK_WIN_CTRL_READ w (b2n read)).putImg F.PLK_WIN_CTRL_WRITE w (b2n write)).putImg F.PLK_WIN_CTRL_EN w (b2n en)

theorem partsKept_winSet (s : State) (w sizeM1 peer : Nat) (any read write en : Bool) :
    s.PartsKept (s.winSet w sizeM1 peer any read write en) [.shadow] :=
  have hs := State.PartsKept.refl s _
  (hs.comp (partsKept_putImg ..)).comp (partsKept_putImg ..) |>.comp (partsKept_putImg ..) |>.comp (partsKept_putImg ..) |>.comp
    (partsKept_putImg ..) |>.comp (partsKept_putImg ..)

theorem en_winSet (s : State) (w sizeM1 peer : Nat) (any read write : Bool) :
    (s.winSet w sizeM1 peer any read write false).get F.PLK_WIN_CTRL_EN w = 0 := get_putImg_same ..

theorem exec_windowClose {s : State} {o : Origin} {w : Fin 32} {sizeM1 : Fin 1048576} {peer : Fin 16384} {any read write en : Bool}
    (h : s.Reaches o 0x1C) (hcab : o.cab = true) (himg : s.imgFree o 0x1C = true)
    (hne : s.regWord 91 w ≠ (s.winWriteOf w sizeM1 peer any read write en).new) :
    exec (.windowClose o w sizeM1 peer any read write en) s =
      .next (((s.entered o (s.winWriteOf w sizeM1 peer any read write en)).winSet w sizeM1 peer any read write en).windowChanged w) := by
  have ha : s.Admits o (s.winWriteOf w sizeM1 peer any read write en) := admits_of_imgFree h rfl himg (Nat.le_refl 2)
  have hcond : (o.cab || decide (s.regWord 91 w = (s.winWriteOf w sizeM1 peer any read write en).new)) = true := by rw [hcab]; rfl
  exact (next_guarded ha (if_pos hcond)).trans (congrArg Host.Outcome.next (if_neg hne))

/-- An aperture that asks again. -/
theorem exec_apertureOpenRetry {s : State} {k : Fin 64} (hen : s.get F.PLK_AP_CTRL_EN k = 1)
    (hst : s.get F.PLK_AP_CTRL_STATE k = 0 ∨ s.get F.PLK_AP_CTRL_STATE k = 4) (ht : tget 0 s.plk.openAt k + 100000000 ≤ s.now) :
    exec (.apertureOpenRetry k) s = .next (s.apOpen k) := by
  have hon : s.on F.PLK_AP_CTRL_EN k = true := decide_eq_true hen
  have hstate : (decide (s.get F.PLK_AP_CTRL_STATE k = 0) || decide (s.get F.PLK_AP_CTRL_STATE k = 4)) = true := by
    rcases hst with h | h <;> rw [h] <;> rfl
  exact congrArg Host.Outcome.next (if_pos (by rw [hon, hstate, decide_eq_true ht]; rfl))

/-! Requests without an answer. -/

theorem exec_remoteTimeout {s : State} {tag : Fin 4096} {r : RemoteReq}
    (hfind : s.plk.reqs.find? (fun q => q.tag = some (tag : Nat) && !q.done) = some r)
    (ht : r.issuedAt + s.get F.PLK_CFG_REQ_TIMEOUT * 100000 ≤ s.now) : exec (.remoteTimeout tag) s = .next (s.remoteFail r) := by
  change execRemoteTimeout tag s = _
  unfold execRemoteTimeout
  rw [hfind]
  exact congrArg Host.Outcome.next (if_neg (Nat.not_lt.2 ht))

/-- The only request, a core's write, fails: it goes, and its error is recorded. -/
theorem remoteFail_only {s : State} {r : RemoteReq} (hreqs : s.plk.reqs = [r]) (hcmd : r.cmd = none) (hw : r.write = true)
    (hleave : ∀ p < 4, (s.pport p).leaving = none) :
    s.remoteFail r = (s.modReqs (fun l => l.filter (fun x => x ≠ r))).accessError r.origin 0 0x2D r.addr := by
  have hacted := errorActed_accessError (s.modReqs (fun l => l.filter (fun x => x ≠ r))) r.origin 0 0x2D r.addr
  have hnone : (s.modReqs (fun l => l.filter (fun x => x ≠ r))).plk.reqs = [] := by simp [State.modReqs, State.modPlk, hreqs]
  have hgone : ((s.modReqs (fun l => l.filter (fun x => x ≠ r))).accessError r.origin 0 0x2D r.addr).plk.reqs = [] := by
    rcases hacted.2 with h | h <;> rw [h] <;> exact hnone
  have hports : ∀ p < 4, (((s.modReqs (fun l => l.filter (fun x => x ≠ r))).accessError r.origin 0 0x2D r.addr).pport p).leaving = none := by
    intro p hp
    rcases hacted.2 with h | h <;> rw [State.pport, h]
    · exact hleave p hp
    · rfl
  unfold State.remoteFail
  rw [hcmd]
  dsimp only
  rw [if_pos hw, State.remoteGo, hgone, State.remotePump, leaveCheck_of_none hports]

/-- A window that closes, and what it leaves alone. -/
theorem winClosed {s t : State} {w sizeM1 peer : Nat} {any read write : Bool} (hparts : s.PartsKept t [.adl]) :
    ((t.winSet w sizeM1 peer any read write false).windowChanged w).get F.PLK_WIN_CTRL_EN w = 0 ∧
      ((t.winSet w sizeM1 peer any read write false).windowChanged w).get F.PLK_WIN_CTRL_SESSIONS w = 0 ∧
      ((t.winSet w sizeM1 peer any read write false).windowChanged w).plk.sessions = s.plk.sessions.filter (fun x => x.win ≠ w) ∧
      s.PartsKept ((t.winSet w sizeM1 peer any read write false).windowChanged w) [.adl, .shadow, .plk] := by
  have hset := partsKept_winSet t w sizeM1 peer any read write false
  refine ⟨?_, get_put_same .., ?_, ?_⟩
  · exact (get_put_of_num (by decide) ..).trans (en_winSet t w sizeM1 peer any read write)
  · rw [← hparts.1 .plk (by decide), ← hset.1 .plk (by decide)]
    rfl
  · exact (((State.PartsKept.refl s _).comp hparts).comp hset).upd.put

/-- Settles O29: a question sent keeps the aperture's settings, a window's change drops its sessions, and a failed write of a core only
records its error. -/
theorem aperturesAndWindowsOpenAndClose : Obligations.AperturesAndWindowsOpenAndClose := by
  unfold Obligations.AperturesAndWindowsOpenAndClose
  refine ⟨?_, ?_, ?_, ?_, ?_, ?_, ?_⟩
  · intro s o k peer win read write fw h hcab himg hreach
    obtain ⟨hopen, hen, hpeer⟩ := apEntered_unreachable (o := o) (k := k) (win := win) (read := read) (write := write) (fw := fw) rfl hreach
    have hstate := (congrArg (State.get · F.PLK_AP_CTRL_STATE k) hopen).trans (get_put_same ..)
    exact ⟨_, exec_apertureEnable h hcab himg, hen, hpeer, hstate, by rw [hopen]; exact world_apEntered s o k peer win read write fw⟩
  · intro s o k peer win read write fw h hcab himg hreach hown
    obtain ⟨hen, hwin, hst, hask, hmem, hdrw, hout⟩ :=
      apEntered_opening (o := o) (k := k) (win := win) (read := read) (write := write) (fw := fw) rfl hreach hown
    obtain ⟨hmem', hdrw', hout'⟩ := world_apEntered s o k peer win read write fw
    exact ⟨_, exec_apertureEnable h hcab himg, hen, hwin, hst, hask, hmem.trans hmem', hdrw.trans hdrw', hout.trans hout'⟩
  · exact fun s k hen hst ht => exec_apertureOpenRetry hen hst ht
  · exact fun s k hen hst ht hreach hown => ⟨_, exec_apertureOpenRetry hen hst ht, apOpen_shows hreach hown⟩
  · intro s o w sizeM1 peer any read write en h hcab himg hopen hen hne
    subst hen
    have hnew : s.regWord 91 w ≠ (s.winWriteOf w sizeM1 peer any read write false).new := by
      simpa [State.winWriteOf, b2n] using hne
    obtain ⟨hclosed, hzero, hsess, hparts⟩ := winClosed (w := w) (sizeM1 := sizeM1) (peer := peer) (any := any) (read := read)
      (write := write) (kept_entered s o (s.winWriteOf w sizeM1 peer any read write false)).1
    exact ⟨_, exec_windowClose h hcab himg hnew, hclosed, hzero, hsess, hparts.1 .mem (by decide), hparts.1 .drw (by decide),
      hparts.1 .hostOut (by decide)⟩
  · exact fun s tag r hfind ht => exec_remoteTimeout hfind ht
  · intro s tag r hreqs htag hdone hcmd hw hkind ht hleave
    have hfind : s.plk.reqs.find? (fun q => q.tag = some (tag : Nat) && !q.done) = some r := by simp [hreqs, htag, hdone]
    have hacted := errorActed_accessError (s.modReqs (fun l => l.filter (fun x => x ≠ r))) r.origin 0 0x2D r.addr
    refine ⟨_, (exec_remoteTimeout hfind ht).trans (congrArg Host.Outcome.next (remoteFail_only hreqs hcmd hw fun p hp => hleave ⟨p, hp⟩)),
      ?_, hacted.1.1 .reads (by decide), hacted.1.1 .mem (by decide), hacted.1.1 .drw (by decide)⟩
    rcases hacted.2 with h | h <;> rw [h] <;> simp [State.modReqs, State.modPlk, hreqs]

end Sys2Proof.Machine
end

section
/-! SUPPORT. Host ports, and commands that report and are released. -/

namespace Sys2Proof.Machine

set_option Elab.async false

/-! ### Host ports -/

section
variable {s : State}

theorem bit_eq_testBit (x i : Nat) : bit x i = x.testBit i := by
  rw [Nat.testBit_eq_decide_div_mod_eq, bit, bits, Nat.shiftRight_eq_div_pow, pow_one]

theorem bit_setBit (x i : Nat) : bit (setBit x i) i = true := by
  unfold setBit
  split
  · assumption
  · rename_i h
    rw [bit_eq_testBit] at h ⊢
    rw [Nat.add_comm, Nat.testBit_two_pow_add_eq, Bool.eq_false_of_not_eq_true h]
    rfl

/-- A bit is that of the number's lower bits. -/
theorem bit_mod {x i w : Nat} (h : i < w) : bit (x % 2 ^ w) i = bit x i := by
  rw [bit_eq_testBit, bit_eq_testBit, Nat.testBit_mod_two_pow, decide_eq_true h, Bool.true_and]

/-- A bit of a register that was set is set. -/
theorem bit_putBit_true {f : Fld} {i b : Nat} (h : b < f.width) (s : State) : bit ((s.putBit f i b true).get f i) b = true := by
  rw [State.putBit, if_pos rfl, get_put_same, bit_mod h, bit_setBit]

theorem portOf_modPort (s : State) (p : Nat) (g : HostPort → HostPort) : (s.modPort p g).portOf p = g (s.portOf p) := tget_tset_same ..

theorem quiesceEnd_of_none {d : Nat} (h : (s.drwOf d).quiesce = none) (r : Nat) : s.quiesceEnd d r = s := by
  rw [State.quiesceEnd, h]

/-- A reset of a FREE Drawer does nothing. -/
theorem drawerReset_free {d : Nat} (h : s.drwState d = 0) (c : ResetCause) (ms : Option Nat) : s.drawerReset d c ms = s := if_pos h

/-- A reset with a SQUASH of a Drawer that has neither reset nor QUIESCE in progress begins it. -/
theorem drawerReset_squash {d : Nat} (hst : s.drwState d ≠ 0) (hreset : (s.drwOf d).reset = none) (hq : (s.drwOf d).quiesce = none)
    (c : ResetCause) : s.drawerReset d c none =
      (((s.shareAs d (tget 0 s.gpu.rawShare d)).put F.DRW_STATUS_STATE d 3).modDrw d (fun w =>
        { w with reset := some { cause := c, drain := false, hostWrites := !(c = .flr || c = .prt || c = .vfDisable : Bool),
                                 toFree := (c = .prt || c = .vfDisable || c = .destroy : Bool), deadline := s.now,
                                 seq := (s.get F.DRW_STATUS_RESET_SEQ d + 1) % 65536, share := tget 0 s.gpu.rawShare d } })).squash d := by
  refine (if_neg hst).trans ?_
  rw [hreset, quiesceEnd_of_none hq]
  simp

/-- What a PRT reset leaves of its port. -/
theorem portOf_prtReset (s : State) (p : Nat) : ((s.prtReset p).portOf p).job = none ∧ ((s.prtReset p).portOf p).image = none ∧
    ((s.prtReset p).portOf p).vfEnable = false ∧ ((s.prtReset p).portOf p).linkUp = false := by
  rw [State.prtReset, portOf_modPort]
  exact ⟨rfl, rfl, rfl, rfl⟩

/-- What its cause adds to a PRT reset of a port whose link was `up`. -/
def State.prtCause (s : State) (p : PortId) (c : Nat) (up : Bool) : State :=
  if c = 0 then { s.modPort p (fun w => { w with inReset := true }) with pins := { s.pins with perstN := s.pins.perstN.set p false } }
  else if c = 3 then s.modPort p (fun w => { w with linkUp := up })
  else s

theorem exec_prtReset (s : State) (p : PortId) (c : Fin 4) :
    exec (.prtReset p c) s = .next ((s.prtReset p).prtCause p c (s.portOf p).linkUp) := rfl

theorem portOf_prtCause {s : State} {p : PortId} (hjob : (s.portOf p).job = none) (himage : (s.portOf p).image = none)
    (hvf : (s.portOf p).vfEnable = false) (hlink : (s.portOf p).linkUp = false) (c : Nat) (up : Bool) :
    ((s.prtCause p c up).portOf p).job = none ∧ ((s.prtCause p c up).portOf p).image = none ∧
      ((s.prtCause p c up).portOf p).vfEnable = false ∧ ((s.prtCause p c up).portOf p).linkUp = (decide (c = 3) && up) ∧
      (c = 0 → ((s.prtCause p c up).portOf p).inReset = true) := by
  unfold State.prtCause
  split
  · rename_i h0
    have hport : ({ s.modPort p (fun w => { w with inReset := true }) with pins := { s.pins with perstN := s.pins.perstN.set p false } }
      : State).portOf p = { s.portOf p with inReset := true } := portOf_modPort s p (fun w => { w with inReset := true })
    rw [hport]
    exact ⟨hjob, himage, hvf, by rw [h0]; exact hlink, fun _ => rfl⟩
  · rename_i h0
    split
    · rename_i h3
      rw [portOf_modPort]
      exact ⟨hjob, himage, hvf, by rw [h3]; rfl, fun h => absurd h h0⟩
    · rename_i h3
      exact ⟨hjob, himage, hvf, by rw [hlink, decide_eq_false h3, Bool.false_and], fun h => absurd h h0⟩

theorem exec_perstNDeassert (s : State) (p : PortId) : exec (.perstNDeassert p) s =
    .next ((({ s with pins := { s.pins with perstN := s.pins.perstN.set p true } }).modPort p (fun w =>
      { w with inReset := false })).hutchRaise (9 + p)) := rfl

/-- Settles O8: each event is its equation, and a PRT reset ends with the port's own part written. -/
theorem hostPortsComeAndGo : Obligations.HostPortsComeAndGo := by
  unfold Obligations.HostPortsComeAndGo
  refine ⟨?_, ?_, ?_, ?_, ?_, ?_, ?_, ?_, ?_, ?_, ?_, ?_, ?_⟩
  · intro s p
    have hport := portOf_modPort { s with pins := { s.pins with perstN := s.pins.perstN.set p true } } p (fun w => { w with inReset := false })
    have hwide : 9 + (p : Nat) < F.HUT_ICU_PEND_PENDING.width := Nat.lt_of_lt_of_le (Nat.add_lt_add_left p.isLt 9) (by decide)
    exact ⟨_, exec_perstNDeassert s p, congrArg HostPort.inReset hport, rfl, bit_putBit_true hwide _,
      (State.Kept.refl s _ _).upd.upd.put⟩
  · intro s p hpd hreset hpad hphase
    refine congrArg Host.Outcome.next (if_pos ?_)
    rcases hphase with h | h <;> rw [hpd, hreset, hpad, h] <;> rfl
  · intro s p cfg hlink hrel hrec
    exact congrArg Host.Outcome.next ((if_neg (by rw [hlink]; decide)).trans ((if_neg (by rw [hrel]; decide)).trans
      (if_neg (by rw [hrec]; decide))))
  · intro s p cfg hlink hrel
    exact congrArg Host.Outcome.next ((if_neg (by rw [hlink]; decide)).trans (if_pos (by rw [hrel]; rfl)))
  · intro s p c
    obtain ⟨hjob, himage, hvf, hlink⟩ := portOf_prtReset s p
    exact ⟨_, exec_prtReset s p c, portOf_prtCause hjob himage hvf hlink c (s.portOf p).linkUp⟩
  · exact fun s p => rfl
  · intro s d hst hreset hq
    exact congrArg (fun t : State => Host.Outcome.next (t.modDrw d (fun w => { w with fn := { w.fn with d3hot := false } })))
      (drawerReset_squash hst hreset hq .flr)
  · exact fun s d => rfl
  · intro s d hst
    exact congrArg (fun t : State => Host.Outcome.next (t.modDrw d (fun w => { w with fn := { w.fn with d3hot := false } })))
      (drawerReset_free hst .flr none)
  · intro s p f m hhot hnone
    have hany : (s.fnOf p f).vecs.any (fun x => decide (0 < x.2.events)) = false := by
      simpa using hnone
    exact congrArg Host.Outcome.next ((if_neg (by rw [show ((s.fnOf p f).pmcsr m).d3hot = false from hhot]; decide)).trans
      (if_neg (by rw [show ((s.fnOf p f).pmcsr m).vecs.any _ = false from hany]; decide)))
  · intro s p f m hhot hsome
    have hany : (s.fnOf p f).vecs.any (fun x => decide (0 < x.2.events)) = true := by
      simpa using hsome
    exact congrArg Host.Outcome.next ((if_neg (by rw [show ((s.fnOf p f).pmcsr m).d3hot = false from hhot]; decide)).trans (if_pos hany))
  · exact fun s p f m hhot => congrArg Host.Outcome.next (if_pos hhot)
  · exact fun s p f m => rfl

end

/-! ### Commands that report and are released -/

section
variable {s t : State} {d q k : Nat} {c : Cmd}

theorem kept_jnlWrite (s : State) (d q k type part : Nat) (payload : List Byte) :
    s.Kept (s.jnlWrite d q k type part payload) [.jnl, .cores] linkFields := (State.Kept.refl s _ _).upd.comp (kept_pmuEvent ..)

theorem kept_modCmd (s : State) (d q k : Nat) (g : Cmd → Cmd) : s.Kept (s.modCmd d q k g) [.drw] [] := (State.Kept.refl s _ _).upd

theorem cmds_modCmd (s : State) (d q k : Nat) (g : Cmd → Cmd) :
    (s.modCmd d q k g).cmds d = (s.cmds d).map (fun c => if c.queue = q && c.seq = k then g c else c) :=
  congrArg Drw.cmds (tget_tset_same ..)

theorem cmds_congr (h : t.drw = s.drw) (d : Nat) : t.cmds d = s.cmds d := by rw [State.cmds, State.drwOf, h]; rfl

theorem cmds_incWrap (s : State) (f : Fld) (i n d : Nat) : (s.incWrap f i n).cmds d = s.cmds d := rfl

theorem cmds_incSat (s : State) (f : Fld) (i n d : Nat) : (s.incSat f i n).cmds d = s.cmds d := rfl

/-- A change of a Drawer's only command. -/
theorem cmds_modCmd_only (h : s.cmds d = [c]) (g : Cmd → Cmd) : (s.modCmd d c.queue c.seq g).cmds d = [g c] := by
  rw [cmds_modCmd, h]
  simp

/-- A change that keeps the commands' places is found where the command was. -/
theorem cmd?_modCmd {g : Cmd → Cmd} (hg : ∀ c, (g c).queue = c.queue ∧ (g c).seq = c.seq) (h : s.cmd? d q k = some c) :
    (s.modCmd d q k g).cmd? d q k = some (g c) := by
  rw [State.cmd?, cmds_modCmd, List.find?_map]
  have hsame : ((fun c : Cmd => decide (c.queue = q) && decide (c.seq = k)) ∘ fun c => if c.queue = q && c.seq = k then g c else c) =
      fun c : Cmd => decide (c.queue = q) && decide (c.seq = k) := by
    funext c
    simp only [Function.comp_apply]
    split
    · rw [(hg c).1, (hg c).2]
    · rfl
  rw [hsame, show (s.cmds d).find? _ = some c from h]
  have hc := List.find?_some h
  exact congrArg some (if_pos hc)

/-- The only command of a Drawer is found. -/
theorem cmd?_only (h : s.cmds d = [c]) : s.cmd? d c.queue c.seq = some c := by
  rw [State.cmd?, h]
  simp

/-- The Drawer behind a function of a host port. -/
theorem drawerFn (d : Nat) : d / 32 * 32 + (d % 32 + 1) - 1 = d := by omega

theorem fnSilent_of_none (h : (s.drwOf d).reset = none) : s.fnSilent (d / 32) (d % 32 + 1) = false := by
  rw [State.fnSilent, drawerFn, h]
  exact Bool.and_false _

theorem hostLogged_of_none (h : (s.drwOf d).dirty = none) (a n : Nat) : s.hostLogged d a n = s := by
  have hone : ∀ p, s.hostLog d p = s := fun p => by rw [State.hostLog, h]
  unfold State.hostLogged
  generalize pagesOf _ _ _ = ps
  induction ps with
  | nil => rfl
  | cons p ps ih => rw [List.foldl_cons, hone, ih]

/-- A host write for a Drawer that is not reset and not logged is the write. -/
theorem hostWrite_plain (hd : d < 64) (hreset : (s.drwOf d).reset = none) (hdirty : (s.drwOf d).dirty = none) (a : Nat) (bs : List Byte) :
    s.hostWrite d a bs = s.hostOutPush (d / 32) (.write a bs false) := by
  refine (if_neg (by omega)).trans ((if_neg (by rw [fnSilent_of_none hreset]; decide)).trans ?_)
  rw [hostLogged_of_none hdirty]

theorem postStatus_of_zero (h : c.statusAddr = 0) : s.postStatus d c = s := if_neg (by simp [h])

/-- The status word of a running command. -/
theorem exec_statusWordUpdate {d : CtxId} {q : QueueId} (h : s.cmd? d q k = some c) (hrun : c.stage = .running)
    (hmore : c.committed ≠ c.postedCommitted) (ht : c.postedAt + 20000 ≤ s.now) :
    exec (.statusWordUpdate d q k) s = .next (s.postRunning d c) := by
  change execStatusWordUpdate d q k s = _
  unfold execStatusWordUpdate
  rw [h]
  exact congrArg Host.Outcome.next (if_pos (by simp [hrun, hmore, ht]))

/-- A report of command `c` taken: its source holds one entry more. -/
def State.reportTaken (s : State) (d q k : Nat) (c : Cmd) : State :=
  let t : State := { s with jnl := { s.jnl with ccHeld := tset 0 s.jnl.ccHeld c.source (tget 0 s.jnl.ccHeld c.source + 1) } }
  let t := t.put F.JNL_STATUS_CC_OCC 0 (t.get F.JNL_STATUS_CC_OCC + 1)
  (t.maxTo F.JNL_STATUS_CC_HWM 0 (t.get F.JNL_STATUS_CC_OCC)).modCmd d q k (fun c => { c with stage := .reported })

theorem kept_reportTaken (s : State) (d q k : Nat) (c : Cmd) : s.Kept (s.reportTaken d q k c) [.drw, .jnl] [F.JNL_STATUS_CC_OCC,
    F.JNL_STATUS_CC_HWM] := (State.Kept.refl s _ _).upd.put.put.comp (kept_modCmd ..)

theorem ccHeld_reportTaken (s : State) (d q k : Nat) (c : Cmd) :
    tget 0 (s.reportTaken d q k c).jnl.ccHeld c.source = tget 0 s.jnl.ccHeld c.source + 1 :=
  tget_tset_same 0 s.jnl.ccHeld c.source (tget 0 s.jnl.ccHeld c.source + 1)

theorem cmd?_reportTaken {x : Cmd} (h : s.cmd? d q k = some c) : (s.reportTaken d q k x).cmd? d q k = some { c with stage := .reported } :=
  cmd?_modCmd (g := fun c => { c with stage := .reported }) (fun _ => ⟨rfl, rfl⟩) h

theorem exec_reportAccept {d : CtxId} {q : QueueId} (h : s.cmd? d q k = some c) (hfin : c.stage = .finished)
    (hroom : tget 0 s.jnl.ccHeld c.source < 64 ∨ s.ccShared < 2816) :
    exec (.reportAccept d q k) s = .next (s.reportTaken d q k c) := by
  change execReportAccept d q k s = _
  unfold execReportAccept
  rw [h]
  refine congrArg Host.Outcome.next ((if_neg (by simp [hfin])).trans (if_neg ?_))
  simp only [Bool.and_eq_true, decide_eq_true_eq]
  omega

theorem kept_jnlCount (s : State) (d : Nat) (f : Fld) (g : JnlState → JnlState) (n : Nat) : s.Kept (s.jnlCount d f g n) [.jnl] [f] :=
  .ite (State.Kept.refl s _ _).upd ((State.Kept.refl s _ _).put (hf := List.mem_singleton_self f))

/-- A report that finds no entry waits, and is counted. -/
theorem exec_reportAccept_full {d : CtxId} {q : QueueId} (h : s.cmd? d q k = some c) (hfin : c.stage = .finished)
    (hheld : 64 ≤ tget 0 s.jnl.ccHeld c.source) (hshared : 2816 ≤ s.ccShared) : exec (.reportAccept d q k) s =
      .next (s.jnlCount d F.JNL_COUNT_CC_STALL (fun j => { j with cabStall := min 65535 (j.cabStall + 1) })) := by
  change execReportAccept d q k s = _
  unfold execReportAccept
  rw [h]
  exact congrArg Host.Outcome.next ((if_neg (by simp [hfin])).trans (if_pos (by simp [hheld, hshared])))

/-- A release of command `c`: its entries and its record are given back. -/
def State.handedBack (s : State) (d : Nat) (c : Cmd) : State :=
  let s := ((s.jnlWrite d c.queue c.seq 8 0 (leBytes 8 c.status)).jnlDrop d c.queue c.seq).jnlGive d c.rsvCtx c.rsvShared
  let s := { s with jnl := { s.jnl with ccHeld := tset 0 s.jnl.ccHeld c.source (tget 0 s.jnl.ccHeld c.source - 1) } }
  let s := s.put F.JNL_STATUS_CC_OCC 0 (s.get F.JNL_STATUS_CC_OCC - 1)
  (s.modDrw d (fun w => { w with cmds := w.cmds.filter (fun x => !(x.queue = c.queue && x.seq = c.seq)),
                                 fetchStall := w.fetchStall.filter (fun x => x != (c.queue, some c.seq)) })).stallBit

theorem kept_handedBack (s : State) (d : Nat) (c : Cmd) : s.Kept (s.handedBack d c) [.drw, .jnl, .cores]
    ([F.JNL_STATUS_USED, F.JNL_STATUS_CC_OCC, F.JNL_STATUS_FETCH_STALL] ++ linkFields) :=
  ((State.Kept.refl s _ _).comp (kept_jnlWrite ..)).upd.upd.put.upd.put.upd.put

theorem cmds_handedBack (h : s.cmds d = [c]) : (s.handedBack d c).cmds d = [] := by
  have hdrw : (s.jnlWrite d c.queue c.seq 8 0 (leBytes 8 c.status)).cmds d = [c] :=
    (cmds_congr ((kept_jnlWrite ..).1.1 .drw (by decide)) d).trans h
  have hfilter : (s.handedBack d c).cmds d = ((s.jnlWrite d c.queue c.seq 8 0 (leBytes 8 c.status)).cmds d).filter
      (fun x => !(x.queue = c.queue && x.seq = c.seq)) := congrArg Drw.cmds (tget_tset_same ..)
  rw [hfilter, hdrw]
  simp

/-- A release of a command that is complete, wakes nobody and has no status word. -/
theorem release_quiet (hstate : c.state = 3) (hflags : c.flags = 8) (hstatus : c.statusAddr = 0) (s : State) (d : Nat) :
    s.release d c = ((((s.hostWrite d (s.cplSlot d c.queue c.seq + 8) (s.recordTail c)).hostWrite d (s.cplSlot d c.queue c.seq)
      (recordHead c ((s.hostWrite d (s.cplSlot d c.queue c.seq + 8) (s.recordTail c)).cplLog d c.queue))).handedBack d c).released d
      c.queue c.seq) := by
  have hsig : c.signals = false := by
    rw [Cmd.signals, Cmd.signal, hflags, show bit 8 4 = false from rfl, Bool.and_false, Bool.false_and]
  have hirq : c.noIrq = true := by rw [Cmd.noIrq, hflags]; rfl
  have herr : (decide (c.state = 4) && decide (d < 64)) = false := by rw [hstate]; rfl
  unfold State.release
  rw [postStatus_of_zero hstatus, hirq, hsig, herr]
  rfl

/-- The position of a Drawer's queue that does not close moves on. -/
theorem released_open (hd : d < 64) (h : s.on F.DRW_Q_CTRL_CLOSING (qIx d q) = false) (k : Nat) :
    s.released d q k = s.incWrap F.DRW_Q_CPOS_WRITTEN (qIx d q) := by
  refine (if_pos hd).trans (if_neg ?_)
  rw [show (s.incWrap F.DRW_Q_CPOS_WRITTEN (qIx d q)).on F.DRW_Q_CTRL_CLOSING (qIx d q) = false from
    (congrArg (fun x : Nat => decide (x = 1)) (get_put_of_num (by decide) ..)).trans h]
  exact Bool.false_ne_true

/-- `s` with the record of command `c` written to its host. -/
def State.recordWritten (s : State) (d : Nat) (c : Cmd) : State :=
  (s.hostOutPush (d / 32) (.write (s.cplSlot d c.queue c.seq + 8) (s.recordTail c) false)).hostOutPush (d / 32)
    (.write (s.cplSlot d c.queue c.seq) (recordHead c (s.cplLog d c.queue)) false)

theorem kept_recordWritten (s : State) (d : Nat) (c : Cmd) : s.Kept (s.recordWritten d c) [.hostOut] [] := (State.Kept.refl s _ _).upd.upd

/-- The release of such a command of a Drawer whose queue does not close. -/
theorem release_drawer (hd : d < 64) (hreset : (s.drwOf d).reset = none) (hdirty : (s.drwOf d).dirty = none) (hstate : c.state = 3)
    (hflags : c.flags = 8) (hstatus : c.statusAddr = 0) (hclose : s.on F.DRW_Q_CTRL_CLOSING (qIx d c.queue) = false) :
    s.release d c = ((s.recordWritten d c).handedBack d c).incWrap F.DRW_Q_CPOS_WRITTEN (qIx d c.queue) := by
  have hkeep : ((s.recordWritten d c).handedBack d c).get F.DRW_Q_CTRL_CLOSING (qIx d c.queue) = s.get F.DRW_Q_CTRL_CLOSING (qIx d c.queue) :=
    ((kept_handedBack ..).2 _ _ (by decide)).trans ((kept_recordWritten ..).2 _ _ (by decide))
  rw [release_quiet hstate hflags hstatus, hostWrite_plain hd hreset hdirty,
    hostWrite_plain (s := s.hostOutPush _ _) hd hreset hdirty]
  exact released_open hd ((congrArg (fun x : Nat => decide (x = 1)) hkeep).trans hclose) c.seq

theorem exec_completionRelease {d : CtxId} {q : QueueId} (h : s.cmd? d q (s.qWritten d q) = some c) (hrep : c.stage = .reported)
    (hvis : c.visible = true) : exec (.completionRelease d q) s = .next (s.release d c) := by
  change execCompletionRelease d q s = _
  unfold execCompletionRelease
  rw [h]
  exact congrArg Host.Outcome.next (if_pos (by simp [hrep, hvis]))

/-! Faults and replays. -/

theorem kept_charge (s : State) : s.Kept s.charge [.gpu, .drw] [F.GFE_CTX_LEDGER_USED] := by
  refine State.Kept.upd (State.Kept.foldl (State.Kept.foldl (.refl s _ _) fun _ _ ht => ?_) fun _ _ ht => ht.comp (kept_modCmd ..))
  exact ht.upd.foldl fun _ _ hu => hu.put

theorem kept_dropWork (s : State) (d q k : Nat) : s.Kept (s.dropWork d q k) [.gpu, .drw] [F.GFE_CTX_LEDGER_USED] :=
  ((State.Kept.refl s _ _).comp (kept_charge s)).upd

/-- Charging the Bench groups changes only how long a command has run. -/
theorem cmds_charge_only (h : s.cmds d = [c]) : ∃ n, s.charge.cmds d = [{ c with runNs := n }] := by
  have hstep : ∀ (t : State) (x : Nat × Nat × Nat) (dt : Nat), (∃ n, t.cmds d = [{ c with runNs := n }]) →
      ∃ n, (t.modCmd x.1 x.2.1 x.2.2 (fun c => { c with runNs := c.runNs + dt })).cmds d = [{ c with runNs := n }] := by
    intro t x dt ⟨n, hn⟩
    by_cases hd : d = x.1
    · rw [← hd, cmds_modCmd, hn]
      by_cases hx : (decide (c.queue = x.2.1) && decide (c.seq = x.2.2)) = true
      · exact ⟨n + dt, by simp only [List.map_cons, List.map_nil, hx, if_true]⟩
      · exact ⟨n, by rw [List.map_cons, List.map_nil, if_neg hx]⟩
    · refine ⟨n, ?_⟩
      rw [← hn]
      exact congrArg Drw.cmds (tget_tset_ne _ _ _ hd _)
  have hgroups : ∀ (t : State) (gs : List (Nat × BenchGrp)) (f : State → Nat × BenchGrp → State), (∀ t p, (f t p).drw = t.drw) →
      (∃ n, t.cmds d = [{ c with runNs := n }]) → ∃ n, (gs.foldl f t).cmds d = [{ c with runNs := n }] := by
    intro t gs f hf ht
    rw [cmds_congr (foldl_keeps (fun u : State => u.drw) hf ..) d]
    exact ht
  have hran : ∀ (t : State) (xs : List (Nat × Nat × Nat)) (dt : Nat), (∃ n, t.cmds d = [{ c with runNs := n }]) →
      ∃ n, (xs.foldl (fun s x => s.modCmd x.1 x.2.1 x.2.2 (fun c => { c with runNs := c.runNs + dt })) t).cmds d =
        [{ c with runNs := n }] := by
    intro t xs dt ht
    induction xs generalizing t with
    | nil => exact ht
    | cons x xs ih => exact ih _ (hstep t x dt ht)
  refine hran _ _ _ (hgroups _ _ _ (fun t p => (foldl_keeps (fun u : State => u.drw) ?_ _ _).trans ?_) ⟨c.runNs, h⟩)
  · exact fun _ _ => rfl
  · rfl

theorem cmds_dropWork_only (h : s.cmds d = [c]) (d' q k : Nat) : ∃ n, (s.dropWork d' q k).cmds d = [{ c with runNs := n }] := by
  obtain ⟨n, hn⟩ := cmds_charge_only h
  exact ⟨n, (cmds_congr rfl d).trans hn⟩

theorem cmds_dropReqs_only (h : s.cmds d = [c]) : (s.dropReqs d c).cmds d = [c] := (cmds_congr rfl d).trans h

theorem cmds_dropCapture_only (h : s.cmds d = [c]) : (s.dropCapture d c).cmds d = [c] := (cmds_congr rfl d).trans h

/-- `s` with a fault of command `c` in the Journal and the work of its attempt dropped. -/
def State.attemptDropped (s : State) (d : Nat) (c : Cmd) (blk : Nat) : State :=
  (((s.jnlWrite d c.queue c.seq 7 0 (leBytes 4 c.attempt ++ leBytes 4 blk ++ leBytes 8 0 ++ leBytes 8 s.st)).dropReqs d c).dropCapture d
    c).dropWork d c.queue c.seq

/-- Command `c` at its next attempt. -/
def State.nextAttempt (s : State) (d : Nat) (c : Cmd) (blk : Nat) : Cmd :=
  { c with state := 2, attempt := c.attempt + 1,
           pass := (s.jnlWrite d c.queue c.seq 7 0 (leBytes 4 c.attempt ++ leBytes 4 blk ++ leBytes 8 0 ++ leBytes 8 s.st)).mapPass d c
             { c.pass with inTile := [], content := [], retake := c.pass.retake ++ c.pass.inTile.map (fun p => p.2) } }

theorem kept_attemptDropped (s : State) (d : Nat) (c : Cmd) (blk : Nat) : s.Kept (s.attemptDropped d c blk)
    [.jnl, .cores, .plk, .heads, .gpu, .drw] (F.GFE_CTX_LEDGER_USED :: linkFields) :=
  ((State.Kept.refl s _ _).comp (kept_jnlWrite ..)).upd.upd.comp (kept_dropWork ..)

theorem cmds_attemptDropped (h : s.cmds d = [c]) (blk : Nat) : ∃ n, (s.attemptDropped d c blk).cmds d = [{ c with runNs := n }] :=
  have hw : (s.jnlWrite d c.queue c.seq 7 0 (leBytes 4 c.attempt ++ leBytes 4 blk ++ leBytes 8 0 ++ leBytes 8 s.st)).cmds d = [c] :=
    (cmds_congr ((kept_jnlWrite ..).1.1 .drw (by decide)) d).trans h
  cmds_dropWork_only (cmds_dropCapture_only (cmds_dropReqs_only hw)) ..

/-- The next attempt of command `c` begun. -/
def State.attemptBegun (s : State) (d : Nat) (c : Cmd) (blk : Nat) : State :=
  ((s.attemptDropped d c blk).modCmd d c.queue c.seq (fun _ => s.nextAttempt d c blk)).postRunning d (s.nextAttempt d c blk)

/-- A command whose result is not committed is replayed before its fourth attempt. -/
theorem replay_again (hrun : c.stage = .running) (hrep : c.replayable = true) (hatt : c.attempt < 3)
    (hcommit : s.jnlHas d c.queue c.seq 6 = false) (hd : d < 64) (blk : Nat) : s.replay d c blk =
      ((s.attemptBegun d c blk).incSat F.JNL_COUNT_REPLAYS 0 1).pmuEvent 6 2 0 1 (ctxDrawer d) (!(ctxOrigin d).cab) := by
  have hcount : ∀ (t : State) (g : JnlState → JnlState), t.jnlCount d F.JNL_COUNT_REPLAYS g = t.incSat F.JNL_COUNT_REPLAYS 0 1 :=
    fun _ _ => if_neg (by omega)
  refine (if_neg (by simp [hcommit, hrun])).trans ((if_neg (by simp [hrep])).trans ((if_neg (by omega)).trans ?_))
  dsimp only
  rw [hcount]
  rfl

theorem attemptBegun_silent (hstatus : c.statusAddr = 0) (s : State) (d blk : Nat) : s.attemptBegun d c blk =
    ((s.attemptDropped d c blk).modCmd d c.queue c.seq (fun _ => s.nextAttempt d c blk)).modCmd d c.queue c.seq (fun x =>
      { x with postedAt := ((s.attemptDropped d c blk).modCmd d c.queue c.seq (fun _ => s.nextAttempt d c blk)).now,
               postedCommitted := x.committed }) := by
  have hzero : (s.nextAttempt d c blk).statusAddr = 0 := hstatus
  rw [State.attemptBegun, State.postRunning, postStatus_of_zero hzero]
  rfl

theorem kept_attemptBegun (hstatus : c.statusAddr = 0) (s : State) (d blk : Nat) : s.Kept (s.attemptBegun d c blk)
    [.jnl, .cores, .plk, .heads, .gpu, .drw] (F.GFE_CTX_LEDGER_USED :: linkFields) := by
  rw [attemptBegun_silent hstatus]
  exact ((kept_attemptDropped s d c blk).comp (kept_modCmd ..)).comp (kept_modCmd ..)

theorem cmds_attemptBegun (hstatus : c.statusAddr = 0) (h : s.cmds d = [c]) (blk : Nat) :
    ∃ at_ n, (s.attemptBegun d c blk).cmds d = [{ s.nextAttempt d c blk with postedAt := at_, postedCommitted := n }] := by
  obtain ⟨n, hn⟩ := cmds_attemptDropped h blk
  have hnext : ((s.attemptDropped d c blk).modCmd d c.queue c.seq (fun _ => s.nextAttempt d c blk)).cmds d = [s.nextAttempt d c blk] :=
    cmds_modCmd_only (c := { c with runNs := n }) hn _
  rw [attemptBegun_silent hstatus]
  exact ⟨_, _, cmds_modCmd_only (c := s.nextAttempt d c blk) hnext _⟩

theorem exec_commandFault {d : CtxId} {q : QueueId} (h : s.cmd? d q k = some c) (hrun : c.stage = .running) (blk : Nat) :
    exec (.commandFault d q k blk none) s = .next (s.replay d c blk) := by
  change execCommandFault d q k blk none s = _
  unfold execCommandFault
  rw [h]
  exact congrArg Host.Outcome.next (if_neg (by simp [hrun]))

theorem exec_commandFault_code {d : CtxId} {q : QueueId} {x : Fin 16} (h : s.cmd? d q k = some c) (hrun : c.stage = .running)
    (hx : faultCode x = true) (blk : Nat) : exec (.commandFault d q k blk (some x)) s =
      .next ((s.jnlWrite d q k 7 0 (leBytes 4 c.attempt ++ leBytes 4 blk ++ leBytes 8 x ++ leBytes 8 s.st)).endCmd d q k 4 x) := by
  change execCommandFault d q k blk (some x) s = _
  unfold execCommandFault
  rw [h]
  exact congrArg Host.Outcome.next ((if_neg (by simp [hrun])).trans (if_neg (by rw [hx]; decide)))

/-! Message-signalled interrupts. -/

theorem fnOf_setFn (s : State) (p f : Nat) (x : PciFn) : (s.setFn p f x).fnOf p f = x := by
  unfold State.setFn State.fnOf
  split
  · exact congrArg HostPort.pf (tget_tset_same ..)
  · exact congrArg Drw.fn (tget_tset_same ..)

theorem vec_setVec (f : PciFn) (v : Nat) (x : MsixVec) : (f.setVec v x).vec v = x := tget_tset_same ..

theorem kept_setFn (s : State) (p f : Nat) (x : PciFn) : s.Kept (s.setFn p f x) [.drw, .ports] [] :=
  .ite (State.Kept.refl s _ _).upd (State.Kept.refl s _ _).upd

theorem kept_setFn_drawer {f : Nat} (h : f ≠ 0) (s : State) (p : Nat) (x : PciFn) : s.Kept (s.setFn p f x) [.drw] [] := by
  rw [State.setFn, if_neg h]
  exact (State.Kept.refl s _ _).upd

/-- Whether a function is silent does not rest on its vectors. -/
theorem fnSilent_setFn (s : State) (p f : Nat) (x : PciFn) : (s.setFn p f x).fnSilent p f = s.fnSilent p f := by
  unfold State.setFn State.fnSilent
  split
  · rename_i h
    rw [h]
    rfl
  · rw [show State.drwOf (s.modDrw _ _) (p * 32 + f - 1) = _ from tget_tset_same ..]

/-- A vector that may signal sends its message and is no longer pending. -/
theorem sendPending_sends {p f v : Nat} (hpend : ((s.fnOf p f).vec v).pendingBit = true) (hmask : ((s.fnOf p f).vec v).masked = false)
    (hfn : (s.fnOf p f).fnMask = false) (hhot : (s.fnOf p f).d3hot = false) (hsil : s.fnSilent p f = false) : s.sendPending p f v =
      (s.setFn p f ((s.fnOf p f).setVec v { (s.fnOf p f).vec v with pendingBit := false })).hostOutPush p (.msix f v) :=
  if_neg (by rw [hpend, hmask, hfn, hhot, hsil]; decide)

/-- Vector `x` of a function set, its message sent. -/
theorem sendPending_setVec {p f v : Nat} {x : MsixVec} (hpend : x.pendingBit = true) (hmask : x.masked = false)
    (hfn : (s.fnOf p f).fnMask = false) (hhot : (s.fnOf p f).d3hot = false) (hsil : s.fnSilent p f = false) :
    let t := (s.setFn p f ((s.fnOf p f).setVec v x)).sendPending p f v
    t.hostOut = s.hostOut ++ [(p, .msix f v)] ∧ (t.fnOf p f).vec v = { x with pendingBit := false } ∧ s.Kept t [.drw, .ports, .hostOut] [] ∧
      (f ≠ 0 → s.Kept t [.drw, .hostOut] []) := by
  have hset := fnOf_setFn s p f ((s.fnOf p f).setVec v x)
  have hvec : ((s.setFn p f ((s.fnOf p f).setVec v x)).fnOf p f).vec v = x := by rw [hset, vec_setVec]
  have hkept := kept_setFn s p f ((s.fnOf p f).setVec v x)
  dsimp only
  rw [sendPending_sends (by rw [hvec]; exact hpend) (by rw [hvec]; exact hmask) (by rw [hset]; exact hfn) (by rw [hset]; exact hhot)
    (by rw [fnSilent_setFn]; exact hsil)]
  refine ⟨?_, ?_, ?_, fun hf => ?_⟩
  · exact congrArg (· ++ [(p, HostOut.msix f v)]) (Eq.trans ((kept_setFn ..).1.1 .hostOut (by decide)) (hkept.1.1 .hostOut (by decide)))
  · exact (congrArg (PciFn.vec · v) (fnOf_setFn ..)).trans ((vec_setVec ..).trans (by rw [hvec]))
  · exact ((State.Kept.refl s _ _).comp hkept |>.comp (kept_setFn ..)).upd
  · exact ((State.Kept.refl s _ _).comp (kept_setFn_drawer hf ..) |>.comp (kept_setFn_drawer hf ..)).upd

theorem fnOf_drawer (s : State) (d : Nat) : s.fnOf (d / 32) (d % 32 + 1) = (s.drwOf d).fn := by
  rw [State.fnOf, if_neg (Nat.succ_ne_zero _), drawerFn]

/-- A moderation time that has passed sends the vector's events. -/
theorem exec_moderationTimer {d : DrawerId} {v : VecId} {a : Nat} (hfrom : ((s.drwOf d).fn.vec v).timerFrom = some a)
    (htime : s.get F.DRW_MOD_TIME_US (qIx d v) ≠ 0) (hev : 0 < ((s.drwOf d).fn.vec v).events) (hhot : (s.drwOf d).fn.d3hot = false)
    (ht : a + (s.get F.DRW_MOD_TIME_US (qIx d v) - ((s.drwOf d).fn.vec v).frozenUs) * 1000 ≤ s.now) :
    exec (.moderationTimer d v) s = .next (s.fireFn (d / 32) (d % 32 + 1) v) := by
  change execModerationTimer d v s = _
  unfold execModerationTimer
  dsimp only
  rw [hfrom]
  exact congrArg Host.Outcome.next (if_pos ⟨htime, hev, hhot, ht⟩)

theorem exec_msixUnmask {p : PortId} {f : Fin 33} {v : Fin 64} (h : (f : Nat) = 0 ∨ (v : Nat) < 16) : exec (.msixUnmask p f (some v)) s =
    .next ((s.setFn p f ((s.fnOf p f).setVec v { (s.fnOf p f).vec v with masked := false })).sendPending p f v) := by
  refine congrArg Host.Outcome.next (if_neg ?_)
  rintro ⟨hf, hv⟩
  rcases h with h | h
  · exact hf (Fin.ext h)
  · omega

end

/-- Settles O16: a release writes its record and gives its entries back, a replay begins the next attempt, and a vector that may signal
sends its message. -/
theorem commandsReportAndAreReleased : Obligations.CommandsReportAndAreReleased := by
  unfold Obligations.CommandsReportAndAreReleased
  refine ⟨?_, ?_, ?_, ?_, ?_, ?_, ?_, ?_, ?_, ?_, ?_, ?_, ?_, ?_, ?_⟩
  · exact fun s d q seq c h hrun hmore ht => exec_statusWordUpdate h hrun hmore ht
  · intro s d q seq c h hq hseq hd hrun hmore ht hok hknown haddr hdirty hreset
    subst hseq
    have hfind : s.cmd? d q c.seq = some c := hq ▸ cmd?_only h
    have hpost : s.postStatus d c = s.hostOutPush ((d : Nat) / 32) (.write c.statusAddr (leBytes 8 c.status) false) :=
      (if_pos (by simp [hok, hknown, haddr])).trans (hostWrite_plain hd hreset hdirty ..)
    have hcmds : (s.postStatus d c).cmds d = [c] := by rw [hpost]; exact h
    refine ⟨_, exec_statusWordUpdate hfind hrun hmore ht, ?_, ?_, ?_⟩
    · exact congrArg State.hostOut hpost
    · exact cmds_modCmd_only hcmds _
    · rw [State.postRunning, hpost]
      exact (State.Kept.refl s _ _).upd.comp (kept_modCmd ..)
  · intro s d q seq c h hfin hroom hocc
    refine ⟨_, exec_reportAccept h hfin (.inl hroom), ccHeld_reportTaken .., ?_, by rw [cmd?_reportTaken h]; rfl, kept_reportTaken ..⟩
    refine (get_put_of_num (by decide) ..).trans ((get_put_same ..).trans (Nat.mod_eq_of_lt ?_))
    exact Nat.lt_of_lt_of_le (Nat.succ_lt_succ hocc) (by decide)
  · intro s d q seq c h hfin hroom
    exact ⟨_, exec_reportAccept h hfin hroom, by rw [cmd?_reportTaken h]; rfl, kept_reportTaken ..⟩
  · intro s d q seq c h hfin hheld hshared
    exact ⟨_, exec_reportAccept_full h hfin hheld hshared, cmds_congr ((kept_jnlCount ..).1.1 .drw (by decide)) d, kept_jnlCount ..⟩
  · exact fun s d q c h hrep hvis => exec_completionRelease h hrep hvis
  · intro s d q c h hq hd hseq hrep hvis hstate hflags hstatus hdirty hreset hclosing
    have hfind : s.cmd? d q (s.qWritten d q) = some c := by
      rw [show s.qWritten d q = c.seq from (if_pos hd).trans hseq.symm, ← hq]
      exact cmd?_only h
    have hrelease := release_drawer hd hreset hdirty hstate hflags hstatus (hq ▸ hclosing)
    have hw := kept_recordWritten s d c
    have hk := kept_handedBack (s.recordWritten d c) d c
    have hparts : s.PartsKept (s.release d c) [.hostOut, .drw, .jnl, .cores] := by
      rw [hrelease]
      exact (((State.PartsKept.refl s _).comp hw.1).comp hk.1).put
    refine ⟨_, exec_completionRelease hfind hrep hvis, ?_, ?_, ?_, hparts.1 .mem (by decide), hparts.1 .tls (by decide),
      hparts.1 .err (by decide)⟩
    · rw [hrelease]
      exact (cmds_incWrap ..).trans (cmds_handedBack ((cmds_congr (hw.1.1 .drw (by decide)) d).trans h))
    · rw [hrelease, ← hq, State.incWrap, get_put_same, hk.2 F.DRW_Q_CPOS_WRITTEN _ (by decide), hw.2 F.DRW_Q_CPOS_WRITTEN _ (by decide)]
      rfl
    · rw [hrelease, ← hq]
      exact Eq.trans (hk.1.1 .hostOut (by decide)) (List.append_assoc ..)
  · exact fun s d q seq blk x c h hrun hx => exec_commandFault_code h hrun hx blk
  · intro s d q seq blk c h hq hseq hrun hrep hatt hcommit hd hstatus
    subst hseq
    have hfind : s.cmd? d q c.seq = some c := hq ▸ cmd?_only h
    have hreplay := replay_again hrun hrep hatt (hq ▸ hcommit) hd blk
    have hk := kept_attemptBegun hstatus s d blk
    have hev := kept_pmuEvent ((s.attemptBegun d c blk).incSat F.JNL_COUNT_REPLAYS 0 1) 6 2 0 1 (ctxDrawer d) (!(ctxOrigin d).cab)
    obtain ⟨at_, n, hcmds⟩ := cmds_attemptBegun hstatus h blk
    refine ⟨_, (exec_commandFault hfind hrun blk).trans (congrArg Host.Outcome.next hreplay), ?_, ?_, ?_, ?_, ?_⟩
    · rw [cmds_congr (hev.1.1 .drw (by decide)) d,
        cmds_incSat, hcmds]
      simp [State.nextAttempt, hrun]
    · rw [hev.2 F.JNL_COUNT_REPLAYS 0 (by decide), get_incSat_one, hk.2 F.JNL_COUNT_REPLAYS 0 (by decide)]
      rfl
    · exact Eq.trans (hev.1.1 .mem (by decide)) (hk.1.1 .mem (by decide))
    · exact Eq.trans (hev.1.1 .tls (by decide)) (hk.1.1 .tls (by decide))
    · exact Eq.trans (hev.1.1 .hostOut (by decide)) (hk.1.1 .hostOut (by decide))
  · exact fun s d q seq blk c h hrun => exec_commandFault h hrun blk
  · exact fun s d v a hfrom htime hev hhot ht => exec_moderationTimer hfrom htime hev hhot ht
  · intro s d v a hfrom hev hhot htime ht hmask hfn hreset
    have hf := fnOf_drawer s d
    have hsil := fnSilent_of_none hreset
    obtain ⟨hout, hvec, -, hdrw⟩ := sendPending_setVec (s := s) (p := (d : Nat) / 32) (f := (d : Nat) % 32 + 1) (v := v)
      (x := { (s.drwOf d).fn.vec v with events := 0, timerFrom := none, frozenUs := 0, pendingBit := true }) rfl hmask
      (by rw [hf]; exact hfn) (by rw [hf]; exact hhot) hsil
    have hfire : s.fireFn ((d : Nat) / 32) ((d : Nat) % 32 + 1) v = (s.setFn ((d : Nat) / 32) ((d : Nat) % 32 + 1)
        ((s.fnOf ((d : Nat) / 32) ((d : Nat) % 32 + 1)).setVec v { (s.drwOf d).fn.vec v with
          events := 0, timerFrom := none, frozenUs := 0, pendingBit := true })).sendPending ((d : Nat) / 32) ((d : Nat) % 32 + 1) v := by
      refine (if_neg (by rw [hsil]; decide)).trans ?_
      rw [hf]
    refine ⟨_, (exec_moderationTimer hfrom htime hev hhot ht).trans (congrArg Host.Outcome.next hfire), hout, ?_,
      hdrw (Nat.succ_ne_zero _)⟩
    rw [← fnOf_drawer, hvec]
  · intro s p f v hv hpend hfn hhot hsil
    obtain ⟨hout, hvec, hkept, -⟩ := sendPending_setVec (s := s) (p := p) (f := f) (v := v)
      (x := { (s.fnOf p f).vec v with masked := false }) hpend rfl hfn hhot hsil
    exact ⟨_, exec_msixUnmask hv, hout, by rw [hvec], by rw [hvec], by rw [hvec], hkept⟩
  · exact fun s p f v hv => exec_msixUnmask hv
  · exact fun s p f => rfl

end Sys2Proof.Machine
end

section
/-! SUPPORT. Mailbox requests, and the end of a Drawer's work. -/

namespace Sys2Proof.Machine

set_option Elab.async false

/-! ### The end of a Drawer's work -/

section
variable {s : State} {d : Nat}

theorem kept_setFn_pf (s : State) (p : Nat) (x : PciFn) : s.Kept (s.setFn p 0 x) [.ports] [] := (State.Kept.refl s _ _).upd

theorem kept_pmeSignal_pf (s : State) (p : Nat) : s.Kept (s.pmeSignal p 0) [.ports, .hostOut, .pins] [] :=
  have hs := (State.Kept.refl s [.ports, .hostOut, .pins] []).comp (kept_setFn_pf s p { s.fnOf p 0 with pmeStatus := true })
  .ite hs (.ite hs.upd hs.upd)

theorem kept_sendPending_pf (s : State) (p v : Nat) : s.Kept (s.sendPending p 0 v) [.ports, .hostOut] [] :=
  .ite (.refl s _ _) (((State.Kept.refl s _ _).comp (kept_setFn_pf ..)).upd)

theorem kept_fireFn_pf (s : State) (p v : Nat) : s.Kept (s.fireFn p 0 v) [.ports, .hostOut] [] := by
  unfold State.fireFn
  exact .ite (.refl s _ _) (((State.Kept.refl s _ _).comp (kept_setFn_pf ..)).comp (kept_sendPending_pf ..))

/-- An event of a physical function changes its port and what it sends. -/
theorem kept_pfEvent (s : State) (p v : Nat) : s.Kept (s.pfEvent p v) [.ports, .hostOut, .pins] [] :=
  .ite (((State.Kept.refl s _ _).comp (kept_setFn_pf ..)).comp (kept_pmeSignal_pf ..)) ((State.Kept.refl s _ _).comp (kept_fireFn_pf ..))

theorem kept_drwEvent (s : State) (p : Nat) (e : DrwEvent) : s.Kept (s.drwEvent p e) [.ports, .hostOut, .pins] [F.HPx_MBX_STATUS_EVENT] :=
  State.Kept.comp ((State.Kept.refl s _ _).upd.put) (kept_pfEvent ..)

theorem kept_respond (s : State) (p r x : Nat) (bs : List Byte) : s.Kept (s.respond p r x bs) [.ports] [] := (State.Kept.refl s _ _).upd

/-- The last steps by which a Drawer becomes FREE. -/
def State.freed (s : State) (d : Nat) : State :=
  let s := (List.range 32).foldl (fun s i => s.put F.DRW_AUD_CFG_MODULE (d * 32 + i) 0) (s.put F.DRW_STATUS_STATE d 0)
  let s := ((s.shareAs d 0).put F.GFE_CTX_SHARE_ACTIVE d 0).put F.GFE_CTX_SHARE_CAP d 0
  let s : State := { s with gpu := { s.gpu with rawShare := tset 0 s.gpu.rawShare d 0 } }
  s.modDrw d (fun _ => {})

theorem drawerFree_freed (s : State) (d : Nat) : ∃ t : State, s.drawerFree d = t.freed d := ⟨_, rfl⟩

theorem drwOf_modDrw (s : State) (d : Nat) (g : Drw → Drw) : (s.modDrw d g).drwOf d = g (s.drwOf d) := tget_tset_same ..

theorem drwOf_freed (s : State) (d : Nat) : (s.freed d).drwOf d = {} := by
  unfold State.freed
  exact drwOf_modDrw ..

theorem drwState_freed (s : State) (d : Nat) : (s.freed d).drwState d = 0 := by
  have hclear : ((List.range 32).foldl (fun s i => s.put F.DRW_AUD_CFG_MODULE (d * 32 + i) 0) (s.put F.DRW_STATUS_STATE d 0)).get
      F.DRW_STATUS_STATE d = 0 :=
    (foldl_keeps (fun u : State => u.get F.DRW_STATUS_STATE d) (fun u i => get_put_of_num (by decide) u _ d 0) _ _).trans
      (get_put_same s F.DRW_STATUS_STATE d 0)
  unfold State.freed
  generalize (List.range 32).foldl (fun s i => s.put F.DRW_AUD_CFG_MODULE (d * 32 + i) 0) (s.put F.DRW_STATUS_STATE d 0) = t at hclear ⊢
  have hkept : t.Kept (((t.shareAs d 0).put F.GFE_CTX_SHARE_ACTIVE d 0).put F.GFE_CTX_SHARE_CAP d 0) []
    [F.GFE_CTX_SHARE_SHARE, F.GFE_CTX_SHARE_PENDING, F.GFE_CTX_SHARE_ACTIVE, F.GFE_CTX_SHARE_CAP] := (State.Kept.refl t _ _).put.put.put.put
  exact (hkept.2 F.DRW_STATUS_STATE d (by decide)).trans hclear

/-- What a reset of a Drawer shows at its end. -/
def State.resetShown (s : State) (d : Nat) (j : ResetJob) (drained : Bool) : State :=
  let s := (s.put F.DRW_STATUS_RESET_SEQ d j.seq).put F.DRW_STATUS_RESET_SEEN d 1
  let s := s.drwEvent (d / 32) { drawer := d % 32, cause := j.cause.code, mode := b2n (!drained), seq := j.seq, squashed := j.squashed,
                                 st := s.st % 2 ^ 62, stState := s.stState }
  match (s.portOf (d / 32)).job with
  | none => s
  | some x =>
    if x.waiting && x.drawer = d % 32 && (x.opcode = 0x14 || x.opcode = 0x15) then
      s.respond (d / 32) 0 0 (if x.opcode = 0x14 then leBytes 4 j.seq ++ leBytes 12 0 else [])
    else s

theorem resetDone_toFree {j : ResetJob} (h : j.toFree = true) (drained : Bool) (s : State) (d : Nat) :
    ∃ t : State, s.resetDone d j drained = (t.freed d).resetShown d j drained := by
  unfold State.resetDone
  dsimp only
  rw [if_pos h]
  generalize hfree : State.drawerFree _ d = t
  obtain ⟨u, hu⟩ := drawerFree_freed _ d
  rw [hfree] at hu
  exact ⟨u, by rw [hu]; rfl⟩

theorem kept_resetShown (s : State) (d : Nat) (j : ResetJob) (drained : Bool) :
    ((s.put F.DRW_STATUS_RESET_SEQ d j.seq).put F.DRW_STATUS_RESET_SEEN d 1).Kept (s.resetShown d j drained) [.ports, .hostOut, .pins]
      [F.HPx_MBX_STATUS_EVENT] := by
  unfold State.resetShown
  dsimp only
  split
  · exact kept_drwEvent ..
  · exact .ite ((kept_drwEvent ..).comp (kept_respond ..)) (kept_drwEvent ..)

theorem exec_drawerResetDone {d : DrawerId} {j : ResetJob} (h : (s.drwOf d).reset = some j) (hdrain : j.drain = false) :
    exec (.drawerResetDone d) s = .next (s.resetDone d j false) := by
  change execDrawerResetDone d s = _
  unfold execDrawerResetDone
  rw [h]
  exact congrArg Host.Outcome.next (if_pos (by rw [hdrain]; rfl))

end

/-- Settles O13: the end of a reset to FREE clears the Drawer last, and the other ends are their equations. -/
theorem drawerWorkComesToItsEnd : Obligations.DrawerWorkComesToItsEnd := by
  unfold Obligations.DrawerWorkComesToItsEnd
  refine ⟨?_, ?_, ?_, ?_, ?_, ?_, ?_, ?_, ?_, ?_⟩
  · exact fun s d j h hdrain _ => exec_drawerResetDone h hdrain
  · intro s d j h hdrain hfree hseq _ _
    obtain ⟨t, ht⟩ := resetDone_toFree hfree false s d
    have hk := kept_resetShown (t.freed d) d j false
    refine ⟨_, (exec_drawerResetDone h hdrain).trans (congrArg Host.Outcome.next ht), ?_, ?_, ?_, ?_⟩
    · rw [hk.2 F.DRW_STATUS_RESET_SEQ _ (by decide), get_put_of_num (by decide), get_put_same]
      exact Nat.mod_eq_of_lt hseq
    · rw [hk.2 F.DRW_STATUS_RESET_SEEN _ (by decide), get_put_same]
      rfl
    · rw [State.drwState, hk.2 F.DRW_STATUS_STATE _ (by decide), get_put_of_num (by decide), get_put_of_num (by decide)]
      exact drwState_freed t d
    · rw [State.drwOf, hk.1.1 .drw (by decide)]
      exact drwOf_freed t d
  · intro s d j h hdrain hnone
    change execDrawerResetDone d s = _
    unfold execDrawerResetDone
    rw [h]
    exact congrArg Host.Outcome.next ((if_neg (by rw [hdrain]; decide)).trans (if_neg (by rw [hnone]; decide)))
  · intro s d j h hdrain ht hquiet
    change execDrainTimeout d s = _
    unfold execDrainTimeout
    rw [h]
    exact congrArg Host.Outcome.next (if_pos (by rw [hdrain, decide_eq_true ht, hquiet]; rfl))
  · intro s d j hquiet h hsave
    refine congrArg Host.Outcome.next ((if_pos hquiet).trans ?_)
    rw [State.quiesced, h]
    dsimp only
    rw [hsave]
    rfl
  · exact fun s d hquiet => congrArg Host.Outcome.next (if_pos hquiet)
  · intro s d j hquiet h ht
    exact congrArg Host.Outcome.next ((if_neg (by rw [h, Option.any_some, decide_eq_true ht]; decide)).trans (if_pos hquiet))
  · intro s d j hquiet h ht
    refine congrArg Host.Outcome.next ((if_neg (by rw [h, Option.any_some, decide_eq_true ht]; decide)).trans ((if_neg
      (by rw [hquiet]; decide)).trans ?_))
    rw [State.quiesceEnd, h]
  · intro s d h
    change execDrawerResetDone d s = _
    unfold execDrawerResetDone
    rw [h]
  · intro s d h
    change execDrainTimeout d s = _
    unfold execDrainTimeout
    rw [h]

/-! ### Mailbox requests that migrate a Drawer -/

section
variable {s : State} {p d op : Nat}

/-- A request in service is served. -/
theorem serve_of_asked (h : s.asked p = some (op, d)) (k : Nat → State) : s.serve p op k = k d := by
  unfold State.asked at h
  unfold State.serve
  cases hjob : (s.portOf p).job with
  | none => simp [hjob] at h
  | some j =>
    simp only [hjob, Option.bind_some, Option.ite_none_right_eq_some, Option.some.injEq, Prod.mk.injEq] at h
    obtain ⟨hfree, hop, hd⟩ := h
    dsimp only
    rw [if_pos (by simpa [hop] using hfree), hd]

/-- A request in service is a job. -/
theorem job_of_asked (h : s.asked p = some (op, d)) : ∃ j, (s.portOf p).job = some j := by
  unfold State.asked at h
  cases hjob : (s.portOf p).job with
  | none => simp [hjob] at h
  | some j => exact ⟨j, rfl⟩

/-- What a response to a job says. -/
theorem rsp_respond {j : MbxJob} (h : (s.portOf p).job = some j) (r x : Nat) (bs : List Byte) :
    (((s.respond p r x bs).portOf p).job.bind (fun j => j.rsp)).map (fun r => (r.result, r.detail)) = some (r, x) := by
  rw [State.respond, portOf_modPort, h]
  rfl

/-- `s` with the request of port `p` waiting for Drawer `d` to have no work in flight. -/
def State.quiesceWaits (s : State) (p d ms : Nat) (save : Bool) : State :=
  (s.mbxWait p).modDrw d (fun w => { w with quiesce := some { save := save, deadline := s.now + ms * 1000000 } })

theorem drwOf_quiesceWaits (s : State) (p d ms : Nat) (save : Bool) : (s.quiesceWaits p d ms save).drwOf d =
    { s.drwOf d with quiesce := some { save := save, deadline := s.now + ms * 1000000 } } := drwOf_modDrw (s.mbxWait p) d _

theorem job_quiesceWaits {j : MbxJob} (h : (s.portOf p).job = some j) (d ms : Nat) (save : Bool) :
    ((s.quiesceWaits p d ms save).portOf p).job = some { j with waiting := true } := by
  rw [show (s.quiesceWaits p d ms save).portOf p = (s.mbxWait p).portOf p from rfl, State.mbxWait, portOf_modPort, h]
  rfl

/-- A quiesce of a Drawer with no work in flight ends at once. -/
theorem quiesceBegin_quiet {ms : Nat} (hms : s.payLE p 0 4 = ms) (hlo : 1 ≤ ms) (hhi : ms ≤ 100) (hst : s.drwState d = 1)
    (hquiet : s.quiet d = true) (save : Bool) : s.quiesceBegin p d save = (s.quiesceWaits p d ms save).quiesced d := by
  have hq : (s.quiesceWaits p d ms save).quiet d = true := by
    rw [State.quiet, State.cmds, drwOf_quiesceWaits]
    exact hquiet
  unfold State.quiesceBegin
  dsimp only
  rw [hms, if_neg (by simp; omega), if_neg (by rw [hst]; decide), if_neg (by rw [hst]; decide)]
  exact if_pos hq

/-- Drawer `d` QUIESCED. -/
def State.quiescedNow (s : State) (d : Nat) (save : Bool) : State :=
  (s.modDrw d (fun w => { w with quiesce := none, byQuiesce := !save })).put F.DRW_STATUS_STATE d 2

theorem quiesced_some {j : QuiesceJob} (h : (s.drwOf d).quiesce = some j) : s.quiesced d =
    (s.quiescedNow d j.save).respond (d / 32) 0 0 (if j.save then (s.quiescedNow d j.save).saveImage d else []) := by
  rw [State.quiesced, h]
  rfl

/-- What a Drawer that was quiesced shows. -/
theorem respond_quiescedNow {j : MbxJob} (hjob : (s.portOf p).job = some j) (d : Nat) (save : Bool) (bs : List Byte) {t : State}
    (ht : t = (s.quiescedNow d save).respond p 0 0 bs) : t.drwState d = 2 ∧ (t.drwOf d).quiesce = none ∧
      ((t.portOf p).job.bind (fun j => j.rsp)).map (fun r => (r.result, r.detail)) = some (0, 0) ∧
      s.Kept t [.drw, .ports] [F.DRW_STATUS_STATE] := by
  have hk := kept_respond (s.quiescedNow d save) p 0 0 bs
  have hdrw : (s.quiescedNow d save).drwOf d = { s.drwOf d with quiesce := none, byQuiesce := !save } :=
    drwOf_modDrw s d (fun w => { w with quiesce := none, byQuiesce := !save })
  subst ht
  refine ⟨?_, ?_, rsp_respond (s := s.quiescedNow d save) hjob .., ((State.Kept.refl s _ _).upd.put).comp hk⟩
  · rw [State.drwState, hk.2 _ _ (by simp)]
    exact get_put_same ..
  · rw [State.drwOf, hk.1.1 .drw (by decide)]
    exact congrArg Drw.quiesce hdrw

/-- A quiesce of a Drawer with no work in flight, and what it shows. -/
theorem quiesceBegin_shows {j : MbxJob} {ms : Nat} (hjob : (s.portOf p).job = some j) (hp : d / 32 = p) (hms : s.payLE p 0 4 = ms)
    (hlo : 1 ≤ ms) (hhi : ms ≤ 100) (hst : s.drwState d = 1) (hquiet : s.quiet d = true) (save : Bool) :
    let t := s.quiesceBegin p d save
    t.drwState d = 2 ∧ (t.drwOf d).quiesce = none ∧ ((t.portOf p).job.bind (fun j => j.rsp)).map (fun r => (r.result, r.detail)) =
      some (0, 0) ∧ s.Kept t [.drw, .ports] [F.DRW_STATUS_STATE] := by
  have hw : s.Kept (s.quiesceWaits p d ms save) [.drw, .ports] [F.DRW_STATUS_STATE] := (State.Kept.refl s _ _).upd.upd
  have hquiesced := quiesced_some (s := s.quiesceWaits p d ms save) (congrArg Drw.quiesce (drwOf_quiesceWaits s p d ms save))
  rw [hp] at hquiesced
  obtain ⟨hstate, hnone, hrsp, hk⟩ := respond_quiescedNow (job_quiesceWaits hjob d ms save) d save _ hquiesced
  rw [quiesceBegin_quiet hms hlo hhi hst hquiet]
  exact ⟨hstate, hnone, hrsp, hw.trans hk⟩

end

theorem exec_save {p : PortId} {d : Nat} {s : State} (h : s.asked p = some (0x0020, d)) (hst : s.drwState d = 1 ∨ s.drwState d = 2)
    (hmig : (s.templateOf d).migrate = true) : exec (.save p) s = .next (s.quiesceBegin p d true) := by
  refine congrArg Host.Outcome.next ((serve_of_asked h _).trans ((if_neg ?_).trans (if_neg (by rw [hmig]; decide))))
  rcases hst with hst | hst <;> rw [hst] <;> decide

/-- Settles O11: a request in service is served by its own branch, and a quiesce of a Drawer with no work in flight ends at once. -/
theorem mailboxMigratesDrawers : Obligations.MailboxMigratesDrawers := by
  unfold Obligations.MailboxMigratesDrawers
  refine ⟨?_, ?_, ?_, ?_, ?_, ?_, ?_, ?_, ?_, ?_⟩
  · intro s p d ms h hms hlo hhi hst hquiet hp
    obtain ⟨j, hjob⟩ := job_of_asked h
    exact ⟨_, congrArg Host.Outcome.next (serve_of_asked h _), quiesceBegin_shows hjob hp hms hlo hhi hst hquiet false⟩
  · exact fun s p d h => congrArg Host.Outcome.next (serve_of_asked h _)
  · intro s p d ms h hms hlo hhi hmig hst hquiet hp
    obtain ⟨j, hjob⟩ := job_of_asked h
    exact ⟨_, exec_save h (.inl hst) hmig, quiesceBegin_shows hjob hp hms hlo hhi hst hquiet true⟩
  · intro s p d ms h hms hlo hhi hmig hst
    refine (exec_save h (.inr hst) hmig).trans (congrArg Host.Outcome.next ?_)
    exact (if_neg (by rw [hms]; simp; omega)).trans (if_pos hst)
  · exact fun s p d h hst hmig => exec_save h hst hmig
  · exact fun s p d h hst => congrArg Host.Outcome.next ((serve_of_asked h _).trans (if_pos hst))
  · intro s p d bs h hst hen hby hbs hlo hhi hcrc hlim
    have hlen : s.reqLE p 8 4 = bs.length := by rw [← hbs, State.reqBytes, List.length_map, List.length_range]
    refine congrArg Host.Outcome.next ((serve_of_asked h _).trans ?_)
    dsimp only
    rw [hbs, hlen, if_neg (by rw [hst, hen, hby]; decide), if_neg]
    rw [decide_eq_false (Nat.not_lt.2 hlo), decide_eq_false (Nat.not_lt.2 hhi), decide_eq_false (not_not.2 hcrc),
      decide_eq_false (not_not.2 hlim)]
    exact Bool.false_ne_true
  · intro s p d a n h ha hn hal hlo hhi hpow hst
    subst ha hn
    refine congrArg Host.Outcome.next ((serve_of_asked h _).trans ((if_neg ?_).trans (if_neg ?_)))
    · simp only [hal, hpow, ne_eq, not_true_eq_false, decide_false, Bool.or_false, Bool.false_or, Bool.or_eq_true, decide_eq_true_eq]
      omega
    · rcases hst with hst | hst <;> rw [hst] <;> decide
  · intro s p d l h hl
    refine congrArg Host.Outcome.next ((serve_of_asked h _).trans ?_)
    rw [hl]
  · intro s p d h hsome
    refine congrArg Host.Outcome.next ((serve_of_asked h _).trans (if_neg ?_))
    rw [← Option.not_isSome, hsome]
    decide

/-! ### Mailbox requests that move data and images -/

section
variable {s : State} {p : PortId} {d : Nat}

theorem kept_auditWrapCheck (s : State) : s.PartsKept s.auditWrapCheck [.cores] := (State.PartsKept.refl s _).put.comp (kept_icuLine ..).1

theorem partsKept_markTo (s : State) (start seq : Nat) : s.PartsKept (s.markTo start seq) [.nv, .cores] :=
  have hs := State.PartsKept.refl s _
  .ite hs (hs.put.put.upd.comp (kept_auditWrapCheck ..))

/-- The state of a Drawer that heap data may move to or from. -/
theorem moves_of_state {x : Nat} (h : x = 1 ∨ x = 2) : ¬ (decide (x = 0) || decide (x = 3)) = true := by
  rcases h with rfl | rfl <;> decide

/-- A write of a granted register by the mediator. -/
theorem exec_regWrite {i : Nat} {r : Reg} (h : s.asked p = some (0x0030, d)) (hreg : s.namedReg p = some (r, i))
    (hwide : r.wide = true ∨ (s.payLE p 8 8 < 2 ^ 32 ∧ s.payLE p 16 8 < 2 ^ 32)) (hgrant : s.granted p r i &&& s.payLE p 16 8 ≠ 0)
    (hlown : r.id ≠ 34) (hrcfg : r.id ≠ 122) (hheld : s.behindHeld (r.addrOf i) = false)
    (hroom : s.adl.buf.length + s.regEntries (Origin.mediator p) r i (if r.wide = true then 2 ^ 64 - 1 else 2 ^ 32 - 1)
      (s.maskedWord r i (s.payLE p 8 8) (s.payLE p 16 8)) { allow := s.granted p r i, byCmd := true } ≤ 64)
    (hown : s.cabOwned (r.ownerBlk i) = false) : exec (.regWrite p) s = .next ((s.regWriteAt (Origin.mediator p) r i 0 (r.addrOf i)
      (if r.wide = true then 8 else 4) (s.maskedWord r i (s.payLE p 8 8) (s.payLE p 16 8)) { allow := s.granted p r i, byCmd := true
      }).respondValue p (s.viewWord (Origin.mediator p) r i)) := by
  change execRegWrite p s = _
  unfold execRegWrite
  rw [serve_of_asked h, hreg]
  dsimp only
  refine congrArg Host.Outcome.next ((if_neg ?_).trans ((if_neg hgrant).trans ((if_neg ?_).trans ((if_neg ?_).trans ?_))))
  · rcases hwide with hw | ⟨hv, hm⟩
    · rw [hw]
      exact Bool.false_ne_true
    · rw [decide_eq_false (Nat.not_le.2 hv), decide_eq_false (Nat.not_le.2 hm), Bool.or_false, Bool.and_false]
      exact Bool.false_ne_true
  · rw [decide_eq_false hlown, decide_eq_false hrcfg]
    exact Bool.false_ne_true
  · rw [hheld, decide_eq_false (Nat.not_lt.2 hroom)]
    exact Bool.false_ne_true
  · rw [hown, Bool.and_false]
    rfl

theorem b2n_false : b2n false = 0 := rfl

/-- `s` with the entries `es`, asked for from `pos`, answered. -/
def State.auditTold (s : State) (p : PortId) (pos : Nat) (es : List AuditEntry) : State :=
  let bs := s.sealsAmong es
  let gone := (s.auditHeld.head?).any (fun e => decide (pos < e.pos))
  s.respond p 0 (es.length + bs.length * 2 ^ 13 + b2n gone * 2 ^ 31) (es.flatMap AuditEntry.bytes ++ bs.flatMap (sealBytes s.adl.handle))

/-- `s` with the entries `es` answered, and the mark behind the last of them. -/
def State.auditTaken (s : State) (p : PortId) (pos : Nat) (es : List AuditEntry) : State :=
  match es.getLast? with
  | none => s.auditTold p pos es
  | some e => (s.auditTold p pos es).markTo e.start ((e.seq + 1) % 2 ^ 32)

theorem exec_auditRead {n : Nat} (h : s.asked p = some (0x0050, d)) (hn : s.payLE p 8 4 = n) (hlo : 1 ≤ n) (hhi : n ≤ 4096) :
    exec (.auditRead p) s = .next (s.auditTaken p (s.payLE p 0 8 % 2 ^ 48) (s.auditFrom (s.payLE p 0 8 % 2 ^ 48) n)) := by
  refine congrArg Host.Outcome.next ((serve_of_asked h _).trans ?_)
  dsimp only
  rw [hn, if_neg]
  · unfold State.auditTaken
    cases (s.auditFrom (s.payLE p 0 8 % 2 ^ 48) n).getLast? with
    | none => rfl
    | some e => rfl
  · rw [decide_eq_false (by omega), decide_eq_false (Nat.not_lt.2 hhi)]
    exact Bool.false_ne_true

theorem sealsAmong_nil (s : State) : s.sealsAmong [] = [] := by
  unfold State.sealsAmong
  refine List.filter_eq_nil_iff.2 fun b _ => ?_
  cases b.2.entries <;> simp

/-- The only entry held, asked for from its own position. -/
theorem auditTold_only {e : AuditEntry} (p : PortId) (hone : s.auditHeld = [e]) (hseals : s.sealsAmong [e] = []) :
    s.auditTold p e.pos [e] = s.respond p 0 1 e.bytes := by
  unfold State.auditTold
  dsimp only
  rw [hone, hseals, List.head?_cons, Option.any_some, decide_eq_false (Nat.lt_irrefl _), b2n_false, List.length_nil, Nat.zero_mul,
    Nat.zero_mul, List.length_singleton, List.flatMap_nil, List.append_nil, List.flatMap_singleton]

/-- Any answer says OK and leaves memory alone. -/
theorem auditTaken_ok {j : MbxJob} (hjob : (s.portOf p).job = some j) (pos : Nat) (es : List AuditEntry) :
    (((s.auditTaken p pos es).portOf p).job.bind (fun j => j.rsp)).map (fun r => r.result) = some 0 ∧ (s.auditTaken p pos es).mem = s.mem := by
  have htold : (((s.auditTold p pos es).portOf p).job.bind (fun j => j.rsp)).map (fun r => r.result) = some 0 := by
    rw [State.auditTold, State.respond, portOf_modPort, hjob]
    rfl
  have hmem : (s.auditTold p pos es).mem = s.mem := (kept_respond ..).1.1 .mem (by decide)
  unfold State.auditTaken
  split
  · exact ⟨htold, hmem⟩
  · rename_i e _
    have hk := (partsKept_markTo (s.auditTold p pos es) e.start ((e.seq + 1) % 2 ^ 32)).1
    refine ⟨?_, Eq.trans (hk .mem (by decide)) hmem⟩
    rw [State.portOf, hk .ports (by decide)]
    exact htold

end

/-- Settles O12: a request in service is served by its own branch, and AUDIT_READ answers the entries from a position on. -/
theorem mailboxMovesDataAndImages : Obligations.MailboxMovesDataAndImages := by
  unfold Obligations.MailboxMovesDataAndImages
  refine ⟨?_, ?_, ?_, ?_, ?_, ?_, ?_, ?_, ?_, ?_, ?_, ?_, ?_⟩
  · intro s p d h hst hok
    exact congrArg Host.Outcome.next ((serve_of_asked h _).trans ((if_neg (moves_of_state hst)).trans (if_neg (by rw [hok]; decide))))
  · intro s p d off src n bs h hst hok hlist hlen
    refine congrArg Host.Outcome.next ((serve_of_asked h _).trans ((if_neg (moves_of_state hst)).trans
      ((if_neg (by rw [hok]; decide)).trans ?_)))
    rw [hlist, List.zip_cons_cons, List.zip_nil_left, List.foldl_cons, List.foldl_nil, List.take_append_of_le_length (Nat.le_of_eq hlen.symm),
      List.take_of_length_le (Nat.le_of_eq hlen)]
  · intro s p d data h hst hok
    exact congrArg Host.Outcome.next ((serve_of_asked h _).trans ((if_neg (moves_of_state hst)).trans (if_neg (by rw [hok]; decide))))
  · intro s p d i r h hreg hwide hgrant hlown hrcfg hheld hbuf hent hown
    have hroom : s.adl.buf.length + s.regEntries (Origin.mediator p) r i (if r.wide = true then 2 ^ 64 - 1 else 2 ^ 32 - 1)
        (s.maskedWord r i (s.payLE p 8 8) (s.payLE p 16 8)) { allow := s.granted p r i, byCmd := true } ≤ 64 := by
      rw [if_pos hwide]
      exact Nat.add_le_add hbuf hent
    rw [exec_regWrite h hreg (.inl hwide) hgrant hlown hrcfg (by rw [State.behindHeld, hheld]; rfl) hroom hown, if_pos hwide]
  · exact fun s p d i r h hreg hwide hgrant hlown hrcfg hheld hroom hown => exec_regWrite h hreg hwide hgrant hlown hrcfg hheld hroom hown
  · intro s p d n h hden hn hhi
    subst hn
    exact congrArg Host.Outcome.next ((serve_of_asked h _).trans ((if_neg (by rw [hden]; decide)).trans (if_neg (Nat.not_lt.2 hhi))))
  · intro s p d off n x h hden himg hoff hn hal hin
    refine congrArg Host.Outcome.next ((serve_of_asked h _).trans ((if_neg (by rw [hden]; decide)).trans ?_))
    rw [himg, hoff, hn, Nat.add_sub_cancel_left]
    dsimp only
    rw [if_neg]
    rw [decide_eq_false (not_not.2 hal), decide_eq_false (Nat.not_lt.2 hin)]
    exact Bool.false_ne_true
  · intro s p d x c h hden himg hstage
    refine congrArg Host.Outcome.next ((serve_of_asked h _).trans ((if_neg (by rw [hden]; decide)).trans ?_))
    rw [himg]
    dsimp only
    rw [if_pos hstage, ite_not]
  · intro s p d x c h hden himg hstage
    refine congrArg Host.Outcome.next ((serve_of_asked h _).trans ((if_neg (by rw [hden]; decide)).trans ?_))
    rw [himg]
    dsimp only
    rw [if_neg (by rw [hstage]; decide), if_pos hstage, ite_not]
  · intro s p d x c h hden himg hstage
    refine congrArg Host.Outcome.next ((serve_of_asked h _).trans ((if_neg (by rw [hden]; decide)).trans ?_))
    rw [himg]
    dsimp only
    rw [if_neg (by omega), if_neg (by omega), ite_not]
  · intro s p d n h hn hlo hhi hnone
    have hes : s.auditFrom (s.payLE p 0 8 % 2 ^ 48) n = [] := by rw [State.auditFrom, hnone, List.dropWhile_nil, List.take_nil]
    refine (exec_auditRead h hn hlo hhi).trans (congrArg Host.Outcome.next ?_)
    rw [hes]
    simp only [State.auditTaken, State.auditTold, sealsAmong_nil, hnone, List.getLast?_nil, List.head?_nil, Option.any_none, List.length_nil,
      List.flatMap_nil, List.append_nil, b2n_false, Nat.zero_mul, Nat.add_zero]
  · intro s p d n e h hn hlo hhi hone hpos hseals
    have hes : s.auditFrom (s.payLE p 0 8 % 2 ^ 48) n = [e] := by
      rw [State.auditFrom, hone, hpos, List.dropWhile_cons_of_neg (by simp), List.take_of_length_le hlo]
    refine (exec_auditRead h hn hlo hhi).trans (congrArg Host.Outcome.next ?_)
    rw [hes, hpos]
    exact congrArg (fun t : State => t.markTo e.start ((e.seq + 1) % 2 ^ 32)) (auditTold_only p hone hseals)
  · intro s p d n h hn hlo hhi
    obtain ⟨j, hjob⟩ := job_of_asked h
    exact ⟨_, exec_auditRead h hn hlo hhi, auditTaken_ok hjob ..⟩

end Sys2Proof.Machine
end

section
/-! SUPPORT. Statements on the start sequence and on power states that fail. -/

namespace Sys2Proof.Machine

set_option Elab.async false

/-- A module at the end of its start sequence with a shutdown waiting, and a Drawer in use whose command has begun a pass with a Tray of one
byte that is not what an unlisted byte reads as. -/
def trayInUse : State :=
  { regs := [(F.DRW_STATUS_STATE.key 0, 1)], mem := [(0x100000, 7)], phase := .starting,
    boot := { rom := true, plynDone := true, shutdownWaiting := true },
    drw := [(0, { cmds := [{ started := true, pass := { trayBase := 0x100000, traySize := 1 } }] })] }

/-- The shutdown takes the host ports down, their Drawers are reset, and the Tray of the squashed command becomes undefined. -/
theorem mem_commit_trayInUse : Does .commit trayInUse (fun t => t.mem = []) := ⟨_, rfl, by decide +kernel⟩

/-- Refutes O3: the clause on COMMIT with a shutdown waiting has memory unchanged, but the shutdown that begins with it takes the Tray of a
Drawer's command away. -/
theorem not_startSequenceCommits : ¬ Obligations.StartSequenceCommits := by
  unfold Obligations.StartSequenceCommits
  rintro ⟨-, -, -, -, hcommit, -⟩
  obtain ⟨t, hexec, -, -, -, hmem⟩ := hcommit trayInUse (by decide) rfl (by decide) (by decide)
  obtain ⟨u, hexec', hnone⟩ := mem_commit_trayInUse
  rw [Host.Outcome.next.inj (hexec.symm.trans hexec'), hnone] at hmem
  exact absurd hmem (by decide)

/-- A running module that may enter state 1, with a march test under way for the Hutch whose status word lies in Hutch SRAM. -/
def testInService : State :=
  { regs := [(F.PWR_CFG_STATES.key 0, 1)], pd := 0xFFFF, tests := [{ op := 3, statusAddr := 0x00E002000000 }] }

/-- The drain squashes the test, whose report writes its status word. -/
theorem mem_powerRequest_testInService : Does (.powerRequest Origin.hutch 1) testInService (fun t => t.mem ≠ []) :=
  ⟨_, rfl, by decide +kernel⟩

/-- Refutes O42: the clause on a request for a lower state has memory unchanged, but DRAIN squashes a test job under way, and the squashed
job's report writes its status word into memory. -/
theorem not_powerStatesChangeInPhases : ¬ Obligations.PowerStatesChangeInPhases := by
  unfold Obligations.PowerStatesChangeInPhases
  rintro ⟨-, hrequest, -⟩
  obtain ⟨t, hexec, -, -, -, -, -, hmem, -⟩ :=
    hrequest testInService Origin.hutch 0 (by decide) rfl (by decide) (by decide) rfl (by decide) (by decide)
  obtain ⟨u, hexec', hwritten⟩ := mem_powerRequest_testInService
  rw [Host.Outcome.next.inj (hexec.symm.trans hexec')] at hmem
  exact hwritten hmem

end Sys2Proof.Machine
end

section
/-! SUPPORT. Copies, compositions, and what an access to the heap changes. -/

namespace Sys2Proof.Machine

set_option Elab.async false

/-! ### What a recorded error leaves alone -/

section
variable {s t : State}

/-- The registers that a start of recovery changes. -/
abbrev recoveryFields : List Fld := [F.CFG_STATUS_LAMP_ACTIVE, F.CFG_STATUS_COPY, F.CFG_STATUS_STAGE, F.HDn_STATUS_HOLDOVER,
  F.HDn_STATUS_LOCKED, F.HDn_PORT_STATUS_RATE_ACT, F.HDn_PORT_STATUS_LANES_ACT, F.HDn_PORT_STATUS_LINK, F.WIT_HSTATUS_STATE,
  F.HDn_CTRL_RUN, F.HDn_STATUS_STATE, F.HAP_CH_STATUS_PHASE, F.TCH_PNL_STATUS_STATE, F.PLK_PORT_STATUS_STATE, F.PLK_PORT_CTRL_EN]

/-- The registers that the action of an error's class changes. -/
abbrev classFields : List Fld := recoveryFields ++ [F.FAB_ERR_MOD_CODE, F.FAB_ERR_MOD_DOMAIN, F.HUT_ICU_PEND_PENDING, F.FAB_ERR_MOD_ACTION,
  F.FAB_ERR_MOD_RESTARTS, F.FAB_ERR_MOD_SAFE, F.CMP_FETCH_CFG_GEN_EFF]

/-- The parts that the action of an error's class changes. -/
abbrev classParts : List Part := [.err, .pm, .freeCtr] ++ recoveryParts

theorem kept_recoveryStart (s : State) : s.Kept s.recoveryStart recoveryParts recoveryFields := by
  have hs := State.Kept.refl s recoveryParts recoveryFields
  unfold State.recoveryStart
  dsimp only
  generalize hu : List.foldl _ _ (List.range 4) = u
  have hk : s.Kept u recoveryParts recoveryFields := by
    rw [← hu]
    refine .foldl (.foldl (.foldl hs.put.put.put fun _ _ ht => ?_) fun _ _ ht => ?_) fun _ _ ht => ?_
    · exact .ite ht.put.put.put.put.put.put.put ht.put.put.put.put.put.put.put.put
    · exact ht.put.put
    · exact ht.put.put
  exact hk.upd

theorem kept_clockActions (s : State) : s.Kept s.clockActions [.pm, .freeCtr] [F.CMP_FETCH_CFG_GEN_EFF] :=
  have hs := State.Kept.refl s _ _
  .put (.upd (.ite hs.upd hs))

theorem kept_moduleAction (s : State) (d code : Nat) : s.Kept (s.moduleAction d code) classParts classFields :=
  have hs := (((State.Kept.refl s classParts classFields).comp (kept_faultN s .moduleError)).put (f := F.HUT_ICU_PEND_PENDING)).put
    (f := F.FAB_ERR_MOD_DOMAIN) |>.put (f := F.FAB_ERR_MOD_CODE)
  .ite (hs.comp (kept_recoveryStart _)) (.ite hs.put (.ite hs.put.put.upd (hs.put.put.comp (kept_clockActions _))))

theorem kept_callReset (s : State) (d code : Nat) (esc : Bool) : s.Kept (s.callReset d code esc) classParts classFields := by
  have hs := State.Kept.refl s classParts classFields
  unfold State.callReset
  split
  · exact kept_moduleAction ..
  · exact .ite (hs.comp (kept_recoveryStart _)) (.ite hs hs.upd)

theorem kept_classAction (s : State) (c d code : Nat) (esc : Bool) : s.Kept (s.classAction c d code esc) classParts classFields :=
  .ite (kept_callReset ..) (.ite (kept_moduleAction ..) (.refl s _ _))

/-- The registers that a recorded error changes. -/
abbrev recordFields : List Fld := classFields ++ [F.ICU_SRC_PENDING, F.ICU_STATUS_WAKES, F.CCL_CORE_SLEEP, F.CCL_CORE_STATE,
  F.ICU_STATUS_WAKING, F.RTx_CTRL_SLEEP, F.RTx_CTRL_STATE, F.ICU_SRC_LAST, F.ICU_SRC_CTX, F.ICU_SRC_OFFERED, F.ICU_STATUS_WITHDRAWN,
  F.FAB_ERR_Q_LOST_CODE, F.FAB_ERR_Q_LOST, F.FAB_ERR_Q_OVERFLOW, F.FAB_ERR_Q_NEXT_SEQ]

theorem kept_recordError (s : State) (e : ErrIn) : s.Kept (s.recordError e) (.cores :: classParts) recordFields :=
  have hs := State.Kept.refl s (.cores :: classParts) recordFields
  .ite hs (.ite (((hs.comp (kept_setErrq ..)).comp (kept_policyFault ..)).comp (kept_classAction ..)) (.ite
    (hs.put.put.put.comp (kept_classAction ..))
    ((State.Kept.put (hs.comp (kept_setErrq ..))).comp (kept_policyFault ..) |>.comp (kept_classAction ..))))

theorem kept_accessError (s : State) (o : Origin) (blk code addr : Nat) :
    s.Kept (s.accessError o blk code addr) (.cores :: classParts) recordFields := .ite (.refl s _ _) (kept_recordError ..)

theorem kept_carriedError (s : State) (d blk code addr : Nat) :
    s.Kept (s.carriedError d blk code addr) (.cores :: classParts) recordFields := .ite (kept_accessError ..) (kept_recordError ..)

/-! ### The unit resets under way, which a recorded error leaves alone -/

theorem err_recoveryStart (s : State) : s.recoveryStart.err = s.err := (kept_recoveryStart s).1.1 .err (by decide)

theorem err_clockActions (s : State) : s.clockActions.err = s.err := (kept_clockActions s).1.1 .err (by decide)

theorem running_moduleAction (s : State) (d code : Nat) : (s.moduleAction d code).err.running = s.err.running := by
  have hfault : (s.faultN .moduleError).err.running = s.err.running :=
    congrArg ErrState.running ((kept_faultN s .moduleError).1.1 .err (by decide))
  unfold State.moduleAction
  dsimp only
  split
  · rw [err_recoveryStart]
    exact hfault
  · split
    · exact hfault
    · split
      · exact hfault
      · rw [err_clockActions]
        exact hfault

theorem running_callReset (s : State) (d code : Nat) (esc : Bool) : (s.callReset d code esc).err.running = s.err.running := by
  unfold State.callReset
  split
  · exact running_moduleAction ..
  · split
    · rw [err_recoveryStart]
    · split <;> rfl

theorem running_classAction (s : State) (c d code : Nat) (esc : Bool) : (s.classAction c d code esc).err.running = s.err.running := by
  unfold State.classAction
  split
  · exact running_callReset ..
  · split
    · exact running_moduleAction ..
    · rfl

theorem err_icuLine (s : State) (n : Nat) (v : Bool) : (s.icuLine n v).err = s.err := (kept_icuLine s n v).1.1 .err (by decide)

theorem running_setErrq (s : State) (d : Nat) (q : ErrQ) : (s.setErrq d q).err.running = s.err.running := by
  rw [State.setErrq, err_icuLine]

theorem running_policyFault (s : State) (c : Nat) (e : ErrIn) : (s.policyFault c e).err.running = s.err.running :=
  congrArg ErrState.running ((kept_policyFault s c e).1.1 .err (by decide))

theorem running_recordError (s : State) (e : ErrIn) : (s.recordError e).err.running = s.err.running := by
  unfold State.recordError
  dsimp only
  split
  · rfl
  · split
    · rw [running_classAction, running_policyFault, running_setErrq]
    · split
      · exact running_classAction ..
      · rw [running_classAction, running_policyFault]
        exact running_setErrq ..

theorem running_carriedError (s : State) (d blk code addr : Nat) : (s.carriedError d blk code addr).err.running = s.err.running := by
  unfold State.carriedError State.accessError
  split
  · split
    · rfl
    · exact running_recordError ..
  · exact running_recordError ..

theorem sameDram_carriedError (s : State) (d blk code addr : Nat) : s.SameDram (s.carriedError d blk code addr) := by
  have hk := kept_carriedError s d blk code addr
  exact ⟨hk.1.1 .fuses (by decide), hk.1.1 .pd (by decide), running_carriedError ..,
    drwSaves_congr (hk.1.1 .drw (by decide)),
    fun f hf i => hk.2 f i (by revert f; decide)⟩

/-! ### The heap in sound DRAM -/

theorem mem_writeBytes_congr (hmem : t.mem = s.mem) (hrest : t.memRest = s.memRest) (a : Nat) (bs : List Byte) :
    (t.writeBytes a bs).mem = (s.writeBytes a bs).mem := by
  induction bs generalizing s t a with
  | nil => exact hmem
  | cons b bs ih =>
    refine ih (s := s.poke a b) (t := t.poke a b) ?_ hrest (a + 1)
    change tset (memDefault t.memRest a) t.mem a b = tset (memDefault s.memRest a) s.mem a b
    rw [hmem, hrest]

theorem eccLines_of_sound (h : s.dmc.bad = []) (o : Origin) (write : Bool) (a n : Nat) : s.eccLines o write a n = s := by
  rw [State.eccLines, h]
  rfl

theorem heapWrite_of_sound (h : s.dmc.bad = []) (d blk off : Nat) (bs : List Byte) : s.heapWrite d blk off bs =
    if s.dramErr (ctxOrigin d) true ((s.drwOf d).heapBase + off) bs.length = 0 then
      (s.writeBytes ((s.drwOf d).heapBase + off) bs).markDirty ((s.drwOf d).heapBase + off) bs.length
    else s.carriedError d blk (s.dramErr (ctxOrigin d) true ((s.drwOf d).heapBase + off) bs.length) ((s.drwOf d).heapBase + off) := by
  have hbad : (s.writeBytes ((s.drwOf d).heapBase + off) bs).dmc.bad = [] := by
    obtain ⟨m, hm⟩ := writeBytes_eq s ((s.drwOf d).heapBase + off) bs
    rw [hm]
    exact h
  rw [State.heapWrite, putLines_of_sound h, eccLines_of_sound hbad]

theorem mem_heapWrite_of_sound (h : s.dmc.bad = []) (d blk off : Nat) (bs : List Byte) : (s.heapWrite d blk off bs).mem =
    if s.dramErr (ctxOrigin d) true ((s.drwOf d).heapBase + off) bs.length = 0 then
      (s.writeBytes ((s.drwOf d).heapBase + off) bs).mem else s.mem := by
  rw [heapWrite_of_sound h]
  split
  · rfl
  · exact (kept_carriedError ..).1.1 .mem (by decide)

/-- The parts that an access to the heap changes. -/
abbrev heapParts : List Part := [.mem, .drw, .cores] ++ classParts

theorem partsKept_heapWrite_of_sound (h : s.dmc.bad = []) (d blk off : Nat) (bs : List Byte) :
    s.PartsKept (s.heapWrite d blk off bs) heapParts := by
  have hs := State.PartsKept.refl s heapParts
  rw [heapWrite_of_sound h]
  refine .ite ?_ (hs.comp (kept_carriedError ..).1)
  obtain ⟨m, hm⟩ := writeBytes_eq s ((s.drwOf d).heapBase + off) bs
  rw [hm]
  exact hs.upd.upd

/-- A change of every entry that keeps its key and what `g` reads of it. -/
theorem tget_map_of_keeps {β γ : Type} (g : β → γ) {f : Nat × β → Nat × β} (hf : ∀ p, (f p).1 = p.1 ∧ g (f p).2 = g p.2) (e : β)
    (m : List (Nat × β)) (k : Nat) : g (tget e (m.map f) k) = g (tget e m k) := by
  induction m with
  | nil => rfl
  | cons p ps ih =>
    obtain ⟨hkey, hval⟩ := hf p
    rw [List.map_cons, tget, tget, hkey]
    split
    · exact hval
    · exact ih

theorem cmds_markDirty (s : State) (a n d : Nat) : (s.markDirty a n).cmds d = s.cmds d :=
  tget_map_of_keeps Drw.cmds (fun p => by split <;> exact ⟨rfl, rfl⟩) ..

theorem cmds_heapWrite_of_sound (h : s.dmc.bad = []) (d blk off : Nat) (bs : List Byte) (x : Nat) :
    (s.heapWrite d blk off bs).cmds x = s.cmds x := by
  rw [heapWrite_of_sound h]
  split
  · obtain ⟨m, hm⟩ := writeBytes_eq s ((s.drwOf d).heapBase + off) bs
    rw [cmds_markDirty, hm]
    rfl
  · exact cmds_congr ((kept_carriedError ..).1.1 .drw (by decide)) x

theorem sameDram_heapReadErr (s : State) (d blk off n : Nat) : s.SameDram (s.heapReadErr d blk off n) := by
  unfold State.heapReadErr
  dsimp only
  split
  · exact ⟨rfl, rfl, rfl, rfl, fun _ _ _ => rfl⟩
  · exact sameDram_carriedError ..

theorem kept_heapReadErr (s : State) (d blk off n : Nat) :
    s.Kept (s.heapReadErr d blk off n) (.cores :: classParts) recordFields := .ite (.refl s _ _) (kept_carriedError ..)

theorem bad_heapReadErr (h : s.dmc.bad = []) (d blk off n : Nat) : (s.heapReadErr d blk off n).dmc.bad = [] := by
  rw [show (s.heapReadErr d blk off n).dmc = s.dmc from (kept_heapReadErr ..).1.1 .dmc (by decide)]
  exact h

/-- What a write to the heap does to memory does not depend on a read of it before. -/
theorem mem_heapWrite_heapReadErr (h : s.dmc.bad = []) (d blk off n off' : Nat) (bs : List Byte) :
    ((s.heapReadErr d blk off n).heapWrite d blk off' bs).mem = (s.heapWrite d blk off' bs).mem := by
  obtain ⟨hpart, -⟩ := (kept_heapReadErr s d blk off n).1
  have hbad := bad_heapReadErr h d blk off n
  have hmem : (s.heapReadErr d blk off n).mem = s.mem := hpart .mem (by decide)
  have hdrw : (s.heapReadErr d blk off n).drwOf d = s.drwOf d := by
    rw [State.drwOf, show (s.heapReadErr d blk off n).drw = s.drw from hpart .drw (by decide)]
    rfl
  rw [mem_heapWrite_of_sound hbad, mem_heapWrite_of_sound h, (sameDram_heapReadErr ..).dramErr, hdrw, hmem,
    mem_writeBytes_congr hmem (hpart .memRest (by decide))]

/-- A read of the heap and a write to it after that. -/
theorem heapCopy_shows {c : Cmd} {d : Nat} (h : s.dmc.bad = []) (hcmds : s.cmds d = [c]) (blk off n off' : Nat) (bs : List Byte) :
    s.PartsKept ((s.heapReadErr d blk off n).heapWrite d blk off' bs) heapParts ∧
    ((s.heapReadErr d blk off n).heapWrite d blk off' bs).cmds d = [c] ∧
    ((s.heapReadErr d blk off n).heapWrite d blk off' bs).mem = (s.heapWrite d blk off' bs).mem := by
  have hread := kept_heapReadErr s d blk off n
  have hbad := bad_heapReadErr h d blk off n
  refine ⟨((State.PartsKept.refl s heapParts).comp hread.1).comp (partsKept_heapWrite_of_sound hbad ..), ?_, mem_heapWrite_heapReadErr h ..⟩
  rw [cmds_heapWrite_of_sound hbad, cmds_congr (hread.1.1 .drw (by decide)), hcmds]

end

/-! ### Units of running commands, and commands that start and finish -/

section
variable {s t : State} {d : Nat} {c : Cmd}

theorem postRunning_silent (h : c.statusAddr = 0) (s : State) (d : Nat) : s.postRunning d c =
    s.modCmd d c.queue c.seq (fun x => { x with postedAt := s.now, postedCommitted := x.committed }) := by
  rw [State.postRunning, postStatus_of_zero h]

theorem statusDue_silent (h : s.cmds d = [c]) (haddr : c.statusAddr = 0) : s.Kept (s.statusDue d c.queue c.seq) [.drw] [] ∧
    ∃ x n, (s.statusDue d c.queue c.seq).cmds d = [{ c with postedAt := x, postedCommitted := n }] := by
  unfold State.statusDue
  rw [cmd?_only h]
  dsimp only
  split
  · rw [postRunning_silent haddr]
    exact ⟨kept_modCmd .., s.now, c.committed, cmds_modCmd_only h _⟩
  · exact ⟨.refl s _ _, c.postedAt, c.postedCommitted, h⟩

theorem unitDone_silent (h : s.cmds d = [c]) (haddr : c.statusAddr = 0) (upTo off : Nat) :
    s.PartsKept (s.unitDone d c upTo off) [.drw, .jnl, .cores] ∧
    ∃ x n, (s.unitDone d c upTo off).cmds d = [{ c with committed := upTo, postedAt := x, postedCommitted := n }] := by
  have hmod : (s.modCmd d c.queue c.seq (fun c => { c with committed := upTo })).cmds d = [{ c with committed := upTo }] :=
    cmds_modCmd_only h _
  have hj := kept_jnlWrite (s.modCmd d c.queue c.seq (fun c => { c with committed := upTo })) d c.queue c.seq 5 0
    (leBytes 8 upTo ++ leBytes 8 off ++ leBytes 4 c.total)
  obtain ⟨hkept, hcmds⟩ := statusDue_silent (c := { c with committed := upTo })
    ((cmds_congr (hj.1.1 .drw (by decide)) d).trans hmod) haddr
  exact ⟨(((State.PartsKept.refl s _).comp (kept_modCmd ..).1).comp hj.1).comp hkept.1, hcmds⟩

theorem kept_jnlTile (s : State) (d : Nat) (c : Cmd) (n : Nat) : s.Kept (s.jnlTile d c n) [.jnl, .cores] linkFields :=
  (State.Kept.refl s _ _).upd.comp (kept_pmuEvent ..)

theorem tileDone_silent (h : s.cmds d = [c]) (haddr : c.statusAddr = 0) (n g : Nat) :
    s.PartsKept (s.tileDone d c n g) [.drw, .jnl, .cores, .freeCtr] ∧ ∃ x k, (s.tileDone d c n g).cmds d =
      [{ c with committed := c.committed + 1, pass := { c.pass with done := c.pass.done ++ [n] }, postedAt := x, postedCommitted := k }] := by
  unfold State.tileDone
  dsimp only
  have hev := kept_pmuEvent s (8 + g) 2 (Config.freeValue s.freeCtr % 5) 1 (ctxDrawer d) (!(ctxOrigin d).cab)
  generalize hu : State.fresh _ = u
  have hfresh : s.PartsKept u [.drw, .jnl, .cores, .freeCtr] := by
    rw [← hu]
    exact ((State.PartsKept.refl s _).comp hev.1).upd
  have hcmds : u.cmds d = [c] := by
    rw [← hu]
    exact (cmds_congr (hev.1.1 .drw (by decide)) d).trans h
  have hmod := cmds_modCmd_only hcmds (fun c => { c with committed := c.committed + 1, pass := { c.pass with done := c.pass.done ++ [n] } })
  have hj := kept_jnlTile (u.modCmd d c.queue c.seq
    (fun c => { c with committed := c.committed + 1, pass := { c.pass with done := c.pass.done ++ [n] } })) d c n
  obtain ⟨hkept, hfin⟩ := statusDue_silent
    (c := { c with committed := c.committed + 1, pass := { c.pass with done := c.pass.done ++ [n] } })
    ((cmds_congr (hj.1.1 .drw (by decide)) d).trans hmod) haddr
  exact ⟨((hfresh.comp (kept_modCmd ..).1).comp hj.1).comp hkept.1, hfin⟩

/-- What a unit does that may commit. -/
theorem exec_unitCommit {d : CtxId} {q : QueueId} {seq : Nat} (h : s.cmd? d q seq = some c) (hrun : c.stage = .running)
    (hmore : c.committed < c.total) (data : List Byte) (writes : List (Nat × List Byte)) :
    exec (.unitCommit (.command d q seq) data writes) s = .next (
      if c.opcode = 1 || c.opcode = 2 then s.copyUnit d c data
      else if c.opcode = 0x20 then s.composeUnit d c
      else if c.opcode = 0x30 then s.captureUnit d c
      else if s.gpuUnitReady d c (leNat data) then s.gpuUnit d c (leNat data) writes else s) := by
  change Host.Outcome.next (s.unitCommit d q seq data writes) = _
  rw [State.unitCommit, h]
  exact congrArg Host.Outcome.next (if_neg (by simp [hrun, hmore]))

theorem exec_unitCommit_gpu {d : CtxId} {q : QueueId} {seq : Nat} {data : List Byte} (h : s.cmd? d q seq = some c)
    (hrun : c.stage = .running) (hmore : c.committed < c.total) (hop : c.opcode = 0x10 ∨ c.opcode = 0x11)
    (hready : s.gpuUnitReady d c (leNat data) = true) (writes : List (Nat × List Byte)) :
    exec (.unitCommit (.command d q seq) data writes) s = .next (s.gpuUnit d c (leNat data) writes) := by
  refine (exec_unitCommit h hrun hmore data writes).trans (congrArg Host.Outcome.next ?_)
  rcases hop with hop | hop
  · rw [if_neg (by simp [hop]), if_neg (by omega), if_neg (by omega), if_pos hready]
  · rw [if_neg (by simp [hop]), if_neg (by omega), if_neg (by omega), if_pos hready]

theorem exec_dataVisible_running {d : CtxId} {q : QueueId} {seq : Nat} (h : s.cmd? d q seq = some c) (hrun : c.stage = .running)
    (hall : c.committed = c.total) : exec (.dataVisible d q seq) s =
      .next ((if c.opcode = 0x10 then s.passSigEnd d c else s).finishCmd d c (engineBlk c.opcode)) := by
  change execDataVisible d q seq s = _
  rw [execDataVisible, h]
  exact congrArg Host.Outcome.next ((if_pos hrun).trans (if_neg (not_not.mpr hall)))

/-- A copy within the heap, in sound DRAM, writes what it read and counts its unit. -/
theorem copyUnit_heap {src dst n : Nat} (hbody : c.copyBody = (src, dst, n, 1, 1)) (hop : c.opcode = 1) (hreqs : s.cmdReqs d c = [])
    (hbad : s.dmc.bad = []) (data : List Byte) : ∃ upTo inc, s.copyUnit d c data =
      ((((s.heapReadErr d 0xD (src + c.committed * 65536) (min 65536 (n - c.committed * 65536))).heapWrite d 0xD
        (dst + c.committed * 65536) (s.heapRead d (src + c.committed * 65536) (min 65536 (n - c.committed * 65536)))).unitDone d c
        (c.committed + 1) upTo).pmuEvent 0xD 1 (c.source - 4) inc (ctxDrawer d) (!(ctxOrigin d).cab)) := by
  have hbad' := bad_heapReadErr hbad d 0xD (src + c.committed * 65536) (min 65536 (n - c.committed * 65536))
  refine ⟨min n (c.committed * 65536 + 65536), ((s.heapRead d (src + c.committed * 65536) (min 65536 (n - c.committed * 65536))).length
    + 63) / 64, ?_⟩
  rw [State.copyUnit, hbody, hreqs]
  refine (if_neg (by decide)).trans ((if_neg (by decide)).trans ((if_neg (by omega)).trans ((if_neg (by decide)).trans
    ((if_pos rfl).trans ((if_neg (by rw [poisoned_of_sound hbad]; decide)).trans ?_)))))
  rw [eccLines_of_sound hbad, State.copyOut, hbody]
  exact (if_neg (by decide)).trans ((if_pos rfl).trans (if_neg (by simp [State.partPoisoned, hbad'])))

theorem copyUnit_heap_shows {src dst n : Nat} (h : s.cmds d = [c]) (hbody : c.copyBody = (src, dst, n, 1, 1)) (hop : c.opcode = 1)
    (hreqs : s.cmdReqs d c = []) (haddr : c.statusAddr = 0) (hbad : s.dmc.bad = []) (data : List Byte) :
    ((s.copyUnit d c data).cmds d).map (fun y => (y.stage, y.committed, y.total)) = [(c.stage, c.committed + 1, c.total)] ∧
    (s.copyUnit d c data).mem = (s.heapWrite d 0xD (dst + c.committed * 65536)
      (s.heapRead d (src + c.committed * 65536) (min 65536 (n - c.committed * 65536)))).mem ∧
    (s.copyUnit d c data).tls = s.tls ∧ (s.copyUnit d c data).hostOut = s.hostOut := by
  obtain ⟨upTo, inc, hunit⟩ := copyUnit_heap (d := d) hbody hop hreqs hbad data
  obtain ⟨hheap, hcmds, hmem⟩ := heapCopy_shows hbad h 0xD (src + c.committed * 65536) (min 65536 (n - c.committed * 65536))
    (dst + c.committed * 65536) (s.heapRead d (src + c.committed * 65536) (min 65536 (n - c.committed * 65536)))
  rw [hunit, ← hmem]
  generalize State.heapWrite (s.heapReadErr ..) _ _ _ _ = t at hheap hcmds
  obtain ⟨hdone, at_, k, hcount⟩ := unitDone_silent hcmds haddr (c.committed + 1) upTo
  have hev := kept_pmuEvent (t.unitDone d c (c.committed + 1) upTo) 0xD 1 (c.source - 4) inc (ctxDrawer d) (!(ctxOrigin d).cab)
  have hafter := ((State.PartsKept.refl t [.drw, .jnl, .cores]).comp hdone).comp hev.1
  have hall := (State.PartsKept.refl s (.jnl :: heapParts)).comp hheap |>.comp hafter
  refine ⟨?_, hafter.1 .mem (by decide), hall.1 .tls (by decide), hall.1 .hostOut (by decide)⟩
  rw [cmds_congr (hev.1.1 .drw (by decide)) d, hcount]
  rfl

/-! ### Commands that start and finish -/

theorem cmds_modDrw_of_keeps (s : State) (d x : Nat) {g : Drw → Drw} (hg : ∀ w, (g w).cmds = w.cmds := by exact fun _ => rfl) :
    (s.modDrw d g).cmds x = s.cmds x := by
  by_cases hx : x = d
  · rw [hx, State.cmds, drwOf_modDrw]
    exact hg _
  · exact congrArg Drw.cmds (tget_tset_ne _ _ _ hx _)

theorem cmds_hostOutPush (s : State) (p : Nat) (o : HostOut) (x : Nat) : (s.hostOutPush p o).cmds x = s.cmds x := rfl

theorem cmds_stallBit (s : State) (x : Nat) : s.stallBit.cmds x = s.cmds x := rfl

theorem hostLog_shows (s : State) (d page : Nat) : s.Kept (s.hostLog d page) [.drw, .hostOut] [] ∧
    ∀ x, (s.hostLog d page).cmds x = s.cmds x := by
  unfold State.hostLog
  split
  · exact ⟨.refl s _ _, fun _ => rfl⟩
  · split
    · exact ⟨(State.Kept.refl s _ _).upd, fun x => cmds_modDrw_of_keeps s d x⟩
    · exact ⟨(State.Kept.refl s _ _).upd, fun x => (cmds_hostOutPush ..).trans (cmds_modDrw_of_keeps s d x)⟩

theorem hostWrite_shows (hd : d < 64) (s : State) (a : Nat) (bs : List Byte) : s.Kept (s.hostWrite d a bs) [.drw, .hostOut] [] ∧
    ∀ x, (s.hostWrite d a bs).cmds x = s.cmds x := by
  rw [State.hostWrite, if_neg (by omega)]
  split
  · exact ⟨.refl s _ _, fun _ => rfl⟩
  · have hlogged : s.Kept (s.hostLogged d a bs.length) [.drw, .hostOut] [] :=
      (State.Kept.refl s _ _).foldl fun t p ht => ht.trans (hostLog_shows t d p).1
    exact ⟨hlogged.upd, fun x => foldl_keeps (fun u : State => u.cmds x) (fun u p => (hostLog_shows u d p).2 x) _ _⟩

theorem postRunning_shows (hd : d < 64) (h : s.cmds d = [c]) : s.Kept (s.postRunning d c) [.drw, .hostOut] [] ∧
    ∃ x n, (s.postRunning d c).cmds d = [{ c with postedAt := x, postedCommitted := n }] := by
  have hpost : s.Kept (s.postStatus d c) [.drw, .hostOut] [] ∧ ∀ x, (s.postStatus d c).cmds x = s.cmds x := by
    unfold State.postStatus
    split
    · exact hostWrite_shows hd ..
    · exact ⟨.refl s _ _, fun _ => rfl⟩
  exact ⟨hpost.1.comp (kept_modCmd ..), _, _, cmds_modCmd_only ((hpost.2 d).trans h) _⟩

theorem kept_setStall (s : State) (d q : Nat) (k : Option Nat) (v : Bool) : s.Kept (s.setStall d q k v) [.drw] [F.JNL_STATUS_FETCH_STALL] :=
  (State.Kept.refl s _ _).upd.put

theorem cmds_setStall (s : State) (d q : Nat) (k : Option Nat) (v : Bool) (x : Nat) : (s.setStall d q k v).cmds x = s.cmds x :=
  (cmds_stallBit ..).trans (cmds_modDrw_of_keeps s d x)

theorem kept_jnlTake (s : State) (x n : Nat) : s.Kept (s.jnlTake x n) [.jnl] [F.JNL_STATUS_USED, F.JNL_STATUS_USED_HWM] :=
  (State.Kept.refl s _ _).upd.put.put

/-- A command of no GPU engine that starts runs on its engine, and only the Drawer, the Journal and the host's memory show it. -/
theorem startCmd_shows (hd : d < 64) (h : s.cmds d = [c]) (hpass : c.opcode ≠ 0x10) (hcompute : c.opcode ≠ 0x11) (total recs x : Nat) :
    s.PartsKept (s.startCmd d c total recs x) [.drw, .jnl, .hostOut] ∧ ∃ y, (s.startCmd d c total recs x).cmds d = [y] ∧
      (y.stage, y.state, y.total) = (.running, 1, total) ∧ y.source = x := by
  unfold State.startCmd
  dsimp only
  rw [if_neg (by simp [hpass, hcompute])]
  have htake := kept_jnlTake s d (recs + b2n c.signal)
  have hstall : ((s.jnlTake d (recs + b2n c.signal)).setStall d c.queue (some c.seq) false).cmds d = [c] :=
    (cmds_setStall ..).trans ((cmds_congr (htake.1.1 .drw (by decide)) d).trans h)
  obtain ⟨hpost, at_, n, hcmds⟩ := postRunning_shows hd (cmds_modCmd_only hstall (fun _ =>
    { c with stage := .running, state := 1, total := total, started := true, startedAt := s.now,
             rsvCtx := c.rsvCtx + s.jnlFromCtx d (recs + b2n c.signal),
             rsvShared := c.rsvShared + (recs + b2n c.signal - s.jnlFromCtx d (recs + b2n c.signal)), source := x }))
  exact ⟨((((State.PartsKept.refl s _).comp htake.1).comp (kept_setStall ..).1).comp (kept_modCmd ..).1).comp hpost.1, _, hcmds, rfl, rfl⟩

/-- A command whose turn it is, with records free, is dispatched. -/
theorem dispatch_ready {q k op : Nat} {recs : Cmd → Nat} (h : s.cmd? d q k = some c) (hop : c.opcode = op) (hready : s.dispatchable d c = true)
    (hroom : recs c + b2n c.signal ≤ s.jnlFree d) (go : Cmd → State) : s.dispatch d q k op recs go = go c := by
  rw [State.dispatch, h]
  exact (if_neg (by simp [hop, hready])).trans (if_neg (by omega))

theorem copyStart_ready {x op : Nat} (h : s.cmds d = [c]) (hop : c.opcode = op) (hready : s.dispatchable d c = true)
    (hroom : 1 + b2n c.signal ≤ s.jnlFree d) (hsound : s.copyCheck d c (op = 2) = 0) (hfree : s.freeEngine 4 8 = some x) :
    s.copyStart d c.queue c.seq op = s.startCmd d c ((c.body 0x10 8 + 65535) / 65536) 1 x := by
  refine (dispatch_ready (cmd?_only h) hop hready hroom _).trans ?_
  rw [hfree]
  exact if_neg (not_not.mpr hsound)

theorem composeStart_ready {x : Nat} {capture : Bool} (h : s.cmds d = [c]) (hop : c.opcode = 0x20) (hready : s.dispatchable d c = true)
    (hroom : 1 + b2n c.signal ≤ s.jnlFree d) (hkind : (c.body 0 1 = 1) = capture)
    (hsound : (if capture then s.captureCheck d c else s.listCheck d c) = 0) (hfree : s.freeEngine 12 4 = some x) :
    s.composeStart d c.queue c.seq capture = s.startCmd d c ((s.composeRows c + 31) / 32) 1 x := by
  refine (dispatch_ready (cmd?_only h) hop hready hroom _).trans ?_
  rw [hfree]
  exact (if_neg (not_not.mpr hkind)).trans (if_neg (not_not.mpr hsound))

/-- What the statement asks of a command that starts. -/
theorem does_start {i : Instr} {total x : Nat} (hexec : exec i s = .next (s.startCmd d c total 1 x)) (hd : d < 64) (h : s.cmds d = [c])
    (hpass : c.opcode ≠ 0x10) (hcompute : c.opcode ≠ 0x11) : Does i s (fun t =>
      (t.cmds d).map (fun x => (x.stage, x.state, x.total)) = [(.running, 1, total)] ∧ (t.cmds d).map (fun y => y.source) = [x] ∧
      t.mem = s.mem ∧ t.tls = s.tls) := by
  obtain ⟨hparts, y, hcmds, hshown, hsource⟩ := startCmd_shows hd h hpass hcompute total 1 x
  refine ⟨_, hexec, ?_, ?_, hparts.1 .mem (by decide), hparts.1 .tls (by decide)⟩
  · rw [hcmds]
    exact congrArg (fun z => [z]) hshown
  · rw [hcmds]
    exact congrArg (fun z => [z]) hsource

/-- A command that finishes at its first attempt without a late signal. -/
theorem finishCmd_shows (h : s.cmds d = [c]) (hordered : c.unordered = false) (hattempt : c.attempt = 0) (engine : Nat) :
    (s.finishCmd d c engine).tls = s.tls ∧ (s.finishCmd d c engine).hostOut = s.hostOut ∧
    ((s.finishCmd d c engine).cmds d).map (fun y => (y.stage, y.state, y.visible)) = [(.finished, 3, true)] := by
  unfold State.finishCmd
  dsimp only
  rw [if_neg (by omega), if_neg (by simp [hordered])]
  have htray : s.PartsKept (s.trayEnd c) [.mem, .memRest, .freeCtr] := .ite (State.PartsKept.refl s _).upd (.refl s _)
  have hdrop := kept_dropWork (s.trayEnd c) d c.queue c.seq
  obtain ⟨n, hcmds⟩ := cmds_dropWork_only ((cmds_congr (htray.1 .drw (by decide)) d).trans h) d c.queue c.seq
  have hparts : s.PartsKept ((s.trayEnd c).dropWork d c.queue c.seq) [.mem, .memRest, .freeCtr, .gpu, .drw] :=
    ((State.PartsKept.refl s _).comp htray).comp hdrop.1
  refine ⟨hparts.1 .tls (by decide), hparts.1 .hostOut (by decide), ?_⟩
  rw [cmds_modCmd_only (c := { c with runNs := n }) hcmds]
  rfl

end

/-- Settles O19: each start runs its command on the engine found, each unit that may commit does what its opcode says, and a copy within the
heap, a tile written and a command whose units are all committed show what the statement says. -/
theorem copiesAndCompositionsRun : Obligations.CopiesAndCompositionsRun := by
  unfold Obligations.CopiesAndCompositionsRun
  refine ⟨?_, ?_, ?_, ?_, ?_, ?_, ?_, ?_, ?_, ?_, ?_, ?_, ?_, ?_, ?_, ?_⟩
  · intro s d q seq c x h hq hseq hop hready hroom hsound hfree
    subst hseq
    refine does_start (congrArg Host.Outcome.next ?_) d.isLt h (by omega) (by omega)
    exact hq ▸ copyStart_ready h hop hready hroom hsound hfree
  · intro s d q seq c x h hq hseq hop hready hroom hsound hfree
    subst hseq
    refine does_start (congrArg Host.Outcome.next ?_) d.isLt h (by omega) (by omega)
    exact hq ▸ copyStart_ready h hop hready hroom hsound hfree
  · intro s d q seq c x h hq hseq hop hready hroom hkind hsound hfree
    subst hseq
    have hrows : s.composeRows c = c.body 6 2 := if_neg (by omega)
    refine hrows ▸ does_start (congrArg Host.Outcome.next ?_) d.isLt h (by omega) (by omega)
    exact hq ▸ composeStart_ready h hop hready hroom (by simp [hkind]) hsound hfree
  · intro s d q seq c x h hq hseq hop hready hroom hkind hsound hfree
    subst hseq
    have hrows : s.composeRows c = s.get F.HDn_V_VACTIVE (c.body 2 1) := if_pos hkind
    refine hrows ▸ does_start (congrArg Host.Outcome.next ?_) d.isLt h (by omega) (by omega)
    exact hq ▸ composeStart_ready h hop hready hroom (by simp [hkind]) hsound hfree
  · intro s d q seq c h hrun hop hkind hcap htime
    change execCaptureTimeout d q seq s = _
    rw [execCaptureTimeout, h]
    exact congrArg Host.Outcome.next (if_pos (by simp [hrun, hop, hkind, hcap, htime]))
  · intro s d q seq data writes c src dst n h hq hseq hrun hop hmore hbody hreqs haddr hbad
    subst hseq
    have hfind : s.cmd? d q c.seq = some c := hq ▸ cmd?_only h
    obtain ⟨hcount, hmem, htls, hout⟩ := copyUnit_heap_shows h hbody hop hreqs haddr hbad data
    refine ⟨_, (exec_unitCommit hfind hrun hmore data writes).trans (congrArg Host.Outcome.next (if_pos (by simp [hop]))), ?_,
      hmem, htls, hout⟩
    rw [← hrun]
    exact hcount
  · intro s d q seq data writes c h hrun hmore hop
    exact (exec_unitCommit h hrun hmore data writes).trans (congrArg Host.Outcome.next (if_pos (by simpa using hop)))
  · intro s d q seq data writes c h hrun hmore hop
    exact (exec_unitCommit h hrun hmore data writes).trans (congrArg Host.Outcome.next (by rw [hop]; rfl))
  · intro s d q seq data writes c h hrun hmore hop
    exact (exec_unitCommit h hrun hmore data writes).trans (congrArg Host.Outcome.next (by rw [hop]; rfl))
  · intro s d q seq data writes c h hrun hmore hop hready
    exact exec_unitCommit_gpu h hrun hmore hop hready writes
  · intro s d q seq data c h hq hseq hrun hop hmore htiled hwritten haddr
    subst hseq
    have hfind : s.cmd? d q c.seq = some c := hq ▸ cmd?_only h
    have hready : s.gpuUnitReady d c (leNat data) = true := by
      rw [State.gpuUnitReady, if_neg (by omega), if_pos htiled, hwritten]
      rfl
    have hunit : s.gpuUnit d c (leNat data) [] = (s.modCmd d c.queue c.seq (fun c => { c with pass := { c.pass with written := [] } })).tileDone
        d c 3 (tget 0 c.pass.wroteBy 3) := by
      rw [State.gpuUnit, hwritten]
      exact (if_neg Bool.false_ne_true).trans ((if_neg (by omega)).trans (if_neg (by simp [htiled])))
    have hmod := cmds_modCmd_only h (fun c => { c with pass := { c.pass with written := [] } })
    obtain ⟨hdone, at_, k, hcount⟩ := tileDone_silent (c := { c with pass := { c.pass with written := [] } }) hmod haddr 3
      (tget 0 c.pass.wroteBy 3)
    have hall := ((State.PartsKept.refl s [.drw, .jnl, .cores, .freeCtr]).comp (kept_modCmd ..).1).comp hdone
    refine ⟨_, (exec_unitCommit_gpu hfind hrun hmore (.inl hop) hready []).trans (congrArg Host.Outcome.next hunit), ?_,
      hall.1 .mem (by decide), hall.1 .tls (by decide), hall.1 .hostOut (by decide)⟩
    exact congrArg (List.map fun y : Cmd => (y.committed, y.pass.done, y.pass.written)) hcount
  · intro s d q seq data c h hq hseq hrun hop hmore htiled hready
    subst hseq
    have hfind : s.cmd? d q c.seq = some c := hq ▸ cmd?_only h
    refine (exec_unitCommit_gpu hfind hrun hmore (.inl hop) hready []).trans (congrArg Host.Outcome.next ?_)
    rw [State.gpuUnit]
    exact (if_neg Bool.false_ne_true).trans ((if_neg (by omega)).trans (if_pos (by simp [htiled])))
  · exact fun _ _ _ _ _ => rfl
  · intro s d q seq c h hq hseq hd hrun hall hop hordered hattempt
    subst hseq
    obtain ⟨htls, hout, hcmds⟩ := finishCmd_shows h hordered hattempt (engineBlk c.opcode)
    refine ⟨_, (exec_dataVisible_running (hq ▸ cmd?_only h) hrun hall).trans (congrArg Host.Outcome.next ?_), hcmds, htls, hout⟩
    rw [if_neg hop]
  · exact fun s d q seq c h hrun hall => exec_dataVisible_running h hrun hall
  · intro s d q seq c h hstage hvis hacked
    change execDataVisible d q seq s = _
    rw [execDataVisible, h]
    refine congrArg Host.Outcome.next ((if_neg ?_).trans (if_pos ?_))
    · rcases hstage with hs | hs <;> simp [hs]
    · rcases hstage with hs | hs <;> simp [hs, hvis, hacked]

end Sys2Proof.Machine
end
